-- ==== Sys2Proof/Word.lean ====
section
/-! DEFINITION. The word types of the model: bytes, byte strings and the numbers that name units (R54, R64, scope "Names"). -/

namespace Sys2Proof

/-- One octet (R57). -/
abbrev Byte := BitVec 8

/-- An octet string, byte 0 first (R10). -/
abbrev Bytes := List Byte

/-- An FP32 value as its 32 bits (R170). -/
abbrev F32 := BitVec 32

/-- Ring and stream number: ring n serves stream n (R128). -/
abbrev RingId := Fin 32768

/-- Logical brick number, 32 × tile + brick. -/
abbrev BrickId := Fin 3072

/-- Logical tile number, 16 × die + tile. -/
abbrev TileId := Fin 96

/-- A register field of a brick instruction (R328). -/
abbrev Field5 := BitVec 5

/-- A 24-bit modular counter of a ring, held below 2^24. -/
abbrev Count24 := Nat

end Sys2Proof
end

