-- ==== Sys2Proof/Syntax.lean ====
section
/-! DEFINITION. The commands of the block: one constructor of `Instr` per row of spec/opcode_table.json, with the
operands that come from outside the device (what the host, the clock, the board, the partner or the silicon's own
finishing of a piece of work supplies). -/

namespace Sys2Proof

/-- A UDP datagram on the management port's segment (R97, R104): source, destination, whether it is an IPv4 fragment, payload. -/
structure Datagram where
  ip       : BitVec 32
  port     : BitVec 16
  toIp     : BitVec 32
  toPort   : BitVec 16
  fragment : Bool
  body     : Bytes
deriving DecidableEq, Repr

/-- How a dictionary access reaches the device (R64, R84-R92, R104-R108, R478-R479). -/
inductive Path where
  /-- A write of CMD in a BAR0 page, with the value DATA holds; `aligned` is false for any access that is not an
  aligned 64-bit one (R85). -/
  | bar0 (page : Fin 66) (aligned : Bool) (cmd data : BitVec 64)
  /-- One read, or one write of a value, at an offset of BAR0 (R84, R85); `aligned` is false for any access that is not an aligned
  64-bit one. A CMD write that starts a MAILBOX operation comes as `mailbox`. -/
  | register (offset : BitVec 64) (aligned : Bool) (value : Option (BitVec 64))
  /-- A read at an offset of BAR2, the doorbells (R122, R132); `wide` is true for a read of 8 bytes. -/
  | bell (offset : BitVec 18) (wide : Bool)
  /-- A BAR0 MAILBOX operation: the value of MBOX_ADDR, the descriptor read there and the buffer read for a write
  segment; `none` where the translation of the memory failed (R89, R92). -/
  | mailbox (page : Fin 66) (cmd mboxAddr : BitVec 64) (desc buffer : Option Bytes)
  /-- A UDP datagram of the management protocol arrives (R104); `held` says that the device's rate of service leaves it in the
  receive queue for now (R99). -/
  | mgmt (d : Datagram) (held : Bool)
  /-- The device takes the datagram that waits first in the receive queue (R99). -/
  | mgmtNext
  /-- A DICT_REQ of the partner: its TAG and body (R478). -/
  | partner (tag : BitVec 32) (body : Bytes)
deriving DecidableEq, Repr

/-- What one rising edge of HCLK_WORD shows the device (R24, R25, R40, R396). -/
structure Edge where
  /-- Length in picoseconds of the period the edge ends. -/
  periodPs : Nat
  /-- HCLK_BIT edges counted in that period. -/
  bitEdges : Nat
  /-- CMARK_IN as sampled at the edge. -/
  cmark : Bool
  /-- The bits sampled in the bit periods of the frame that ended, per I2S or left-justified input lane. -/
  lanes : List (Fin 64 × List Bool)
deriving DecidableEq, Repr

/-- What the device finds at a course boundary: sensor readings in 0.1 °C (R433, R468), and whether the translation of the status
block failed (R125). -/
structure Sensors where
  tiles : List (TileId × Int)
  dies  : List (Fin 84 × Int)
  noStatus : Bool
deriving DecidableEq, Repr

/-- How the host went away (R119). -/
inductive Detach where
  | linkDown | hotReset | perst | d3hot
deriving DecidableEq, Repr

/-- What a read of host memory by a mover returned (R124, R364, R366): the bytes, with the offset at which it met a
missing translation or poison. -/
structure HostRead where
  bytes : Bytes
  /-- First byte offset whose translation is missing. -/
  missingAt : Option Nat
  /-- First byte offset that returned poison. -/
  poisonAt : Option Nat
deriving DecidableEq, Repr

/-! ### Stage programs (R163-R187, R210-R215, R263-R285, R310-R311). The manual gives no layout of a stage program beyond the
records of R263: a plan slot holds its programs as the steps below (assumption 20). -/

/-- Where a program finds a tensor in storage (R175, R194): space 1 is the plan's area of a tile's plane, from its base on; 2 GDDR7 and 3
CXL memory, at device addresses; 4 a tile's buffer. `elems` is the place of the elements, `scales` that of the block scales. -/
structure Place where
  space  : Fin 5
  tile   : Fin 96
  elems  : Nat
  scales : Nat
deriving DecidableEq, Repr

/-- The second operand of an element-wise step within a fused stack (R280): a row of constants, or the row of the stack's input with the
same index. -/
inductive EpiArg where
  | row (values : List F32)
  | skip
deriving DecidableEq, Repr

/-- An element-wise epilogue operation (R180): as `map2`, `fma` with x × a + b, as `map1`, a curve. -/
inductive Epi where
  | map2 (op : Fin 8) (a : EpiArg)
  | fma (a b : EpiArg)
  | map1 (op : Fin 3)
  | curve (tile : Fin 96) (slot : Fin 16)
deriving DecidableEq, Repr

/-- A layer of a stack: the number of its record among the plan's layers, its weight tensor, its epilogue. -/
structure StackLayer where
  layer    : Nat
  weights  : Nat
  epilogue : List Epi
deriving DecidableEq, Repr

/-- What a stage does with the joints it reads beside stepping on (R372). -/
inductive JointAct where
  | discard | mark | rewind | release
deriving DecidableEq, Repr

/-- A step of a stage's program. It works on numbered buffers of rows of FP32 values, the vector unit's, and numbered stored tensors in
the formats of R168. -/
inductive TileOp where
  /-- Buffer `dst` takes one row of the plan's own constants. -/
  | const (dst : Nat) (values : List F32)
  /-- Buffer `dst` takes the feature rows of the chunk, or the row of the token (R218): `count` elements of an unscaled format from a byte
  offset of each. -/
  | features (dst : Nat) (format : BitVec 8) (offset count : Nat)
  /-- Buffer `dst` takes the stream's voice row (R257). -/
  | voice (dst : Nat)
  /-- Buffer `dst` takes the oldest packets of the chunk in the joint of a link, one row each, as elements of a format (R369, R381):
  `perRow` for each feature row, or with 0 those up to CHUNK_LAST. The stage waits until they are there. -/
  | link (dst link : Nat) (format : BitVec 8) (perRow : Nat)
  /-- The rows of a stored tensor go into the joints of a link, one packet each; the stage waits for room (R324, R325, R381). -/
  | send (src link : Nat)
  /-- DISCARD, MARK, REWIND or RELEASE on the joints of a link (R372). -/
  | joint (act : JointAct) (link : Nat)
  /-- Buffer `dst` takes what the last token fed back, as elements of a format (R217). -/
  | fedBack (dst : Nat) (format : BitVec 8)
  /-- Element-wise operation (R180, R184): 0 add, 1 subtract, 2 multiply, 3 divide, 4 minimum, 5 maximum, 6 compare below, 7 compare
  equal. A second operand of one row serves every row, and a row of one value every lane. -/
  | map2 (op : Fin 8) (dst a b : Nat)
  /-- Fused multiply-add a × b + c (R180). -/
  | fma (dst a b c : Nat)
  /-- Select (R184): b where a is not zero, else c. -/
  | select (dst a b c : Nat)
  /-- Reciprocal, square root, reciprocal square root (R184). -/
  | map1 (op : Fin 3) (dst a : Nat)
  /-- Curve of a tile's curve slot on every element (R213, R215). -/
  | curve (tile : Fin 96) (slot : Fin 16) (dst a : Nat)
  /-- Sum of each row (R185); its maximum or its minimum (R184). -/
  | sum (dst a : Nat)
  | max (dst a : Nat)
  | min (dst a : Nat)
  /-- Dropout of R210 with the plan's P8 and factor, under a random sequence. -/
  | dropout (dst a sequence : Nat) (p8 : BitVec 8) (factor : F32)
  /-- Uniform initialisation of R211: one row of `n` elements with bound `a`. -/
  | uniform (dst n sequence : Nat) (a : F32)
  /-- Narrow a buffer into stored tensor `dst` as a tensor of the plan (R181-R183, R196, R197); `flat` for one without a time axis (R208). -/
  | narrow (dst src tensor : Nat) (flat : Bool)
  /-- Widen a stored tensor into a buffer (R175, R195). -/
  | widen (dst src : Nat)
  /-- Take a tensor of the plan from storage, `rows` rows of `width` elements; put one there (R175, R194). -/
  | fetch (dst tensor rows width : Nat) (place : Place)
  | store (src : Nat) (place : Place)
  /-- Write a feature map to GDDR7 under OUT_PACK of a layer of the plan; read one under its IN_PACK (R283-R285). -/
  | writeMap (src layer addr : Nat)
  | readMap (dst layer addr rows : Nat)
  /-- Rows of `x` against the rows of weight tensor `w` in square mode, either operand transposed (R161, R178-R180, R186). -/
  | square (dst x w : Nat) (xT wT : Bool)
  /-- Rows of `x` against `n` columns of a weight tensor in shallow layout in the plan's area of a tile's plane, from `offset` on; block
  scales lie in the tile's scale store from `scales` on (R163, R166). -/
  | shallow (dst x tensor n : Nat) (tile : Fin 96) (offset scales : Nat)
  /-- Convolution and pooling layers, one or a fused stack, from stored tensor `src` to stored tensor `dst`; `hop` is the frames an input
  row covers (R263-R282). -/
  | stack (dst src : Nat) (layers : List StackLayer) (hop : Nat)
  /-- Scalar scan of R310, channel by channel: coefficients a_t and inputs b_t, carried as section `sect`. -/
  | scan (dst a b sect : Nat) (init : List F32)
  /-- Biquad scan of R311 with its five coefficients, channel by channel. -/
  | biquad (dst x sect : Nat) (b0 b1 b2 a1 a2 : F32)
  /-- Weight gradient Xᵀ × dY, reduced on over the rows of two stored tensors in the stream's open reduction `id`; its end (R187). -/
  | grad (id x dy : Nat)
  | gradEnd (dst id x dy : Nat)
  /-- A hod chain over tiles in order: 512-byte words from a source, each with the range of positions that take it, into the tiles'
  buffers from `base` on (R241). -/
  | hod (tiles : List (Fin 96)) (source : Place) (base : Nat) (words : List (Nat × Nat))
  /-- The elements of a stored tensor of 32-bit elements are the chunk's samples, frame by frame. -/
  | out (src : Nat)
deriving DecidableEq, Repr

/-- A step of the program of one token (R217-R239). -/
inductive TokenOp where
  | tile (op : TileOp)
  /-- Write a position's key and value of a layer and key/value head from buffers, as tensors of the plan (R226, R227). -/
  | kv (layer head keyTensor valueTensor key value : Nat)
  /-- Attention of the queries in a buffer over a layer's head: tensors of the query and the weights, the score scale, the exponential's
  curve slot (R234). -/
  | attend (dst layer head keyTensor valueTensor queryTensor weightTensor q : Nat) (scoreScale : F32) (tile : Fin 96) (slot : Fin 16)
  /-- Sample the token of the logits in a buffer (R212, R238). -/
  | sample (k : Nat) (invTemp topP : F32) (tile : Fin 96) (slot : Fin 16) (sequence logits : Nat)
  /-- The output head's frame, narrowed as a tensor of the plan (R217). -/
  | frame (src tensor : Nat)
deriving DecidableEq, Repr

/-- A run of a transfer descriptor of the plan by a stage (R353, R359): its number in the plan's DESCRIPTORS section, and
what the reads of host memory found. -/
structure PlanMove where
  index : Nat
  data  : HostRead
deriving DecidableEq, Repr

/-- What the work of a chunk meets outside the arithmetic of its program (R146). -/
structure ChunkWork where
  /-- Transfers the stages ran, in order, and re-arms of them that were ignored (R368). -/
  moves : List PlanMove
  ignores : Nat
  /-- Sample writes to the host stopped at this byte offset for want of a translation. -/
  missingAt : Option Nat
deriving DecidableEq, Repr

/-- One lookup of a batch (R250). -/
structure Lookup where
  slot : Fin 64
  pairs : List (Nat × F32)
  outFormat : BitVec 8
  tensor : Nat
deriving DecidableEq, Repr

/-- A received AES3 subframe (R404, R405): preamble 0 X, 1 Y, 2 Z; slots 4 to 31; a biphase violation; the start of
subframe 1 within the house frame in 1/65,536 frame. -/
structure Subframe where
  preamble  : Fin 3
  slots     : BitVec 28
  violation : Bool
  phase     : Nat
deriving DecidableEq, Repr

/-- Straps sampled at the release of RESET_N (R562) and VIO_AUD as measured (R556). -/
structure Straps where
  leafSel : Bool
  nodeId  : BitVec 5
  cxlw    : BitVec 2
  cxle    : BitVec 2
  vioAudMv : Nat
deriving DecidableEq, Repr

/-- Per-step coefficients of the device (R432): mV, the four F32 energies, static W. -/
structure PowerStep where
  vddMv : Nat
  eArray : F32
  eFeed : F32
  eGddr7 : F32
  eBrick : F32
  staticW : Nat
deriving DecidableEq, Repr

/-- A physical unit named by the codes of the curing table: KIND, STACK, INDEX (R538, R544). -/
structure Unit' where
  kind  : Nat
  stack : Nat
  index : Nat
deriving DecidableEq, Repr

/-- The fuses as phase 0 reads them (R2, R520, R521, R523, R525, R538, R531). -/
structure Fuses where
  variant : Nat
  siliconRev : Nat
  svn : Nat
  vendorKeyHash : Nat
  customerHash : Option Nat
  topLeavesUsed : Nat
  serial : Nat
  bad : List Unit'
  power : List PowerStep
deriving DecidableEq, Repr

/-- What the root of trust finds in one firmware slot: the first 4,096 bytes, the SHA-256 of its body, and whether
the slot is empty (R519, R520). -/
structure SlotImage where
  head : Bytes
  bodyDigest : Nat
  empty : Bool
deriving DecidableEq, Repr

/-- What training found (R536, R464, R465). -/
structure TrainResult where
  /-- Die-to-die links that failed, by the numbers of R14's adjacency table. -/
  mortarDown : List (Fin 56)
  badDies : List (Fin 84)
  /-- Expander number, width and capacity of each expander whose link trained. -/
  expanders : List (Fin 8 × Nat × Nat)
  /-- Expanders whose link failed after enumeration. -/
  expandersDown : List (Fin 8)
  tieWidth : Nat
  pcieRate : Nat
  pcieWidth : Nat
deriving DecidableEq, Repr

/-- What the start-up test found (R538-R543): failing units with their TEST_CODE, units of the fuse map or log that
passed, and failures of the north and south dies. -/
structure CureResult where
  failed : List (Unit' × Nat)
  north  : Bool
  south  : Bool
  logWriteOk : Bool
deriving DecidableEq, Repr

/-- Memory tiers of R460. -/
inductive MemTier where
  | tileBuffer | plane | gddr7 | cxl | brickLocal
deriving DecidableEq, Repr

/-- Why a die became due (R456). -/
inductive DueReason where
  | interval | temperature | crcRetries
deriving DecidableEq, Repr

/-- The instructions of the TAP (R568). -/
inductive TapInstr where
  | bypass | idcode | samplePreload | extest | extestPulse | extestTrain | clamp | highz
deriving DecidableEq, Repr

/-- A 12-bit current sample and the measured millivolts of its rail (R559). -/
structure RailSample where
  code : BitVec 12
  mv   : Nat
deriving DecidableEq, Repr

/-- What the lanes do around a clock loss (R48, R51): what the input lanes showed in the frame that the last edge began, and the HCLK_BIT
edges of the frame that begins. -/
structure LostFrame where
  bitEdges : Nat := 0
  lanes    : List (Fin 64 × List Bool) := []
deriving DecidableEq, Repr

/-- A die-to-die link that retrains (R549), and whether it succeeds. -/
structure LinkRetrain where
  link : Fin 56
  ok   : Bool
deriving DecidableEq, Repr

/-- The commands of the block, one for each row of the table of operations and events (file 95, opcode_table.json).
Each is whole and indivisible. -/
inductive Instr where
  /-- FRAME (R27). -/
  | frame (e : Edge)
  /-- TICK_BOUNDARY (R28). -/
  | tickBoundary
  /-- COURSE_BOUNDARY (R45). -/
  | courseBoundary (sensors : Sensors)
  /-- LOCK_ACQUIRED (R24). -/
  | lockAcquired
  /-- BIT_CLOCK_FAULT (R25). -/
  | bitClockFault
  /-- LANE_RESUME (R397). -/
  | laneResume
  /-- PERIOD_FAULT_LOSS (R572). -/
  | periodFaultLoss
  /-- CLOCK_LOSS (R47). -/
  | clockLoss (lost : LostFrame := {})
  /-- COAST_EXPIRED (R52). -/
  | coastExpired
  /-- RELOCK (R53). -/
  | relock
  /-- LTC_FRAME (R36). -/
  | ltcFrame (label : BitVec 32) (syncIntact contiguous : Bool) (startAgo : Nat)
  /-- LTC_VALID_LAPSE (R36). -/
  | ltcValidLapse
  /-- ANCHOR_FAILED (R39). -/
  | anchorFailed
  /-- REANCHOR (R39). -/
  | reanchor (p : Path)
  /-- CMARK_PULSE (R40). -/
  | cmarkPulse
  /-- COURSE_SYNC (R31). -/
  | courseSync (body : Bytes)
  /-- READ (R60). -/
  | read (p : Path)
  /-- WRITE (R60). -/
  | write (p : Path)
  /-- READ_STAGED (R60). -/
  | readStaged (p : Path)
  /-- DESCRIBE (R88). -/
  | describe (p : Path)
  /-- READ_DEFAULT (R88). -/
  | readDefault (p : Path)
  /-- SEG_READ (R90). -/
  | segRead (p : Path)
  /-- SEG_WRITE (R91). -/
  | segWrite (p : Path)
  /-- DICT_RESP (R87). -/
  | dictResp (tag : BitVec 32) (body : Bytes)
  /-- PARTNER_TIMEOUT (R87). -/
  | partnerTimeout (session : Fin 66) (refUs : Nat)
  /-- COMMIT_AT (R70). -/
  | commitAt (p : Path)
  /-- DISCARD (R80). -/
  | discard (p : Path)
  /-- CANCEL_PENDING (R78). -/
  | cancelPending (p : Path)
  /-- STORE (R68). -/
  | store (p : Path)
  /-- STORE_DONE (R68). -/
  | storeDone (ok : Bool)
  /-- STAGE (R107). -/
  | stage (p : Path)
  /-- OPEN (R109). -/
  | mgmtOpen (p : Path)
  /-- AUTH (R113). -/
  | auth (p : Path)
  /-- CLOSE (R112). -/
  | close (p : Path)
  /-- ARP_REQUEST (R97). -/
  | arpRequest (senderMac : BitVec 48) (senderIp targetIp : BitVec 32)
  /-- ECHO_REQUEST (R97). -/
  | echoRequest (sourceIp targetIp : BitVec 32) (fragment : Bool) (payload : Bytes)
  /-- PLCA_BEACON (R95). -/
  | plcaBeacon
  /-- IDLE_TIMEOUT (R103). -/
  | idleTimeout (session : Fin 8) (refNs : Nat)
  /-- FORCE_CLOSE (R100). -/
  | forceClose (p : Path)
  /-- KEY_L0 (R102). -/
  | keyL0 (p : Path)
  /-- KEY_L1 (R102). -/
  | keyL1 (p : Path)
  /-- HOST_DETACH (R119). -/
  | hostDetach (how : Detach)
  /-- HOST_LINK_UP (R117). -/
  | hostLinkUp (rate width : Nat)
  /-- CMD_TAIL (R133). -/
  | cmdTail (offset : BitVec 18) (wide : Bool) (value : BitVec 64)
  /-- CPL_HEAD (R133). -/
  | cplHead (offset : BitVec 18) (wide : Bool) (value : BitVec 64)
  /-- RESUME (R134). -/
  | resume (offset : BitVec 18) (wide : Bool) (value : BitVec 64)
  /-- ABANDON (R134). -/
  | abandon (offset : BitVec 18) (wide : Bool) (value : BitVec 64)
  /-- COMMAND_FETCH (R136). -/
  | commandFetch (ring : RingId) (descriptor : Option Bytes)
  /-- RING_DRAINED (R130). -/
  | ringDrained (ring : RingId)
  /-- BIND (R140). -/
  | bind (ring : RingId)
  /-- ADMISSION_TIMEOUT (R443). -/
  | admissionTimeout (ring : RingId)
  /-- FEED (R141). -/
  | feed (ring : RingId)
  /-- RENDER (R142). -/
  | render (ring : RingId)
  /-- FLUSH (R574). -/
  | flush (ring : RingId)
  /-- FLUSH_DONE (R574). -/
  | flushDone (ring : RingId)
  /-- CANCEL (R157). -/
  | cancel (ring : RingId)
  /-- PARK (R295). -/
  | park (ring : RingId)
  /-- WAKE (R295). -/
  | wake (ring : RingId)
  /-- WAKE_SLOT_TAKEN (R296). -/
  | wakeSlotTaken (ring : RingId)
  /-- MOVE_OUT_DONE (R295). -/
  | moveOutDone (ring : RingId)
  /-- MOVE_IN_DONE (R295). -/
  | moveInDone (ring : RingId)
  /-- CHECKPOINT (R496). -/
  | checkpoint (ring : RingId)
  /-- MOVE (R353). -/
  | move (ring : RingId) (descriptor : HostRead)
  /-- MOVER_START (R359). -/
  | moverStart (ring : RingId) (descriptor : HostRead)
  /-- REARM_RUN (R368). -/
  | rearmRun (ring : RingId) (descriptor : HostRead)
  /-- TRANSFER_DONE (R361). -/
  | transferDone (ring : RingId) (data : HostRead)
  /-- LOAD_PLAN (R389). -/
  | loadPlan (ring : RingId) (image : HostRead)
  /-- LOAD_TABLE (R247). -/
  | loadTable (ring : RingId) (image : HostRead)
  /-- LOAD_CURVE (R214). -/
  | loadCurve (ring : RingId) (image : HostRead)
  /-- LOAD_BRICK_CODE (R348). -/
  | loadBrickCode (ring : RingId) (image : HostRead)
  /-- LOAD_DONE (R389). -/
  | loadDone (ring : RingId) (rounds resent : Nat) (failed : List BrickId)
  /-- FENCE (R153). -/
  | fence (ring : RingId)
  /-- NOTE (R139). -/
  | note (ring : RingId)
  /-- PRI_RESPONSE (R126). -/
  | priResponse (request : Nat) (code : BitVec 4)
  /-- PRI_TIMEOUT (R126). -/
  | priTimeout (request : Nat)
  /-- CHUNK_DONE (R146). -/
  | chunkDone (ring : RingId) (features : HostRead) (work : ChunkWork)
  /-- UNBIND (R293). -/
  | unbind (p : Path)
  /-- CLEAR (R201). -/
  | clear (p : Path)
  /-- TOKEN_START (R219). -/
  | tokenStart (ring : RingId) (features : HostRead)
  /-- GATHER_LOOKUP (R250). -/
  | gatherLookup (ring : RingId) (stage : Fin 8) (lookups : List Lookup)
  /-- ROW_FETCH_DONE (R254). -/
  | rowFetchDone (batch : Nat)
  /-- UNLOAD (R248). -/
  | unload (p : Path)
  /-- PLAN_UNLOAD (R393). -/
  | planUnload (p : Path)
  /-- PACKET_START (R370). -/
  | packetStart (tile : TileId) (joint : Fin 64)
  /-- JOINT_IDLE_TIMEOUT (R371). -/
  | jointIdleTimeout (tile : TileId) (joint : Fin 64)
  /-- JOINT_ECC_ERROR (R374). -/
  | jointEccError (tile : TileId) (joint : Fin 64) (correctable : Bool)
  /-- SPILL (R377). -/
  | spill (cycle : List (TileId × Fin 64))
  /-- ADD (R331). -/
  | add (k : BrickId) (d a b c : Field5)
  /-- SUB (R331). -/
  | sub (k : BrickId) (d a b c : Field5)
  /-- AND (R331). -/
  | and (k : BrickId) (d a b c : Field5)
  /-- OR (R331). -/
  | or (k : BrickId) (d a b c : Field5)
  /-- XOR (R331). -/
  | xor (k : BrickId) (d a b c : Field5)
  /-- SHL (R331). -/
  | shl (k : BrickId) (d a b c : Field5)
  /-- SHR (R331). -/
  | shr (k : BrickId) (d a b c : Field5)
  /-- SRA (R331). -/
  | sra (k : BrickId) (d a b c : Field5)
  /-- MUL (R331). -/
  | mul (k : BrickId) (d a b c : Field5)
  /-- MULH (R331). -/
  | mulh (k : BrickId) (d a b c : Field5)
  /-- MULHU (R331). -/
  | mulhu (k : BrickId) (d a b c : Field5)
  /-- MIN (R331). -/
  | min (k : BrickId) (d a b c : Field5)
  /-- MAX (R331). -/
  | max (k : BrickId) (d a b c : Field5)
  /-- MINU (R331). -/
  | minu (k : BrickId) (d a b c : Field5)
  /-- MAXU (R331). -/
  | maxu (k : BrickId) (d a b c : Field5)
  /-- SLT (R331). -/
  | slt (k : BrickId) (d a b c : Field5)
  /-- SLTU (R331). -/
  | sltu (k : BrickId) (d a b c : Field5)
  /-- ROTL (R331). -/
  | rotl (k : BrickId) (d a b c : Field5)
  /-- FADD (R331). -/
  | fadd (k : BrickId) (d a b c : Field5)
  /-- FSUB (R331). -/
  | fsub (k : BrickId) (d a b c : Field5)
  /-- FMUL (R331). -/
  | fmul (k : BrickId) (d a b c : Field5)
  /-- FMA (R331). -/
  | fma (k : BrickId) (d a b c : Field5)
  /-- FMIN (R331). -/
  | fmin (k : BrickId) (d a b c : Field5)
  /-- FMAX (R331). -/
  | fmax (k : BrickId) (d a b c : Field5)
  /-- FLT (R331). -/
  | flt (k : BrickId) (d a b c : Field5)
  /-- FEQ (R331). -/
  | feq (k : BrickId) (d a b c : Field5)
  /-- FDIV (R331). -/
  | fdiv (k : BrickId) (d a b c : Field5)
  /-- FSQRT (R331). -/
  | fsqrt (k : BrickId) (d a b c : Field5)
  /-- FCVTSI (R331). -/
  | fcvtsi (k : BrickId) (d a b c : Field5)
  /-- FCVTIS (R331). -/
  | fcvtis (k : BrickId) (d a b c : Field5)
  /-- FFLOOR (R331). -/
  | ffloor (k : BrickId) (d a b c : Field5)
  /-- FCURVE (R333). -/
  | fcurve (k : BrickId) (d a b c : Field5)
  /-- ADDI (R331). -/
  | addi (k : BrickId) (d a : Field5) (imm : BitVec 16)
  /-- ANDI (R331). -/
  | andi (k : BrickId) (d a : Field5) (imm : BitVec 16)
  /-- ORI (R331). -/
  | ori (k : BrickId) (d a : Field5) (imm : BitVec 16)
  /-- XORI (R331). -/
  | xori (k : BrickId) (d a : Field5) (imm : BitVec 16)
  /-- SLTI (R331). -/
  | slti (k : BrickId) (d a : Field5) (imm : BitVec 16)
  /-- LUI (R331). -/
  | lui (k : BrickId) (d a : Field5) (imm : BitVec 16)
  /-- SHLI (R331). -/
  | shli (k : BrickId) (d a : Field5) (imm : BitVec 16)
  /-- SHRI (R331). -/
  | shri (k : BrickId) (d a : Field5) (imm : BitVec 16)
  /-- SRAI (R331). -/
  | srai (k : BrickId) (d a : Field5) (imm : BitVec 16)
  /-- BEQ (R331). -/
  | beq (k : BrickId) (a b : Field5) (off : BitVec 16)
  /-- BNE (R331). -/
  | bne (k : BrickId) (a b : Field5) (off : BitVec 16)
  /-- BLT (R331). -/
  | blt (k : BrickId) (a b : Field5) (off : BitVec 16)
  /-- BGE (R331). -/
  | bge (k : BrickId) (a b : Field5) (off : BitVec 16)
  /-- BLTU (R331). -/
  | bltu (k : BrickId) (a b : Field5) (off : BitVec 16)
  /-- BGEU (R331). -/
  | bgeu (k : BrickId) (a b : Field5) (off : BitVec 16)
  /-- JMP (R331). -/
  | jmp (k : BrickId) (target : BitVec 26)
  /-- CALL (R331). -/
  | call (k : BrickId) (target : BitVec 26)
  /-- JR (R331). -/
  | jr (k : BrickId) (d a b c : Field5)
  /-- LOOP (R332). -/
  | loop (k : BrickId) (d a : Field5) (imm : BitVec 16)
  /-- HALT (R346). -/
  | halt (k : BrickId) (target : BitVec 26)
  /-- CSRR (R344). -/
  | csrr (k : BrickId) (d a : Field5) (imm : BitVec 16)
  /-- CSRW (R344). -/
  | csrw (k : BrickId) (d a : Field5) (imm : BitVec 16)
  /-- LW (R334). -/
  | lw (k : BrickId) (d a : Field5) (imm : BitVec 16)
  /-- SW (R334). -/
  | sw (k : BrickId) (d a : Field5) (imm : BitVec 16)
  /-- VLD (R334). -/
  | vld (k : BrickId) (d a : Field5) (imm : BitVec 16)
  /-- VST (R334). -/
  | vst (k : BrickId) (d a : Field5) (imm : BitVec 16)
  /-- VFADD (R335). -/
  | vfadd (k : BrickId) (d a b c : Field5)
  /-- VFSUB (R335). -/
  | vfsub (k : BrickId) (d a b c : Field5)
  /-- VFMUL (R335). -/
  | vfmul (k : BrickId) (d a b c : Field5)
  /-- VFMA (R335). -/
  | vfma (k : BrickId) (d a b c : Field5)
  /-- VFMAS (R335). -/
  | vfmas (k : BrickId) (d a b c : Field5)
  /-- VFMULS (R335). -/
  | vfmuls (k : BrickId) (d a b c : Field5)
  /-- VFMIN (R335). -/
  | vfmin (k : BrickId) (d a b c : Field5)
  /-- VFMAX (R335). -/
  | vfmax (k : BrickId) (d a b c : Field5)
  /-- VFDIV (R335). -/
  | vfdiv (k : BrickId) (d a b c : Field5)
  /-- VFSQRT (R335). -/
  | vfsqrt (k : BrickId) (d a b c : Field5)
  /-- VCURVE (R333). -/
  | vcurve (k : BrickId) (d a b c : Field5)
  /-- VFFLOOR (R335). -/
  | vffloor (k : BrickId) (d a b c : Field5)
  /-- VFLT (R335). -/
  | vflt (k : BrickId) (d a b c : Field5)
  /-- VFEQ (R335). -/
  | vfeq (k : BrickId) (d a b c : Field5)
  /-- VSEL (R335). -/
  | vsel (k : BrickId) (d a b c : Field5)
  /-- VADD (R335). -/
  | vadd (k : BrickId) (d a b c : Field5)
  /-- VSUB (R335). -/
  | vsub (k : BrickId) (d a b c : Field5)
  /-- VAND (R335). -/
  | vand (k : BrickId) (d a b c : Field5)
  /-- VOR (R335). -/
  | vor (k : BrickId) (d a b c : Field5)
  /-- VXOR (R335). -/
  | vxor (k : BrickId) (d a b c : Field5)
  /-- VSHL (R335). -/
  | vshl (k : BrickId) (d a b c : Field5)
  /-- VSHR (R335). -/
  | vshr (k : BrickId) (d a b c : Field5)
  /-- VSRA (R335). -/
  | vsra (k : BrickId) (d a b c : Field5)
  /-- VMUL (R335). -/
  | vmul (k : BrickId) (d a b c : Field5)
  /-- VBC (R335). -/
  | vbc (k : BrickId) (d a b c : Field5)
  /-- VGET (R335). -/
  | vget (k : BrickId) (d a b c : Field5)
  /-- VPUT (R335). -/
  | vput (k : BrickId) (d a b c : Field5)
  /-- VPERM (R335). -/
  | vperm (k : BrickId) (d a b c : Field5)
  /-- VSUM (R335). -/
  | vsum (k : BrickId) (d a b c : Field5)
  /-- VHMAX (R335). -/
  | vhmax (k : BrickId) (d a b c : Field5)
  /-- VMOV (R335). -/
  | vmov (k : BrickId) (d a b c : Field5)
  /-- VCVTW (R336). -/
  | vcvtw (k : BrickId) (d a b c : Field5) (fn : BitVec 6)
  /-- VCVTN (R336). -/
  | vcvtn (k : BrickId) (d a b c : Field5) (fn : BitVec 6)
  /-- VCVTNS (R336). -/
  | vcvtns (k : BrickId) (d a b c : Field5) (fn : BitVec 6)
  /-- MV (R340). -/
  | mv (k : BrickId) (d a b c : Field5) (fn : BitVec 6)
  /-- AZERO (R341). -/
  | azero (k : BrickId) (d a b c : Field5)
  /-- AFIN (R338). -/
  | afin (k : BrickId) (d a b c : Field5)
  /-- AADD (R341). -/
  | aadd (k : BrickId) (d a b c : Field5)
  /-- ASUMV (R341). -/
  | asumv (k : BrickId) (d a b c : Field5)
  /-- ACMP (R341). -/
  | acmp (k : BrickId) (d a b c : Field5)
  /-- AZEROI (R341). -/
  | azeroi (k : BrickId) (d a b c : Field5)
  /-- JRDV (R327). -/
  | jrdv (k : BrickId) (d a b c : Field5)
  /-- JRDS (R327). -/
  | jrds (k : BrickId) (d a b c : Field5)
  /-- JWRV (R342). -/
  | jwrv (k : BrickId) (d a b c : Field5)
  /-- JWRS (R342). -/
  | jwrs (k : BrickId) (d a b c : Field5)
  /-- JEND (R342). -/
  | jend (k : BrickId) (d a b c : Field5)
  /-- JTAG (R342). -/
  | jtag (k : BrickId) (d a b c : Field5)
  /-- JNEXT (R342). -/
  | jnext (k : BrickId) (d a b c : Field5)
  /-- JDISC (R372). -/
  | jdisc (k : BrickId) (d a b c : Field5)
  /-- JMARK (R372). -/
  | jmark (k : BrickId) (d a b c : Field5)
  /-- JREW (R372). -/
  | jrew (k : BrickId) (d a b c : Field5)
  /-- JREL (R372). -/
  | jrel (k : BrickId) (d a b c : Field5)
  /-- DRAW (R343). -/
  | draw (k : BrickId) (d a b c : Field5)
  /-- COLLECTOR_EMIT (R379). -/
  | collectorEmit (group : Nat)
  /-- SLIP_REANCHOR (R419). -/
  | slipReanchor (p : Path)
  /-- AES3_SUBFRAME (R405). -/
  | aes3Subframe (lane : Fin 64) (sub : Subframe)
  /-- AES3_LOCK (R404). -/
  | aes3Lock (lane : Fin 64)
  /-- FOREIGN_RELOCK (R404). -/
  | foreignRelock (lane : Fin 64)
  /-- CAPTURE_WRITE (R423). -/
  | captureWrite (group : Fin 64) (translated : Bool)
  /-- COURSE_GOVERNED (R435). -/
  | courseGoverned
  /-- GROUT_AGED (R429). -/
  | groutAged (ring : RingId)
  /-- ISNS_SAMPLE (R559). -/
  | isnsSample (rails : List RailSample)
  /-- RETRAIN_NOW (R456). -/
  | retrainNow (p : Path)
  /-- RETRAIN_DUE (R456). -/
  | retrainDue (die : Fin 84) (why : DueReason)
  /-- RETRAIN_WINDOW_END (R459). -/
  | retrainWindowEnd (die : Fin 84) (ok : Bool)
  /-- MEMORY_ERROR (R460). -/
  | memoryError (tier : MemTier) (addr : Nat) (retries : Nat) (correctable : Bool)
  /-- PATROL_SCRUB (R463). -/
  | patrolScrub (tier : MemTier) (addr : Nat) (corrected : Bool)
  /-- CXL_LINK_DOWN (R466). -/
  | cxlLinkDown (expander : Fin 8)
  /-- CXL_LINK_UP (R466). -/
  | cxlLinkUp (expander : Fin 8)
  /-- TIE_FLIT (R476). -/
  | tieFlit (flit : Bytes) (fecCorrected : Bool)
  /-- TIE_REPLAY_TIMEOUT (R476). -/
  | tieReplayTimeout
  /-- TIE_TRAINING (R474). -/
  | tieTraining (width : Nat)
  /-- TIE_RETRAIN (R477). -/
  | tieRetrain (ok : Bool)
  /-- HEARTBEAT (R484). -/
  | heartbeat (body : Bytes)
  /-- PAIR_HB_EDGE (R484). -/
  | pairHbEdge
  /-- WATCHDOG_FAIL (R485). -/
  | watchdogFail
  /-- TAKEOVER (R486). -/
  | takeover
  /-- PARTNER_LOSS (R488). -/
  | partnerLoss
  /-- HANDOVER (R489). -/
  | handover (p : Path)
  /-- DIGEST (R492). -/
  | digest (body : Bytes)
  /-- RESYNC_STATE_TAKE (R493). -/
  | resyncStateTake (ring : RingId)
  /-- STATE_PUSH (R493). -/
  | statePush (body : Bytes)
  /-- CHECKPOINT_MESSAGE (R498). -/
  | checkpointMessage (body : Bytes)
  /-- LEAVE (R500). -/
  | leave (p : Path)
  /-- LEAVE_MESSAGE (R478). -/
  | leaveMessage (body : Bytes)
  /-- LEAVE_PUSH (R500). -/
  | leavePush (ring : RingId)
  /-- LEFT (R500). -/
  | left
  /-- ELECTRICAL_IDLE (R501). -/
  | electricalIdle
  /-- JOIN (R502). -/
  | join (tag : BitVec 32) (body : Bytes)
  /-- PAIRING_TIMEOUT (R482). -/
  | pairingTimeout (refMs : Nat)
  /-- SYNC_START (R503). -/
  | syncStart (p : Path)
  /-- FW_WRITE (R522). -/
  | fwWrite (p : Path)
  /-- FW_UPDATE_DONE (R522). -/
  | fwUpdateDone (flashOk : Bool)
  /-- BOOT_SLOT (R524). -/
  | bootSlot (p : Path)
  /-- SVN_ADVANCE (R521). -/
  | svnAdvance (p : Path)
  /-- CUSTOMER_KEY_FUSE (R523). -/
  | customerKeyFuse (p : Path)
  /-- ATTEST_NONCE (R527). -/
  | attestNonce (p : Path)
  /-- BOTTOM_TREE_READY (R526). -/
  | bottomTreeReady
  /-- LOG_CLEAR (R545). -/
  | logClear (p : Path) (flashOk : Bool)
  /-- RESET (R535). -/
  | reset (straps : Straps) (released pwrOk vioLost : Bool)
  /-- FUSE_READ (R532). -/
  | fuseRead (fuses : Fuses) (suppliesOk : Bool) (refUs : Nat)
  /-- FIRMWARE_VERIFICATION (R520). -/
  | firmwareVerification (slotA slotB : SlotImage) (refUs : Nat)
  /-- TRAINING (R536). -/
  | training (r : TrainResult) (refUs : Nat)
  /-- CURING (R540). -/
  | curing (r : CureResult) (refUs : Nat)
  /-- BRICK_CODE_BROADCAST (R546). -/
  | brickCodeBroadcast (rounds resent : Nat) (failed : List BrickId) (refUs : Nat)
  /-- READY (R532). -/
  | ready (refUs : Nat)
  /-- PHASE_LIMIT (R532). -/
  | phaseLimit (r : CureResult) (slotA slotB : SlotImage) (t : TrainResult)
  /-- MORTAR_RETRAIN (R549). -/
  | mortarRetrain (r : LinkRetrain)
  /-- SUPPLY_FAULT (R560). -/
  | supplyFault
  /-- THERMAL_TRIP (R570). -/
  | thermalTrip (decidegrees : Int)
  /-- COASTED_FRAME (R51). -/
  | coastedFrame (bitEdges : Nat) (lanes : List (Fin 64 × List Bool))
  /-- APERTURE_ACCESS (R123). -/
  | apertureAccess (offset : Nat) (width : Nat) (write : Option Nat)
  /-- PRI_ENABLE (R126). -/
  | priEnable
  /-- BOOT_SRC (R563). -/
  | bootSrc (high : Bool) (slotA slotB : SlotImage)
  /-- BOUNDARY_SCAN (R568). -/
  | boundaryScan (i : TapInstr) (resetLow : Bool)
deriving DecidableEq, Repr

end Sys2Proof
end

