-- ==== Sys2Proof/Decode.lean ====
section
/-! DEFINITION. The command a word of the table spells: no row of the table has bits, so no word spells one. -/

namespace Sys2Proof

/-- The command a word spells by the table's bits (assumption 3): the table of operations and events gives bits to none
of its rows; the bytes that carry a command (R84, R105, R138, R328) are its operands, taken apart by its meaning. -/
def decodeTableWord (_nbits _w : Nat) : Option Instr := none

end Sys2Proof
end

