-- ==== Sys2Proof/Machine/BrickCode.lean ====
section
/-! DEFINITION. The words of brick instructions: encoder and decoder of the layouts of R328 with the operation and function
codes of R331, R334-R336, R340-R343 and R346. -/

namespace Sys2Proof.Machine

/-- REG layout (R328). -/
def regWord (op : BitVec 6) (d a b c : Field5) (fn : BitVec 6) : BitVec 32 := op ++ d ++ a ++ b ++ c ++ fn
/-- IMM layout (R328). -/
def immWord (op : BitVec 6) (d a : Field5) (imm : BitVec 16) : BitVec 32 := op ++ d ++ a ++ imm
/-- JUMP layout (R328). -/
def jumpWord (op : BitVec 6) (target : BitVec 26) : BitVec 32 := op ++ target

/-- The word of a brick instruction; none for a command that is no brick instruction. -/
def brickEncode : Instr → Option (BitVec 32)
  | .add _ d a b c => some (regWord 0x00#6 d a b c 0x00#6)
  | .sub _ d a b c => some (regWord 0x00#6 d a b c 0x01#6)
  | .and _ d a b c => some (regWord 0x00#6 d a b c 0x02#6)
  | .or _ d a b c => some (regWord 0x00#6 d a b c 0x03#6)
  | .xor _ d a b c => some (regWord 0x00#6 d a b c 0x04#6)
  | .shl _ d a b c => some (regWord 0x00#6 d a b c 0x05#6)
  | .shr _ d a b c => some (regWord 0x00#6 d a b c 0x06#6)
  | .sra _ d a b c => some (regWord 0x00#6 d a b c 0x07#6)
  | .mul _ d a b c => some (regWord 0x00#6 d a b c 0x08#6)
  | .mulh _ d a b c => some (regWord 0x00#6 d a b c 0x09#6)
  | .mulhu _ d a b c => some (regWord 0x00#6 d a b c 0x0A#6)
  | .min _ d a b c => some (regWord 0x00#6 d a b c 0x0B#6)
  | .max _ d a b c => some (regWord 0x00#6 d a b c 0x0C#6)
  | .minu _ d a b c => some (regWord 0x00#6 d a b c 0x0D#6)
  | .maxu _ d a b c => some (regWord 0x00#6 d a b c 0x0E#6)
  | .slt _ d a b c => some (regWord 0x00#6 d a b c 0x0F#6)
  | .sltu _ d a b c => some (regWord 0x00#6 d a b c 0x10#6)
  | .rotl _ d a b c => some (regWord 0x00#6 d a b c 0x11#6)
  | .fadd _ d a b c => some (regWord 0x00#6 d a b c 0x20#6)
  | .fsub _ d a b c => some (regWord 0x00#6 d a b c 0x21#6)
  | .fmul _ d a b c => some (regWord 0x00#6 d a b c 0x22#6)
  | .fma _ d a b c => some (regWord 0x00#6 d a b c 0x23#6)
  | .fmin _ d a b c => some (regWord 0x00#6 d a b c 0x24#6)
  | .fmax _ d a b c => some (regWord 0x00#6 d a b c 0x25#6)
  | .flt _ d a b c => some (regWord 0x00#6 d a b c 0x26#6)
  | .feq _ d a b c => some (regWord 0x00#6 d a b c 0x27#6)
  | .fdiv _ d a b c => some (regWord 0x00#6 d a b c 0x28#6)
  | .fsqrt _ d a b c => some (regWord 0x00#6 d a b c 0x29#6)
  | .fcvtsi _ d a b c => some (regWord 0x00#6 d a b c 0x2A#6)
  | .fcvtis _ d a b c => some (regWord 0x00#6 d a b c 0x2B#6)
  | .ffloor _ d a b c => some (regWord 0x00#6 d a b c 0x2C#6)
  | .fcurve _ d a b c => some (regWord 0x00#6 d a b c 0x2D#6)
  | .jr _ d a b c => some (regWord 0x18#6 d a b c 0x00#6)
  | .vfadd _ d a b c => some (regWord 0x20#6 d a b c 0x00#6)
  | .vfsub _ d a b c => some (regWord 0x20#6 d a b c 0x01#6)
  | .vfmul _ d a b c => some (regWord 0x20#6 d a b c 0x02#6)
  | .vfma _ d a b c => some (regWord 0x20#6 d a b c 0x03#6)
  | .vfmas _ d a b c => some (regWord 0x20#6 d a b c 0x04#6)
  | .vfmuls _ d a b c => some (regWord 0x20#6 d a b c 0x05#6)
  | .vfmin _ d a b c => some (regWord 0x20#6 d a b c 0x06#6)
  | .vfmax _ d a b c => some (regWord 0x20#6 d a b c 0x07#6)
  | .vfdiv _ d a b c => some (regWord 0x20#6 d a b c 0x08#6)
  | .vfsqrt _ d a b c => some (regWord 0x20#6 d a b c 0x09#6)
  | .vcurve _ d a b c => some (regWord 0x20#6 d a b c 0x0A#6)
  | .vffloor _ d a b c => some (regWord 0x20#6 d a b c 0x0B#6)
  | .vflt _ d a b c => some (regWord 0x20#6 d a b c 0x0C#6)
  | .vfeq _ d a b c => some (regWord 0x20#6 d a b c 0x0D#6)
  | .vsel _ d a b c => some (regWord 0x20#6 d a b c 0x0E#6)
  | .vadd _ d a b c => some (regWord 0x20#6 d a b c 0x10#6)
  | .vsub _ d a b c => some (regWord 0x20#6 d a b c 0x11#6)
  | .vand _ d a b c => some (regWord 0x20#6 d a b c 0x12#6)
  | .vor _ d a b c => some (regWord 0x20#6 d a b c 0x13#6)
  | .vxor _ d a b c => some (regWord 0x20#6 d a b c 0x14#6)
  | .vshl _ d a b c => some (regWord 0x20#6 d a b c 0x15#6)
  | .vshr _ d a b c => some (regWord 0x20#6 d a b c 0x16#6)
  | .vsra _ d a b c => some (regWord 0x20#6 d a b c 0x17#6)
  | .vmul _ d a b c => some (regWord 0x20#6 d a b c 0x18#6)
  | .vbc _ d a b c => some (regWord 0x20#6 d a b c 0x20#6)
  | .vget _ d a b c => some (regWord 0x20#6 d a b c 0x21#6)
  | .vput _ d a b c => some (regWord 0x20#6 d a b c 0x22#6)
  | .vperm _ d a b c => some (regWord 0x20#6 d a b c 0x23#6)
  | .vsum _ d a b c => some (regWord 0x20#6 d a b c 0x24#6)
  | .vhmax _ d a b c => some (regWord 0x20#6 d a b c 0x25#6)
  | .vmov _ d a b c => some (regWord 0x20#6 d a b c 0x26#6)
  | .azero _ d a b c => some (regWord 0x25#6 d a b c 0x00#6)
  | .afin _ d a b c => some (regWord 0x25#6 d a b c 0x01#6)
  | .aadd _ d a b c => some (regWord 0x25#6 d a b c 0x02#6)
  | .asumv _ d a b c => some (regWord 0x25#6 d a b c 0x03#6)
  | .acmp _ d a b c => some (regWord 0x25#6 d a b c 0x04#6)
  | .azeroi _ d a b c => some (regWord 0x25#6 d a b c 0x05#6)
  | .jrdv _ d a b c => some (regWord 0x28#6 d a b c 0x00#6)
  | .jrds _ d a b c => some (regWord 0x28#6 d a b c 0x01#6)
  | .jwrv _ d a b c => some (regWord 0x28#6 d a b c 0x02#6)
  | .jwrs _ d a b c => some (regWord 0x28#6 d a b c 0x03#6)
  | .jend _ d a b c => some (regWord 0x28#6 d a b c 0x04#6)
  | .jtag _ d a b c => some (regWord 0x28#6 d a b c 0x05#6)
  | .jnext _ d a b c => some (regWord 0x28#6 d a b c 0x06#6)
  | .jdisc _ d a b c => some (regWord 0x28#6 d a b c 0x07#6)
  | .jmark _ d a b c => some (regWord 0x28#6 d a b c 0x08#6)
  | .jrew _ d a b c => some (regWord 0x28#6 d a b c 0x09#6)
  | .jrel _ d a b c => some (regWord 0x28#6 d a b c 0x0A#6)
  | .draw _ d a b c => some (regWord 0x2A#6 d a b c 0x00#6)
  | .vcvtw _ d a b c fn => some (regWord 0x21#6 d a b c fn)
  | .vcvtn _ d a b c fn => some (regWord 0x22#6 d a b c fn)
  | .vcvtns _ d a b c fn => some (regWord 0x23#6 d a b c fn)
  | .mv _ d a b c fn => some (regWord 0x24#6 d a b c fn)
  | .addi _ d a imm => some (immWord 0x01#6 d a imm)
  | .andi _ d a imm => some (immWord 0x02#6 d a imm)
  | .ori _ d a imm => some (immWord 0x03#6 d a imm)
  | .xori _ d a imm => some (immWord 0x04#6 d a imm)
  | .slti _ d a imm => some (immWord 0x05#6 d a imm)
  | .lui _ d a imm => some (immWord 0x06#6 d a imm)
  | .shli _ d a imm => some (immWord 0x07#6 d a imm)
  | .shri _ d a imm => some (immWord 0x08#6 d a imm)
  | .srai _ d a imm => some (immWord 0x09#6 d a imm)
  | .lw _ d a imm => some (immWord 0x0A#6 d a imm)
  | .sw _ d a imm => some (immWord 0x0B#6 d a imm)
  | .vld _ d a imm => some (immWord 0x0C#6 d a imm)
  | .vst _ d a imm => some (immWord 0x0D#6 d a imm)
  | .loop _ d a imm => some (immWord 0x19#6 d a imm)
  | .csrr _ d a imm => some (immWord 0x30#6 d a imm)
  | .csrw _ d a imm => some (immWord 0x31#6 d a imm)
  | .beq _ a b off => some (immWord 0x10#6 a b off)
  | .bne _ a b off => some (immWord 0x11#6 a b off)
  | .blt _ a b off => some (immWord 0x12#6 a b off)
  | .bge _ a b off => some (immWord 0x13#6 a b off)
  | .bltu _ a b off => some (immWord 0x14#6 a b off)
  | .bgeu _ a b off => some (immWord 0x15#6 a b off)
  | .jmp _ target => some (jumpWord 0x16#6 target)
  | .call _ target => some (jumpWord 0x17#6 target)
  | .halt _ target => some (jumpWord 0x1A#6 target)
  | _ => none

/-- The brick a brick instruction runs on. -/
def brickOf : Instr → Option BrickId
  | .add k _ _ _ _ => some k
  | .sub k _ _ _ _ => some k
  | .and k _ _ _ _ => some k
  | .or k _ _ _ _ => some k
  | .xor k _ _ _ _ => some k
  | .shl k _ _ _ _ => some k
  | .shr k _ _ _ _ => some k
  | .sra k _ _ _ _ => some k
  | .mul k _ _ _ _ => some k
  | .mulh k _ _ _ _ => some k
  | .mulhu k _ _ _ _ => some k
  | .min k _ _ _ _ => some k
  | .max k _ _ _ _ => some k
  | .minu k _ _ _ _ => some k
  | .maxu k _ _ _ _ => some k
  | .slt k _ _ _ _ => some k
  | .sltu k _ _ _ _ => some k
  | .rotl k _ _ _ _ => some k
  | .fadd k _ _ _ _ => some k
  | .fsub k _ _ _ _ => some k
  | .fmul k _ _ _ _ => some k
  | .fma k _ _ _ _ => some k
  | .fmin k _ _ _ _ => some k
  | .fmax k _ _ _ _ => some k
  | .flt k _ _ _ _ => some k
  | .feq k _ _ _ _ => some k
  | .fdiv k _ _ _ _ => some k
  | .fsqrt k _ _ _ _ => some k
  | .fcvtsi k _ _ _ _ => some k
  | .fcvtis k _ _ _ _ => some k
  | .ffloor k _ _ _ _ => some k
  | .fcurve k _ _ _ _ => some k
  | .jr k _ _ _ _ => some k
  | .vfadd k _ _ _ _ => some k
  | .vfsub k _ _ _ _ => some k
  | .vfmul k _ _ _ _ => some k
  | .vfma k _ _ _ _ => some k
  | .vfmas k _ _ _ _ => some k
  | .vfmuls k _ _ _ _ => some k
  | .vfmin k _ _ _ _ => some k
  | .vfmax k _ _ _ _ => some k
  | .vfdiv k _ _ _ _ => some k
  | .vfsqrt k _ _ _ _ => some k
  | .vcurve k _ _ _ _ => some k
  | .vffloor k _ _ _ _ => some k
  | .vflt k _ _ _ _ => some k
  | .vfeq k _ _ _ _ => some k
  | .vsel k _ _ _ _ => some k
  | .vadd k _ _ _ _ => some k
  | .vsub k _ _ _ _ => some k
  | .vand k _ _ _ _ => some k
  | .vor k _ _ _ _ => some k
  | .vxor k _ _ _ _ => some k
  | .vshl k _ _ _ _ => some k
  | .vshr k _ _ _ _ => some k
  | .vsra k _ _ _ _ => some k
  | .vmul k _ _ _ _ => some k
  | .vbc k _ _ _ _ => some k
  | .vget k _ _ _ _ => some k
  | .vput k _ _ _ _ => some k
  | .vperm k _ _ _ _ => some k
  | .vsum k _ _ _ _ => some k
  | .vhmax k _ _ _ _ => some k
  | .vmov k _ _ _ _ => some k
  | .azero k _ _ _ _ => some k
  | .afin k _ _ _ _ => some k
  | .aadd k _ _ _ _ => some k
  | .asumv k _ _ _ _ => some k
  | .acmp k _ _ _ _ => some k
  | .azeroi k _ _ _ _ => some k
  | .jrdv k _ _ _ _ => some k
  | .jrds k _ _ _ _ => some k
  | .jwrv k _ _ _ _ => some k
  | .jwrs k _ _ _ _ => some k
  | .jend k _ _ _ _ => some k
  | .jtag k _ _ _ _ => some k
  | .jnext k _ _ _ _ => some k
  | .jdisc k _ _ _ _ => some k
  | .jmark k _ _ _ _ => some k
  | .jrew k _ _ _ _ => some k
  | .jrel k _ _ _ _ => some k
  | .draw k _ _ _ _ => some k
  | .vcvtw k _ _ _ _ _ => some k
  | .vcvtn k _ _ _ _ _ => some k
  | .vcvtns k _ _ _ _ _ => some k
  | .mv k _ _ _ _ _ => some k
  | .addi k _ _ _ => some k
  | .andi k _ _ _ => some k
  | .ori k _ _ _ => some k
  | .xori k _ _ _ => some k
  | .slti k _ _ _ => some k
  | .lui k _ _ _ => some k
  | .shli k _ _ _ => some k
  | .shri k _ _ _ => some k
  | .srai k _ _ _ => some k
  | .lw k _ _ _ => some k
  | .sw k _ _ _ => some k
  | .vld k _ _ _ => some k
  | .vst k _ _ _ => some k
  | .loop k _ _ _ => some k
  | .csrr k _ _ _ => some k
  | .csrw k _ _ _ => some k
  | .beq k _ _ _ => some k
  | .bne k _ _ _ => some k
  | .blt k _ _ _ => some k
  | .bge k _ _ _ => some k
  | .bltu k _ _ _ => some k
  | .bgeu k _ _ _ => some k
  | .jmp k _ => some k
  | .call k _ => some k
  | .halt k _ => some k
  | _ => none

/-- OP 0x00 (R331). -/
def decodeScalar (k : BrickId) (d a b c : Field5) (fn : Nat) : Option Instr :=
  match fn with
  | 0x00 => some (.add k d a b c)
  | 0x01 => some (.sub k d a b c)
  | 0x02 => some (.and k d a b c)
  | 0x03 => some (.or k d a b c)
  | 0x04 => some (.xor k d a b c)
  | 0x05 => some (.shl k d a b c)
  | 0x06 => some (.shr k d a b c)
  | 0x07 => some (.sra k d a b c)
  | 0x08 => some (.mul k d a b c)
  | 0x09 => some (.mulh k d a b c)
  | 0x0A => some (.mulhu k d a b c)
  | 0x0B => some (.min k d a b c)
  | 0x0C => some (.max k d a b c)
  | 0x0D => some (.minu k d a b c)
  | 0x0E => some (.maxu k d a b c)
  | 0x0F => some (.slt k d a b c)
  | 0x10 => some (.sltu k d a b c)
  | 0x11 => some (.rotl k d a b c)
  | 0x20 => some (.fadd k d a b c)
  | 0x21 => some (.fsub k d a b c)
  | 0x22 => some (.fmul k d a b c)
  | 0x23 => some (.fma k d a b c)
  | 0x24 => some (.fmin k d a b c)
  | 0x25 => some (.fmax k d a b c)
  | 0x26 => some (.flt k d a b c)
  | 0x27 => some (.feq k d a b c)
  | 0x28 => some (.fdiv k d a b c)
  | 0x29 => some (.fsqrt k d a b c)
  | 0x2A => some (.fcvtsi k d a b c)
  | 0x2B => some (.fcvtis k d a b c)
  | 0x2C => some (.ffloor k d a b c)
  | 0x2D => some (.fcurve k d a b c)
  | _ => none

/-- OP 0x20 (R335). -/
def decodeVector (k : BrickId) (d a b c : Field5) (fn : Nat) : Option Instr :=
  match fn with
  | 0x00 => some (.vfadd k d a b c)
  | 0x01 => some (.vfsub k d a b c)
  | 0x02 => some (.vfmul k d a b c)
  | 0x03 => some (.vfma k d a b c)
  | 0x04 => some (.vfmas k d a b c)
  | 0x05 => some (.vfmuls k d a b c)
  | 0x06 => some (.vfmin k d a b c)
  | 0x07 => some (.vfmax k d a b c)
  | 0x08 => some (.vfdiv k d a b c)
  | 0x09 => some (.vfsqrt k d a b c)
  | 0x0A => some (.vcurve k d a b c)
  | 0x0B => some (.vffloor k d a b c)
  | 0x0C => some (.vflt k d a b c)
  | 0x0D => some (.vfeq k d a b c)
  | 0x0E => some (.vsel k d a b c)
  | 0x10 => some (.vadd k d a b c)
  | 0x11 => some (.vsub k d a b c)
  | 0x12 => some (.vand k d a b c)
  | 0x13 => some (.vor k d a b c)
  | 0x14 => some (.vxor k d a b c)
  | 0x15 => some (.vshl k d a b c)
  | 0x16 => some (.vshr k d a b c)
  | 0x17 => some (.vsra k d a b c)
  | 0x18 => some (.vmul k d a b c)
  | 0x20 => some (.vbc k d a b c)
  | 0x21 => some (.vget k d a b c)
  | 0x22 => some (.vput k d a b c)
  | 0x23 => some (.vperm k d a b c)
  | 0x24 => some (.vsum k d a b c)
  | 0x25 => some (.vhmax k d a b c)
  | 0x26 => some (.vmov k d a b c)
  | _ => none

/-- OP 0x25 (R341). -/
def decodeAcc (k : BrickId) (d a b c : Field5) (fn : Nat) : Option Instr :=
  match fn with
  | 0x00 => some (.azero k d a b c)
  | 0x01 => some (.afin k d a b c)
  | 0x02 => some (.aadd k d a b c)
  | 0x03 => some (.asumv k d a b c)
  | 0x04 => some (.acmp k d a b c)
  | 0x05 => some (.azeroi k d a b c)
  | _ => none

/-- OP 0x28 (R342). -/
def decodeJoint (k : BrickId) (d a b c : Field5) (fn : Nat) : Option Instr :=
  match fn with
  | 0x00 => some (.jrdv k d a b c)
  | 0x01 => some (.jrds k d a b c)
  | 0x02 => some (.jwrv k d a b c)
  | 0x03 => some (.jwrs k d a b c)
  | 0x04 => some (.jend k d a b c)
  | 0x05 => some (.jtag k d a b c)
  | 0x06 => some (.jnext k d a b c)
  | 0x07 => some (.jdisc k d a b c)
  | 0x08 => some (.jmark k d a b c)
  | 0x09 => some (.jrew k d a b c)
  | 0x0A => some (.jrel k d a b c)
  | _ => none

/-- The instruction a word spells for a brick; none for an unassigned OP or FN (R329). -/
def brickDecode (k : BrickId) (w : BitVec 32) : Option Instr :=
  let d : Field5 := w.extractLsb' 21 5
  let a : Field5 := w.extractLsb' 16 5
  let b : Field5 := w.extractLsb' 11 5
  let c : Field5 := w.extractLsb' 6 5
  let fn : BitVec 6 := w.extractLsb' 0 6
  let imm : BitVec 16 := w.extractLsb' 0 16
  let target : BitVec 26 := w.extractLsb' 0 26
  match (w.extractLsb' 26 6).toNat with
  | 0x00 => decodeScalar k d a b c fn.toNat
  | 0x18 => if fn = 0x00#6 then some (.jr k d a b c) else none
  | 0x20 => decodeVector k d a b c fn.toNat
  | 0x25 => decodeAcc k d a b c fn.toNat
  | 0x28 => decodeJoint k d a b c fn.toNat
  | 0x2A => if fn = 0x00#6 then some (.draw k d a b c) else none
  | 0x21 => some (.vcvtw k d a b c fn)
  | 0x22 => some (.vcvtn k d a b c fn)
  | 0x23 => some (.vcvtns k d a b c fn)
  | 0x24 => some (.mv k d a b c fn)
  | 0x01 => some (.addi k d a imm)
  | 0x02 => some (.andi k d a imm)
  | 0x03 => some (.ori k d a imm)
  | 0x04 => some (.xori k d a imm)
  | 0x05 => some (.slti k d a imm)
  | 0x06 => some (.lui k d a imm)
  | 0x07 => some (.shli k d a imm)
  | 0x08 => some (.shri k d a imm)
  | 0x09 => some (.srai k d a imm)
  | 0x0A => some (.lw k d a imm)
  | 0x0B => some (.sw k d a imm)
  | 0x0C => some (.vld k d a imm)
  | 0x0D => some (.vst k d a imm)
  | 0x19 => some (.loop k d a imm)
  | 0x30 => some (.csrr k d a imm)
  | 0x31 => some (.csrw k d a imm)
  | 0x10 => some (.beq k d a imm)
  | 0x11 => some (.bne k d a imm)
  | 0x12 => some (.blt k d a imm)
  | 0x13 => some (.bge k d a imm)
  | 0x14 => some (.bltu k d a imm)
  | 0x15 => some (.bgeu k d a imm)
  | 0x16 => some (.jmp k target)
  | 0x17 => some (.call k target)
  | 0x1A => some (.halt k target)
  | _ => none

end Sys2Proof.Machine
end

