-- ==== Sys2Proof/Config.lean ====
section
/-! DEFINITION. What an implementation fixes and what the manual leaves open: opaque constants, of which nothing in Lean
can prove a value. Each one is named in the assumption log. -/

namespace Sys2Proof.Config

/-- The n-th 16 bytes drawn from the entropy source of the root of trust (R109, R526, R527): free. -/
opaque entropy : Nat → BitVec 128

/-- Addresses the device chooses itself (R289, R453, R498): free, one per draw. -/
opaque chosenAddress : Nat → BitVec 60

/-- A value the manual leaves open, one per draw: free. -/
opaque freeWord : Nat → BitVec 64

/-- ACMP where the sum or the value compared is a NaN (R341): free, a function of the value alone (R13). -/
opaque acmpNan : (value : BitVec 32) → BitVec 32

/-- Whether a signature verifies under a public key hash: LMS/HSS of R520, R526, R530 (RFC 8554), whose algorithm is
outside the manual. -/
opaque verifies : (keyHash : Nat) → (message signature : List (BitVec 8)) → Bool

/-- The signature the root of trust makes with a leaf of its tree (R526, R529). -/
opaque sign : (leaf : Nat) → (message : List (BitVec 8)) → List (BitVec 8)

/-- The identity certificate that manufacture placed in the boot flash (R530). -/
opaque certificate : Nat → List (BitVec 8)

/-- The Device Serial Number derived from the device-unique identity (R117): the manual gives no derivation. -/
opaque pcieSerial : Nat → BitVec 64

/-- The 800-byte image of a built-in curve (R216): the manual gives the functions and not the images of all of them. -/
opaque builtinCurve : (slot : Nat) → List (BitVec 8)

/-- The initial state of a plan (R291, R308), section by section: stage, tensor, class, format, elements. The manual names
it and gives no place for it in the image. -/
opaque planState : (image : List (BitVec 8)) → List (Nat × Nat × Nat × Nat × List Nat)

/-- The cost figures C_STEP_FRAMES to C_BATCH the device derives from a plan image (R430): the manual gives no
derivation. -/
opaque planCost : (image : List (BitVec 8)) → (field : Nat) → Nat

/-- The library slot of the curve a plan places in a tile's curve slot (R213, R333); none where it places none. -/
opaque tileCurve : (image : List (BitVec 8)) → (tile slot : Nat) → Option Nat

/-- Whether the bricks of a stage feed a collector gather group (R323, R350). -/
opaque gathers : (image : List (BitVec 8)) → (stage : Nat) → Bool

/-- The program of a chunk, and of one token, that the stages of a plan image spell: the manual gives no layout of a stage program beyond
the records of R263. -/
opaque chunkProgram : (image : List (BitVec 8)) → List TileOp
opaque tokenProgram : (image : List (BitVec 8)) → List TokenOp

/-- How the bond map divides one weight matrix, or one other reduction, among units (R179, R221): the layer, its tiles, the chunks of the
reduction, the output columns each tile holds (column split), the chunks each unit holds (K split). -/
structure Split where
  layer   : Nat
  tiles   : List Nat
  chunks  : Nat
  columns : List (Nat × Nat)
  ranges  : List (Nat × Nat)
deriving DecidableEq, Repr

/-- The divisions a plan image makes: the bond-map layout of R388 has no field for them. -/
opaque planSplits : (image : List (BitVec 8)) → List Split

/-- The uses a stage makes of a region of a tile's buffer, as a mask: 1 operands, 2 expanded convolution buffer, 4 accumulators, 8 scale
store (R160); the bond-map layout of R388 has no field for them. -/
opaque regionUse : (image : List (BitVec 8)) → (stage tile region : Nat) → Nat

/-- Whether a stage in shallow mode places block scales of its weights outside the scale store (R166). -/
opaque scalesElsewhere : (image : List (BitVec 8)) → (stage : Nat) → Bool

/-- What a plan declares and the manual gives no place for in the image. -/
inductive PlanField where
  /-- 1 for an attention plan, 0 for any other (R217). -/
  | attention
  /-- The greatest window in positions (R228). -/
  | windowMax
  /-- Plane bytes set aside for key/value pages (R229). -/
  | kvPlaneBytes
  /-- 1 when SPREAD serves blocks outside planes (R232). -/
  | spread
  /-- 1 + the slot of the voice table, 0 for none (R256), the format of the voice row and its tensor (R252, R257). -/
  | voiceTable
  | voiceFormat
  | voiceTensor
  /-- 0 no feedback, 1 TOKEN, 2 FRAME (R217); 1 + the slot of the codebook table (R239). -/
  | feedbackMode
  | codebook
  /-- Format of the codebook row a lookup delivers (R239, R250) and its tensor; the offset of a forced frame in its row (R218). -/
  | codebookFormat
  | codebookTensor
  | frameOffset
  /-- Bytes of a feature row (R218). -/
  | rowBytes
  /-- Channels of the samples of the last stage. -/
  | channels
  /-- Plan steps whose output is an utterance's tail (R414). -/
  | tailFrames
deriving DecidableEq, Repr

/-- The value of a field a plan declares. -/
opaque planAttr : (image : List (BitVec 8)) → PlanField → Nat

/-- Pairs of an ATTENTION layer and a key/value head of a plan, in order: the pages of a block (R225). -/
opaque planKvPairs : (image : List (BitVec 8)) → List (Nat × Nat)

/-- The tile that holds a layer and a key/value head (R221, R232). -/
opaque kvTile : (image : List (BitVec 8)) → (layer head : Nat) → Nat

/-- The gather tables a plan names (R245). -/
opaque planTables : (image : List (BitVec 8)) → List Nat

end Sys2Proof.Config
end

