-- ==== Sys2Proof/Machine/Bits.lean ====
section
/-! DEFINITION. Fields of little-endian structures (R9, R10), two's complement (R57), saturating counters (R61) and CRCs. -/

namespace Sys2Proof.Machine

/-- The `n` low bytes of a value, byte 0 first (R10). -/
def leBytes : Nat → Nat → Bytes
  | 0, _ => []
  | n + 1, v => BitVec.ofNat 8 v :: leBytes n (v / 256)

/-- The value of a little-endian octet string (R10). -/
def ofLE : Bytes → Nat
  | [] => 0
  | b :: bs => b.toNat + 256 * ofLE bs

/-- The value of a big-endian octet string (the digests of SHA-256 as numbers). -/
def ofBE (bs : Bytes) : Nat := bs.foldl (fun a b => a * 256 + b.toNat) 0

/-- The `n` low bytes of a value, most significant first. -/
def beBytes (n v : Nat) : Bytes := (leBytes n v).reverse

/-- The bytes at an offset of a structure. -/
def slice (bs : Bytes) (off n : Nat) : Bytes := (bs.drop off).take n

/-- The little-endian field of `n` bytes at an offset; bytes beyond the end read as zero. -/
def field (bs : Bytes) (off n : Nat) : Nat := ofLE (slice bs off n)

/-- Bits [hi:lo] of a value (R9). -/
def bits (v hi lo : Nat) : Nat := v / 2 ^ lo % 2 ^ (hi + 1 - lo)

/-- Bit k of a value (R9). -/
def bit (v k : Nat) : Bool := v / 2 ^ k % 2 == 1

/-- The value with bit k made `b`. -/
def setBit (v k : Nat) (b : Bool) : Nat :=
  v - v / 2 ^ k % 2 * 2 ^ k + (if b then 2 ^ k else 0)

/-- The value with bits [hi:lo] made `x`. -/
def setBits (v hi lo x : Nat) : Nat :=
  v - bits v hi lo * 2 ^ lo + x % 2 ^ (hi + 1 - lo) * 2 ^ lo

/-- A Bool as a BOOL8 (R57). -/
def b2n (b : Bool) : Nat := if b then 1 else 0

/-- Two's complement reading of the `n` low bits (R57). -/
def toSigned (n v : Nat) : Int :=
  if v % 2 ^ n < 2 ^ (n - 1) then (v % 2 ^ n : Nat) else (v % 2 ^ n : Nat) - (2 ^ n : Nat)

/-- Two's complement encoding in `n` bits (R57). -/
def ofSigned (n : Nat) (i : Int) : Nat := (i % (2 ^ n : Nat)).toNat

/-- An integer clamped into the signed range of `n` bits. -/
def clampSigned (n : Nat) (i : Int) : Int :=
  if i < -(2 ^ (n - 1) : Nat) then -(2 ^ (n - 1) : Nat)
  else if i > (2 ^ (n - 1) : Nat) - 1 then (2 ^ (n - 1) : Nat) - 1 else i

/-- Smallest multiple count: ⌈a ÷ b⌉ (0 when b is 0). -/
def ceilDiv (a b : Nat) : Nat := (a + b - 1) / b

/-- `a` rounded up to a multiple of `b`. -/
def roundUp (a b : Nat) : Nat := ceilDiv a b * b

/-- Absolute difference. -/
def absDiff (a b : Nat) : Nat := if a ≤ b then b - a else a - b

/-- ⌊log2⌋ of a positive number; 0 for 0. -/
def log2 (n : Nat) : Nat := Nat.log2 n

/-- Whether every byte of an octet string is zero (reserved fields, R11). -/
def allZero (bs : Bytes) : Bool := bs.all (· == 0)

/-- A reflected CRC over bytes, one bit at a time: `poly` reflected, `crc` the running value, `n` the bits left. -/
def crcBits (poly : Nat) : Nat → Nat → Nat
  | 0, crc => crc
  | n + 1, crc => crcBits poly n (if crc % 2 == 1 then (crc / 2) ^^^ poly else crc / 2)

/-- Reflected CRC of an octet string from a start value. -/
def crcReflected (poly init : Nat) (bs : Bytes) : Nat :=
  bs.foldl (fun c b => crcBits poly 8 (c ^^^ b.toNat)) init

/-- A CRC with the most significant bit first, `w` bits wide, over one bit. -/
def crcStepMsb (w poly crc : Nat) (b : Bool) : Nat :=
  let top := (bit crc (w - 1)) != b
  let sh := crc * 2 % 2 ^ w
  if top then sh ^^^ poly else sh

/-- The bits of a byte, most significant first. -/
def msbFirst (b : Byte) : List Bool :=
  [b.getLsbD 7, b.getLsbD 6, b.getLsbD 5, b.getLsbD 4, b.getLsbD 3, b.getLsbD 2, b.getLsbD 1, b.getLsbD 0]

/-- The bits of a byte, least significant first. -/
def lsbFirst (b : Byte) : List Bool := (msbFirst b).reverse

/-- CRC with the most significant bit first over an octet string. -/
def crcMsb (w poly init : Nat) (bs : Bytes) : Nat :=
  (bs.flatMap msbFirst).foldl (crcStepMsb w poly) init

/-- The bits of an octet string, bit k being bit k mod 8 of byte ⌊k ÷ 8⌋ (R57). -/
def octBits (bs : Bytes) : List Bool := bs.flatMap lsbFirst

/-- The low `n` bits of a value, least significant first. -/
def natBits : Nat → Nat → List Bool
  | 0, _ => []
  | n + 1, v => (v % 2 == 1) :: natBits n (v / 2)

/-- The value of bits, least significant first. -/
def ofBits : List Bool → Nat
  | [] => 0
  | b :: bs => b2n b + 2 * ofBits bs

/-- ASCII text as bytes. -/
def ascii (cs : List Char) : Bytes := cs.map (fun c => BitVec.ofNat 8 c.toNat)

/-- Bytes padded with zeros, or cut, to a length. -/
def padTo (n : Nat) (bs : Bytes) : Bytes := (bs ++ List.replicate (n - bs.length) 0).take n

/-- Bytes with the octets from `off` on replaced by `new`; a gap reads as zero. -/
def overwrite (bs : Bytes) (off : Nat) (new : Bytes) : Bytes :=
  padTo off bs ++ new ++ bs.drop (off + new.length)

/-- Element i of a list, or a default. -/
def nth {α : Type} (d : α) (xs : List α) (i : Nat) : α := (xs[i]?).getD d

/-- A list with element i replaced; unchanged when i is out of range. -/
def setNth {α : Type} (xs : List α) (i : Nat) (x : α) : List α := xs.set i x

/-- The index of the first element that meets a test. -/
def findIdx {α : Type} (p : α → Bool) (xs : List α) : Option Nat := xs.findIdx? p

/-- Split a list into pieces of `n` elements (`fuel` pieces at most). -/
def chunksAux {α : Type} (n : Nat) : Nat → List α → List (List α)
  | 0, _ => []
  | f + 1, xs => if xs.isEmpty then [] else xs.take n :: chunksAux n f (xs.drop n)

/-- Split a list into pieces of `n` elements, the last one shorter. -/
def chunks {α : Type} (n : Nat) (xs : List α) : List (List α) := chunksAux n xs.length xs

/-- Keep the elements that occur first (no repeats). -/
def dedup {α : Type} [DecidableEq α] (xs : List α) : List α :=
  xs.foldl (fun acc x => if acc.contains x then acc else acc ++ [x]) []

/-- Sum of natural numbers. -/
def sumN (xs : List Nat) : Nat := xs.foldl (· + ·) 0

/-- Greatest of natural numbers, 0 for none. -/
def maxN (xs : List Nat) : Nat := xs.foldl Nat.max 0

end Sys2Proof.Machine
end

