-- ==== Sys2Proof/Machine/Sparse.lean ====
section
/-! DEFINITION. Sparse tables by number, keys strictly rising, and byte memory in its canonical form. -/

namespace Sys2Proof.Machine

/-- A sparse table by number: keys strictly rising. -/
abbrev Map (α : Type) := List (Nat × α)

/-- The entry of a key. -/
def Map.find {α : Type} : Map α → Nat → Option α
  | [], _ => none
  | (k, v) :: m, x => if x = k then some v else if x < k then none else Map.find m x

/-- The entry of a key, or a default. -/
def Map.getD {α : Type} (m : Map α) (k : Nat) (d : α) : α := (m.find k).getD d

/-- Set the entry of a key. -/
def Map.put {α : Type} : Map α → Nat → α → Map α
  | [], x, v => [(x, v)]
  | (k, w) :: m, x, v =>
    if x = k then (k, v) :: m else if x < k then (x, v) :: (k, w) :: m else (k, w) :: Map.put m x v

/-- Remove the entry of a key. -/
def Map.del {α : Type} : Map α → Nat → Map α
  | [], _ => []
  | (k, w) :: m, x => if x = k then m else (k, w) :: Map.del m x

/-- Whether keys rise strictly, above a bound. -/
def Map.sortedFrom {α : Type} : Nat → Map α → Bool
  | _, [] => true
  | lo, (k, _) :: m => decide (lo ≤ k) && Map.sortedFrom (k + 1) m

/-- The canonical form of a sparse table: keys strictly rising. -/
def Map.wf {α : Type} (m : Map α) : Bool := Map.sortedFrom 0 m

/-- Change every entry. -/
def Map.mapV {α : Type} (f : Nat → α → α) (m : Map α) : Map α := m.map (fun e => (e.1, f e.1 e.2))

/-- Byte memory: address and byte, addresses strictly rising, no byte equal to what an unlisted address reads as. -/
abbrev Memory := List Host.Cell

/-- What a byte of memory that nothing has written reads as. DESIGN CHOICE (assumption 6): the manual gives no
power-on contents. -/
def Memory.unlisted : Byte := 0

/-- Read one byte. -/
def Memory.read : Memory → Nat → Byte
  | [], _ => Memory.unlisted
  | (k, b) :: m, a => if a = k then b else if a < k then Memory.unlisted else Memory.read m a

/-- Write one byte, keeping the canonical form. -/
def Memory.write : Memory → Nat → Byte → Memory
  | [], a, b => if b = Memory.unlisted then [] else [(a, b)]
  | (k, c) :: m, a, b =>
    if a = k then (if b = Memory.unlisted then m else (k, b) :: m)
    else if a < k then (if b = Memory.unlisted then (k, c) :: m else (a, b) :: (k, c) :: m)
    else (k, c) :: Memory.write m a b

/-- Write bytes at rising addresses. -/
def Memory.writeBytes (m : Memory) (a : Nat) : Bytes → Memory
  | [] => m
  | b :: bs => Memory.writeBytes (Memory.write m a b) (a + 1) bs

/-- Read `n` bytes at rising addresses. -/
def Memory.readBytes (m : Memory) : Nat → Nat → Bytes
  | _, 0 => []
  | a, n + 1 => Memory.read m a :: Memory.readBytes m (a + 1) n

/-- Canonical form above a bound. -/
def Memory.wfFrom : Nat → Memory → Bool
  | _, [] => true
  | lo, (k, b) :: m => decide (lo ≤ k) && !decide (b = Memory.unlisted) && Memory.wfFrom (k + 1) m

/-- The canonical form: addresses strictly rising, no byte equal to what an unlisted address reads as. -/
def Memory.wf (m : Memory) : Bool := Memory.wfFrom 0 m

end Sys2Proof.Machine
end

