-- ==== Sys2Proof/Machine/State.lean ====
section
/-! DEFINITION. The state of the block: every register, queue, counter, buffer and pin the manual gives it, as plain data. -/

namespace Sys2Proof.Machine

/-- Reasons to stop with a fault. No command of this block stops so: every row of the table has an effect. -/
inductive Fault where
  /-- Raised by no meaning; kept so that the outcome type has a name. Safe. -/
  | none
deriving DecidableEq, Repr

/-- Reasons to refuse. -/
inductive Refusal where
  /-- Raised by the arm of a command that has no meaning yet, with the mnemonic of its row. Safe. -/
  | notModelled (mnemonic : String)
deriving DecidableEq, Repr

/-! ### Dictionary sessions (R64-R92, R104-R115) -/

/-- The registers of a BAR0 page (R85). -/
structure Bar0 where
  cmd     : Nat := 0
  data    : Nat := 0
  mbox    : Nat := 0
  busy    : Bool := false
  done    : Bool := false
  overrun : Bool := false
  tag     : Nat := 0
  abort   : Nat := 0
deriving DecidableEq, Repr

/-- A PARTNER access waiting for its DICT_RESPs (R87): the tie messages' TAG, the frame count at its start, the host
buffer and length of a mailbox segment, responses still to come and bytes moved so far. -/
structure PartnerWait where
  tag     : Nat
  since   : Nat
  mailbox : Bool
  write   : Bool
  buffer  : Nat
  length  : Nat
  left    : Nat
  moved   : Nat
deriving DecidableEq, Repr

/-- A segmented write in progress (R91). -/
structure Shadow where
  key   : Nat
  total : Nat
  data  : Bytes
deriving DecidableEq, Repr

/-- A pending commit (R71-R75): the named position, the deferred one once the named one is reached, the set in the
order it was staged, and the order of acceptance. -/
structure Pending where
  position : Nat
  deferred : Option Nat
  set      : List (Nat × Nat)
  order    : Nat
  /-- Level of the session when it was accepted (R74). -/
  level    : Nat
deriving DecidableEq, Repr

/-- A management session (R109-R115). -/
structure Mgmt where
  ip       : Nat
  port     : Nat
  seq      : Nat
  nc       : Bytes
  nd       : Bytes
  /-- No request has followed the OPEN. -/
  fresh    : Bool
  authUsed : Bool
  /-- K_s once authenticated. -/
  key      : Option Bytes
  /-- Frame count of the last valid request. -/
  idle     : Nat
  response : Bytes
deriving DecidableEq, Repr

/-- One of the 77 sessions of R64. -/
structure Session where
  level      : Nat := 2
  staged     : List (Nat × Nat) := []
  pending    : Option Pending := none
  commitSeq  : Nat := 0
  lastResult : Nat := 0
  lastFailed : Nat := 0
  lastPos    : Nat := 0
  /-- Snapshot of a segmented read (R90): key and bytes. -/
  snapshot   : Option (Nat × Bytes) := none
  shadow     : Option Shadow := none
  curveSel   : Nat := 0
  selTile    : Nat := 0
  selJoint   : Nat := 0
  nonce      : Option Bytes := none
  report     : Bytes := []
  bar0       : Bar0 := {}
  partner    : Option PartnerWait := none
  mgmt       : Option Mgmt := none
deriving DecidableEq, Repr

/-! ### House clock (R23-R53, R572) -/

/-- The house clock's state beside its objects. -/
structure Clock where
  /-- Consecutive qualifying periods, and their nominal rate (R24). -/
  acq        : Nat := 0
  acqRate    : Nat := 0
  /-- Consecutive periods out of tolerance while LOCKED (R572). -/
  badPeriods : Nat := 0
  /-- Consecutive frames with an invalid, or a valid, bit ratio (R25, R397). -/
  badRatio   : Nat := 0
  goodRatio  : Nat := 0
  /-- The present run of invalid frames has been counted (R25). -/
  ratioCounted : Bool := false
  /-- Every lane is muted by a bit-clock fault (R25, R397). -/
  bitMuted   : Bool := false
  /-- The position is set at the next frame instead of counted (R30). -/
  first      : Bool := true
  /-- CMARK_IN as sampled at the frame before and at this frame (R40). -/
  cmarkPrev  : Option Bool := none
  cmarkNow   : Option Bool := none
  /-- Frames begun since reset: what frame-counted timers read (R44, R46). -/
  frames     : Nat := 0
  /-- Frame count at which tick work and boundary work was last done. -/
  tickAt     : Option Nat := none
  boundaryAt : Option Nat := none
  /-- Frame count at which the leading leaf's positions are taken up, and the position then (R30, R31, R49). -/
  correct    : Option (Nat × Nat) := none
  /-- Frame count at which a CMARK pulse was last applied (R41). -/
  cmarkAt    : Option Nat := none
  /-- Label of the LTC frame before, when it was intact (R36). -/
  ltcPrev    : Option Nat := none
  /-- Frame count of the last valid LTC frame. -/
  ltcAt      : Nat := 0
  /-- A write of 1 to REANCHOR waits for the course boundary (R39). -/
  reanchor   : Bool := false
  /-- An LTC anchor is being waited for since this frame count (R39), with the valid frames seen. -/
  anchor     : Option (Nat × Nat) := none
  /-- Coast count carried by the leading leaf's COURSE_SYNC and its clock state (R52). -/
  leadCoast  : Nat := 0
  leadState  : Nat := 0
  /-- The live halt of R52 holds. -/
  coastHalt  : Bool := false
  /-- Acceptance order of commits (R74). -/
  order      : Nat := 0
deriving DecidableEq, Repr

/-! ### Rings, commands and streams (R119-R158, R288-R313) -/

/-- Where a command stands. -/
inductive Phase where
  | fetched | waiting | active | halted | ended
deriving DecidableEq, Repr

/-- A final entry whose work has finished (R144, R146); no position means the position at which it is written. -/
structure Final where
  status   : Nat
  position : Option Nat
  detail   : Nat
  aux      : Nat
deriving DecidableEq, Repr

/-- Why a command is halted (R146, R364-R366, R514): the notice's status, saved position, detail, AUX, and the word
at which the transfer stands. -/
structure Halt where
  status   : Nat
  position : Nat
  detail   : Nat
  aux      : Nat
  /-- The refused request of a HALT_PROTECT was a write. -/
  write    : Bool := false
deriving DecidableEq, Repr

/-- Counts of a narrowed tensor (R197), with the NaNs narrowed (R181). -/
structure Counts where
  elements  : Nat := 0
  saturated : Nat := 0
  flushed   : Nat := 0
  blocks    : Nat := 0
  clipped   : Nat := 0
  worst     : Nat := 0
  absmax    : F32 := 0
  nans      : Nat := 0
deriving DecidableEq, Repr

/-- A row in the vector unit: the position of its first frame, its values. -/
structure VRow where
  at'  : Nat
  vals : List F32
deriving DecidableEq, Repr

/-- A row of a stored tensor: the position of its first frame, its element codes, its block scales. -/
structure TRow where
  at'    : Nat
  codes  : List Nat
  scales : List Nat := []
deriving DecidableEq, Repr

/-- A stored tensor (R175, R194): format, elements of a row, tensor scale, zero points (one, or one for each output column), rows. -/
structure Stored where
  format : Nat := 0x0A
  width  : Nat := 0
  scale  : F32 := 0x3F800000
  zps    : List Int := []
  rows   : List TRow := []
deriving DecidableEq, Repr

/-- The program of a chunk under way (R381): its next step, the vector unit's buffers, the stored tensors at work, the samples put out. -/
structure Bench where
  next : Nat := 0
  bufs : Map (List VRow) := []
  tens : Map Stored := []
  out  : List Nat := []
deriving DecidableEq, Repr

/-- A fetched chunk (R141, R294, R427-R438). -/
structure Chunk where
  position : Nat
  frames   : Nat
  tokens   : Nat
  marks    : List Nat
  /-- It starts a segment (R294). -/
  segment  : Bool
  fin      : Bool
  out      : Nat
  /-- Frame count at the fetch. -/
  fetchedAt : Nat
  /-- Tokens decoded (R219). -/
  decoded  : Nat
  /-- Plan steps booked so far, and done. -/
  booked   : Nat
  done     : Nat
  /-- Course boundaries passed while eligible and not started (R429). -/
  age      : Nat
  /-- GROUT_AGED has marked it (R429), and it is booked under the age rule in the course planned. -/
  aged     : Bool
  agedBooked : Bool
  released : Bool
  /-- Protection windows in force when its transfers started (R513), as record values. -/
  map      : List Nat
  /-- R299 has counted it as held; R204 holds it. -/
  held     : Bool
  retuneHeld : Bool
  /-- All its samples are produced. -/
  produced : Bool
  /-- Frames in the short packet an idle timeout pushed out. -/
  short    : Nat
  /-- Worst clipped tensor: share, tensor, count (R199). -/
  clipped  : Option (Nat × Nat × Nat)
  spilled  : Nat
  /-- Descriptors of the plan its stages have run, and bytes of the next one written; re-arms of them ignored (R368). -/
  moved    : Nat × Nat
  ignores  : Nat
  /-- Counts of each tensor it narrowed (R197). -/
  counts   : Map Counts
  /-- Its stages' program, as far as it has run. -/
  bench    : Bench := {}
  /-- The carried state it wrote counts for the stream (R120). -/
  error    : Option Nat
deriving DecidableEq, Repr

/-- A transfer (R353-R368): its descriptor, the word at which it stands, a page request it waits for. -/
structure Transfer where
  desc     : Bytes
  /-- Bytes written so far. -/
  next     : Nat
  /-- It holds a host mover context (R359). -/
  context  : Bool
  /-- Order of waiting for a context. -/
  order    : Nat
  /-- It is a re-arm pending behind the run of the same descriptor (R368). -/
  rearm    : Bool
  /-- It was ignored, and is reported with the pending run of this ring and command counter (R368). -/
  ignored  : Option (Nat × Nat)
  /-- MOVEs ignored while it was pending. -/
  ignores  : Nat
  /-- Protection windows in force when it started (R513). -/
  map      : List Nat
  /-- Destination ranges that another transfer wrote while it ran (R356). -/
  clash    : List (Nat × Nat)
  /-- A CHECKPOINT: its copy on the partner could not be made (R496). -/
  noPartner : Bool
deriving DecidableEq, Repr

/-- A command a ring has fetched and not yet reported. -/
structure Cmd where
  counter  : Nat
  desc     : Bytes
  phase    : Phase := .fetched
  final    : Option Final := none
  halt     : Option Halt := none
  chunk    : Option Chunk := none
  xfer     : Option Transfer := none
  /-- The check of R294 waits for an earlier BIND. -/
  unchecked : Bool := false
  /-- 0, or 1 + the boundaries a BIND has waited for admission (R442); 1 for a PARK that waits on a pinned stream (R297). -/
  waited   : Nat := 0
  /-- Packets a FLUSH ended: joint and record number (R574). -/
  flush    : List (Nat × Nat) := []
  /-- Its final entry is never written (R120, R125). -/
  lost     : Bool := false
  /-- Frame count at the fetch. -/
  fetchedAt : Nat := 0
  /-- A BIND: the plan slot it names held a plan when it was fetched, and the LOAD's final entry had been written (R155). -/
  planThere : Bool := true
deriving DecidableEq, Repr

/-- A ring beside its objects. -/
structure Ring where
  cmdTail  : Nat := 0
  cplHead  : Nat := 0
  /-- Fetched commands whose final entry is not written, in counter order. -/
  cmds     : List Cmd := []
  /-- The index-error entry of R133 is owed. -/
  errEntry : Bool := false
  /-- The halted command that holds the ring (R131, R148). -/
  halted   : Option Nat := none
  /-- Course of the last progress notice (R148). -/
  progress : Option Nat := none
  /-- Host detachment cleared its `RING_ENABLE` while it was in ERROR or FAULT: it stays in that state (R120). -/
  kept     : Bool := false
  /-- Where host detachment ends a lane RENDER that has not started: the position after the last chunk fetched (R120). -/
  cutoff   : Option Nat := none
deriving DecidableEq, Repr

/-- A render (R142, R411-R413). -/
structure Render where
  counter  : Nat
  start    : Nat
  /-- STOP, or where a later RENDER replaces it; 0 for no end. -/
  stop     : Nat
  notices  : Bool
  /-- Frames delivered, and the last frame. -/
  frames   : Nat
  last     : Nat
  /-- It ends after the last frame of a FEED with END, at this position. -/
  endAt    : Option Nat
deriving DecidableEq, Repr

/-- One section of carried state (R303-R306): stage, tensor, class 0 FEEDBACK 1 DELAY 2 KV_DIRECTORY, format, elements. -/
structure Section where
  stage  : Nat
  tensor : Nat
  cls    : Nat
  format : Nat
  elems  : List Nat
deriving DecidableEq, Repr

/-- Carried state of a scalar scan of one channel (R310), or of a biquad (R311), and the step count in its block. -/
structure Scan where
  h0    : List Nat
  a     : List Nat
  b     : List Nat
  hPrev : List Nat
  count : Nat
deriving DecidableEq, Repr

/-- One page of a key/value block, for a layer and a key/value head (R225). -/
structure KvPage where
  layer : Nat
  head  : Nat
  /-- The tile whose plane holds the page of a stream placed in planes (R232). -/
  tile  : Nat
  /-- Bytes of the page; unwritten positions are zero (R225). -/
  mem   : Memory
deriving DecidableEq, Repr

/-- One key/value block of a stream (R225, R232): attention positions from `first`, its pages in order of layer and head. -/
structure KvBlock where
  first : Nat
  /-- Positions written. -/
  used  : Nat
  /-- Directory entry of the block (R232): its tier and place. -/
  place : Nat
  pages : List KvPage
deriving DecidableEq, Repr

/-- Waits of a stream on its state (R295-R297, R301). -/
structure Move where
  /-- 1 out, 2 in, 3 out then in. -/
  dir    : Nat
  /-- After a move in, a move out follows (R295). -/
  thenOut : Bool
  tier   : Nat
  /-- Destination address of a move out. -/
  addr   : Nat
deriving DecidableEq, Repr

/-- Retuned scale of one tensor (R202-R204): the scale, and those computed since from chunks, each with the last output
frame of its chunk. -/
structure Retuned where
  tensor : Nat
  scale  : Nat
  hist   : List (Nat × Nat)
deriving DecidableEq, Repr

/-- Carried history of a STREAMED layer or fused stack (R266, R277, R282): its input rows from `first` on as codes of the input format,
the rows seen and the rows produced in the segment. -/
structure Delay where
  format : Nat := 0x0A
  cin    : Nat := 1
  first  : Nat := 0
  seen   : Nat := 0
  made   : Nat := 0
  rows   : List (List Nat) := []
  /-- First frame of the segment's first row, and of the last row seen. -/
  start  : Nat := 0
  last   : Nat := 0
  /-- Rows of each layer computed so far in the segment: a row below this is computed a second time (R281). -/
  high   : List Nat := []
deriving DecidableEq, Repr

/-- An exact sum (R178, R338): the value in units of 2^-298, and whether a NaN or an infinity of each sign came in. -/
structure XSum where
  val : Int := 0
  nan : Bool := false
  pos : Bool := false
  neg : Bool := false
deriving DecidableEq, Repr

/-- One lane of an accumulator (R338, R339), or one element of a weight gradient (R187): the exact sum of the open chunk, its count, the
combining stack (top first, size and value); in integer mode `val` of the sum counts units of one. -/
structure AccLane where
  sum   : XSum := {}
  count : Nat := 0
  stack : List (Nat × F32) := []
deriving DecidableEq, Repr

/-- Carried state as a chunk wrote it: what R120 keeps when the chunk after it ends where it stands. -/
structure Carried where
  sections : List Section
  scans    : Map Scan
  delays   : Map Delay
  kv       : List KvBlock
  feedback : Bytes
  retuned  : List Retuned
  steps    : Map Nat
  grads    : Map (List AccLane)
  codeRow  : Bytes
  tokenIndex   : Nat
  attnPosition : Nat
deriving DecidableEq, Repr

/-- A stream beside its objects. -/
structure Stream where
  /-- The next FEED starts a segment (R294). -/
  segNext  : Bool := true
  /-- Lead frames of R414. -/
  leadFrames : Nat := 0
  bound    : Bool := false
  /-- Frame count at which the BIND completed (R377). -/
  boundAt  : Nat := 0
  /-- Boundaries since the BIND completed (R428). -/
  courses  : Nat := 0
  /-- Renders to the host that have not ended, oldest first; where the latest FEED with END ends. -/
  renders  : List Render := []
  lastEnd  : Option Nat := none
  /-- Position after the last frame delivered to the host. -/
  delivered : Nat := 0
  move     : Option Move := none
  /-- Order in which a waiting WAKE began to wait. -/
  wakeOrder : Option Nat := none
  /-- Frames missed (R420, R436), as runs of a first frame and a count, oldest first. -/
  missed   : List (Nat × Nat) := []
  sections : List Section := []
  scans    : Map Scan := []
  /-- Histories of STREAMED layers by output tensor; the reset marks of its chunks, as positions (R268). -/
  delays   : Map Delay := []
  marks    : List Nat := []
  /-- Steps since BIND of each tensor's own axis, by tensor, and of each random consumer, by 65,536 + sequence (R208). -/
  steps    : Map Nat := []
  /-- Weight gradients whose reduction is open (R187). -/
  grads    : Map (List AccLane) := []
  /-- Key/value blocks, oldest first (R225), and the window W of the binding (R228). -/
  kv       : List KvBlock := []
  kvWindow : Nat := 0
  /-- Bytes the state is charged with in the tier where it lies (R302); the bytes of its parts in each tile's plane, while it lies there or
  moves in, and where the device keeps them. -/
  placed   : Nat := 0
  parts    : Map Nat := []
  partAt   : Map Nat := []
  /-- `SWAP_STATE` as it was when a PARK began to wait (R297). -/
  swapWas  : Option Nat := none
  /-- Latest token or frame fed back (R217, R219), if any; attention outputs of the latest token, query by query (R234). -/
  feedback : Bytes := []
  attn     : List (List F32) := []
  /-- The carried state before each chunk whose work has begun, by command counter. -/
  before   : Map Carried := []
  /-- Sections a chunk has taken and a brick has not written back (R309, R326): stage, chunk, brick, oldest first. -/
  owed     : List (Nat × Nat × Nat) := []
  /-- The voice row (R257), and the codebook row that goes to the first group with the next feature row (R239). -/
  voiceRow : Bytes := []
  codeRow  : Bytes := []
  retune   : Bool := false
  headroom : Nat := 0
  retuned  : List Retuned := []
  /-- The noise table is filled from the seed (R205). -/
  noise    : Bool := false
  /-- Admitted as live; booked reservation in tile-cycles per course. -/
  admitted : Bool := false
  /-- Samples written so far by course, for the digests of R491, and the courses of chunks that completed DEVICE_FAULT. -/
  digest   : Map Bytes := []
  digestFault : List Nat := []
  /-- `POSITION` at the last checkpoint pushed to the partner (R497). -/
  autoAt   : Nat := 0
  /-- `POSITION` at a boundary that asked for an automatic checkpoint not taken yet: it is taken once the chunks before it have
  written their state. -/
  autoGoal : Option Nat := none
deriving DecidableEq, Repr

/-! ### The rest of the machine is added below, unit by unit. -/

/-! ### Plans, loads, movers and joints (R353-R394) -/

/-- A plan slot's contents (R383): the image and its SHA-256. -/
structure Plan where
  image  : Bytes
  digest : Nat
  /-- Its stage programs: of a chunk, of one token. -/
  program : List TileOp := []
  tokens  : List TokenOp := []
  /-- Where the device placed its area in each tile's plane (R450), and the shadow of its plane contents (R462). -/
  areas  : Map Nat := []
  shadow : Nat := 0
deriving DecidableEq, Repr

/-- A gather table in a slot (R245-R248): header, the tier where its rows lie and the address of row 0. -/
structure Table where
  header : Bytes
  tier   : Nat
  base   : Nat
deriving DecidableEq, Repr

/-- One packet record of a joint, or a spacer (R369, R373). -/
inductive JRec where
  /-- Tag, words, ended, stream and command counter of the chunk it carries, overflow region. -/
  | packet (tag : Nat) (words : List Nat) (ended : Bool) (stream chunk : Nat) (spilled : Bool)
  | spacer (count : Nat)
deriving DecidableEq, Repr

/-- A reader's place in a joint (R323, R372): record and word of the next word, whether that record is its current
packet, its mark, whether the rest of the current packet is dropped on arrival. -/
structure Reader where
  idx  : Nat := 0
  word : Nat := 0
  cur  : Bool := false
  mark : Option (Nat × Nat × Bool) := none
  drop : Bool := false
deriving DecidableEq, Repr

/-- A joint in use (R369-R378). -/
structure Joint where
  plan      : Nat
  link      : Nat
  port      : Nat
  maxPacket : Nat
  threshold : Nat
  reserve   : Nat
  limit     : Nat
  idle      : Nat
  /-- It belongs to an alignment group (R411, R423). -/
  group     : Option Nat := none
  recs      : List JRec := []
  readers   : List Reader := [{}]
  /-- Records dropped so far: the number of record 0. -/
  base      : Nat := 0
  /-- Frame count of the last word written. -/
  written   : Nat := 0
  /-- Tag of a packet that an idle timeout has ended and whose producer has not: words that arrive yet begin a packet with it (R371). -/
  again     : Option Nat := none
  corrected : Nat := 0
  /-- The stream whose producer waits for space here, and the frame count at which the wait began (R44, R46, R377). -/
  waiter    : Option Nat := none
  waitSince : Nat := 0
deriving DecidableEq, Repr

/-- A page request of PRI (R124-R126). -/
structure PageRequest where
  id      : Nat
  ring    : Nat
  counter : Nat
  page    : Nat
deriving DecidableEq, Repr

/-- A load in progress (R82, R389): ring, command, kind, slot, what it places. -/
structure Load where
  ring    : Nat
  counter : Nat
  kind    : Nat
  slot    : Nat
  first   : Nat
  count   : Nat
  image   : Bytes
  /-- A table: its header, and the address of the region taken for its rows (R247, R259). -/
  head    : Bytes := []
  base    : Nat := 0
deriving DecidableEq, Repr

/-! ### Bricks (R314-R352) -/

/-- An accumulator: its mode and its 16 lanes. -/
structure Accum where
  int   : Bool := false
  lanes : List AccLane := List.replicate 16 {}
deriving DecidableEq, Repr

/-- An open LOOP (R332): first and last instruction of the body, runs left. -/
structure LoopFrame where
  first : Nat
  last  : Nat
  left  : Nat
deriving DecidableEq, Repr

/-- An output port of a brick: tag and step of its next packet (R342). -/
structure OutPort where
  tag  : Nat := 0
  step : Nat := 0
deriving DecidableEq, Repr

/-- A brick (R314). -/
structure Brick where
  /-- Code slot held; 0xFF for none. -/
  code    : Nat := 255
  run     : Bool := false
  fenced  : Bool := false
  pc      : Nat := 0
  regs    : List (BitVec 32) := List.replicate 32 0
  vecs    : List (BitVec 512) := List.replicate 16 0
  accs    : List Accum := List.replicate 4 {}
  loops   : List LoopFrame := []
  /-- Local memory; unlisted bytes are zero, as R349 leaves them. -/
  mem     : Memory := []
  /-- Words of local memory with an uncorrectable error, by address divided by 8. -/
  bad     : List Nat := []
  codeBytes : Nat := 0
  portsIn : Nat := 0
  portsOut : Nat := 0
  /-- PTAG, STEP, JSTAT, TNUM (R344). -/
  ptag    : Nat := 0
  step    : Nat := 0
  jstat   : Nat := 0
  tnum    : Nat := 0
  /-- A JNEXT has been executed (R343). -/
  stepped : Bool := false
  outs    : List OutPort := List.replicate 8 {}
  /-- Chunk of the packet last stepped onto on port 0, and on any port: the one PTAG names. -/
  chunk   : Nat := 0
  tagChunk : Nat := 0
  /-- State sections to be delivered on input port 7, in order: stream, whether the plan's initial state, chunk (R326). -/
  state   : List (Nat × Bool × Nat) := []
  /-- Words left of the current section, and those from the mark on. -/
  stateCur : Option (List Nat) := none
  stateMark : Option (List Nat) := none
  /-- Words written to output port 7; the section of the present chunk has been written back (R326). -/
  stateOut : List Nat := []
  wrote   : Bool := false
deriving DecidableEq, Repr

/-- A collector gather group (R323, R379): member bricks by rank, target joint, packets collected per member. -/
structure Collector where
  members : List Nat
  target  : Nat
  /-- Whole packets of each member: tag, stream, chunk, words. -/
  packets : List (List (Nat × Nat × Nat × List Nat))
  /-- Tag, stream, chunk and words of each member's open packet. -/
  opened  : List (Option (Nat × Nat × Nat × List Nat))
deriving DecidableEq, Repr

/-! ### What leaves the device -/

/-- One thing the device sends: the model's own record of what passes its pins and links, oldest first. -/
inductive Sent where
  /-- A UDP datagram of the management port (R101, R104): the address and port it leaves from, those it goes to, its payload. -/
  | datagram (fromIp fromPort ip port : Nat) (body : Bytes)
  /-- An ARP reply: target MAC and address (R97). -/
  | arp (mac ip : Nat)
  /-- An ICMP echo reply (R97). -/
  | echo (ip : Nat) (payload : Bytes)
  /-- A PLCA beacon with its node count (R95). -/
  | beacon (nodes : Nat)
  /-- A message on the tie link: type, tag, body (R478). -/
  | tie (kind tag : Nat) (body : Bytes)
  /-- An acknowledgement, a negative one, or a replay of flits of the tie link (R476). -/
  | tieAck (seq : Nat)
  | tieNak (seq : Nat)
  | tieReplay (seq : Nat)
  /-- PAIR_HB_OUT changes level (R484). -/
  | heartbeatEdge (high : Bool)
  /-- A page request (R126). -/
  | pageRequest (id page : Nat)
  /-- The completion of a read through BAR4 (R123). -/
  | aperture (bytes : Bytes)
  /-- The completion of a read of BAR0 (R84, R85) or of a doorbell of BAR2 (R132): its 64 bits. -/
  | barRead (value : Nat)
  /-- A setting of the core voltage through the AVSBus (R440, R558). -/
  | vdd (mv : Nat)
deriving DecidableEq, Repr

/-- A batch of lookups whose rows are being fetched (R250-R255): the chunk and the stage it serves, its output rows in order, the
poison one of them met, whether all of them have arrived. -/
structure Batch where
  ring    : Nat
  counter : Nat
  stage   : Nat
  rows    : List Bytes
  poison  : Option (Nat × Nat)
  arrived : Bool := false
deriving DecidableEq, Repr

/-- Work as the scheduler counts it (R431): busy tile-cycles, feed lines, GDDR7 bytes, busy brick-cycles, CXL bytes. -/
structure Work where
  tile  : Nat := 0
  feed  : Nat := 0
  gddr7 : Nat := 0
  brick : Nat := 0
  cxl   : Nat := 0
deriving DecidableEq, Repr

/-- The plan of a course (R437): where it starts, the clock chosen, the allowance, the planned energies in whole
millijoules, the load, what was slowed or shed, and for each paced stream the steps due and booked. -/
structure CoursePlan where
  start     : Nat
  mhz       : Nat
  allowance : Nat
  thermal   : Nat
  fixed     : Nat
  live      : Nat
  paced     : Nat
  grout     : Nat
  load      : Nat
  slowed    : Bool
  shed      : Bool
  excess    : Bool
  steps     : List (Nat × Nat × Nat)
deriving DecidableEq, Repr

/-- The course scheduler beside its objects (R426-R445). -/
structure Sched where
  /-- The plan of the next course, made in the last tick of this one, and the frame count at which it was made. -/
  next     : Option CoursePlan := none
  plannedAt : Nat := 0
  /-- Allowance of the course before this one, in millijoules (R445). -/
  prevAllowance : Nat := 0
  /-- Latest sensor readings, in 0.1 °C. -/
  tileTemp : Int := 0
  memTemp  : Int := 0
  /-- Energy measured in the present course in units of 1/4,095 nJ (R559), and the work each class caused in it. -/
  measured : Nat := 0
  live     : Work := {}
  paced    : Work := {}
  grout    : Work := {}
  /-- The course has been governed (R435). -/
  governed : Bool := false
  /-- A measurement is under way: a course boundary has passed since lock. -/
  running  : Bool := false
deriving DecidableEq, Repr

/-- A member of an alignment group: a render of a stream to lanes (R411-R419). -/
structure Member where
  stream   : Nat
  counter  : Nat
  group    : Nat
  first    : Nat
  channels : Nat
  start    : Nat
  /-- STOP, or where a later RENDER replaces it; 0 for no end. -/
  stop     : Nat
  endAt    : Option Nat
  /-- Its joint, as 64 × tile + joint. -/
  joint    : Nat
  /-- Gain counter, whether its direction is down, whether START has been reached (R417). -/
  gain     : Nat
  down     : Bool
  started  : Bool
  /-- Last frame it played, and frames consumed of its joint's first packet. -/
  last     : Option Nat
  used     : Nat
deriving DecidableEq, Repr

/-- Frames a stream's last stage has produced and no joint has taken: chunk, first position, samples frame by frame. -/
structure Produced where
  chunk   : Nat
  first   : Nat
  samples : List (List Nat)
deriving DecidableEq, Repr

/-- A sample an AES3 input lane has received: house position, channel, word, V, U, C, and whether Z began the block. -/
structure AesSample where
  pos   : Nat
  chan  : Nat
  word  : Nat
  v     : Bool
  u     : Bool
  c     : Bool
  z     : Bool
  /-- The lane was muted when it came (R397). -/
  muted : Bool
deriving DecidableEq, Repr

/-- An AES3 receiver (R404, R405). Phases are in 1/65,536 frame. -/
structure AesIn where
  /-- Consecutive good frames, and whether subframe 1 of the present one was good. -/
  good    : Nat := 0
  first   : Bool := false
  /-- Start of the latest frame, in 1/65,536 frame of house time. -/
  start   : Option Nat := none
  /-- Phase locked to; declared foreign; phase kept while foreign, and for how many frames. -/
  phi     : Option Nat := none
  foreign : Bool := false
  kept    : Nat := 0
  keep    : Nat := 0
  /-- Position given to the frame being received. -/
  at'     : Nat := 0
  /-- Channel-status bits since the last Z, per channel; none before the first Z. -/
  bits0   : Option (List Bool) := none
  bits1   : Option (List Bool) := none
  got     : List AesSample := []
deriving DecidableEq, Repr

/-- A frame of an I2S or left-justified input lane: its position, the bits sampled, the block bits assumed for it
(R400, R406): C0 U0 C1 U1 and whether a block starts; whether the lane was muted in it (R397, R423), or it passed with no edge
(R48). -/
structure LaneFrame where
  pos    : Nat
  bits   : List Bool
  status : List Bool
  muted  : Bool
deriving DecidableEq, Repr

/-- A lane beside its objects (R395-R406). -/
structure LaneRun where
  /-- Muted under R397 until it resumes. -/
  muted  : Bool := false
  /-- Blocks being sent, or assumed: C0, C1, U0, U1. -/
  cs0    : Nat := 0
  cs1    : Nat := 0
  u0     : Nat := 0
  u1     : Nat := 0
  /-- Bits of the pin in the frame in progress, in bit periods; the slot bit carried into the next frame; the level last sent;
  both as they were when the frame began. -/
  out    : List Bool := []
  carry  : Bool := false
  level  : Bool := false
  carryIn : Bool := false
  levelIn : Bool := false
  /-- Words of its two channels in this frame, and whether each carries a stream's sample. -/
  words  : (Nat × Bool) × (Nat × Bool) := ((0, false), (0, false))
  /-- Frames received, newest first. -/
  frames : List LaneFrame := []
  /-- Status bits of the frame in progress. -/
  status : List Bool := []
  aes    : AesIn := {}
deriving DecidableEq, Repr

/-- What the decision of one frame changed in an output group (R415-R420), kept until that frame has passed: a jump takes it back
(R43). The group's members, last position, re-anchoring and `SLIP_LAG` before it, what it added to `FRAMES_FILLED`, `SAMPLES_LATE`
and `FADES`, and the frames it took out of each member's joint: stream and command counter, then positions with samples. -/
structure Decided where
  members  : List Member
  last     : Option Nat
  reanchor : Bool
  lag      : Nat
  filled   : Nat
  late     : Nat
  fades    : Nat
  taken    : List ((Nat × Nat) × List (Nat × List Nat))
deriving DecidableEq, Repr

/-- An alignment group beside its objects (R408-R425). -/
structure GroupRun where
  /-- Samples decided for the next frame, by group channel, and whether each carries a stream's sample. -/
  next    : List (Nat × Bool) := []
  /-- Last position played (R419). -/
  last    : Option Nat := none
  /-- The decisions of the next frame and of the one in progress. -/
  undo    : List Decided := []
  /-- A write of 1 to `SLIP_REANCHOR` waits for the course boundary. -/
  reanchor : Bool := false
  /-- Capture: the joint, frames in it as position and whether a spacer stands for them, gain counter, direction down. -/
  joint   : Option Nat := none
  frames  : List (Nat × Bool) := []
  gain    : Nat := 0
  down    : Bool := false
deriving DecidableEq, Repr

/-- One entry of a DIGEST (R492). -/
structure DigestEntry where
  stream : Nat
  kind   : Nat
  gen    : Nat
  digest : Nat
deriving DecidableEq, Repr

/-- A re-synchronisation or a state asked for (R493, R503): stream, frontier, purpose, first course to discard. -/
structure Resync where
  stream   : Nat
  frontier : Nat
  purpose  : Nat
  course   : Nat
deriving DecidableEq, Repr

/-- An image coming in over the tie link (R478): its total, what has arrived. -/
structure Incoming where
  total : Nat
  data  : Bytes
deriving DecidableEq, Repr

/-- The cavity pair beside its objects (R470-R504). -/
structure PairRun where
  /-- The lane drivers are released (R50, R485, R488). -/
  released : Bool := false
  /-- The watchdog has failed: every output lane is zero (R485). -/
  failed   : Bool := false
  /-- Tick at which the watchdog was last fed. -/
  fedTick  : Option Nat := none
  /-- What has arrived in the present tick, and ticks in a row with nothing. -/
  gotMsg   : Bool := false
  gotEdge  : Bool := false
  silent   : Nat := 0
  /-- Any heartbeat has been seen since reset. -/
  alive    : Bool := false
  /-- Level of PAIR_HB_OUT. -/
  hbOut    : Bool := false
  /-- RELINQUISH is set in the heartbeats sent. -/
  relinquish : Bool := false
  /-- Frame count at which LEADING was last entered. -/
  leadSince : Nat := 0
  /-- HFLAGS of the partner's last heartbeat. -/
  flags    : Nat := 0
  /-- Course in which a live chunk last completed DEVICE_FAULT (R484). -/
  faultAt  : Option Nat := none
  /-- A handover has been requested (R489). -/
  handover : Bool := false
  /-- Sequence of the last flit accepted; the number of things sent when the link came up, flits acknowledged since, replays
  since the last acknowledgement (R476). -/
  rxSeq    : Nat := 4095
  txBase   : Nat := 0
  acked    : Nat := 0
  replays  : Nat := 0
  /-- Digests of the latest courses, by course; those of the partner that wait to be compared (R492). -/
  own      : Map (List DigestEntry) := []
  theirs   : Map (List DigestEntry) := []
  /-- Streams of the partner's latest DIGEST, and their generations there (R490). -/
  partnerLive : List Nat := []
  partnerGens : Map Nat := []
  /-- Streams whose held chunks are released at the next boundary (R493). -/
  unheld   : List Nat := []
  /-- Course whose DIGEST was last sent. -/
  digestAt : Option Nat := none
  /-- Shadows of the partner's streams, and images coming in by stream (R498). -/
  shadows  : Map Bytes := []
  incoming : Map Incoming := []
  /-- Streams being re-synchronised here, and states the partner or a sync asks for (R493, R503). -/
  resyncs  : List Resync := []
  asked    : List Resync := []
  /-- Step of a leave, and the streams to push (R500). -/
  leaving  : Nat := 0
  toPush   : List Nat := []
  /-- Course boundaries since LEFT (R501). -/
  leftFor  : Nat := 0
  /-- Nonce of the JOIN sent, the partner's, the tag and bytes of the sequence coming in (R502, R529). -/
  joinNonce : Bytes := []
  theirNonce : Bytes := []
  joinTag  : Nat := 0
  joinData : Bytes := []
deriving DecidableEq, Repr

/-- Retraining of one memory die (R456-R459). -/
structure DieRun where
  /-- Frame count and temperature at the last training. -/
  trainedAt : Nat := 0
  temp      : Int := 0
  /-- Order in which it became due. -/
  due       : Option Nat := none
  /-- Boundary at which its window began, while it lasts. -/
  window    : Option Nat := none
  /-- It belongs to the round in progress. -/
  inRound   : Bool := false
  /-- CRC retries in the present course. -/
  retries   : Nat := 0
deriving DecidableEq, Repr

/-- Retraining of the memory dies: the dies, the number of the next to become due, a round in progress, and whether one of
its dies has failed (R459). -/
structure Retrain where
  dies   : Map DieRun := []
  order  : Nat := 0
  round  : Bool := false
  failed : Bool := false
deriving DecidableEq, Repr

/-- The root of trust beside its objects (R517-R531). -/
structure Root where
  /-- Fused hash of the vendor key, and of the customer key once fused. -/
  vendorKey : Nat := 0
  customer  : Option Nat := none
  /-- The fuses as first read, with what was burned since: no reset changes them (R508, R521, R523, R525). -/
  fuses     : Option Fuses := none
  /-- First 4,096 bytes of the running image. -/
  running   : Bytes := []
  /-- Image of an update in progress, and the session that wrote it. -/
  update    : Option Bytes := none
  /-- Top leaf that signed, or is to sign, this boot's bottom tree (R525). -/
  topIndex  : Option Nat := none
deriving DecidableEq, Repr

/-- A persistence record: values of objects, and the SHA-256 digest written with them (R67). -/
structure StoredRecord where
  values : Map Nat
  digest : Nat
deriving DecidableEq, Repr

/-- One copy of the defect log in the flash (R544): the fields of its header, and its entries as unit, TEST_CODE and BOOT_INDEX. -/
structure LogCopy where
  magic   : Nat := 0
  count   : Nat := 0
  seq     : Nat := 0
  digest  : Nat := 0
  entries : List (Unit' × Nat × Nat) := []
deriving DecidableEq, Repr

/-- The boot flash (R517): firmware slots, CONTROL, the persistence record, the store in progress with the session that
asked for it, the defect log. -/
structure Flash where
  /-- What an update wrote into slot A and slot B (R522); none where another agent wrote the slot last, or a reset cut an update short. -/
  slotA   : Option SlotImage := none
  slotB   : Option SlotImage := none
  /-- The persistence record (R66-R68). -/
  record  : Option StoredRecord := none
  storing : Option (Nat × Map Nat) := none
  /-- Successful stores over the life of the flash (R80). -/
  stores  : Nat := 0
  /-- The slot CONTROL names (R517). -/
  control : Nat := 0
  /-- The defect log in use (R544): SEQ, and its entries as unit, TEST_CODE and BOOT_INDEX. -/
  logSeq  : Nat := 0
  log     : List (Unit' × Nat × Nat) := []
  /-- The two copies of the DEFECTS region. -/
  copy0   : LogCopy := {}
  copy1   : LogCopy := {}
deriving DecidableEq, Repr

/-- Reset, straps and bring-up beside the objects (R532-R549, R560-R570). -/
structure Boot where
  /-- RESET_N, PWR_OK or a trip holds the device in reset. -/
  held    : Bool := false
  /-- RESET_N was released while a sensor read above 100.0 °C (R570). -/
  hot     : Bool := false
  /-- THERM_TRIP_N is low. -/
  tripped : Bool := false
  /-- Latest reading of the hottest sensor, in 0.1 °C. -/
  hottest : Int := 0
  /-- CXLW_SPLIT and CXLE_SPLIT. -/
  cxlw    : Nat := 0
  cxle    : Nat := 0
  /-- BOOT_SRC is high; no slot has passed since it was last high. -/
  src     : Bool := false
  stuck   : Bool := false
  /-- Units the fuse map marks bad. -/
  fuseBad : List Unit' := []
  /-- Die-to-die links out of service for this boot (R536, R549). -/
  linksDown : List Nat := []
  /-- Instruction of the TAP. -/
  tap     : TapInstr := .idcode
deriving DecidableEq, Repr


/-- The whole block. -/
structure State where
  /-- Commands waiting, first in first out. -/
  pending  : List Instr := []
  /-- Draws made so far from the opaque constants of Config: the model's own field. -/
  free     : Nat := 0
  /-- Values of dictionary objects, by 256 × index + subindex; an unlisted object holds the value set at reset. -/
  dict     : Map Nat := []
  /-- Values set at reset where they differ from the table's default (R66, R88). -/
  rst      : Map Nat := []
  sessions : Map Session := []
  clk      : Clock := {}
  rings    : Map Ring := []
  streams  : Map Stream := []
  /-- Page requests outstanding, and whether PRI is withheld after a Response Failure (R126). -/
  requests : List PageRequest := []
  priHeld  : Bool := false
  priNext  : Nat := 0
  /-- Order of waiting, for WAKEs and mover contexts. -/
  waitNext : Nat := 0
  loads    : List Load := []
  plans    : Map Plan := []
  tables   : Map Table := []
  curves   : Map Bytes := []
  bricks   : Map Brick := []
  /-- Joints in use by 64 × tile + joint. -/
  joints   : Map Joint := []
  colls    : Map Collector := []
  hostMem  : Memory := []
  /-- Subsystem Vendor ID and Subsystem ID of the configuration header, as of reset (R3, R117). -/
  subsys   : Nat × Nat := (0x1F4B, 0x6084)
  /-- Receive queue of the management port, oldest first, 32 datagrams at most (R99). -/
  rx       : List Datagram := []
  devMem   : Memory := []
  /-- The tile buffers: byte `a` of tile t's at t × 8 MiB + `a` (R19, R159). -/
  tbuf     : Memory := []
  /-- Poisoned 64-byte lines of device memory and of the tile buffers, as ranges of whole lines: address and byte count. -/
  poison   : List (Nat × Nat) := []
  tbufPoison : List (Nat × Nat) := []
  retrain  : Retrain := {}
  sent     : List Sent := []
  /-- The PCIe link is up and the function in D0 (R119). -/
  host     : Bool := false
  /-- MISSED_DEADLINE entries written since the previous status block, and SEQ of the block written last since
  `STATUS_ENABLE` became 1 (R150). -/
  missed   : Nat := 0
  statusSeq : Nat := 0
  /-- A leave has stopped the fetching of every ring (R500). -/
  stopFetch : Bool := false
  /-- Streams whose tokens are still to enter the batch at the first group, by plan slot (R223). -/
  rows     : Map (List Nat) := []
  /-- Gather batches in flight by number, and the next number. -/
  batches  : Map Batch := []
  batchNext : Nat := 0
  /-- Rows a stack's cache holds, as table slot and row, most recently used first (R258-R260). -/
  rowCache : Map (List (Nat × Nat)) := []
  sched    : Sched := {}
  members  : List Member := []
  /-- Produced frames of streams for lane output that wait for joint space, oldest first. -/
  produced : Map (List Produced) := []
  lanes    : Map LaneRun := []
  groups   : Map GroupRun := []
  pair     : PairRun := {}
  root     : Root := {}
  flash    : Flash := {}
  boot     : Boot := {}
deriving DecidableEq, Repr

/-- The machine right after reset: bring-up phase 0, every object at its default, nothing queued (R66, R532). Values the
manual leaves open are named in the assumption log. The two entries are STATE and TOTAL of the bring-up record (R533). -/
def State.reset : State := { dict := [(0x500001, 1), (0x500004, 10000)] }


end Sys2Proof.Machine
end

