-- ==== Sys2Proof/Machine/Float.lean ====
section
/-! DEFINITION. Floating-point values and their exact arithmetic: the formats of R168-R170, rounding to nearest even,
canonical NaNs (R171), the vector unit's and the bricks' operations (R184, R319), exact chunk sums (R178). -/

namespace Sys2Proof.Machine

/-- A decoded float: NaN, infinity, or (−1)^s × m × 2^e. -/
inductive Fv where
  | nan
  | inf (s : Bool)
  | fin (s : Bool) (m : Nat) (e : Int)
deriving DecidableEq, Repr

/-- Parameters of a float format (R169): mantissa bits, bias, exponent bits, whether the top exponent holds infinities
and NaNs. -/
structure FloatFmt where
  ebits : Nat
  mbits : Nat
  bias  : Nat
  ieee  : Bool
  /-- Code of the largest finite magnitude. -/
  top   : Nat
  /-- Canonical NaN; 0 where the format has none (R171). -/
  nan   : Nat
deriving DecidableEq, Repr

/-- FP32 (R169). -/
def fmt32 : FloatFmt := ⟨8, 23, 127, true, 0x7F7FFFFF, 0x7FC00000⟩
/-- BF16 (R169). -/
def fmtBf16 : FloatFmt := ⟨8, 7, 127, true, 0x7F7F, 0x7FC0⟩
/-- FP16 (R169). -/
def fmtFp16 : FloatFmt := ⟨5, 10, 15, true, 0x7BFF, 0x7E00⟩
/-- E4M3 (R169). -/
def fmtE4m3 : FloatFmt := ⟨4, 3, 7, false, 0x7E, 0x7F⟩
/-- E5M2 (R169). -/
def fmtE5m2 : FloatFmt := ⟨5, 2, 15, true, 0x7B, 0x7F⟩
/-- E2M1 (R169). -/
def fmtE2m1 : FloatFmt := ⟨2, 1, 1, false, 0x7, 0⟩

/-- Exponent of the smallest subnormal of a format. -/
def FloatFmt.emin (f : FloatFmt) : Int := 1 - (f.bias : Int) - f.mbits

/-- The value of a code (R170). -/
def FloatFmt.decode (f : FloatFmt) (code : Nat) : Fv :=
  let m := code % 2 ^ f.mbits
  let ex := code / 2 ^ f.mbits % 2 ^ f.ebits
  let s := bit code (f.mbits + f.ebits)
  if f.ieee && ex == 2 ^ f.ebits - 1 then (if m == 0 then .inf s else .nan)
  else if !f.ieee && f.nan != 0 && code % 2 ^ (f.mbits + f.ebits) == f.nan then .nan
  else if ex == 0 then .fin s m f.emin
  else .fin s (2 ^ f.mbits + m) (f.emin + (ex : Int) - 1)

/-- Number of bits of a natural number. -/
def bitLen (n : Nat) : Nat := if n = 0 then 0 else Nat.log2 n + 1

/-- Round m × 2^e, with a sticky bit below it, to `p` significant bits no finer than 2^emin, to nearest even: the
integer significand and its exponent, with an unbounded exponent range above. -/
def roundRne (p : Nat) (emin : Int) (m : Nat) (e : Int) (sticky : Bool) : Nat × Int :=
  let q := max (e + bitLen m - p) emin
  if q ≤ e then (m * 2 ^ (e - q).toNat, q)
  else
    let sh := (q - e).toNat
    let hi := m / 2 ^ sh
    let rem := m % 2 ^ sh
    let half := 2 ^ (sh - 1)
    if rem > half || (rem == half && (sticky || hi % 2 == 1)) then (hi + 1, q) else (hi, q)

/-- The magnitude code of a significand at an exponent, both as `roundRne` gives them; none beyond the format. -/
def FloatFmt.pack (f : FloatFmt) (k : Nat) (q : Int) : Option Nat :=
  let kq := if k ≥ 2 ^ (f.mbits + 1) then (k / 2, q + 1) else (k, q)
  if kq.1 < 2 ^ f.mbits then some kq.1
  else
    let ex := (kq.2 - f.emin + 1).toNat
    let code := ex * 2 ^ f.mbits + (kq.1 - 2 ^ f.mbits)
    if ex ≥ 2 ^ f.ebits || code > f.top then none else some code

/-- The sign bit of a format. -/
def FloatFmt.signBit (f : FloatFmt) : Nat := 2 ^ (f.mbits + f.ebits)

/-- Round a signed magnitude to FP32; beyond the range, an infinity. -/
def round32 (s : Bool) (m : Nat) (e : Int) (sticky : Bool) : F32 :=
  let r := roundRne 24 fmt32.emin m e sticky
  let sg := if s then 0x80000000 else 0
  match fmt32.pack r.1 r.2 with
  | some c => BitVec.ofNat 32 (c + sg)
  | none => BitVec.ofNat 32 (0x7F800000 + sg)

/-- The canonical FP32 NaN (R171). -/
def nan32 : F32 := 0x7FC00000#32

/-- Decode FP32. -/
def f32v (x : F32) : Fv := fmt32.decode x.toNat

/-- Encode a decoded value, rounding once. -/
def ofFv : Fv → F32
  | .nan => nan32
  | .inf s => if s then 0xFF800000#32 else 0x7F800000#32
  | .fin s m e => round32 s m e false

/-- A signed integer times a power of two, rounded once; an exact zero takes the sign given. -/
def ofInt32 (i : Int) (e : Int) (zeroSign : Bool) : F32 :=
  if i = 0 then (if zeroSign then 0x80000000#32 else 0#32)
  else round32 (decide (i < 0)) i.natAbs e false

/-- Whether an FP32 value is a NaN. -/
def isNan (x : F32) : Bool := match f32v x with | .nan => true | _ => false

/-- The integer significand with its sign at exponent `e`, for e at most the value's own. -/
def signedAt (s : Bool) (m : Nat) (me e : Int) : Int :=
  let v : Int := (m * 2 ^ (me - e).toNat : Nat)
  if s then -v else v

/-- Exact sum of two decoded values. -/
def fvAdd (a b : Fv) : F32 :=
  match a, b with
  | .nan, _ => nan32
  | _, .nan => nan32
  | .inf s, .inf t => if s = t then ofFv (.inf s) else nan32
  | .inf s, .fin _ _ _ => ofFv (.inf s)
  | .fin _ _ _, .inf t => ofFv (.inf t)
  | .fin s m e, .fin t n f =>
    let g := min e f
    ofInt32 (signedAt s m e g + signedAt t n f g) g (s && t && m == 0 && n == 0)

/-- Negation of a decoded value. -/
def Fv.neg : Fv → Fv
  | .nan => .nan
  | .inf s => .inf (!s)
  | .fin s m e => .fin (!s) m e

/-- Exact product of two decoded values. -/
def fvMul : Fv → Fv → Fv
  | .nan, _ => .nan
  | _, .nan => .nan
  | .inf s, .inf t => .inf (s != t)
  | .inf s, .fin t n _ => if n = 0 then .nan else .inf (s != t)
  | .fin s m _, .inf t => if m = 0 then .nan else .inf (s != t)
  | .fin s m e, .fin t n f => .fin (s != t) (m * n) (e + f)

/-- FP32 addition (R184). -/
def fadd (a b : F32) : F32 := fvAdd (f32v a) (f32v b)
/-- FP32 subtraction (R184). -/
def fsub (a b : F32) : F32 := fvAdd (f32v a) (f32v b).neg
/-- FP32 multiplication (R184). -/
def fmul (a b : F32) : F32 := ofFv (fvMul (f32v a) (f32v b))
/-- FP32 fused multiply-add a × b + c, rounded once (R184). -/
def ffma (a b c : F32) : F32 := fvAdd (fvMul (f32v a) (f32v b)) (f32v c)

/-- FP32 division, correctly rounded (R184, R319). -/
def fdiv (a b : F32) : F32 :=
  match f32v a, f32v b with
  | .nan, _ => nan32
  | _, .nan => nan32
  | .inf _, .inf _ => nan32
  | .inf s, .fin t _ _ => ofFv (.inf (s != t))
  | .fin s _ _, .inf t => ofInt32 0 0 (s != t)
  | .fin s m e, .fin t n f =>
    if n = 0 then (if m = 0 then nan32 else ofFv (.inf (s != t)))
    else if m = 0 then ofInt32 0 0 (s != t)
    else
      let sh := 27 + bitLen n
      let q := m * 2 ^ sh / n
      round32 (s != t) q (e - f - sh) (m * 2 ^ sh % n != 0)

/-- Integer square root, one bit at a time from bit `n`. -/
def isqrtAux : Nat → Nat → Nat → Nat
  | 0, _, r => r
  | n + 1, x, r => isqrtAux n x (if (r + 2 ^ n) * (r + 2 ^ n) ≤ x then r + 2 ^ n else r)

/-- ⌊√x⌋. -/
def isqrt (x : Nat) : Nat := isqrtAux (bitLen x / 2 + 1) x 0

/-- FP32 square root, correctly rounded; of a negative number, NaN; of −0, −0. -/
def fsqrt (a : F32) : F32 :=
  match f32v a with
  | .nan => nan32
  | .inf s => if s then nan32 else ofFv (.inf false)
  | .fin s m e =>
    if m = 0 then ofInt32 0 0 s
    else if s then nan32
    else
      let odd : Nat := (e % 2).toNat
      let x := m * 2 ^ (54 + odd)
      let r := isqrt x
      round32 false r ((e - odd - 54) / 2) (r * r != x)

/-- FP32 reciprocal, correctly rounded (R184). -/
def frecip (a : F32) : F32 := fdiv 0x3F800000#32 a

/-- FP32 reciprocal square root, correctly rounded (R184): of a zero, an infinity of its sign. -/
def frsqrt (a : F32) : F32 :=
  match f32v a with
  | .nan => nan32
  | .inf s => if s then nan32 else 0#32
  | .fin s m e =>
    if m = 0 then ofFv (.inf s)
    else if s then nan32
    else
      let odd : Nat := (e % 2).toNat
      let x := m * 2 ^ odd
      let big := 2 ^ 110
      let r := isqrt (big / x)
      round32 false r (-((e - odd) / 2) - 55) (r * r * x != big)

/-- Order of two non-NaN values: whether the first is below the second; equal zeros compare equal. -/
def fvLt (a b : Fv) : Bool :=
  match a, b with
  | .nan, _ => false
  | _, .nan => false
  | .inf s, .inf t => s && !t
  | .inf s, .fin _ _ _ => s
  | .fin _ _ _, .inf t => !t
  | .fin s m e, .fin t n f =>
    let g := min e f
    decide (signedAt s m e g < signedAt t n f g)

/-- FP32 less-than; NaN compares false (R331). -/
def flt (a b : F32) : Bool := fvLt (f32v a) (f32v b)
/-- FP32 equality; NaN compares false (R331). -/
def feq (a b : F32) : Bool := !isNan a && !isNan b && !flt a b && !flt b a
/-- FP32 minimum: NaN if either operand is NaN; −0 below +0 (R331). -/
def fmin (a b : F32) : F32 :=
  if isNan a || isNan b then nan32
  else if flt a b then a else if flt b a then b else if a.getLsbD 31 then a else b
/-- FP32 maximum: NaN if either operand is NaN; −0 below +0 (R331). -/
def fmax (a b : F32) : F32 :=
  if isNan a || isNan b then nan32
  else if flt a b then b else if flt b a then a else if a.getLsbD 31 then b else a

/-- Floor of an FP32 value, exact (R331). -/
def ffloor (a : F32) : F32 :=
  match f32v a with
  | .nan => nan32
  | .inf s => ofFv (.inf s)
  | .fin s m e =>
    if 0 ≤ e then a
    else
      let d := 2 ^ (-e).toNat
      let q : Int := if s then -(((m + d - 1) / d : Nat) : Int) else ((m / d : Nat) : Int)
      ofInt32 q 0 s

/-- A decoded finite value rounded to an integer, ties to even. -/
def roundInt (s : Bool) (m : Nat) (e : Int) : Int :=
  let v : Nat :=
    if 0 ≤ e then m * 2 ^ e.toNat
    else
      let sh := (-e).toNat
      let hi := m / 2 ^ sh
      let rem := m % 2 ^ sh
      let half := 2 ^ (sh - 1)
      if rem > half || (rem == half && hi % 2 == 1) then hi + 1 else hi
  if s then -(v : Int) else v

/-- FP32 to INT32: nearest even, saturating, NaN to 0 (R319). -/
def f32ToInt (a : F32) : BitVec 32 :=
  match f32v a with
  | .nan => 0
  | .inf s => if s then 0x80000000#32 else 0x7FFFFFFF#32
  | .fin s m e => BitVec.ofInt 32 (clampSigned 32 (roundInt s m e))

/-- INT32 to FP32, nearest even (R174, R331). -/
def intToF32 (i : Int) : F32 := ofInt32 i 0 false

/-- Bits of an FP32 magnitude read as a number, for exact maxima of magnitudes. -/
def f32Abs (a : F32) : F32 := a &&& 0x7FFFFFFF#32

/-- Whether an FP32 value is finite. -/
def isFinite (a : F32) : Bool := match f32v a with | .fin _ _ _ => true | _ => false

/-! ### Exact sums (R178, R338) -/

/-- Add a decoded value, of exponent at least −298, to an exact sum. -/
def XSum.add (x : XSum) : Fv → XSum
  | .nan => { x with nan := true }
  | .inf false => { x with pos := true }
  | .inf true => { x with neg := true }
  | .fin s m e => { x with val := x.val + signedAt s m e (-298) }

/-- The exact sum rounded once to FP32 (R178): +0 for an exact zero, an infinity beyond the range. -/
def XSum.round (x : XSum) : F32 :=
  if x.nan || (x.pos && x.neg) then nan32
  else if x.pos then ofFv (.inf false)
  else if x.neg then ofFv (.inf true)
  else ofInt32 x.val (-298) false

/-- One level of the combining tree (R178). -/
def pairUp : List F32 → List F32
  | a :: b :: r => fadd a b :: pairUp r
  | r => r

/-- 1 for a NaN result of operands none of which is a NaN (R171). -/
def nanNew (r : F32) (operands : List F32) : Nat := if isNan r && !operands.any isNan then 1 else 0

/-- NaNs one level of the combining tree brings forth. -/
def pairNans : List F32 → Nat
  | a :: b :: r => nanNew (fadd a b) [a, b] + pairNans r
  | _ => 0

/-- NaNs the combining tree brings forth; `fuel` bounds the levels. -/
def combineNansAux : Nat → List F32 → Nat
  | 0, _ => 0
  | f + 1, xs => if xs.length ≤ 1 then 0 else pairNans xs + combineNansAux f (pairUp xs)

/-- NaNs the combining tree brings forth (R171). -/
def combineNans (xs : List F32) : Nat := combineNansAux xs.length xs

/-- The combining tree over chunk sums (R178); `fuel` bounds the levels. -/
def combineAux : Nat → List F32 → F32
  | _, [] => 0#32
  | _, [x] => x
  | 0, x :: _ => x
  | f + 1, xs => combineAux f (pairUp xs)

/-- The combining tree over chunk sums (R178). -/
def combine (xs : List F32) : F32 := combineAux xs.length xs

/-- The exact sum of one chunk of products, rounded once. -/
def chunkSum (ps : List Fv) : F32 := (ps.foldl XSum.add {}).round

/-- NaNs a chunk of products of pairs of operands brings forth: products of a zero and an infinity, or infinities of both signs
(R171). -/
def chunkNans (ps : List (Fv × Fv)) : Nat :=
  let made := (ps.filter (fun p => fvMul p.1 p.2 == .nan && p.1 != .nan && p.2 != .nan)).length
  made + b2n (isNan (chunkSum (ps.map (fun p => fvMul p.1 p.2))) && !ps.any (fun p => fvMul p.1 p.2 == .nan))

/-- A reduction of products of pairs of operands in order, with the NaNs it brings forth (R171, R178). -/
def reducePairs (ps : List (Fv × Fv)) : F32 × Nat :=
  let cs := chunks 256 ps
  let sums := cs.map (fun c => chunkSum (c.map (fun p => fvMul p.1 p.2)))
  (combine sums, sumN (cs.map chunkNans) + combineNans sums)

/-- The sum of FP32 values, with the NaNs it brings forth (R171, R185). -/
def sumPairs (xs : List F32) : F32 × Nat := reducePairs (xs.map (fun x => (f32v x, .fin false 1 0)))

/-- A reduction of products in order (R178, R185). -/
def reduce (ps : List Fv) : F32 :=
  if ps.isEmpty then 0#32 else combine ((chunks 256 ps).map chunkSum)

/-- Dot product of two lists of decoded operands (R178). -/
def dotFv (as bs : List Fv) : F32 := reduce (List.zipWith fvMul as bs)

/-- Sum of FP32 values under R178 and R185. -/
def sumF32 (xs : List F32) : F32 := reduce (xs.map f32v)

/-- Exact maximum of FP32 values, NaN if any is NaN (R184, R335). -/
def maxF32 : List F32 → F32
  | [] => 0#32
  | [x] => if isNan x then nan32 else x
  | x :: xs => fmax x (maxF32 xs)

end Sys2Proof.Machine
end

