-- ==== Sys2Proof/Machine/Formats.lean ====
section
/-! DEFINITION. The element formats of R168 and narrowing into them: R172-R176, R181-R183, R191-R197, R209. -/

namespace Sys2Proof.Machine

/-- Whether a code stands in the table of R168. -/
def formatKnown (c : Nat) : Bool :=
  decide (1 ≤ c ∧ c ≤ 0x0B) || decide (0x10 ≤ c ∧ c ≤ 0x13) || decide (0x20 ≤ c ∧ c ≤ 0x22)

/-- Whether a format belongs to the integer family (R168). -/
def formatInteger (c : Nat) : Bool := c == 2 || c == 3 || c == 6 || c == 7 || c == 0x0B

/-- Whether a format is a tiled-scale one (R191). -/
def formatTiled (c : Nat) : Bool := c == 0x20 || c == 0x21 || c == 0x22

/-- Whether a format is a microscaling one (R175). -/
def formatMx (c : Nat) : Bool := c == 0x10 || c == 0x11 || c == 0x12 || c == 0x13

/-- Bits per element (R168). -/
def formatBits (c : Nat) : Nat :=
  if c == 1 || c == 2 || c == 3 || c == 0x10 || c == 0x22 then 4
  else if c == 8 || c == 9 then 16
  else if c == 0x0A || c == 0x0B then 32 else 8

/-- The float format of the elements of a code; FP32 for codes without one. -/
def elementFmt (c : Nat) : FloatFmt :=
  if c == 1 || c == 0x10 || c == 0x22 then fmtE2m1
  else if c == 4 || c == 0x11 || c == 0x20 then fmtE4m3
  else if c == 5 || c == 0x12 || c == 0x21 then fmtE5m2
  else if c == 8 then fmtBf16 else if c == 9 then fmtFp16 else fmt32

/-- Least and greatest integer of an integer format (R172). -/
def intRange (c : Nat) : Int × Int :=
  if c == 2 then (-8, 7) else if c == 3 then (0, 15) else if c == 6 || c == 0x13 then (-128, 127)
  else if c == 7 then (0, 255) else (-2147483648, 2147483647)

/-- The integer a code of an integer format stands for (R172). -/
def intValue (c code : Nat) : Int :=
  if c == 3 || c == 7 then ((code % 2 ^ formatBits c : Nat) : Int) else toSigned (formatBits c) code

/-- The decoded value of one element code, without scales; MXINT8 elements carry 2^-6 (R175). -/
def elementValue (c code : Nat) : Fv :=
  if c == 0x13 then
    let i := toSigned 8 code
    .fin (decide (i < 0)) i.natAbs (-6)
  else if formatInteger c then
    let i := intValue c code
    .fin (decide (i < 0)) i.natAbs 0
  else (elementFmt c).decode code

/-- Value of a UE5M3 block scale (R192). -/
def ue5m3 (code : Nat) : Fv :=
  let e := code / 8 % 32
  let m := code % 8
  if e = 0 then .fin false m (-17) else .fin false (8 + m) ((e : Int) - 18)

/-- Value of an E8M0 scale (R170). -/
def e8m0 (code : Nat) : Fv := if code == 255 then .nan else .fin false 1 ((code : Int) - 127)

/-- Counts of two parts of a tensor together. -/
def Counts.add (a b : Counts) : Counts :=
  { elements := a.elements + b.elements, saturated := a.saturated + b.saturated, flushed := a.flushed + b.flushed,
    blocks := a.blocks + b.blocks, clipped := a.clipped + b.clipped, worst := Nat.max a.worst b.worst,
    absmax := if flt a.absmax b.absmax then b.absmax else a.absmax, nans := a.nans + b.nans }

/-- What narrowing one value did. -/
structure Narrow where
  code  : Nat
  clip  : Bool := false
  flush : Bool := false
  nan   : Bool := false
deriving DecidableEq, Repr

/-- How a value rounds: to nearest even, or by the random byte of R209. -/
inductive Mode where
  | rne
  | stoch (byte : Nat)
deriving DecidableEq, Repr

/-- The significand and exponent a magnitude rounds to, under either mode (R181, R209). -/
def roundMode (mode : Mode) (p : Nat) (emin : Int) (m : Nat) (e : Int) : Nat × Int :=
  match mode with
  | .rne => roundRne p emin m e false
  | .stoch r =>
    let q := max (e + bitLen m - p) emin
    if q ≤ e then (m * 2 ^ (e - q).toNat, q)
    else
      let sh := (q - e).toNat
      (m / 2 ^ sh + (if r < m % 2 ^ sh * 256 / 2 ^ sh then 1 else 0), q)

/-- Whether a magnitude exceeds the largest finite value of a float format. -/
def aboveTop (f : FloatFmt) (m : Nat) (e : Int) : Bool := fvLt (f.decode f.top) (.fin false m e)

/-- Narrow an FP32 value into a float format (R181, R183, R209). -/
def narrowFloat (f : FloatFmt) (mode : Mode) (x : F32) : Narrow :=
  match f32v x with
  | .nan => { code := f.nan, nan := true }
  | .inf s => { code := f.top + (if s then f.signBit else 0), clip := true }
  | .fin s m e =>
    let sg := if s then f.signBit else 0
    let beyond := match mode with | .rne => false | .stoch _ => aboveTop f m e
    let r := roundMode mode (f.mbits + 1) f.emin m e
    match (if beyond then none else f.pack r.1 r.2) with
    | none => { code := f.top + sg, clip := true }
    | some c => { code := c + sg, flush := c == 0 && m != 0 }

/-- A magnitude rounded to an integer under either mode. -/
def roundIntMode (mode : Mode) (s : Bool) (m : Nat) (e : Int) : Int :=
  match mode with
  | .rne => roundInt s m e
  | .stoch r =>
    let v : Nat :=
      if 0 ≤ e then m * 2 ^ e.toNat
      else
        let sh := (-e).toNat
        m / 2 ^ sh + (if r < m % 2 ^ sh * 256 / 2 ^ sh then 1 else 0)
    if s then -(v : Int) else v

/-- Narrow an FP32 value into an integer format with a zero point (R181-R183). -/
def narrowInt (lo hi : Int) (n : Nat) (zp : Int) (mode : Mode) (x : F32) : Narrow :=
  match f32v x with
  | .nan =>
    let v := zp
    { code := ofSigned n (max lo (min hi v)), nan := true, clip := decide (v < lo ∨ v > hi) }
  | .inf s => { code := ofSigned n (if s then lo else hi), clip := true }
  | .fin s m e =>
    let r := roundIntMode mode s m e
    let v := r + zp
    let whole (i : Int) : Fv := .fin (decide (i < 0)) i.natAbs 0
    let beyond := match mode with
      | .rne => false
      | .stoch _ => fvLt (whole (hi - zp)) (.fin s m e) || fvLt (.fin s m e) (whole (lo - zp))
    { code := ofSigned n (max lo (min hi v)), clip := decide (v < lo ∨ v > hi) || beyond, flush := r == 0 && m != 0 && !beyond }

/-- Narrow into an unscaled format of R168 with a zero point. -/
def narrowElement (c : Nat) (zp : Int) (mode : Mode) (x : F32) : Narrow :=
  if formatInteger c then
    let r := intRange c
    narrowInt r.1 r.2 (formatBits c) zp mode x
  else narrowFloat (elementFmt c) mode x

/-- Largest finite magnitude of FP32 values (ABSMAX, R197). -/
def absMax (vs : List F32) : F32 :=
  vs.foldl (fun a v => if isFinite v && flt a (f32Abs v) then f32Abs v else a) 0

/-- Largest magnitude ignoring NaNs, infinities counting (R196). -/
def absMaxInf (vs : List F32) : F32 :=
  vs.foldl (fun a v => if !isNan v && flt a (f32Abs v) then f32Abs v else a) 0

/-- Counts of narrowed elements that form no block. -/
def countElements (vs : List F32) (ns : List Narrow) : Counts :=
  { elements := vs.length, saturated := (ns.filter (·.clip)).length, flushed := (ns.filter (·.flush)).length,
    absmax := absMax vs, nans := (ns.filter (·.nan)).length }

/-- Counts of one narrowed block. -/
def countBlock (vs : List F32) (ns : List Narrow) : Counts :=
  let c := countElements vs ns
  { c with blocks := 1, clipped := if c.saturated > 0 then 1 else 0, worst := c.saturated }

/-- The smallest UE5M3 code from `n` on whose value reaches a ÷ (s × m); 0xFF if none (R196). -/
def tiledCodeAux (s m a : Fv) : Nat → Nat → Nat
  | 0, _ => 255
  | f + 1, n => if fvLt (fvMul (fvMul s m) (ue5m3 n)) a then tiledCodeAux s m a f (n + 1) else n

/-- Block scale code of R196 for a non-zero largest magnitude. -/
def tiledCode (s : F32) (m a : Fv) : Nat :=
  match a with
  | .inf _ => 255
  | _ => tiledCodeAux (f32v s) m a 255 1

/-- Largest finite value of a float format. -/
def topValue (f : FloatFmt) : Fv := f.decode f.top

/-- An element of a scaled block: a non-zero value whose code is a zero is a flush, wherever on the way it became one (R181, R197). -/
def Narrow.of (f : FloatFmt) (v : F32) (n : Narrow) : Narrow :=
  { n with flush := n.code % f.signBit == 0 && !isNan v && !feq v 0 && !n.clip }

/-- Narrow one block into a tiled-scale format under a tensor scale (R196): block code, element codes, counts. -/
def narrowTiled (c : Nat) (s : F32) (modes : List Mode) (vs : List F32) : Nat × List Nat × Counts :=
  let f := elementFmt c
  let a := absMaxInf vs
  if feq a 0 then
    let ns := List.zipWith (fun md v => narrowFloat f md v) modes vs
    (0, ns.map (·.code), countBlock vs ns)
  else
    let code := tiledCode s (topValue f) (f32v a)
    let d := fmul s (ofFv (ue5m3 code))
    let ns := List.zipWith (fun md v => (narrowFloat f md (fdiv v d)).of f v) modes vs
    (code, ns.map (·.code), countBlock vs ns)

/-- ⌊log2⌋ of a positive finite FP32 magnitude. -/
def floorLog2 (a : F32) : Int := match f32v a with | .fin _ m e => e + bitLen m - 1 | _ => 128

/-- Exponent of the largest power of two below the largest element (R176). -/
def mxEmax (c : Nat) : Int := if c == 0x10 then 2 else if c == 0x11 then 8 else if c == 0x12 then 15 else 0

/-- Scale code of R176. -/
def mxCode (c : Nat) (vs : List F32) : Nat :=
  let a := absMaxInf vs
  if vs.any isNan then 255
  else if vs.any (fun v => !isFinite v) then 254
  else if feq a 0 then 0
  else (max 0 (min 254 (floorLog2 a - mxEmax c + 127))).toNat

/-- Divide an FP32 value exactly by 2^(code − 127) and narrow the quotient (R176). -/
def mxElement (c code : Nat) (mode : Mode) (v : F32) : Narrow :=
  match f32v v with
  | .nan => { code := 0, nan := true }
  | .inf s =>
    if c == 0x13 then { code := ofSigned 8 (if s then -128 else 127), clip := true }
    else { code := (elementFmt c).top + (if s then (elementFmt c).signBit else 0), clip := true }
  | .fin s m e =>
    let e' := e - ((code : Int) - 127)
    if c == 0x13 then
      let r := roundIntMode mode s m (e' + 6)
      let beyond := match mode with
        | .rne => false
        | .stoch _ => fvLt (.fin false (if s then 128 else 127) 0) (.fin false m (e' + 6))
      { code := ofSigned 8 (max (-128) (min 127 r)), clip := decide (r < -128 ∨ r > 127) || beyond, flush := r == 0 && m != 0 }
    else
      let f := elementFmt c
      let sg := if s then f.signBit else 0
      let beyond := match mode with | .rne => false | .stoch _ => aboveTop f m e'
      let r := roundMode mode (f.mbits + 1) f.emin m e'
      match (if beyond then none else f.pack r.1 r.2) with
      | none => { code := f.top + sg, clip := true }
      | some k => { code := k + sg, flush := k == 0 && m != 0 }

/-- Narrow one block into an MX format (R176). -/
def narrowMx (c : Nat) (modes : List Mode) (vs : List F32) : Nat × List Nat × Counts :=
  let code := mxCode c vs
  if code == 255 then
    (255, vs.map (fun _ => 0),
     { elements := vs.length, blocks := 1, absmax := absMax vs, nans := (vs.filter isNan).length })
  else
    let ns := List.zipWith (fun md v => mxElement c code md v) modes vs
    (code, ns.map (·.code), countBlock vs ns)

/-- A narrowed tensor: block scale codes (empty for unscaled formats), element codes, counts. -/
structure Narrowed where
  scales : List Nat := []
  codes  : List Nat := []
  counts : Counts := {}
deriving DecidableEq, Repr

/-- Whether a format carries one scale for each block of 32 elements (R175, R191). -/
def formatScaled (c : Nat) : Bool := formatTiled c || formatMx c

/-- Narrow one row of a tensor, in blocks of 32 for scaled formats, the last one filled up with zero elements that no count sees
(R175, R191); the mode of each element is given. -/
def narrowRow (c : Nat) (s : F32) (zp : Int) (modes : List Mode) (vs : List F32) : Narrowed :=
  if formatScaled c then
    (List.zip (chunks 32 modes) (chunks 32 vs)).foldl
      (fun (acc : Narrowed) b =>
        let r := if formatTiled c then narrowTiled c s b.1 b.2 else narrowMx c b.1 b.2
        { scales := acc.scales ++ [r.1], codes := acc.codes ++ r.2.1 ++ List.replicate (32 - r.2.1.length) 0
          counts := acc.counts.add r.2.2 }) {}
  else
    let ns := List.zipWith (fun md v => narrowElement c zp md v) modes vs
    { codes := ns.map (·.code), counts := countElements vs ns }

/-- The exact value of an element with its block scale, and without the tensor scale (R175, R191). -/
def scaledValue (c scale code : Nat) : Fv :=
  if formatTiled c then fvMul (elementValue c code) (ue5m3 scale)
  else if formatMx c then fvMul (elementValue c code) (e8m0 scale) else elementValue c code

/-- The value the vector unit or a brick reads from an element of a block (R175, R195). -/
def widen (c scale code : Nat) (s : F32) : F32 :=
  if formatTiled c then fmul (ofFv (scaledValue c scale code)) s else ofFv (scaledValue c scale code)

/-- The next tensor scale of R203 from ABSMAX and the headroom. -/
def retunedScale (c : Nat) (absmax : F32) (h : Nat) (old : F32) : F32 :=
  match f32v absmax, topValue (elementFmt c) with
  | .fin _ m e, .fin _ n f =>
    if m = 0 then old
    else
      -- the least x with absmax ≤ 2^x × top
      let x0 : Int := e + bitLen m - (f + bitLen n)
      let fits (x : Int) : Bool := !fvLt (.fin false n (f + x)) (.fin false m e)
      let x := if fits (x0 - 1) then x0 - 1 else if fits x0 then x0 else x0 + 1
      round32 false 1 (max (-100) (min 100 (x + h))) false
  | _, _ => old

end Sys2Proof.Machine
end

