-- ==== Sys2Proof/Machine/Sha256.lean ====
section
/-! DEFINITION. SHA-256 and HMAC-SHA256, used by R113, R115, R205, R347, R389, R491, R519, R526, R544. The hash value, the eight
working words, the 64-byte block and the schedule are each one number, word 0 in the highest bits, so that a digest is its own
big-endian value. The spec names the function; its constants are those of FIPS 180-4 (PRESUMED, assumption 127). -/

namespace Sys2Proof.Machine

/-- Word `i` of a number of `n` 32-bit words, word 0 highest. -/
def shaWord (n v i : Nat) : Nat := v >>> (32 * (n - 1 - i)) % 2 ^ 32

/-- A 32-bit word rotated to the right by each of the given amounts, the results combined by exclusive or. -/
def shaTurns (amounts : List Nat) (x : Nat) : Nat :=
  amounts.foldl (fun acc r => acc ^^^ (x / 2 ^ r + x % 2 ^ r * 2 ^ (32 - r))) 0

/-- The round constants: the first 32 fractional bits of the cube roots of the first 64 primes, the first in the highest bits. -/
def shaConstants : Nat :=
  [0x428a2f9871374491b5c0fbcfe9b5dba53956c25b59f111f1923f82a4ab1c5ed5,
   0xd807aa9812835b01243185be550c7dc372be5d7480deb1fe9bdc06a7c19bf174,
   0xe49b69c1efbe47860fc19dc6240ca1cc2de92c6f4a7484aa5cb0a9dc76f988da,
   0x983e5152a831c66db00327c8bf597fc7c6e00bf3d5a7914706ca635114292967,
   0x27b70a852e1b21384d2c6dfc53380d13650a7354766a0abb81c2c92e92722c85,
   0xa2bfe8a1a81a664bc24b8b70c76c51a3d192e819d6990624f40e3585106aa070,
   0x19a4c1161e376c082748774c34b0bcb5391c0cb34ed8aa4a5b9cca4f682e6ff3,
   0x748f82ee78a5636f84c878148cc7020890befffaa4506cebbef9a3f7c67178f2].foldl (fun acc x => acc * 2 ^ 256 + x) 0

/-- The initial hash value: the first 32 fractional bits of the square roots of the first 8 primes. -/
def shaStart : Nat := 0x6a09e667bb67ae853c6ef372a54ff53a510e527f9b05688c1f83d9ab5be0cd19

/-- Words a, b, c, d, e, f, g, h after a round whose constant and schedule word add up to `kw`. -/
def shaRound (v kw : Nat) : Nat :=
  let x := shaWord 8 v
  let choice := (x 4 &&& x 5) + ((2 ^ 32 - 1 - x 4) &&& x 6)
  let majority := ((x 0 ||| x 1) &&& x 2) ||| (x 0 &&& x 1)
  let up := x 7 + shaTurns [6, 11, 25] (x 4) + choice + kw
  let top := up + shaTurns [2, 13, 22] (x 0) + majority
  top % 2 ^ 32 * 2 ^ 224 + v / 2 ^ 160 * 2 ^ 128 + (x 3 + up) % 2 ^ 32 * 2 ^ 96 + v / 2 ^ 32 % 2 ^ 96

/-- The schedule one word on: the oldest of the 16 words leaves, the next one comes in. -/
def shaNext (w : Nat) : Nat :=
  let x := shaWord 16 w
  let new := x 0 + (shaTurns [7, 18] (x 1) ^^^ (x 1 / 2 ^ 3)) + x 9 + (shaTurns [17, 19] (x 14) ^^^ (x 14 / 2 ^ 10))
  (w <<< 32) % (1 <<< 512) + new % 2 ^ 32

/-- The last `n` of the 64 rounds. -/
def shaRounds : Nat → Nat → Nat → Nat
  | 0, v, _ => v
  | n + 1, v, w => shaRounds n (shaRound v (shaWord 64 shaConstants (63 - n) + shaWord 16 w 0)) (shaNext w)

/-- The hash value after a block: word by word the sum with what the rounds make of it. -/
def shaBlock (v block : Nat) : Nat :=
  let r := shaRounds 64 v block
  (List.range 8).foldl (fun acc i => acc * 2 ^ 32 + (shaWord 8 v i + shaWord 8 r i) % 2 ^ 32) 0

/-- The message with its padding: a one bit, zeros, and the length in bits. -/
def shaPad (m : Bytes) : Bytes :=
  m ++ 0x80 :: List.replicate ((119 - m.length % 64) % 64) 0 ++ beBytes 8 (8 * m.length)

/-- The digest as a number. -/
def shaNat (m : Bytes) : Nat := (chunks 64 (shaPad m)).foldl (fun v b => shaBlock v (ofBE b)) shaStart

/-- SHA-256 of an octet string: 32 bytes. -/
def sha256 (m : Bytes) : Bytes := beBytes 32 (shaNat m)

/-- HMAC-SHA256 of a message under a key (R113, R115). -/
def hmacSha256 (key msg : Bytes) : Bytes :=
  let k := padTo 64 (if key.length > 64 then sha256 key else key)
  sha256 (k.map (· ^^^ 0x5c) ++ sha256 (k.map (· ^^^ 0x36) ++ msg))

end Sys2Proof.Machine
end

