-- ==== Sys2Proof/Machine/Curve.lean ====
section
/-! DEFINITION. Curve tables (R213-R216), the noise table and its draws (R205-R208), dropout, initialisation and the
sampler (R210-R212). -/

namespace Sys2Proof.Machine

/-- An FP32 field of a curve image. -/
def f32At (bs : Bytes) (off : Nat) : F32 := BitVec.ofNat 32 (field bs off 4)

/-- Offset of the first field of an 800-byte curve image that R214 refuses, if any. -/
def curveFault (img : Bytes) : Option Nat :=
  let mode := field img 0 1
  let e0 := toSigned 32 (field img 8 4)
  if mode > 2 then some 0
  else if field img 1 1 > 3 then some 1
  else if field img 2 1 > 7 then some 2
  else if mode == 2 && field img 2 1 % 4 != 0 then some 2
  else if field img 3 1 != 0 then some 3
  else if mode == 1 && field img 4 4 != 0 then some 4
  else if mode == 2 && (decide (e0 < -126) || decide (e0 > 120)) then some 8
  else if !allZero (slice img 24 8) then some 24
  else none

/-- Segment s of an image at an exact t (R215). -/
def curveSegment (img : Bytes) (s : Nat) (t : Fv) : F32 :=
  let c0 := f32v (f32At img (32 + 12 * s))
  let c1 := f32v (f32At img (36 + 12 * s))
  let c2 := f32v (f32At img (40 + 12 * s))
  fvAdd (fvMul (f32v (fvAdd (fvMul c2 t) c1)) t) c0

/-- Floor of a finite decoded value. -/
def fvFloor (s : Bool) (m : Nat) (e : Int) : Int :=
  if 0 ≤ e then (if s then -((m * 2 ^ e.toNat : Nat) : Int) else ((m * 2 ^ e.toNat : Nat) : Int))
  else
    let d := 2 ^ (-e).toNat
    if s then -(((m + d - 1) / d : Nat) : Int) else ((m / d : Nat) : Int)

/-- A finite decoded value less an integer, exactly. -/
def fvSubInt (s : Bool) (m : Nat) (e : Int) (n : Int) : Fv :=
  let g := min e 0
  let v := signedAt s m e g - n * (2 ^ (-g).toNat : Nat)
  .fin (decide (v < 0)) v.natAbs g

/-- The curve of an image before FLOOR and symmetry, at x′ (R215). -/
def curveCore (img : Bytes) (x : F32) : F32 :=
  let mode := field img 0 1
  let opt := field img 2 1
  let low := f32At img 12
  let high := f32At img 16
  if mode == 0 then
    match f32v (fmul (fsub x (f32At img 4)) (f32At img 8)) with
    | .nan => nan32
    | .inf s =>
      if s then (if bit opt 0 then curveSegment img 0 (.inf true) else low)
      else (if bit opt 1 then curveSegment img 63 (.inf false) else high)
    | .fin s m e =>
      let fl := fvFloor s m e
      if fl < 0 then (if bit opt 0 then curveSegment img 0 (.fin s m e) else low)
      else if fl ≥ 64 then (if bit opt 1 then curveSegment img 63 (fvSubInt s m e 63) else high)
      else curveSegment img fl.toNat (fvSubInt s m e fl)
  else if mode == 1 then
    match f32v (fmul x (f32At img 8)) with
    | .fin s m e =>
      let fl := fvFloor s m e
      curveSegment img (fl % 64).toNat (fvSubInt s m e fl)
    | _ => nan32
  else
    let v := fsub x (f32At img 4)
    let e0 := toSigned 32 (field img 8 4)
    match f32v v with
    | .nan => nan32
    | .inf s => if s then low else high
    | .fin s m e =>
      if s || fvLt (.fin s m e) (.fin false 1 e0) then low
      else
        let seg := 8 * ((v.toNat / 2 ^ 23 : Nat) - 127 - e0) + (v.toNat / 2 ^ 20 % 8 : Nat)
        if seg ≥ 64 then high else curveSegment img seg.toNat (.fin false (v.toNat % 2 ^ 20) (-20))

/-- Evaluate a curve image (R215). -/
def curveEval (img : Bytes) (x : F32) : F32 :=
  if isNan x then nan32
  else
    let sym := field img 1 1
    let r := curveCore img (if sym == 0 then x else f32Abs x)
    let r := if bit (field img 2 1) 2 then ffloor r else r
    if isNan r then nan32
    else if !x.getLsbD 31 then r
    else if sym == 1 then r ^^^ 0x80000000#32
    else if sym == 3 then fsub (f32At img 20) r
    else r

/-- μ-law code magnitude of a magnitude (R216, ITU-T G.711). -/
def muCompress (x : Nat) : Nat :=
  let v := x + 33
  let seg := Nat.log2 v - 5
  if seg ≥ 8 then 127 else 16 * seg + v / 2 ^ (seg + 1) % 16

/-- μ-law magnitude of a code magnitude (R216). -/
def muExpand (c : Nat) : Nat := (2 * (c % 16) + 33) * 2 ^ (c / 16) - 33

/-- A-law code magnitude of a magnitude (R216). -/
def aCompress (x : Nat) : Nat :=
  if x ≥ 4096 then 127
  else if x < 32 then x / 2
  else
    let seg := Nat.log2 x - 4
    16 * seg + x / 2 ^ seg % 16

/-- A-law magnitude of a code magnitude (R216). -/
def aExpand (c : Nat) : Nat :=
  if c < 16 then 2 * c + 1 else (2 * (c % 16) + 33) * 2 ^ (c / 16 - 1)

/-- A natural number with the sign of x, as FP32. -/
def withSign (x : F32) (n : Nat) : F32 := intToF32 n ||| (x &&& 0x80000000#32)

/-- Magnitude of a non-NaN FP32 value as its floor, and whether it is an integer; beyond 2^20 it is cut. -/
def magnitude (x : F32) : Nat × Bool :=
  match f32v (f32Abs x) with
  | .fin _ m e =>
    if 0 ≤ e then (Nat.min (m * 2 ^ e.toNat) (2 ^ 20), true)
    else (Nat.min (m / 2 ^ (-e).toNat) (2 ^ 20), m % 2 ^ (-e).toNat == 0)
  | _ => (2 ^ 20, true)

/-- A segment of a curve image: C0, C1, C2. -/
def segmentBytes (c0 c1 c2 : F32) : Bytes := leBytes 4 c0.toNat ++ leBytes 4 c1.toNat ++ leBytes 4 c2.toNat

/-- The 32 bytes before the segments: MODE, SYMMETRY, OPTIONS, X0, SCALE or E0, LOW_VALUE, HIGH_VALUE, SYM_K (R214). -/
def curveHeader (mode sym options : Nat) (x0 scale low high symK : F32) : Bytes :=
  leBytes 1 mode ++ leBytes 1 sym ++ leBytes 1 options ++ leBytes 1 0 ++ leBytes 4 x0.toNat ++ leBytes 4 scale.toNat ++
  leBytes 4 low.toNat ++ leBytes 4 high.toNat ++ leBytes 4 symK.toNat ++ leBytes 8 0

/-- Segments of the expansion curves, two codes each: exact at every integer code (R216). -/
def expandSegments (f : Nat → Nat) : Bytes :=
  (List.range 64).flatMap (fun i => segmentBytes (intToF32 (f (2 * i))) (intToF32 (2 * (f (2 * i + 1) - f (2 * i)))) 0)

/-- Segments of the μ-law compression curve, two codes each: the slope falls short of 2 by half an ulp of the code where a magnitude just
below the next code would else round up to it. -/
def muSegments : Bytes :=
  (List.range 64).flatMap (fun (i : Nat) =>
    segmentBytes (intToF32 ((2 * i : Nat) : Int)) (if i < 16 then 0x40000000 else if i < 32 then 0x3FFFFFE0 else 0x3FFFFFC0) 0)

/-- The image of a built-in curve, slots 240 to 251 (R216): what the table says of its header, of the curves whose values the manual
gives and of a curve that gives x beyond its domain by extend; the other coefficients are the free image's (assumption 142). -/
def builtinImage (slot : Nat) : Bytes :=
  let free := padTo 800 (Config.builtinCurve slot)
  let segs := slice free 32 768
  let one : F32 := 0x3F800000
  if slot == 240 then curveHeader 0 1 0 0 0x41000000 0 one 0 ++ segs
  else if slot == 241 then curveHeader 0 3 0 0 0x40800000 0 one one ++ segs
  else if slot == 242 then
    curveHeader 0 0 2 0xC1000000 0x40800000 0 0 0 ++ segs.take 756 ++ segmentBytes 0x40F80000 0x3E800000 0
  else if slot == 243 then
    curveHeader 0 0 2 0xC1800000 0x40000000 0 0 0 ++ segs.take 756 ++ segmentBytes 0x41780000 0x3F000000 0
  else if slot == 244 then curveHeader 0 0 0 0xC1800000 0x40800000 0 one 0 ++ segs
  else if slot == 245 then curveHeader 1 0 0 0 0x4122F983 0 0 0 ++ segs
  else if slot == 246 || slot == 247 then curveHeader 0 0 0 0 0x42800000 0 one 0 ++ segs
  else if slot == 248 then curveHeader 2 1 4 0xC2040000 5 0 0x42FE0000 0 ++ muSegments
  else if slot == 249 then curveHeader 0 1 0 0 0x3F000000 0 0x45FAF800 0 ++ expandSegments muExpand
  else if slot == 250 then curveHeader 2 1 4 (f32At free 4) (f32At free 8) 0 0x42FE0000 0 ++ segs
  else curveHeader 0 1 0 0 0x3F000000 0 0x457C0000 0 ++ expandSegments aExpand

/-- A built-in curve (R216): the values the manual fixes, and otherwise its image under R215. -/
def builtinEval (slot : Nat) (x : F32) : F32 :=
  let mg := magnitude x
  if isNan x then nan32
  else if slot == 248 then withSign x (muCompress mg.1)
  else if slot == 250 then withSign x (aCompress mg.1)
  else if slot == 249 && (mg.2 || mg.1 ≥ 128) then withSign x (muExpand (Nat.min mg.1 127))
  else if slot == 251 && (mg.2 || mg.1 ≥ 128) then withSign x (aExpand (Nat.min mg.1 127))
  else if slot == 244 && !flt x 0 then 0x3F800000#32
  else curveEval (builtinImage slot) x

/-- The curve a library slot holds, applied; a slot that holds none gives the canonical NaN (R216, R333). -/
def slotEval (curves : Map Bytes) (slot : Nat) (x : F32) : F32 :=
  if slot ≥ 252 then nan32
  else if slot ≥ 240 then builtinEval slot x
  else match curves.find slot with
    | some img => curveEval img x
    | none => nan32

/-! ### Random bits (R205-R212) -/

/-- "FY6084-NOISE" (R205). -/
def noiseTag : Bytes := ascii ['F', 'Y', '6', '0', '8', '4', '-', 'N', 'O', 'I', 'S', 'E']

/-- Word i of the noise table of a seed (R205). -/
def noiseWord (seed i : Nat) : Nat :=
  field (sha256 (noiseTag ++ leBytes 8 seed ++ leBytes 4 (i / 4))) (8 * (i % 4)) 8

/-- Rotate a 64-bit value left. -/
def rotl64 (v n : Nat) : Nat := (v * 2 ^ (n % 64)) % 2 ^ 64 ||| v / 2 ^ (64 - n % 64)

/-- The draw for group g over a table (R207). -/
def drawOf (t : Nat → Nat) (g : Nat) : Nat :=
  let s := g ^^^ (g / 2 ^ 37)
  rotl64 (t (s % 4096)) (s / 2 ^ 24 % 64) ^^^ rotl64 (t (s / 4096 % 4096)) (s / 2 ^ 30 % 64) ^^^ g ^^^ rotl64 g 32

/-- The draw for group g of a seed's table (R207). -/
def draw (seed g : Nat) : Nat := drawOf (noiseWord seed) (g % 2 ^ 64)

/-- Random byte of a logical index (R207). -/
def randomByte (seed i : Nat) : Nat := draw seed (i % 2 ^ 64 / 8) / 2 ^ (8 * (i % 8)) % 256

/-- u = draw[63:40] × 2^-24 (R211, R212). -/
def unitDraw (d : Nat) : Fv := .fin false (d / 2 ^ 40 % 2 ^ 24) (-24)

/-- Dropout of one element (R210). -/
def dropout (seed p8 i : Nat) (factor v : F32) : F32 :=
  if randomByte seed i < p8 then 0 else fmul v factor

/-- Uniform initialisation of one element by its whole draw (R211): a × (2u − 1 + 2^-24), rounded once. -/
def uniform (d : Nat) (a : F32) : F32 :=
  let k : Int := 2 * ((d / 2 ^ 40 % 2 ^ 24 : Nat) : Int) - 2 ^ 24 + 1
  ofFv (fvMul (f32v a) (.fin (decide (k < 0)) k.natAbs (-24)))

/-- Whether y ranks before z (R212): descending, −∞ below every finite value, NaN below every number. -/
def ranksBefore (y z : F32) : Bool := if isNan y then false else if isNan z then true else flt z y

/-- Insert a candidate after every candidate that ranks at or before it, keeping `k`. -/
def insertRanked (k : Nat) (c : Nat × F32) : List (Nat × F32) → List (Nat × F32)
  | [] => if k = 0 then [] else [c]
  | d :: ds =>
    if ranksBefore c.2 d.2 then (c :: d :: ds).take k
    else d :: insertRanked (k - 1) c ds

/-- The least count from 1 on at which a running exact sum passes a test; the length if none. -/
def prefixCount (test : XSum → Bool) : Nat → XSum → List F32 → Nat
  | n, _, [] => n
  | n, x, w :: ws =>
    let x' := x.add (f32v w)
    if test x' then n + 1 else prefixCount test (n + 1) x' ws

/-- Compare an exact finite sum with an FP32 value: whether the value is at most, or below, the sum. -/
def sumReaches (strict : Bool) (x : XSum) (v : F32) : Bool :=
  match f32v v with
  | .fin s m e =>
    let t := signedAt s m e (-298)
    if strict then decide (t < x.val) else decide (t ≤ x.val)
  | .inf s => s
  | .nan => false

/-- The sampler of R212: the vocabulary index emitted, and whether a kept y or a computed weight is not finite. -/
def sample (exp : F32 → F32) (k : Nat) (invTemp topP : F32) (logits : List F32) (d : Nat) : Nat × Bool :=
  let ys := logits.map (fun z => fmul z invTemp)
  let kept := (List.zip (List.range ys.length) ys).foldl (fun acc c => insertRanked k c acc) []
  let ymax := (kept.head?.map (·.2)).getD nan32
  let one : F32 := 0x3F800000#32
  let posInf : F32 := 0x7F800000#32
  let raw := kept.map (fun c => exp (fsub c.2 ymax))
  let ws :=
    if ymax == posInf then kept.map (fun c => if c.2 == posInf then one else 0)
    else if isNan ymax || ymax == 0xFF800000#32 then
      (List.range kept.length).map (fun i => if i == 0 then one else 0)
    else if raw.any (· == posInf) then raw.map (fun w => if w == posInf then one else 0)
    else raw.map (fun w => if isFinite w then w else 0)
  let odd := kept.any (fun c => !isFinite c.2) ||
    (isFinite ymax && raw.any (fun w => !isFinite w))
  let s := chunkSum (ws.map f32v)
  let thr := fmul topP s
  let m := prefixCount (fun x => sumReaches false x thr) 0 {} ws
  let s2 := chunkSum ((ws.take m).map f32v)
  let target := fmul (ofFv (unitDraw d)) s2
  let j := prefixCount (fun x => sumReaches true x target) 0 {} (ws.take m)
  (((kept[j - 1]?).map (·.1)).getD 0, odd)

end Sys2Proof.Machine
end

