-- ==== Sys2Proof/Machine/ObjTable.lean ====
section
/-! DEFINITION. The object dictionary as data: type, access class, level, default and range of every object the manual
defines (R54-R60, R72 and the object tables of every chapter). -/

namespace Sys2Proof.Machine

/-- Types of R57. -/
inductive Ty where
  | bool8 | u8 | u16 | u32 | u64 | i16 | i32 | i64 | f32 | pos | pct | oct (n : Nat) | domain
deriving DecidableEq, Repr

/-- Access classes of R60. -/
inductive Acc where
  | ro | rw | wo | rws | rwz
deriving DecidableEq, Repr

/-- The object's own range or enumeration, checked when a value is written or staged (R60, R72). -/
inductive Rng where
  | any
  /-- Least and greatest value; signed types compare as signed. -/
  | range (lo hi : Int)
  /-- A range, or one further value. -/
  | rangeOr (lo hi other : Int)
  /-- From a least value to the value of a fixed object. -/
  | upTo (lo : Int) (key : Nat)
  /-- The defined codes. -/
  | enum (codes : List Nat)
deriving DecidableEq, Repr

/-- One row of an object table; `n` consecutive subindices from `sub`. Level 3 is no level. -/
structure ObjRow where
  sub  : Nat
  n    : Nat
  ty   : Ty
  acc  : Acc
  lvl  : Nat
  dflt : Nat
  rng  : Rng
deriving DecidableEq, Repr

/-- Type code (R57). -/
def Ty.code : Ty → Nat
  | .bool8 => 1 | .u8 => 2 | .u16 => 3 | .u32 => 4 | .u64 => 5 | .i16 => 6 | .i32 => 7 | .i64 => 8 | .f32 => 9
  | .pos => 0x0A | .pct => 0x0B | .oct _ => 0x0C | .domain => 0x0D

/-- Size in bytes (R57); 0 for DOMAIN. -/
def Ty.size : Ty → Nat
  | .bool8 => 1 | .u8 => 1 | .u16 => 2 | .u32 => 4 | .u64 => 8 | .i16 => 2 | .i32 => 4 | .i64 => 8 | .f32 => 4
  | .pos => 8 | .pct => 2 | .oct n => n | .domain => 0

/-- Access class code (R60). -/
def Acc.code : Acc → Nat
  | .ro => 0 | .rw => 1 | .wo => 2 | .rws => 3 | .rwz => 4

/-- Objects at 0x1000 (R2). -/
def rows1000 : List ObjRow :=
  [⟨0x00, 1, .u8, .ro, 3, 0x07, .any⟩,
   ⟨0x01, 1, .u32, .ro, 3, 0x6084, .any⟩,
   ⟨0x02, 1, .u8, .ro, 3, 1, .any⟩,
   ⟨0x03, 1, .u16, .ro, 3, 1250, .any⟩,
   ⟨0x04, 1, .u16, .ro, 3, 2600, .any⟩,
   ⟨0x05, 1, .u8, .ro, 3, 1, .any⟩,
   ⟨0x06, 1, .u16, .rw, 0, 0x1F4B, .any⟩,
   ⟨0x07, 1, .u16, .rw, 0, 0x6084, .any⟩]

/-- Objects at 0x1001 (R18). -/
def rows1001 : List ObjRow :=
  [⟨0x00, 1, .u8, .ro, 3, 0x07, .any⟩,
   ⟨0x01, 1, .u8, .ro, 3, 96, .any⟩,
   ⟨0x02, 1, .u16, .ro, 3, 3072, .any⟩,
   ⟨0x03, 1, .u8, .ro, 3, 6, .any⟩,
   ⟨0x04, 1, .u8, .ro, 3, 84, .any⟩,
   ⟨0x05, 1, .u64, .ro, 3, 0x300000000, .any⟩,
   ⟨0x06, 1, .oct 12, .ro, 3, (2 ^ 96 - 1), .any⟩,
   ⟨0x07, 1, .bool8, .ro, 3, 0, .any⟩]

/-- Objects at 0x2000 (R32). -/
def rows2000 : List ObjRow :=
  [⟨0x00, 1, .u8, .ro, 3, 0x18, .any⟩,
   ⟨0x01, 1, .u32, .ro, 3, 0, .any⟩,
   ⟨0x02, 1, .i32, .ro, 3, 0, .any⟩,
   ⟨0x03, 1, .u8, .ro, 3, 0, .any⟩,
   ⟨0x04, 1, .pos, .ro, 3, 0, .any⟩,
   ⟨0x05, 1, .u8, .rws, 1, 8, .range 4 12⟩,
   ⟨0x06, 1, .u64, .ro, 3, 0, .any⟩,
   ⟨0x07, 1, .u8, .ro, 3, 0, .any⟩,
   ⟨0x08, 1, .u8, .ro, 3, 0x00, .any⟩,
   ⟨0x09, 1, .u8, .rws, 1, 0, .enum [0, 1, 2, 3, 4]⟩,
   ⟨0x0A, 1, .u32, .rws, 1, 0, .any⟩,
   ⟨0x0B, 1, .pos, .rws, 1, 0, .any⟩,
   ⟨0x0C, 1, .u8, .rws, 1, 0, .enum [0, 1]⟩,
   ⟨0x0D, 1, .u8, .rws, 1, 0, .range 0 1⟩,
   ⟨0x0E, 1, .pos, .rws, 1, 0, .any⟩,
   ⟨0x0F, 1, .u32, .ro, 3, 0, .any⟩,
   ⟨0x10, 1, .pos, .wo, 2, 0, .any⟩,
   ⟨0x11, 1, .i32, .ro, 3, 0, .any⟩,
   ⟨0x12, 1, .u8, .wo, 1, 0, .range 1 1⟩,
   ⟨0x13, 1, .u32, .rwz, 1, 0, .any⟩] ++
  [⟨0x14, 1, .u32, .ro, 3, 0, .any⟩,
   ⟨0x15, 1, .u32, .rwz, 1, 0, .any⟩,
   ⟨0x16, 1, .u32, .rwz, 1, 0, .any⟩,
   ⟨0x17, 1, .u32, .rwz, 1, 0, .any⟩,
   ⟨0x18, 1, .u32, .rwz, 1, 0, .any⟩]

/-- Objects at 0x00cc (R58). -/
def rows0001 : List ObjRow :=
  [⟨0x00, 1, .u8, .ro, 3, 0x02, .any⟩,
   ⟨0x01, 1, .u32, .ro, 3, 0, .any⟩,
   ⟨0x02, 1, .oct 8, .ro, 3, 0, .any⟩]

/-- Objects at 0x2001 (R80). -/
def rows2001 : List ObjRow :=
  [⟨0x00, 1, .u8, .ro, 3, 0x0D, .any⟩,
   ⟨0x01, 1, .u8, .ro, 3, 0, .any⟩,
   ⟨0x02, 1, .u8, .ro, 3, 0, .any⟩,
   ⟨0x03, 1, .u16, .ro, 3, 0, .any⟩,
   ⟨0x04, 1, .pos, .ro, 3, 0, .any⟩,
   ⟨0x05, 1, .u32, .ro, 3, 0, .any⟩,
   ⟨0x06, 1, .u32, .ro, 3, 0, .any⟩,
   ⟨0x07, 1, .u32, .ro, 3, 0, .any⟩,
   ⟨0x08, 1, .pos, .ro, 3, 0, .any⟩,
   ⟨0x09, 1, .u8, .wo, 2, 0, .range 1 1⟩,
   ⟨0x0A, 1, .u8, .wo, 2, 0, .range 1 1⟩,
   ⟨0x0B, 1, .u8, .wo, 1, 0, .range 1 1⟩,
   ⟨0x0C, 1, .u8, .ro, 3, 0, .any⟩,
   ⟨0x0D, 1, .u32, .ro, 3, 0, .any⟩]

/-- Objects at 0x1200 (R100). -/
def rows1200 : List ObjRow :=
  [⟨0x00, 1, .u8, .ro, 3, 0x12, .any⟩,
   ⟨0x01, 1, .u8, .ro, 3, 0, .any⟩,
   ⟨0x02, 1, .oct 6, .ro, 3, 0x008460504D02, .any⟩,
   ⟨0x03, 1, .u32, .rws, 1, 0x6460FEA9, .any⟩,
   ⟨0x04, 1, .u32, .rws, 1, 0x0000FFFF, .any⟩,
   ⟨0x05, 1, .u16, .rws, 1, 24708, .range 1 65535⟩,
   ⟨0x06, 1, .u8, .rws, 1, 8, .range 2 32⟩,
   ⟨0x07, 1, .u8, .ro, 3, 1, .any⟩,
   ⟨0x08, 1, .oct 32, .wo, 0, 0, .any⟩,
   ⟨0x09, 1, .oct 32, .wo, 1, 0, .any⟩,
   ⟨0x0A, 1, .u8, .ro, 3, 0x00, .any⟩,
   ⟨0x0B, 1, .bool8, .rw, 0, 1, .any⟩,
   ⟨0x0C, 1, .u32, .rw, 1, 240000, .range 1000 2147483648⟩,
   ⟨0x0D, 1, .oct 8, .ro, 3, 0, .any⟩,
   ⟨0x0E, 1, .u8, .wo, 0, 0, .range 0 7⟩,
   ⟨0x0F, 1, .u32, .rwz, 1, 0, .any⟩,
   ⟨0x10, 1, .u32, .rwz, 1, 0, .any⟩,
   ⟨0x11, 1, .u32, .rwz, 1, 0, .any⟩,
   ⟨0x12, 1, .u32, .rwz, 1, 0, .any⟩]

/-- Objects at 0x1100 (R127). -/
def rows1100 : List ObjRow :=
  [⟨0x00, 1, .u8, .ro, 3, 0x0F, .any⟩,
   ⟨0x01, 1, .u64, .rws, 1, 0, .any⟩,
   ⟨0x02, 1, .bool8, .rws, 1, 0, .any⟩,
   ⟨0x03, 1, .u64, .ro, 3, 0, .any⟩,
   ⟨0x04, 1, .u8, .ro, 3, 0, .any⟩,
   ⟨0x05, 1, .u8, .ro, 3, 0, .any⟩,
   ⟨0x06, 1, .bool8, .rws, 0, 0, .any⟩,
   ⟨0x07, 1, .u64, .rws, 0, 0, .any⟩,
   ⟨0x08, 1, .u32, .rwz, 1, 0, .any⟩,
   ⟨0x09, 1, .u32, .rwz, 1, 0, .any⟩,
   ⟨0x0A, 1, .u32, .rwz, 1, 0, .any⟩,
   ⟨0x0B, 1, .u16, .ro, 3, 0, .any⟩,
   ⟨0x0C, 1, .u32, .rwz, 1, 0, .any⟩,
   ⟨0x0D, 1, .u16, .ro, 3, 0, .any⟩,
   ⟨0x0E, 1, .u32, .rwz, 1, 0, .any⟩,
   ⟨0x0F, 1, .bool8, .ro, 3, 0, .any⟩]

/-- Objects at 0x8000+n (R128, R204, R243, R290, R446). -/
def rows8000 : List ObjRow :=
  [⟨0x20, 1, .u64, .rws, 1, 0, .any⟩,
   ⟨0x21, 1, .u8, .rws, 1, 8, .range 4 16⟩,
   ⟨0x22, 1, .u64, .rws, 1, 0, .any⟩,
   ⟨0x23, 1, .u8, .rws, 1, 9, .range 4 16⟩,
   ⟨0x24, 1, .bool8, .rws, 1, 0, .any⟩,
   ⟨0x25, 1, .u8, .rws, 1, 2, .enum [1, 2]⟩,
   ⟨0x26, 1, .u32, .ro, 3, 0, .any⟩,
   ⟨0x27, 1, .u32, .ro, 3, 0, .any⟩,
   ⟨0x28, 1, .u8, .ro, 3, 0, .any⟩,
   ⟨0x29, 1, .u32, .rwz, 1, 0, .any⟩,
   ⟨0x2A, 1, .pos, .ro, 3, 0, .any⟩,
   ⟨0x2B, 1, .u32, .rwz, 1, 0, .any⟩,
   ⟨0x30, 1, .bool8, .rws, 2, 0, .any⟩,
   ⟨0x31, 1, .u8, .rws, 2, 0, .range 0 8⟩,
   ⟨0x32, 1, .u64, .ro, 3, 0, .any⟩,
   ⟨0x33, 1, .u32, .rwz, 2, 0, .any⟩,
   ⟨0x40, 1, .u32, .rws, 2, 0, .range 0 4194304⟩,
   ⟨0x41, 1, .u8, .rws, 2, 0, .enum [0, 1, 2, 3]⟩,
   ⟨0x42, 1, .u8, .ro, 3, 0, .any⟩,
   ⟨0x43, 1, .u32, .ro, 3, 0, .any⟩] ++
  [⟨0x44, 1, .u32, .ro, 3, 0, .any⟩,
   ⟨0x45, 1, .u64, .ro, 3, 0, .any⟩,
   ⟨0x46, 1, .u64, .ro, 3, 0, .any⟩,
   ⟨0x47, 1, .u64, .ro, 3, 0, .any⟩,
   ⟨0x48, 1, .u64, .ro, 3, 0, .any⟩,
   ⟨0x49, 1, .u32, .ro, 3, 0, .any⟩,
   ⟨0x00, 1, .u8, .ro, 3, 0x49, .any⟩,
   ⟨0x01, 1, .u8, .ro, 3, 0, .any⟩,
   ⟨0x02, 1, .u8, .ro, 3, 3, .any⟩,
   ⟨0x03, 1, .u64, .ro, 3, 0, .any⟩,
   ⟨0x04, 1, .u32, .ro, 3, 0, .any⟩,
   ⟨0x05, 1, .pos, .ro, 3, 0, .any⟩,
   ⟨0x06, 1, .u8, .ro, 3, 0xFF, .any⟩,
   ⟨0x07, 1, .u32, .ro, 3, 0, .any⟩,
   ⟨0x08, 1, .u32, .ro, 3, 0, .any⟩,
   ⟨0x09, 1, .u8, .ro, 3, 0xFF, .any⟩,
   ⟨0x0A, 1, .u8, .ro, 3, 0, .any⟩,
   ⟨0x0B, 1, .u32, .ro, 3, 0, .any⟩,
   ⟨0x0C, 1, .u64, .ro, 3, 0, .any⟩,
   ⟨0x0D, 1, .u8, .ro, 3, 0x00, .any⟩] ++
  [⟨0x0E, 1, .u8, .wo, 2, 0, .range 1 1⟩,
   ⟨0x0F, 1, .oct 64, .ro, 3, 0, .any⟩,
   ⟨0x10, 1, .u8, .ro, 3, 0, .any⟩,
   ⟨0x11, 1, .pct, .ro, 3, 0, .any⟩,
   ⟨0x12, 1, .u64, .ro, 3, 0, .any⟩,
   ⟨0x13, 1, .u64, .ro, 3, 0, .any⟩,
   ⟨0x14, 1, .u32, .ro, 3, 0, .any⟩,
   ⟨0x15, 1, .oct 24, .ro, 3, 0, .any⟩,
   ⟨0x16, 1, .u32, .rwz, 2, 0, .any⟩,
   ⟨0x17, 1, .u32, .rwz, 2, 0, .any⟩,
   ⟨0x18, 1, .u8, .ro, 3, 0, .any⟩,
   ⟨0x19, 1, .pct, .ro, 3, 0, .any⟩,
   ⟨0x1A, 1, .u64, .ro, 3, 0, .any⟩,
   ⟨0x1B, 1, .u64, .ro, 3, 0, .any⟩,
   ⟨0x1C, 1, .u32, .ro, 3, 0, .any⟩,
   ⟨0x1D, 1, .oct 24, .ro, 3, 0, .any⟩,
   ⟨0x1E, 1, .u32, .ro, 3, 0, .any⟩,
   ⟨0x1F, 1, .u32, .ro, 3, 0, .any⟩]

/-- Objects at 0x3000 (R189). -/
def rows3000 : List ObjRow :=
  [⟨0x00, 1, .u8, .ro, 3, 0x07, .any⟩,
   ⟨0x01, 1, .oct 8, .ro, 3, 0x00000007000F0FFE, .any⟩,
   ⟨0x02, 1, .u64, .rwz, 1, 0, .any⟩,
   ⟨0x03, 1, .u64, .rwz, 1, 0, .any⟩,
   ⟨0x04, 1, .u64, .rwz, 1, 0, .any⟩,
   ⟨0x05, 1, .u64, .rwz, 1, 0, .any⟩,
   ⟨0x06, 1, .u32, .ro, 3, 32768, .any⟩,
   ⟨0x07, 1, .u32, .ro, 3, 16777216, .any⟩]

/-- Objects at 0x3001 (R201). -/
def rows3001 : List ObjRow :=
  [⟨0x00, 1, .u8, .ro, 3, 0x04, .any⟩,
   ⟨0x01, 1, .pct, .rws, 1, 10, .any⟩,
   ⟨0x02, 1, .u64, .rwz, 1, 0, .any⟩,
   ⟨0x03, 1, .u64, .rwz, 1, 0, .any⟩,
   ⟨0x04, 1, .u32, .rwz, 1, 0, .any⟩]

/-- Objects at 0x3010+w (R201). -/
def rows3010 : List ObjRow :=
  [⟨0x00, 1, .u8, .ro, 3, 0x0C, .any⟩,
   ⟨0x01, 1, .u16, .rws, 2, 0, .any⟩,
   ⟨0x02, 1, .u16, .rws, 2, 0, .any⟩,
   ⟨0x03, 1, .u16, .rws, 2, 0xFFFF, .rangeOr 0 32767 65535⟩,
   ⟨0x04, 1, .bool8, .rws, 2, 0, .any⟩,
   ⟨0x05, 1, .u64, .rwz, 2, 0, .any⟩,
   ⟨0x06, 1, .u64, .rwz, 2, 0, .any⟩,
   ⟨0x07, 1, .u64, .rwz, 2, 0, .any⟩,
   ⟨0x08, 1, .u64, .rwz, 2, 0, .any⟩,
   ⟨0x09, 1, .u64, .rwz, 2, 0, .any⟩,
   ⟨0x0A, 1, .u8, .ro, 3, 0, .any⟩,
   ⟨0x0B, 1, .f32, .ro, 3, 0, .any⟩,
   ⟨0x0C, 1, .u8, .wo, 2, 0, .range 1 1⟩]

/-- Objects at 0x3100 (R212). -/
def rows3100 : List ObjRow :=
  [⟨0x00, 1, .u8, .ro, 3, 0x04, .any⟩,
   ⟨0x01, 1, .u16, .ro, 3, 4096, .any⟩,
   ⟨0x02, 1, .u64, .rwz, 1, 0, .any⟩,
   ⟨0x03, 1, .u32, .ro, 3, 16777215, .any⟩,
   ⟨0x04, 1, .u64, .rwz, 1, 0, .any⟩]

/-- Objects at 0x3200 (R216). -/
def rows3200 : List ObjRow :=
  [⟨0x00, 1, .u8, .ro, 3, 0x05, .any⟩,
   ⟨0x01, 1, .u16, .ro, 3, 256, .any⟩,
   ⟨0x02, 1, .u16, .ro, 3, 240, .any⟩,
   ⟨0x03, 1, .oct 32, .ro, 3, (4095 * 2 ^ 240), .any⟩,
   ⟨0x04, 1, .u8, .rw, 2, 0, .any⟩,
   ⟨0x05, 1, .oct 800, .ro, 3, 0, .any⟩]

/-- Objects at 0x4030 (R244). -/
def rows4030 : List ObjRow :=
  [⟨0x00, 1, .u8, .ro, 3, 0x09, .any⟩,
   ⟨0x01, 1, .u32, .ro, 3, 32768, .any⟩,
   ⟨0x02, 1, .u64, .ro, 3, 0, .any⟩,
   ⟨0x03, 1, .u64, .ro, 3, 0, .any⟩,
   ⟨0x04, 1, .u64, .rws, 1, 0x2000000000, .any⟩,
   ⟨0x05, 1, .u64, .ro, 3, 0, .any⟩,
   ⟨0x06, 1, .u64, .rws, 1, 0, .any⟩,
   ⟨0x07, 1, .u64, .ro, 3, 0, .any⟩,
   ⟨0x08, 1, .u32, .rwz, 1, 0, .any⟩,
   ⟨0x09, 1, .u64, .rwz, 1, 0, .any⟩]

/-- Objects at 0x3480+b (R257). -/
def rows3480 : List ObjRow :=
  [⟨0x00, 1, .u8, .ro, 3, 0x2F, .any⟩,
   ⟨0x01, 1, .u8, .rws, 2, 0, .range 0 16⟩,
   ⟨0x10, 16, .u32, .rws, 2, 0, .any⟩,
   ⟨0x20, 16, .f32, .rws, 2, 0, .any⟩]

/-- Objects at 0x3400 (R262). -/
def rows3400 : List ObjRow :=
  [⟨0x00, 1, .u8, .ro, 3, 0x06, .any⟩,
   ⟨0x01, 1, .u8, .ro, 3, 64, .any⟩,
   ⟨0x02, 1, .u64, .rws, 1, 0x10000000, .any⟩,
   ⟨0x03, 1, .u64, .ro, 3, 0x10000000, .any⟩,
   ⟨0x04, 1, .u64, .ro, 3, 0, .any⟩,
   ⟨0x05, 1, .u8, .ro, 3, 16, .any⟩,
   ⟨0x06, 1, .u64, .rwz, 1, 0, .any⟩]

/-- Objects at 0x3410+s (R262). -/
def rows3410 : List ObjRow :=
  [⟨0x00, 1, .u8, .ro, 3, 0x1B, .any⟩,
   ⟨0x01, 1, .u8, .ro, 3, 0, .any⟩,
   ⟨0x02, 1, .pct, .ro, 3, 0, .any⟩,
   ⟨0x03, 1, .u64, .ro, 3, 0, .any⟩,
   ⟨0x04, 1, .u64, .ro, 3, 0, .any⟩,
   ⟨0x05, 1, .u32, .ro, 3, 0, .any⟩,
   ⟨0x06, 1, .oct 24, .ro, 3, 0, .any⟩,
   ⟨0x10, 1, .bool8, .ro, 3, 0, .any⟩,
   ⟨0x11, 1, .u8, .ro, 3, 0, .any⟩,
   ⟨0x12, 1, .u16, .ro, 3, 0, .any⟩,
   ⟨0x13, 1, .u64, .ro, 3, 0, .any⟩,
   ⟨0x14, 1, .u8, .ro, 3, 0, .any⟩,
   ⟨0x15, 1, .u64, .ro, 3, 0, .any⟩,
   ⟨0x16, 1, .u64, .ro, 3, 0, .any⟩,
   ⟨0x17, 1, .bool8, .ro, 3, 0, .any⟩,
   ⟨0x18, 1, .u64, .rwz, 1, 0, .any⟩,
   ⟨0x19, 1, .u64, .rwz, 1, 0, .any⟩,
   ⟨0x1A, 1, .u32, .rwz, 1, 0, .any⟩,
   ⟨0x1B, 1, .u8, .wo, 1, 0, .range 1 1⟩]

/-- Objects at 0x3020 (R287). -/
def rows3020 : List ObjRow :=
  [⟨0x00, 1, .u8, .ro, 3, 0x08, .any⟩,
   ⟨0x01, 1, .u16, .ro, 3, 2048, .any⟩,
   ⟨0x02, 1, .u64, .rwz, 1, 0, .any⟩,
   ⟨0x03, 1, .u64, .rwz, 1, 0, .any⟩,
   ⟨0x04, 1, .u64, .rwz, 1, 0, .any⟩,
   ⟨0x05, 1, .u64, .rwz, 1, 0, .any⟩,
   ⟨0x06, 1, .u64, .rwz, 1, 0, .any⟩,
   ⟨0x07, 1, .u64, .rwz, 1, 0, .any⟩,
   ⟨0x08, 1, .u64, .rwz, 1, 0, .any⟩]

/-- Objects at 0x4032 (R302). -/
def rows4032 : List ObjRow :=
  [⟨0x00, 1, .u8, .ro, 3, 0x0A, .any⟩,
   ⟨0x01, 1, .u16, .ro, 3, 4096, .any⟩,
   ⟨0x02, 1, .u16, .ro, 3, 0, .any⟩,
   ⟨0x03, 1, .u64, .rws, 1, 0x40000000, .any⟩,
   ⟨0x04, 1, .u64, .ro, 3, 0, .any⟩,
   ⟨0x05, 1, .u64, .rws, 1, 0x800000000, .any⟩,
   ⟨0x06, 1, .u64, .ro, 3, 0, .any⟩,
   ⟨0x07, 1, .u64, .rws, 1, 0, .any⟩,
   ⟨0x08, 1, .u64, .ro, 3, 0, .any⟩,
   ⟨0x09, 1, .u32, .rwz, 1, 0, .any⟩,
   ⟨0x0A, 1, .u64, .rwz, 1, 0, .any⟩]

/-- Objects at 0x33F0 (R352). -/
def rows33F0 : List ObjRow :=
  [⟨0x00, 1, .u8, .ro, 3, 0x0C, .any⟩,
   ⟨0x01, 1, .u8, .ro, 3, 0, .any⟩,
   ⟨0x02, 1, .pct, .ro, 3, 0, .any⟩,
   ⟨0x03, 1, .u64, .ro, 3, 0, .any⟩,
   ⟨0x04, 1, .u64, .ro, 3, 0, .any⟩,
   ⟨0x05, 1, .u32, .ro, 3, 0, .any⟩,
   ⟨0x06, 1, .oct 24, .ro, 3, 0, .any⟩,
   ⟨0x07, 1, .u16, .ro, 3, 0, .any⟩,
   ⟨0x08, 1, .u16, .ro, 3, 0, .any⟩,
   ⟨0x09, 1, .u8, .ro, 3, 0, .any⟩,
   ⟨0x0A, 1, .u16, .ro, 3, 0, .any⟩,
   ⟨0x0B, 1, .oct 32, .ro, 3, 0, .any⟩,
   ⟨0x0C, 1, .u32, .ro, 3, 0, .any⟩]

/-- Objects at 0x33F1 (R352). -/
def rows33F1 : List ObjRow :=
  [⟨0x00, 1, .u8, .ro, 3, 0x02, .any⟩,
   ⟨0x01, 1, .oct 3072, .ro, 3, (2 ^ 24576 - 1), .any⟩,
   ⟨0x02, 1, .oct 384, .ro, 3, 0, .any⟩]

/-- Objects at 0x5120 (R352). -/
def rows5120 : List ObjRow :=
  [⟨0x00, 1, .u8, .ro, 3, 0x0A, .any⟩,
   ⟨0x01, 1, .u32, .rwz, 1, 0, .any⟩,
   ⟨0x02, 1, .u32, .rwz, 1, 0, .any⟩,
   ⟨0x03, 1, .u32, .rwz, 1, 0, .any⟩,
   ⟨0x04, 1, .u64, .rwz, 1, 0, .any⟩,
   ⟨0x05, 1, .u32, .rwz, 1, 0, .any⟩,
   ⟨0x06, 1, .u32, .rwz, 1, 0, .any⟩,
   ⟨0x07, 1, .u64, .rwz, 1, 0, .any⟩,
   ⟨0x08, 1, .u16, .ro, 3, 0xFFFF, .any⟩,
   ⟨0x09, 1, .u32, .ro, 3, 0, .any⟩,
   ⟨0x0A, 1, .u8, .ro, 3, 0, .any⟩]

/-- Objects at 0x7000 (R390). -/
def rows7000 : List ObjRow :=
  [⟨0x00, 1, .u8, .ro, 3, 0x13, .any⟩,
   ⟨0x01, 1, .u16, .ro, 3, 256, .any⟩,
   ⟨0x02, 1, .u8, .ro, 3, 16, .any⟩,
   ⟨0x03, 1, .u16, .ro, 3, 0, .any⟩,
   ⟨0x04, 1, .u64, .rwz, 1, 0, .any⟩,
   ⟨0x05, 1, .u64, .rwz, 1, 0, .any⟩,
   ⟨0x06, 1, .u32, .rwz, 1, 0, .any⟩,
   ⟨0x07, 1, .u64, .rwz, 1, 0, .any⟩,
   ⟨0x08, 1, .u32, .rwz, 1, 0, .any⟩,
   ⟨0x09, 1, .u32, .ro, 3, 262144, .any⟩,
   ⟨0x0A, 1, .u64, .rws, 1, 0, .any⟩,
   ⟨0x0B, 1, .u64, .rws, 1, 0x10000000, .any⟩,
   ⟨0x0C, 1, .u64, .ro, 3, 0, .any⟩,
   ⟨0x0D, 1, .u32, .rwz, 1, 0, .any⟩,
   ⟨0x0E, 1, .u32, .rwz, 1, 0, .any⟩,
   ⟨0x0F, 1, .u64, .rwz, 1, 0, .any⟩,
   ⟨0x10, 1, .u64, .rwz, 1, 0, .any⟩,
   ⟨0x11, 1, .u64, .rwz, 1, 0, .any⟩,
   ⟨0x12, 1, .u64, .rwz, 1, 0, .any⟩,
   ⟨0x13, 1, .u32, .rwz, 1, 0, .any⟩]

/-- Objects at 0x7001 (R391). -/
def rows7001 : List ObjRow :=
  [⟨0x00, 1, .u8, .ro, 3, 0x0A, .any⟩,
   ⟨0x01, 1, .u8, .rw, 2, 0, .range 0 95⟩,
   ⟨0x02, 1, .u8, .rw, 2, 0, .range 0 63⟩,
   ⟨0x03, 1, .bool8, .ro, 3, 0, .any⟩,
   ⟨0x04, 1, .u8, .ro, 3, 0, .any⟩,
   ⟨0x05, 1, .u8, .ro, 3, 0, .any⟩,
   ⟨0x06, 1, .u32, .ro, 3, 0, .any⟩,
   ⟨0x07, 1, .u32, .ro, 3, 0, .any⟩,
   ⟨0x08, 1, .u32, .ro, 3, 0, .any⟩,
   ⟨0x09, 1, .u8, .ro, 3, 0, .any⟩,
   ⟨0x0A, 1, .u32, .rwz, 2, 0, .any⟩]

/-- Objects at 0x7010+t (R392). -/
def rows7010 : List ObjRow :=
  [⟨0x00, 1, .u8, .ro, 3, 0x04, .any⟩,
   ⟨0x01, 1, .u8, .ro, 3, 0, .any⟩,
   ⟨0x02, 1, .u32, .ro, 3, 0, .any⟩,
   ⟨0x03, 1, .u32, .ro, 3, 0, .any⟩,
   ⟨0x04, 1, .u32, .rwz, 2, 0, .any⟩]

/-- Objects at 0x3300 (R393). -/
def rows3300 : List ObjRow :=
  [⟨0x00, 1, .u8, .ro, 3, 0x02, .any⟩,
   ⟨0x01, 1, .u8, .ro, 3, 64, .any⟩,
   ⟨0x02, 1, .u64, .ro, 3, 0, .any⟩]

/-- Objects at 0x3310+s (R393). -/
def rows3310 : List ObjRow :=
  [⟨0x00, 1, .u8, .ro, 3, 0x16, .any⟩,
   ⟨0x01, 1, .u8, .ro, 3, 0, .any⟩,
   ⟨0x02, 1, .pct, .ro, 3, 0, .any⟩,
   ⟨0x03, 1, .u64, .ro, 3, 0, .any⟩,
   ⟨0x04, 1, .u64, .ro, 3, 0, .any⟩,
   ⟨0x05, 1, .u32, .ro, 3, 0, .any⟩,
   ⟨0x06, 1, .oct 24, .ro, 3, 0, .any⟩,
   ⟨0x10, 1, .bool8, .ro, 3, 0, .any⟩,
   ⟨0x11, 1, .oct 32, .ro, 3, 0, .any⟩,
   ⟨0x12, 1, .u32, .ro, 3, 0, .any⟩,
   ⟨0x13, 1, .u8, .ro, 3, 0, .any⟩,
   ⟨0x14, 1, .u16, .ro, 3, 0, .any⟩,
   ⟨0x15, 1, .u64, .ro, 3, 0, .any⟩,
   ⟨0x16, 1, .u8, .wo, 1, 0, .range 1 1⟩]

/-- Objects at 0x5130 (R394). -/
def rows5130 : List ObjRow :=
  [⟨0x00, 1, .u8, .ro, 3, 0x03, .any⟩,
   ⟨0x01, 1, .u32, .rwz, 1, 0, .any⟩,
   ⟨0x02, 1, .u32, .rwz, 1, 0, .any⟩,
   ⟨0x03, 1, .u64, .rwz, 1, 0, .any⟩]

/-- Objects at 0x6080+f (R398). -/
def rows6080 : List ObjRow :=
  [⟨0x00, 1, .u8, .ro, 3, 0x04, .any⟩,
   ⟨0x01, 1, .u8, .rws, 1, 0, .enum [0, 1, 2]⟩,
   ⟨0x02, 1, .u8, .rws, 1, 32, .enum [16, 24, 32]⟩,
   ⟨0x03, 1, .u8, .rws, 1, 24, .enum [16, 20, 24, 32]⟩,
   ⟨0x04, 1, .u8, .rws, 1, 1, .enum [0, 1]⟩]

/-- Objects at 0x6000+n (R407). -/
def rows6000 : List ObjRow :=
  [⟨0x00, 1, .u8, .ro, 3, 0x13, .any⟩,
   ⟨0x01, 1, .u8, .rws, 1, 0, .enum [0, 1, 2]⟩,
   ⟨0x02, 1, .u8, .rws, 1, 0, .range 0 31⟩,
   ⟨0x03, 1, .pos, .rws, 1, 0, .any⟩,
   ⟨0x04, 1, .u8, .ro, 3, 0, .any⟩,
   ⟨0x05, 1, .u8, .ro, 3, 0xFF, .any⟩,
   ⟨0x06, 1, .bool8, .ro, 3, 0, .any⟩,
   ⟨0x07, 1, .oct 24, .rws, 1, 0, .any⟩,
   ⟨0x08, 1, .oct 24, .rws, 1, 0, .any⟩,
   ⟨0x09, 1, .oct 24, .rws, 1, 0, .any⟩,
   ⟨0x0A, 1, .oct 24, .rws, 1, 0, .any⟩,
   ⟨0x0B, 1, .bool8, .rws, 1, 1, .any⟩,
   ⟨0x0C, 1, .oct 24, .ro, 3, 0, .any⟩,
   ⟨0x0D, 1, .oct 24, .ro, 3, 0, .any⟩,
   ⟨0x0E, 1, .u8, .ro, 3, 0, .any⟩,
   ⟨0x0F, 1, .u64, .rwz, 1, 0, .any⟩,
   ⟨0x10, 1, .u32, .rwz, 1, 0, .any⟩,
   ⟨0x11, 1, .u32, .rwz, 1, 0, .any⟩,
   ⟨0x12, 1, .u32, .rwz, 1, 0, .any⟩,
   ⟨0x13, 1, .u64, .rwz, 1, 0, .any⟩]

/-- Objects at 0x6040+g (R410). -/
def rows6040 : List ObjRow :=
  [⟨0x00, 1, .u8, .ro, 3, 0x15, .any⟩,
   ⟨0x01, 1, .oct 16, .rws, 1, 0, .any⟩,
   ⟨0x02, 1, .u8, .rws, 1, 0, .enum [0, 1, 2]⟩,
   ⟨0x03, 1, .u8, .rws, 1, 0, .enum [0, 1]⟩,
   ⟨0x04, 1, .u16, .rws, 1, 64, .range 16 1024⟩,
   ⟨0x05, 1, .u8, .rws, 1, 246, .any⟩,
   ⟨0x06, 1, .u8, .rws, 1, 0, .range 0 95⟩,
   ⟨0x07, 1, .u8, .ro, 3, 0, .any⟩,
   ⟨0x08, 1, .u8, .rws, 1, 0, .enum [0, 1]⟩,
   ⟨0x09, 1, .bool8, .rws, 1, 0, .any⟩,
   ⟨0x0A, 1, .u8, .rws, 1, 0, .enum [0, 2]⟩,
   ⟨0x0B, 1, .u64, .rws, 1, 0, .any⟩,
   ⟨0x0C, 1, .u8, .rws, 1, 12, .range 8 24⟩,
   ⟨0x0D, 1, .pos, .ro, 3, 0, .any⟩,
   ⟨0x0E, 1, .u32, .rws, 1, 4096, .any⟩,
   ⟨0x0F, 1, .u32, .ro, 3, 0, .any⟩,
   ⟨0x10, 1, .u8, .wo, 1, 0, .range 1 1⟩,
   ⟨0x11, 1, .u64, .rwz, 1, 0, .any⟩,
   ⟨0x12, 1, .u64, .rwz, 1, 0, .any⟩,
   ⟨0x13, 1, .u32, .rwz, 1, 0, .any⟩] ++
  [⟨0x14, 1, .u64, .rwz, 1, 0, .any⟩,
   ⟨0x15, 1, .u8, .ro, 3, 0, .any⟩]

/-- Objects at 0x2140+s (R430). -/
def rows2140 : List ObjRow :=
  [⟨0x00, 1, .u8, .ro, 3, 0x08, .any⟩,
   ⟨0x01, 1, .u32, .ro, 3, 0, .any⟩,
   ⟨0x02, 1, .u32, .ro, 3, 0, .any⟩,
   ⟨0x03, 1, .u32, .ro, 3, 0, .any⟩,
   ⟨0x04, 1, .u64, .ro, 3, 0, .any⟩,
   ⟨0x05, 1, .u64, .ro, 3, 0, .any⟩,
   ⟨0x06, 1, .u32, .ro, 3, 0, .any⟩,
   ⟨0x07, 1, .u32, .ro, 3, 0, .any⟩,
   ⟨0x08, 1, .u8, .ro, 3, 0, .any⟩]

/-- Objects at 0x2210+k (R432). -/
def rows2210 : List ObjRow :=
  [⟨0x00, 1, .u8, .ro, 3, 0x07, .any⟩,
   ⟨0x01, 1, .u16, .ro, 3, 500, .any⟩,
   ⟨0x02, 1, .u16, .ro, 3, 0, .any⟩,
   ⟨0x03, 1, .f32, .ro, 3, 0, .any⟩,
   ⟨0x04, 1, .f32, .ro, 3, 0, .any⟩,
   ⟨0x05, 1, .f32, .ro, 3, 0, .any⟩,
   ⟨0x06, 1, .f32, .ro, 3, 0, .any⟩,
   ⟨0x07, 1, .u16, .ro, 3, 0, .any⟩]

/-- Objects at 0x2200 (R433). -/
def rows2200 : List ObjRow :=
  [⟨0x00, 1, .u8, .ro, 3, 0x05, .any⟩,
   ⟨0x01, 1, .i16, .ro, 3, 0, .any⟩,
   ⟨0x02, 1, .u8, .ro, 3, 0, .any⟩,
   ⟨0x03, 1, .i16, .ro, 3, 0, .any⟩,
   ⟨0x04, 1, .u8, .ro, 3, 0, .any⟩,
   ⟨0x05, 1, .pct, .ro, 3, 10000, .any⟩]

/-- Objects at 0x2201 (R433). -/
def rows2201 : List ObjRow :=
  [⟨0x00, 1, .u8, .ro, 3, 0x1F, .any⟩,
   ⟨0x01, 1, .u8, .rws, 1, 6, .range 2 8⟩,
   ⟨0x10, 8, .i16, .rws, 1, 0, .any⟩,
   ⟨0x18, 8, .pct, .rws, 1, 0, .any⟩]

/-- Objects at 0x2202 (R433). -/
def rows2202 : List ObjRow :=
  [⟨0x00, 1, .u8, .ro, 3, 0x1F, .any⟩,
   ⟨0x01, 1, .u8, .rws, 1, 4, .range 2 8⟩,
   ⟨0x10, 8, .i16, .rws, 1, 0, .any⟩,
   ⟨0x18, 8, .pct, .rws, 1, 0, .any⟩]

/-- Objects at 0x2100 (R445). -/
def rows2100 : List ObjRow :=
  [⟨0x00, 1, .u8, .ro, 3, 0x1E, .any⟩,
   ⟨0x01, 1, .u16, .rws, 0, 2600, .upTo 400 0x100004⟩,
   ⟨0x02, 1, .u16, .rws, 1, 1250, .upTo 500 0x100003⟩,
   ⟨0x03, 1, .pct, .rws, 1, 8000, .range 1000 10000⟩,
   ⟨0x04, 1, .u8, .rws, 1, 16, .range 1 64⟩,
   ⟨0x05, 1, .u8, .ro, 3, 16, .any⟩,
   ⟨0x06, 1, .u16, .ro, 3, 0, .any⟩,
   ⟨0x07, 1, .u32, .ro, 3, 0, .any⟩,
   ⟨0x08, 1, .u16, .ro, 3, 0, .any⟩,
   ⟨0x09, 1, .u64, .ro, 3, 0, .any⟩,
   ⟨0x0A, 1, .u32, .ro, 3, 0, .any⟩,
   ⟨0x0B, 1, .u16, .ro, 3, 0, .any⟩,
   ⟨0x0C, 1, .u32, .ro, 3, 0, .any⟩,
   ⟨0x0D, 1, .u32, .ro, 3, 0, .any⟩,
   ⟨0x0E, 1, .u32, .ro, 3, 0, .any⟩,
   ⟨0x0F, 1, .u32, .ro, 3, 0, .any⟩,
   ⟨0x10, 1, .u32, .ro, 3, 0, .any⟩,
   ⟨0x11, 1, .pct, .ro, 3, 0, .any⟩,
   ⟨0x12, 1, .u64, .ro, 3, 0, .any⟩,
   ⟨0x13, 1, .u32, .ro, 3, 0, .any⟩] ++
  [⟨0x14, 1, .u32, .ro, 3, 0, .any⟩,
   ⟨0x15, 1, .u32, .ro, 3, 0, .any⟩,
   ⟨0x16, 1, .u32, .ro, 3, 0, .any⟩,
   ⟨0x17, 1, .u32, .ro, 3, 0, .any⟩,
   ⟨0x18, 1, .u32, .rwz, 1, 0, .any⟩,
   ⟨0x19, 1, .u32, .rwz, 1, 0, .any⟩,
   ⟨0x1A, 1, .u32, .rwz, 1, 0, .any⟩,
   ⟨0x1B, 1, .u32, .rwz, 1, 0, .any⟩,
   ⟨0x1C, 1, .u32, .rwz, 1, 0, .any⟩,
   ⟨0x1D, 1, .u64, .rwz, 1, 0, .any⟩,
   ⟨0x1E, 1, .u64, .rwz, 1, 0, .any⟩]

/-- Objects at 0x4000 (R467). -/
def rows4000 : List ObjRow :=
  [⟨0x00, 1, .u8, .ro, 3, 0x0A, .any⟩,
   ⟨0x01, 1, .u64, .ro, 3, 0x5400000000, .any⟩,
   ⟨0x02, 1, .u64, .ro, 3, 0x5400000000, .any⟩,
   ⟨0x03, 1, .u8, .rws, 1, 0, .range 0 16⟩,
   ⟨0x04, 1, .u64, .rws, 1, 0x400000000, .any⟩,
   ⟨0x05, 1, .u64, .ro, 3, 0, .any⟩,
   ⟨0x06, 1, .bool8, .rws, 1, 1, .any⟩,
   ⟨0x07, 1, .u64, .rws, 1, 0, .any⟩,
   ⟨0x08, 1, .u32, .rws, 1, 2880000, .range 1000 2147483648⟩,
   ⟨0x09, 1, .u32, .rws, 1, 28800000, .range 1000 2147483648⟩,
   ⟨0x0A, 1, .u64, .ro, 3, 0, .any⟩]

/-- Objects at 0x4001 (R467). -/
def rows4001 : List ObjRow :=
  [⟨0x00, 1, .u8, .ro, 3, 0x0B, .any⟩,
   ⟨0x01, 1, .u64, .rwz, 1, 0, .any⟩,
   ⟨0x02, 1, .u32, .rwz, 1, 0, .any⟩,
   ⟨0x03, 1, .u64, .rwz, 1, 0, .any⟩,
   ⟨0x04, 1, .u32, .rwz, 1, 0, .any⟩,
   ⟨0x05, 1, .u64, .rwz, 1, 0, .any⟩,
   ⟨0x06, 1, .u32, .rwz, 1, 0, .any⟩,
   ⟨0x07, 1, .u64, .rwz, 1, 0, .any⟩,
   ⟨0x08, 1, .u32, .rwz, 1, 0, .any⟩,
   ⟨0x09, 1, .u32, .rwz, 1, 0, .any⟩,
   ⟨0x0A, 1, .u64, .ro, 3, 0, .any⟩,
   ⟨0x0B, 1, .u8, .ro, 3, 0, .any⟩]

/-- Objects at 0x4020 (R467). -/
def rows4020 : List ObjRow :=
  [⟨0x00, 1, .u8, .ro, 3, 6, .any⟩,
   ⟨0x01, 1, .u8, .ro, 3, 0, .any⟩,
   ⟨0x02, 1, .pct, .ro, 3, 0, .any⟩,
   ⟨0x03, 1, .u64, .ro, 3, 0, .any⟩,
   ⟨0x04, 1, .u64, .ro, 3, 0, .any⟩,
   ⟨0x05, 1, .u32, .ro, 3, 0, .any⟩,
   ⟨0x06, 1, .oct 24, .ro, 3, 0, .any⟩]

/-- Objects at 0x4021 (R467). -/
def rows4021 : List ObjRow :=
  [⟨0x00, 1, .u8, .ro, 3, 0x06, .any⟩,
   ⟨0x01, 1, .u32, .rws, 1, 2880000, .range 48000 2147483648⟩,
   ⟨0x02, 1, .i16, .rws, 1, 50, .range 10 200⟩,
   ⟨0x03, 1, .u8, .wo, 1, 0, .range 0 83⟩,
   ⟨0x04, 1, .u64, .rwz, 1, 0, .any⟩,
   ⟨0x05, 1, .u32, .rwz, 1, 0, .any⟩,
   ⟨0x06, 1, .u8, .ro, 3, 2, .any⟩]

/-- Objects at 0x4040+d (R468). -/
def rows4040 : List ObjRow :=
  [⟨0x00, 1, .u8, .ro, 3, 0x07, .any⟩,
   ⟨0x01, 1, .bool8, .ro, 3, 1, .any⟩,
   ⟨0x02, 1, .i16, .ro, 3, 0, .any⟩,
   ⟨0x03, 1, .u64, .rwz, 1, 0, .any⟩,
   ⟨0x04, 1, .u32, .rwz, 1, 0, .any⟩,
   ⟨0x05, 1, .pos, .ro, 3, 0, .any⟩,
   ⟨0x06, 1, .u8, .ro, 3, 0, .any⟩,
   ⟨0x07, 1, .bool8, .ro, 3, 0, .any⟩]

/-- Objects at 0x40A0+x (R469). -/
def rows40A0 : List ObjRow :=
  [⟨0x00, 1, .u8, .ro, 3, 0x07, .any⟩,
   ⟨0x01, 1, .u8, .ro, 3, 0, .any⟩,
   ⟨0x02, 1, .u8, .ro, 3, 0, .any⟩,
   ⟨0x03, 1, .u64, .ro, 3, 0, .any⟩,
   ⟨0x04, 1, .u64, .ro, 3, 0, .any⟩,
   ⟨0x05, 1, .u64, .ro, 3, 0, .any⟩,
   ⟨0x06, 1, .u32, .rwz, 1, 0, .any⟩,
   ⟨0x07, 1, .u32, .rwz, 1, 0, .any⟩]

/-- Objects at 0x1300 (R504). -/
def rows1300 : List ObjRow :=
  [⟨0x00, 1, .u8, .ro, 3, 0x1B, .any⟩,
   ⟨0x01, 1, .u8, .ro, 3, 0, .any⟩,
   ⟨0x02, 1, .u8, .ro, 3, 0, .any⟩,
   ⟨0x03, 1, .bool8, .ro, 3, 0, .any⟩,
   ⟨0x04, 1, .u8, .ro, 3, 0xFF, .any⟩,
   ⟨0x05, 1, .u8, .ro, 3, 0, .any⟩,
   ⟨0x06, 1, .bool8, .ro, 3, 0, .any⟩,
   ⟨0x07, 1, .u8, .wo, 1, 0, .range 1 1⟩,
   ⟨0x08, 1, .u8, .wo, 1, 0, .range 1 1⟩,
   ⟨0x09, 1, .u8, .wo, 1, 0, .range 1 1⟩,
   ⟨0x0A, 1, .u16, .rws, 1, 192, .range 0 4096⟩,
   ⟨0x0B, 1, .u64, .rws, 1, 0x800000000, .any⟩,
   ⟨0x0C, 1, .u64, .ro, 3, 0, .any⟩,
   ⟨0x0D, 1, .u16, .ro, 3, 0, .any⟩,
   ⟨0x0E, 1, .u32, .rwz, 1, 0, .any⟩,
   ⟨0x0F, 1, .u32, .rwz, 1, 0, .any⟩,
   ⟨0x10, 1, .u32, .rwz, 1, 0, .any⟩,
   ⟨0x11, 1, .u32, .rwz, 1, 0, .any⟩,
   ⟨0x12, 1, .u32, .rwz, 1, 0, .any⟩,
   ⟨0x13, 1, .u32, .rwz, 1, 0, .any⟩] ++
  [⟨0x14, 1, .u32, .rwz, 1, 0, .any⟩,
   ⟨0x15, 1, .u16, .ro, 3, 0xFFFF, .any⟩,
   ⟨0x16, 1, .u64, .ro, 3, 0, .any⟩,
   ⟨0x17, 1, .u64, .rwz, 1, 0, .any⟩,
   ⟨0x18, 1, .u32, .rwz, 1, 0, .any⟩,
   ⟨0x19, 1, .u32, .rwz, 1, 0, .any⟩,
   ⟨0x1A, 1, .u32, .rwz, 1, 0, .any⟩,
   ⟨0x1B, 1, .u64, .rwz, 1, 0, .any⟩]

/-- Objects at 0x1301 (R505). -/
def rows1301 : List ObjRow :=
  [⟨0x00, 1, .u8, .ro, 3, 0x08, .any⟩,
   ⟨0x01, 1, .u8, .ro, 3, 0, .any⟩,
   ⟨0x02, 1, .u8, .ro, 3, 0, .any⟩,
   ⟨0x03, 1, .u64, .rwz, 1, 0, .any⟩,
   ⟨0x04, 1, .u64, .rwz, 1, 0, .any⟩,
   ⟨0x05, 1, .u64, .rwz, 1, 0, .any⟩,
   ⟨0x06, 1, .u32, .rwz, 1, 0, .any⟩,
   ⟨0x07, 1, .u32, .rwz, 1, 0, .any⟩,
   ⟨0x08, 1, .u16, .ro, 3, 0, .any⟩]

/-- Objects at 0x4100 (R516). -/
def rows4100 : List ObjRow :=
  [⟨0x00, 1, .u8, .ro, 3, 0x07, .any⟩,
   ⟨0x01, 1, .u32, .ro, 3, 0, .any⟩,
   ⟨0x02, 1, .pos, .ro, 3, 0, .any⟩,
   ⟨0x03, 1, .u16, .ro, 3, 0, .any⟩,
   ⟨0x04, 1, .u32, .rwz, 1, 0, .any⟩,
   ⟨0x05, 1, .u32, .rwz, 1, 0, .any⟩,
   ⟨0x06, 1, .u64, .ro, 3, 0, .any⟩,
   ⟨0x07, 1, .u16, .ro, 3, 0xFFFF, .any⟩]

/-- Objects at 0x4110 (R516). -/
def rows4110 : List ObjRow :=
  [⟨0x00, 1, .u8, .ro, 3, 0x80, .any⟩,
   ⟨0x01, 128, .oct 32, .rws, 0, 0, .any⟩]

/-- Objects at 0x4111 (R506). -/
def rows4111 : List ObjRow :=
  [⟨0x00, 1, .u8, .ro, 3, 0x80, .any⟩,
   ⟨0x01, 128, .oct 32, .rws, 0, 0, .any⟩]

/-- Objects at 0x4200 (R524). -/
def rows4200 : List ObjRow :=
  [⟨0x00, 1, .u8, .ro, 3, 0x0F, .any⟩,
   ⟨0x01, 1, .u8, .ro, 3, 0, .any⟩,
   ⟨0x02, 1, .u8, .rw, 0, 0, .enum [0, 1]⟩,
   ⟨0x03, 1, .oct 32, .ro, 3, 0, .any⟩,
   ⟨0x04, 1, .u16, .ro, 3, 0, .any⟩,
   ⟨0x05, 1, .u8, .ro, 3, 0, .any⟩,
   ⟨0x06, 1, .u8, .wo, 0, 0, .any⟩,
   ⟨0x07, 1, .u8, .ro, 3, 0, .any⟩,
   ⟨0x08, 1, .u8, .ro, 3, 0, .any⟩,
   ⟨0x09, 1, .u16, .ro, 3, 0, .any⟩,
   ⟨0x0A, 1, .u16, .ro, 3, 0, .any⟩,
   ⟨0x0B, 1, .domain, .wo, 0, 0, .any⟩,
   ⟨0x0C, 1, .bool8, .ro, 3, 0, .any⟩,
   ⟨0x0D, 1, .oct 32, .wo, 0, 0, .any⟩,
   ⟨0x0E, 1, .u32, .rwz, 1, 0, .any⟩,
   ⟨0x0F, 1, .u32, .rwz, 1, 0, .any⟩]

/-- Objects at 0x4210 (R524). -/
def rows4210 : List ObjRow :=
  [⟨0x00, 1, .u8, .ro, 3, 6, .any⟩,
   ⟨0x01, 1, .u8, .ro, 3, 0, .any⟩,
   ⟨0x02, 1, .pct, .ro, 3, 0, .any⟩,
   ⟨0x03, 1, .u64, .ro, 3, 0, .any⟩,
   ⟨0x04, 1, .u64, .ro, 3, 0, .any⟩,
   ⟨0x05, 1, .u32, .ro, 3, 0, .any⟩,
   ⟨0x06, 1, .oct 24, .ro, 3, 0, .any⟩]

/-- Objects at 0x4220 (R531). -/
def rows4220 : List ObjRow :=
  [⟨0x00, 1, .u8, .ro, 3, 0x08, .any⟩,
   ⟨0x01, 1, .oct 32, .wo, 2, 0, .any⟩,
   ⟨0x02, 1, .domain, .ro, 3, 0, .any⟩,
   ⟨0x03, 1, .u8, .ro, 3, 0, .any⟩,
   ⟨0x04, 1, .u16, .ro, 3, 0, .any⟩,
   ⟨0x05, 1, .u16, .ro, 3, 0, .any⟩,
   ⟨0x06, 1, .u64, .rwz, 1, 0, .any⟩,
   ⟨0x07, 1, .domain, .ro, 3, 0, .any⟩,
   ⟨0x08, 1, .u64, .ro, 3, 0, .any⟩]

/-- Objects at 0x5000 (R550). -/
def rows5000 : List ObjRow :=
  [⟨0x00, 1, .u8, .ro, 3, 0x12, .any⟩,
   ⟨0x01, 1, .u8, .ro, 3, 0, .any⟩,
   ⟨0x02, 1, .pct, .ro, 3, 0, .any⟩,
   ⟨0x03, 1, .u64, .ro, 3, 0, .any⟩,
   ⟨0x04, 1, .u64, .ro, 3, 0, .any⟩,
   ⟨0x05, 1, .u32, .ro, 3, 0, .any⟩,
   ⟨0x06, 1, .oct 24, .ro, 3, 0, .any⟩,
   ⟨0x07, 1, .u8, .ro, 3, 0, .any⟩,
   ⟨0x08, 1, .u8, .ro, 3, 0, .any⟩,
   ⟨0x09, 1, .oct 24, .ro, 3, 0, .any⟩,
   ⟨0x0A, 1, .oct 384, .ro, 3, (2 ^ 3072 - 1), .any⟩,
   ⟨0x0B, 1, .oct 11, .ro, 3, (2 ^ 84 - 1), .any⟩,
   ⟨0x0C, 1, .u8, .ro, 3, 0x3F, .any⟩,
   ⟨0x0D, 1, .u16, .ro, 3, 0, .any⟩,
   ⟨0x0E, 1, .u16, .ro, 3, 0, .any⟩,
   ⟨0x0F, 1, .u8, .ro, 3, 6, .any⟩,
   ⟨0x10, 1, .u16, .ro, 3, 192, .any⟩,
   ⟨0x11, 1, .u16, .ro, 3, 0, .any⟩,
   ⟨0x12, 1, .u8, .ro, 3, 0, .any⟩]

/-- Objects at 0x5001 (R551). -/
def rows5001 : List ObjRow :=
  [⟨0x00, 1, .u8, .ro, 3, 0x05, .any⟩,
   ⟨0x01, 1, .u16, .ro, 3, 0, .any⟩,
   ⟨0x02, 1, .domain, .ro, 3, 0, .any⟩,
   ⟨0x03, 1, .u16, .wo, 0, 0, .any⟩,
   ⟨0x04, 1, .u32, .rwz, 1, 0, .any⟩,
   ⟨0x05, 1, .u32, .ro, 3, 0, .any⟩]

/-- Objects at 0x5002 (R551). -/
def rows5002 : List ObjRow :=
  [⟨0x00, 1, .u8, .ro, 3, 0x04, .any⟩,
   ⟨0x01, 1, .bool8, .ro, 3, 0, .any⟩,
   ⟨0x02, 1, .u8, .ro, 3, 0, .any⟩,
   ⟨0x03, 1, .u16, .ro, 3, 0, .any⟩,
   ⟨0x04, 1, .u16, .ro, 3, 0, .any⟩]

/-- Objects at 0x5140 (R551). -/
def rows5140 : List ObjRow :=
  [⟨0x00, 1, .u8, .ro, 3, 0x02, .any⟩,
   ⟨0x01, 1, .u32, .rwz, 1, 0, .any⟩,
   ⟨0x02, 1, .u16, .ro, 3, 0, .any⟩]

/-- Objects at 0x2203 (R571). -/
def rows2203 : List ObjRow :=
  [⟨0x00, 1, .u8, .ro, 3, 0x09, .any⟩,
   ⟨0x01, 6, .u16, .rws, 0, 0, .range 1 10000⟩,
   ⟨0x07, 1, .u16, .ro, 3, 1800, .any⟩,
   ⟨0x08, 1, .u8, .ro, 3, 0, .any⟩,
   ⟨0x09, 1, .u16, .ro, 3, 750, .any⟩]

/-- Objects at 0x1310 (R506). -/
def rows1310 : List ObjRow :=
  [⟨0x00, 1, .u8, .ro, 3, 7, .any⟩,
   ⟨0x01, 1, .u8, .ro, 3, 0, .any⟩,
   ⟨0x02, 1, .pct, .ro, 3, 0, .any⟩,
   ⟨0x03, 1, .u64, .ro, 3, 0, .any⟩,
   ⟨0x04, 1, .u64, .ro, 3, 0, .any⟩,
   ⟨0x05, 1, .u32, .ro, 3, 0, .any⟩,
   ⟨0x06, 1, .oct 24, .ro, 3, 0, .any⟩,
   ⟨0x07, 1, .u8, .ro, 3, 0, .any⟩]

/-- The objects present at an index with the index's first row (R55, R56). -/
def objGroup (index : Nat) : Option (List ObjRow) :=
  if 0x0001 ≤ index ∧ index < 0x000E then some rows0001 else
  if index = 0x1000 then some rows1000 else
  if index = 0x1001 then some rows1001 else
  if index = 0x1100 then some rows1100 else
  if index = 0x1200 then some rows1200 else
  if index = 0x1300 then some rows1300 else
  if index = 0x1301 then some rows1301 else
  if index = 0x1310 then some rows1310 else
  if index = 0x2000 then some rows2000 else
  if index = 0x2001 then some rows2001 else
  if index = 0x2100 then some rows2100 else
  if 0x2140 ≤ index ∧ index < 0x2180 then some rows2140 else
  if index = 0x2200 then some rows2200 else
  if index = 0x2201 then some rows2201 else
  if index = 0x2202 then some rows2202 else
  if index = 0x2203 then some rows2203 else
  if 0x2210 ≤ index ∧ index < 0x222F then some rows2210 else
  if index = 0x3000 then some rows3000 else
  if index = 0x3001 then some rows3001 else
  if 0x3010 ≤ index ∧ index < 0x3020 then some rows3010 else
  if index = 0x3020 then some rows3020 else
  if index = 0x3100 then some rows3100 else
  if index = 0x3200 then some rows3200 else
  if index = 0x3300 then some rows3300 else
  if 0x3310 ≤ index ∧ index < 0x3350 then some rows3310 else
  if index = 0x33F0 then some rows33F0 else
  if index = 0x33F1 then some rows33F1 else
  if index = 0x3400 then some rows3400 else
  if 0x3410 ≤ index ∧ index < 0x3450 then some rows3410 else
  if 0x3480 ≤ index ∧ index < 0x3500 then some rows3480 else
  if index = 0x4000 then some rows4000 else
  if index = 0x4001 then some rows4001 else
  if index = 0x4020 then some rows4020 else
  if index = 0x4021 then some rows4021 else
  if index = 0x4030 then some rows4030 else
  if index = 0x4032 then some rows4032 else
  if 0x4040 ≤ index ∧ index < 0x4094 then some rows4040 else
  if 0x40A0 ≤ index ∧ index < 0x40A8 then some rows40A0 else
  if index = 0x4100 then some rows4100 else
  if index = 0x4110 then some rows4110 else
  if index = 0x4111 then some rows4111 else
  if index = 0x4200 then some rows4200 else
  if index = 0x4210 then some rows4210 else
  if index = 0x4220 then some rows4220 else
  if index = 0x5000 then some rows5000 else
  if index = 0x5001 then some rows5001 else
  if index = 0x5002 then some rows5002 else
  if index = 0x5120 then some rows5120 else
  if index = 0x5130 then some rows5130 else
  if index = 0x5140 then some rows5140 else
  if 0x6000 ≤ index ∧ index < 0x6040 then some rows6000 else
  if 0x6040 ≤ index ∧ index < 0x6080 then some rows6040 else
  if 0x6080 ≤ index ∧ index < 0x60A0 then some rows6080 else
  if index = 0x7000 then some rows7000 else
  if index = 0x7001 then some rows7001 else
  if 0x7010 ≤ index ∧ index < 0x7070 then some rows7010 else
  if 0x8000 ≤ index ∧ index < 0x10000 then some rows8000 else
  none

/-- The row of an object. -/
def objRow (index sub : Nat) : Option ObjRow :=
  (objGroup index).bind (fun rows => rows.find? (fun r => decide (r.sub ≤ sub ∧ sub < r.sub + r.n)))

/-- The dictionary key of an object. -/
def objKey (index sub : Nat) : Nat := index * 256 + sub

end Sys2Proof.Machine
end

