-- ==== Sys2Proof/Machine/Keys.lean ====
section
/-! DEFINITION. The dictionary keys (256 × index + subindex) of the manual's objects, by name. -/

namespace Sys2Proof.Machine.Obj

/-- `PART_NUMBER` (0x1000). -/
def partNumber : Nat := 0x100001
/-- `VARIANT` (0x1000). -/
def variant : Nat := 0x100002
/-- `CLOCK_MAX_MHZ` (0x1000). -/
def clockMaxMhz : Nat := 0x100003
/-- `POWER_LIMIT_W` (0x1000). -/
def powerLimitW : Nat := 0x100004
/-- `SILICON_REV` (0x1000). -/
def siliconRev : Nat := 0x100005
/-- `SUBSYS_VENDOR_ID` (0x1000). -/
def subsysVendorId : Nat := 0x100006
/-- `SUBSYS_ID` (0x1000). -/
def subsysId : Nat := 0x100007
/-- `TILES_ENABLED` (0x1001). -/
def tilesEnabled : Nat := 0x100101
/-- `BRICKS_ENABLED` (0x1001). -/
def bricksEnabled : Nat := 0x100102
/-- `GATHER_UNITS` (0x1001). -/
def gatherUnits : Nat := 0x100103
/-- `GDDR7_DIES` (0x1001). -/
def gddr7Dies : Nat := 0x100104
/-- `PLANE_BYTES` (0x1001). -/
def planeBytes : Nat := 0x100105
/-- `TILE_MAP` (0x1001). -/
def tileMap : Nat := 0x100106
/-- `SHORT` (0x1001). -/
def short : Nat := 0x100107
/-- `HOUSE_RATE_HZ` (0x2000). -/
def houseRateHz : Nat := 0x200001
/-- `RATE_ERROR` (0x2000). -/
def rateError : Nat := 0x200002
/-- `CLOCK_STATE` (0x2000). -/
def clockState : Nat := 0x200003
/-- `POSITION` (0x2000). -/
def position : Nat := 0x200004
/-- `COURSE_LOG2` (0x2000). -/
def courseLog2 : Nat := 0x200005
/-- `COURSE_INDEX` (0x2000). -/
def courseIndex : Nat := 0x200006
/-- `BIT_RATIO` (0x2000). -/
def bitRatio : Nat := 0x200007
/-- `POSITION_FLAGS` (0x2000). -/
def positionFlags : Nat := 0x200008
/-- `LTC_MODE` (0x2000). -/
def ltcMode : Nat := 0x200009
/-- `LTC_ANCHOR_TC` (0x2000). -/
def ltcAnchorTc : Nat := 0x20000A
/-- `LTC_ANCHOR_POS` (0x2000). -/
def ltcAnchorPos : Nat := 0x20000B
/-- `RELOCK_MODE` (0x2000). -/
def relockMode : Nat := 0x20000C
/-- `CMARK_ARM` (0x2000). -/
def cmarkArm : Nat := 0x20000D
/-- `CMARK_POS` (0x2000). -/
def cmarkPos : Nat := 0x20000E
/-- `LTC_LAST` (0x2000). -/
def ltcLast : Nat := 0x20000F
/-- `COMMIT_AT` (0x2000). -/
def commitAt : Nat := 0x200010
/-- `LTC_PHASE_ERR` (0x2000). -/
def ltcPhaseErr : Nat := 0x200011
/-- `REANCHOR` (0x2000). -/
def reanchor : Nat := 0x200012
/-- `CLOCK_LOSS_COUNT` (0x2000). -/
def clockLossCount : Nat := 0x200013
/-- `COASTED_COURSES` (0x2000). -/
def coastedCourses : Nat := 0x200014
/-- `JUMP_COUNT` (0x2000). -/
def jumpCount : Nat := 0x200015
/-- `ACQUIRE_FAILS` (0x2000). -/
def acquireFails : Nat := 0x200016
/-- `BIT_CLOCK_FAULTS` (0x2000). -/
def bitClockFaults : Nat := 0x200017
/-- `PERIOD_FAULTS` (0x2000). -/
def periodFaults : Nat := 0x200018
/-- `SESSION_ID` (0x2001). -/
def sessionId : Nat := 0x200101
/-- `SESSION_LEVEL` (0x2001). -/
def sessionLevel : Nat := 0x200102
/-- `STAGED_COUNT` (0x2001). -/
def stagedCount : Nat := 0x200103
/-- `PENDING_POS` (0x2001). -/
def pendingPos : Nat := 0x200104
/-- `COMMIT_SEQ` (0x2001). -/
def commitSeq : Nat := 0x200105
/-- `LAST_RESULT` (0x2001). -/
def lastResult : Nat := 0x200106
/-- `LAST_FAILED_OBJ` (0x2001). -/
def lastFailedObj : Nat := 0x200107
/-- `LAST_APPLIED_POS` (0x2001). -/
def lastAppliedPos : Nat := 0x200108
/-- `DISCARD` (0x2001). -/
def discard : Nat := 0x200109
/-- `CANCEL_PENDING` (0x2001). -/
def cancelPending : Nat := 0x20010A
/-- `STORE` (0x2001). -/
def store : Nat := 0x20010B
/-- `STORE_STATE` (0x2001). -/
def storeState : Nat := 0x20010C
/-- `STORE_COUNT` (0x2001). -/
def storeCount : Nat := 0x20010D
/-- `NODE_ID` (0x1200). -/
def nodeId : Nat := 0x120001
/-- `MAC_ADDR` (0x1200). -/
def macAddr : Nat := 0x120002
/-- `IPV4_ADDR` (0x1200). -/
def ipv4Addr : Nat := 0x120003
/-- `IPV4_MASK` (0x1200). -/
def ipv4Mask : Nat := 0x120004
/-- `UDP_PORT` (0x1200). -/
def udpPort : Nat := 0x120005
/-- `PLCA_NODE_COUNT` (0x1200). -/
def plcaNodeCount : Nat := 0x120006
/-- `PLCA_ROLE` (0x1200). -/
def plcaRole : Nat := 0x120007
/-- `KEY_L0` (0x1200). -/
def keyL0 : Nat := 0x120008
/-- `KEY_L1` (0x1200). -/
def keyL1 : Nat := 0x120009
/-- `KEY_STATE` (0x1200). -/
def keyState : Nat := 0x12000A
/-- `ANON_WRITE` (0x1200). -/
def anonWrite : Nat := 0x12000B
/-- `IDLE_TIMEOUT` (0x1200). -/
def idleTimeout : Nat := 0x12000C
/-- `SESSION_MAP` (0x1200). -/
def sessionMap : Nat := 0x12000D
/-- `FORCE_CLOSE` (0x1200). -/
def forceClose : Nat := 0x12000E
/-- `AUTH_FAILURES` (0x1200). -/
def authFailures : Nat := 0x12000F
/-- `RX_DROPPED` (0x1200). -/
def rxDropped : Nat := 0x120010
/-- `SEQ_DISCARDS` (0x1200). -/
def seqDiscards : Nat := 0x120011
/-- `MAC_FAILURES` (0x1200). -/
def macFailures : Nat := 0x120012
/-- `STATUS_BASE` (0x1100). -/
def statusBase : Nat := 0x110001
/-- `STATUS_ENABLE` (0x1100). -/
def statusEnable : Nat := 0x110002
/-- `STATUS_SEQ` (0x1100). -/
def statusSeq : Nat := 0x110003
/-- `LINK_RATE` (0x1100). -/
def linkRate : Nat := 0x110004
/-- `LINK_WIDTH` (0x1100). -/
def linkWidth : Nat := 0x110005
/-- `APERTURE_ENABLE` (0x1100). -/
def apertureEnable : Nat := 0x110006
/-- `APERTURE_BASE` (0x1100). -/
def apertureBase : Nat := 0x110007
/-- `APERTURE_DISCARDS` (0x1100). -/
def apertureDiscards : Nat := 0x110008
/-- `DOORBELL_DISCARDS` (0x1100). -/
def doorbellDiscards : Nat := 0x110009
/-- `PRI_FAILURES` (0x1100). -/
def priFailures : Nat := 0x11000A
/-- `PRI_OUTSTANDING` (0x1100). -/
def priOutstanding : Nat := 0x11000B
/-- `HOST_DETACHES` (0x1100). -/
def hostDetaches : Nat := 0x11000C
/-- `RINGS_ENABLED` (0x1100). -/
def ringsEnabled : Nat := 0x11000D
/-- `NOTICES_SKIPPED` (0x1100). -/
def noticesSkipped : Nat := 0x11000E
/-- `LINK_DEGRADED` (0x1100). -/
def linkDegraded : Nat := 0x11000F
/-- `CMD_BASE` (0x8000+n). -/
def streamCmdBase (i : Nat) : Nat := (0x8000 + i) * 256 + 0x20
/-- `CMD_LOG2` (0x8000+n). -/
def streamCmdLog2 (i : Nat) : Nat := (0x8000 + i) * 256 + 0x21
/-- `CPL_BASE` (0x8000+n). -/
def streamCplBase (i : Nat) : Nat := (0x8000 + i) * 256 + 0x22
/-- `CPL_LOG2` (0x8000+n). -/
def streamCplLog2 (i : Nat) : Nat := (0x8000 + i) * 256 + 0x23
/-- `RING_ENABLE` (0x8000+n). -/
def streamRingEnable (i : Nat) : Nat := (0x8000 + i) * 256 + 0x24
/-- `RING_LEVEL` (0x8000+n). -/
def streamRingLevel (i : Nat) : Nat := (0x8000 + i) * 256 + 0x25
/-- `CMD_HEAD` (0x8000+n). -/
def streamCmdHead (i : Nat) : Nat := (0x8000 + i) * 256 + 0x26
/-- `CPL_TAIL` (0x8000+n). -/
def streamCplTail (i : Nat) : Nat := (0x8000 + i) * 256 + 0x27
/-- `RING_STATE` (0x8000+n). -/
def streamRingState (i : Nat) : Nat := (0x8000 + i) * 256 + 0x28
/-- `RING_ERRORS` (0x8000+n). -/
def streamRingErrors (i : Nat) : Nat := (0x8000 + i) * 256 + 0x29
/-- `HALT_POSITION` (0x8000+n). -/
def streamHaltPosition (i : Nat) : Nat := (0x8000 + i) * 256 + 0x2A
/-- `ENTRIES_LOST` (0x8000+n). -/
def streamEntriesLost (i : Nat) : Nat := (0x8000 + i) * 256 + 0x2B
/-- `RETUNE` (0x8000+n). -/
def streamRetune (i : Nat) : Nat := (0x8000 + i) * 256 + 0x30
/-- `RETUNE_HEADROOM` (0x8000+n). -/
def streamRetuneHeadroom (i : Nat) : Nat := (0x8000 + i) * 256 + 0x31
/-- `SEED` (0x8000+n). -/
def streamSeed (i : Nat) : Nat := (0x8000 + i) * 256 + 0x32
/-- `CLIPPED_CHUNKS` (0x8000+n). -/
def streamClippedChunks (i : Nat) : Nat := (0x8000 + i) * 256 + 0x33
/-- `KV_WINDOW` (0x8000+n). -/
def streamKvWindow (i : Nat) : Nat := (0x8000 + i) * 256 + 0x40
/-- `KV_TIER` (0x8000+n). -/
def streamKvTier (i : Nat) : Nat := (0x8000 + i) * 256 + 0x41
/-- `KV_PLACEMENT` (0x8000+n). -/
def streamKvPlacement (i : Nat) : Nat := (0x8000 + i) * 256 + 0x42
/-- `KV_BLOCKS_RESERVED` (0x8000+n). -/
def streamKvBlocksReserved (i : Nat) : Nat := (0x8000 + i) * 256 + 0x43
/-- `KV_BLOCKS_HELD` (0x8000+n). -/
def streamKvBlocksHeld (i : Nat) : Nat := (0x8000 + i) * 256 + 0x44
/-- `KV_BYTES_GDDR7` (0x8000+n). -/
def streamKvBytesGddr7 (i : Nat) : Nat := (0x8000 + i) * 256 + 0x45
/-- `KV_BYTES_CXL` (0x8000+n). -/
def streamKvBytesCxl (i : Nat) : Nat := (0x8000 + i) * 256 + 0x46
/-- `TOKEN_INDEX` (0x8000+n). -/
def streamTokenIndex (i : Nat) : Nat := (0x8000 + i) * 256 + 0x47
/-- `ATTN_POSITION` (0x8000+n). -/
def streamAttnPosition (i : Nat) : Nat := (0x8000 + i) * 256 + 0x48
/-- `LAST_TOKEN_NS` (0x8000+n). -/
def streamLastTokenNs (i : Nat) : Nat := (0x8000 + i) * 256 + 0x49
/-- `RESIDENCY` (0x8000+n). -/
def streamResidency (i : Nat) : Nat := (0x8000 + i) * 256 + 0x01
/-- `STATE_TIER` (0x8000+n). -/
def streamStateTier (i : Nat) : Nat := (0x8000 + i) * 256 + 0x02
/-- `STATE_ADDR` (0x8000+n). -/
def streamStateAddr (i : Nat) : Nat := (0x8000 + i) * 256 + 0x03
/-- `GENERATION` (0x8000+n). -/
def streamGeneration (i : Nat) : Nat := (0x8000 + i) * 256 + 0x04
/-- `POSITION` (0x8000+n). -/
def streamPosition (i : Nat) : Nat := (0x8000 + i) * 256 + 0x05
/-- `CLASS` (0x8000+n). -/
def streamClass (i : Nat) : Nat := (0x8000 + i) * 256 + 0x06
/-- `PLAN` (0x8000+n). -/
def streamPlan (i : Nat) : Nat := (0x8000 + i) * 256 + 0x07
/-- `VOICE` (0x8000+n). -/
def streamVoice (i : Nat) : Nat := (0x8000 + i) * 256 + 0x08
/-- `GROUP` (0x8000+n). -/
def streamGroup (i : Nat) : Nat := (0x8000 + i) * 256 + 0x09
/-- `LEAD` (0x8000+n). -/
def streamLead (i : Nat) : Nat := (0x8000 + i) * 256 + 0x0A
/-- `PACE` (0x8000+n). -/
def streamPace (i : Nat) : Nat := (0x8000 + i) * 256 + 0x0B
/-- `STATE_BYTES` (0x8000+n). -/
def streamStateBytes (i : Nat) : Nat := (0x8000 + i) * 256 + 0x0C
/-- `STREAM_FLAGS` (0x8000+n). -/
def streamStreamFlags (i : Nat) : Nat := (0x8000 + i) * 256 + 0x0D
/-- `UNBIND` (0x8000+n). -/
def streamUnbind (i : Nat) : Nat := (0x8000 + i) * 256 + 0x0E
/-- `ENTRY` (0x8000+n). -/
def streamEntry (i : Nat) : Nat := (0x8000 + i) * 256 + 0x0F
/-- `SWAP_STATE` (0x8000+n). -/
def streamSwapState (i : Nat) : Nat := (0x8000 + i) * 256 + 0x10
/-- `SWAP_PCT` (0x8000+n). -/
def streamSwapPct (i : Nat) : Nat := (0x8000 + i) * 256 + 0x11
/-- `SWAP_POSITION` (0x8000+n). -/
def streamSwapPosition (i : Nat) : Nat := (0x8000 + i) * 256 + 0x12
/-- `SWAP_TOTAL` (0x8000+n). -/
def streamSwapTotal (i : Nat) : Nat := (0x8000 + i) * 256 + 0x13
/-- `SWAP_RESULT` (0x8000+n). -/
def streamSwapResult (i : Nat) : Nat := (0x8000 + i) * 256 + 0x14
/-- `SWAP_SNAPSHOT` (0x8000+n). -/
def streamSwapSnapshot (i : Nat) : Nat := (0x8000 + i) * 256 + 0x15
/-- `HELD_CHUNKS` (0x8000+n). -/
def streamHeldChunks (i : Nat) : Nat := (0x8000 + i) * 256 + 0x16
/-- `SWAPS` (0x8000+n). -/
def streamSwaps (i : Nat) : Nat := (0x8000 + i) * 256 + 0x17
/-- `RENDER_STATE` (0x8000+n). -/
def streamRenderState (i : Nat) : Nat := (0x8000 + i) * 256 + 0x18
/-- `RENDER_PCT` (0x8000+n). -/
def streamRenderPct (i : Nat) : Nat := (0x8000 + i) * 256 + 0x19
/-- `RENDER_POSITION` (0x8000+n). -/
def streamRenderPosition (i : Nat) : Nat := (0x8000 + i) * 256 + 0x1A
/-- `RENDER_TOTAL` (0x8000+n). -/
def streamRenderTotal (i : Nat) : Nat := (0x8000 + i) * 256 + 0x1B
/-- `RENDER_RESULT` (0x8000+n). -/
def streamRenderResult (i : Nat) : Nat := (0x8000 + i) * 256 + 0x1C
/-- `RENDER_SNAPSHOT` (0x8000+n). -/
def streamRenderSnapshot (i : Nat) : Nat := (0x8000 + i) * 256 + 0x1D
/-- `RESERVED_UJ` (0x8000+n). -/
def streamReservedUj (i : Nat) : Nat := (0x8000 + i) * 256 + 0x1E
/-- `ARREARS` (0x8000+n). -/
def streamArrears (i : Nat) : Nat := (0x8000 + i) * 256 + 0x1F
/-- `FORMAT_MASK` (0x3000). -/
def formatMask : Nat := 0x300001
/-- `SATURATIONS` (0x3000). -/
def saturations : Nat := 0x300002
/-- `FLUSHES` (0x3000). -/
def flushes : Nat := 0x300003
/-- `NAN_NARROWED` (0x3000). -/
def nanNarrowed : Nat := 0x300004
/-- `NAN_PRODUCED` (0x3000). -/
def nanProduced : Nat := 0x300005
/-- `INT_K_MAX` (0x3000). -/
def intKMax : Nat := 0x300006
/-- `REDUCTION_K_MAX` (0x3000). -/
def reductionKMax : Nat := 0x300007
/-- `CLIP_GUARD` (0x3001). -/
def clipGuard : Nat := 0x300101
/-- `CHUNKS_CLIPPED` (0x3001). -/
def chunksClipped : Nat := 0x300102
/-- `RETUNES` (0x3001). -/
def retunes : Nat := 0x300103
/-- `RETUNE_HELD` (0x3001). -/
def retuneHeld : Nat := 0x300104
/-- `WATCH_PLAN` (0x3010+w). -/
def watchPlan (i : Nat) : Nat := (0x3010 + i) * 256 + 0x01
/-- `WATCH_TENSOR` (0x3010+w). -/
def watchTensor (i : Nat) : Nat := (0x3010 + i) * 256 + 0x02
/-- `WATCH_STREAM` (0x3010+w). -/
def watchStream (i : Nat) : Nat := (0x3010 + i) * 256 + 0x03
/-- `WATCH_ENABLE` (0x3010+w). -/
def watchEnable (i : Nat) : Nat := (0x3010 + i) * 256 + 0x04
/-- `ELEMENTS` (0x3010+w). -/
def watchElements (i : Nat) : Nat := (0x3010 + i) * 256 + 0x05
/-- `SATURATED` (0x3010+w). -/
def watchSaturated (i : Nat) : Nat := (0x3010 + i) * 256 + 0x06
/-- `FLUSHED` (0x3010+w). -/
def watchFlushed (i : Nat) : Nat := (0x3010 + i) * 256 + 0x07
/-- `BLOCKS` (0x3010+w). -/
def watchBlocks (i : Nat) : Nat := (0x3010 + i) * 256 + 0x08
/-- `BLOCKS_CLIPPED` (0x3010+w). -/
def watchBlocksClipped (i : Nat) : Nat := (0x3010 + i) * 256 + 0x09
/-- `WORST_BLOCK` (0x3010+w). -/
def watchWorstBlock (i : Nat) : Nat := (0x3010 + i) * 256 + 0x0A
/-- `ABSMAX` (0x3010+w). -/
def watchAbsmax (i : Nat) : Nat := (0x3010 + i) * 256 + 0x0B
/-- `CLEAR` (0x3010+w). -/
def watchClear (i : Nat) : Nat := (0x3010 + i) * 256 + 0x0C
/-- `TABLE_WORDS` (0x3100). -/
def tableWords : Nat := 0x310001
/-- `TABLE_FILLS` (0x3100). -/
def tableFills : Nat := 0x310002
/-- `SEQUENCE_MAX` (0x3100). -/
def sequenceMax : Nat := 0x310003
/-- `SAMPLER_NONFINITE` (0x3100). -/
def samplerNonfinite : Nat := 0x310004
/-- `LIBRARY_SLOTS` (0x3200). -/
def librarySlots : Nat := 0x320001
/-- `BUILTIN_FIRST` (0x3200). -/
def builtinFirst : Nat := 0x320002
/-- `LOADED_MAP` (0x3200). -/
def loadedMap : Nat := 0x320003
/-- `CURVE_SEL` (0x3200). -/
def curveSel : Nat := 0x320004
/-- `CURVE_IMAGE` (0x3200). -/
def curveImage : Nat := 0x320005
/-- `KV_PAGE_BYTES` (0x4030). -/
def kvPageBytes : Nat := 0x403001
/-- `KV_PLANE_BYTES` (0x4030). -/
def kvPlaneBytes : Nat := 0x403002
/-- `KV_PLANE_RESERVED` (0x4030). -/
def kvPlaneReserved : Nat := 0x403003
/-- `KV_GDDR7_BUDGET` (0x4030). -/
def kvGddr7Budget : Nat := 0x403004
/-- `KV_GDDR7_RESERVED` (0x4030). -/
def kvGddr7Reserved : Nat := 0x403005
/-- `KV_CXL_BUDGET` (0x4030). -/
def kvCxlBudget : Nat := 0x403006
/-- `KV_CXL_RESERVED` (0x4030). -/
def kvCxlReserved : Nat := 0x403007
/-- `KV_BIND_REFUSED` (0x4030). -/
def kvBindRefused : Nat := 0x403008
/-- `SPREAD_TOKENS` (0x4030). -/
def spreadTokens : Nat := 0x403009
/-- `BLEND_COUNT` (0x3480+b). -/
def blendCount (i : Nat) : Nat := (0x3480 + i) * 256 + 0x01
/-- `BLEND_ROW` (0x3480+b). -/
def blendRow (i k : Nat) : Nat := (0x3480 + i) * 256 + 0x10 + k
/-- `BLEND_WEIGHT` (0x3480+b). -/
def blendWeight (i k : Nat) : Nat := (0x3480 + i) * 256 + 0x20 + k
/-- `TABLE_SLOTS` (0x3400). -/
def tableSlots : Nat := 0x340001
/-- `ROW_CACHE_BYTES` (0x3400). -/
def rowCacheBytes : Nat := 0x340002
/-- `ROW_CACHE_ACTIVE` (0x3400). -/
def rowCacheActive : Nat := 0x340003
/-- `PIN_BYTES` (0x3400). -/
def pinBytes : Nat := 0x340004
/-- `MAX_POOL` (0x3400). -/
def maxPool : Nat := 0x340005
/-- `MERGED` (0x3400). -/
def merged : Nat := 0x340006
/-- `LOADED` (0x3410+s). -/
def tableLoaded (i : Nat) : Nat := (0x3410 + i) * 256 + 0x10
/-- `TABLE_FORMAT` (0x3410+s). -/
def tableFormat (i : Nat) : Nat := (0x3410 + i) * 256 + 0x11
/-- `ROW_BYTES` (0x3410+s). -/
def tableRowBytes (i : Nat) : Nat := (0x3410 + i) * 256 + 0x12
/-- `ROWS` (0x3410+s). -/
def tableRows (i : Nat) : Nat := (0x3410 + i) * 256 + 0x13
/-- `TABLE_TIER` (0x3410+s). -/
def tableTier (i : Nat) : Nat := (0x3410 + i) * 256 + 0x14
/-- `TABLE_BASE` (0x3410+s). -/
def tableBase (i : Nat) : Nat := (0x3410 + i) * 256 + 0x15
/-- `TABLE_LABEL` (0x3410+s). -/
def tableLabel (i : Nat) : Nat := (0x3410 + i) * 256 + 0x16
/-- `PINNED` (0x3410+s). -/
def tablePinned (i : Nat) : Nat := (0x3410 + i) * 256 + 0x17
/-- `LOOKUP_ROWS` (0x3410+s). -/
def tableLookupRows (i : Nat) : Nat := (0x3410 + i) * 256 + 0x18
/-- `CACHE_HITS` (0x3410+s). -/
def tableCacheHits (i : Nat) : Nat := (0x3410 + i) * 256 + 0x19
/-- `INDEX_FAULTS` (0x3410+s). -/
def tableIndexFaults (i : Nat) : Nat := (0x3410 + i) * 256 + 0x1A
/-- `UNLOAD` (0x3410+s). -/
def tableUnload (i : Nat) : Nat := (0x3410 + i) * 256 + 0x1B
/-- `EXPAND_RATE` (0x3020). -/
def expandRate : Nat := 0x302001
/-- `TAPS_SKIPPED` (0x3020). -/
def tapsSkipped : Nat := 0x302002
/-- `HALO_ROWS` (0x3020). -/
def haloRows : Nat := 0x302003
/-- `EMPTY_WINDOWS` (0x3020). -/
def emptyWindows : Nat := 0x302004
/-- `BLOCKS_2_1` (0x3020). -/
def blocks21 : Nat := 0x302005
/-- `BLOCKS_4_3` (0x3020). -/
def blocks43 : Nat := 0x302006
/-- `BLOCKS_NAN` (0x3020). -/
def blocksNan : Nat := 0x302007
/-- `BUMPED_2_1` (0x3020). -/
def bumped21 : Nat := 0x302008
/-- `RESIDENT_MAX` (0x4032). -/
def residentMax : Nat := 0x403201
/-- `RESIDENT_COUNT` (0x4032). -/
def residentCount : Nat := 0x403202
/-- `STATE_PLANE_BUDGET` (0x4032). -/
def statePlaneBudget : Nat := 0x403203
/-- `STATE_PLANE_USED` (0x4032). -/
def statePlaneUsed : Nat := 0x403204
/-- `STATE_GDDR7_BUDGET` (0x4032). -/
def stateGddr7Budget : Nat := 0x403205
/-- `STATE_GDDR7_USED` (0x4032). -/
def stateGddr7Used : Nat := 0x403206
/-- `STATE_CXL_BUDGET` (0x4032). -/
def stateCxlBudget : Nat := 0x403207
/-- `STATE_CXL_USED` (0x4032). -/
def stateCxlUsed : Nat := 0x403208
/-- `WAKE_WAITS` (0x4032). -/
def wakeWaits : Nat := 0x403209
/-- `CHUNKS_HELD` (0x4032). -/
def chunksHeld : Nat := 0x40320A
/-- `LOAD_FIRST` (0x33F0). -/
def loadFirst : Nat := 0x33F007
/-- `LOAD_COUNT` (0x33F0). -/
def loadCount : Nat := 0x33F008
/-- `RESEND_ROUNDS` (0x33F0). -/
def resendRounds : Nat := 0x33F009
/-- `LOAD_FENCED_LAST` (0x33F0). -/
def loadFencedLast : Nat := 0x33F00A
/-- `LAST_DIGEST` (0x33F0). -/
def lastDigest : Nat := 0x33F00B
/-- `BRICK_ERROR_OFFSET` (0x33F0). -/
def brickErrorOffset : Nat := 0x33F00C
/-- `BRICK_CODE_MAP` (0x33F1). -/
def brickCodeMap : Nat := 0x33F101
/-- `BRICK_RUN_MAP` (0x33F1). -/
def brickRunMap : Nat := 0x33F102
/-- `BRICK_FAULTS` (0x5120). -/
def brickFaults : Nat := 0x512001
/-- `ILLEGAL_COUNT` (0x5120). -/
def illegalCount : Nat := 0x512002
/-- `BOUNDS_COUNT` (0x5120). -/
def boundsCount : Nat := 0x512003
/-- `LOCAL_ECC_CORRECTED` (0x5120). -/
def localEccCorrected : Nat := 0x512004
/-- `LOCAL_ECC_UNCORRECTED` (0x5120). -/
def localEccUncorrected : Nat := 0x512005
/-- `LOAD_FENCED` (0x5120). -/
def loadFenced : Nat := 0x512006
/-- `LOAD_RESENT_PACKETS` (0x5120). -/
def loadResentPackets : Nat := 0x512007
/-- `LAST_FAULT_BRICK` (0x5120). -/
def lastFaultBrick : Nat := 0x512008
/-- `LAST_FAULT_PC` (0x5120). -/
def lastFaultPc : Nat := 0x512009
/-- `LAST_FAULT_CAUSE` (0x5120). -/
def lastFaultCause : Nat := 0x51200A
/-- `HOST_CONTEXTS` (0x7000). -/
def hostContexts : Nat := 0x700001
/-- `TILE_CONTEXTS` (0x7000). -/
def tileContexts : Nat := 0x700002
/-- `CONTEXTS_BUSY` (0x7000). -/
def contextsBusy : Nat := 0x700003
/-- `SHORT_PATH_MOVES` (0x7000). -/
def shortPathMoves : Nat := 0x700004
/-- `WRITES_MERGED` (0x7000). -/
def writesMerged : Nat := 0x700005
/-- `PAGE_WAITS` (0x7000). -/
def pageWaits : Nat := 0x700006
/-- `REARMS` (0x7000). -/
def rearms : Nat := 0x700007
/-- `REARMS_IGNORED` (0x7000). -/
def rearmsIgnored : Nat := 0x700008
/-- `POOL_WORDS` (0x7000). -/
def poolWords : Nat := 0x700009
/-- `OVERFLOW_BASE` (0x7000). -/
def overflowBase : Nat := 0x70000A
/-- `OVERFLOW_BYTES` (0x7000). -/
def overflowBytes : Nat := 0x70000B
/-- `OVERFLOW_USED` (0x7000). -/
def overflowUsed : Nat := 0x70000C
/-- `POOL_WAIT_CYCLES` (0x7000). -/
def poolWaitCycles : Nat := 0x70000D
/-- `SPILLS` (0x7000). -/
def spills : Nat := 0x70000E
/-- `SPILLED_BYTES` (0x7000). -/
def spilledBytes : Nat := 0x70000F
/-- `SHORT_PACKETS` (0x7000). -/
def shortPackets : Nat := 0x700010
/-- `SPACERS` (0x7000). -/
def spacers : Nat := 0x700011
/-- `WORDS_DROPPED` (0x7000). -/
def wordsDropped : Nat := 0x700012
/-- `ADMISSION_REFUSED` (0x7000). -/
def admissionRefused : Nat := 0x700013
/-- `SEL_TILE` (0x7001). -/
def selTile : Nat := 0x700101
/-- `SEL_JOINT` (0x7001). -/
def selJoint : Nat := 0x700102
/-- `J_IN_USE` (0x7001). -/
def jInUse : Nat := 0x700103
/-- `J_PLAN` (0x7001). -/
def jPlan : Nat := 0x700104
/-- `J_LINK` (0x7001). -/
def jLink : Nat := 0x700105
/-- `J_WORDS` (0x7001). -/
def jWords : Nat := 0x700106
/-- `J_RESERVE` (0x7001). -/
def jReserve : Nat := 0x700107
/-- `J_LIMIT` (0x7001). -/
def jLimit : Nat := 0x700108
/-- `J_PACKETS` (0x7001). -/
def jPackets : Nat := 0x700109
/-- `J_CORRECTED` (0x7001). -/
def jCorrected : Nat := 0x70010A
/-- `JOINTS_USED` (0x7010+t). -/
def poolJointsUsed (i : Nat) : Nat := (0x7010 + i) * 256 + 0x01
/-- `RESERVED_WORDS` (0x7010+t). -/
def poolReservedWords (i : Nat) : Nat := (0x7010 + i) * 256 + 0x02
/-- `SHARED_USED` (0x7010+t). -/
def poolSharedUsed (i : Nat) : Nat := (0x7010 + i) * 256 + 0x03
/-- `HIGH_WATER` (0x7010+t). -/
def poolHighWater (i : Nat) : Nat := (0x7010 + i) * 256 + 0x04
/-- `PLAN_SLOTS` (0x3300). -/
def planSlots : Nat := 0x330001
/-- `PLAN_ERROR_OFFSET` (0x3300). -/
def planErrorOffset : Nat := 0x330002
/-- `LOADED` (0x3310+s). -/
def planLoaded (i : Nat) : Nat := (0x3310 + i) * 256 + 0x10
/-- `PLAN_DIGEST` (0x3310+s). -/
def planDigest (i : Nat) : Nat := (0x3310 + i) * 256 + 0x11
/-- `PLAN_RATE_HZ` (0x3310+s). -/
def planRateHz (i : Nat) : Nat := (0x3310 + i) * 256 + 0x12
/-- `PLAN_STAGES` (0x3310+s). -/
def planStages (i : Nat) : Nat := (0x3310 + i) * 256 + 0x13
/-- `BOUND_STREAMS` (0x3310+s). -/
def planBoundStreams (i : Nat) : Nat := (0x3310 + i) * 256 + 0x14
/-- `PLAN_LABEL` (0x3310+s). -/
def planLabel (i : Nat) : Nat := (0x3310 + i) * 256 + 0x15
/-- `PLAN_UNLOAD` (0x3310+s). -/
def planUnload (i : Nat) : Nat := (0x3310 + i) * 256 + 0x16
/-- `JOINT_ECC_UNCORRECTED` (0x5130). -/
def jointEccUncorrected : Nat := 0x513001
/-- `OVERFLOW_FULL` (0x5130). -/
def overflowFull : Nat := 0x513002
/-- `JOINT_ECC_CORRECTED` (0x5130). -/
def jointEccCorrected : Nat := 0x513003
/-- `FRAMING` (0x6080+f). -/
def formatFraming (i : Nat) : Nat := (0x6080 + i) * 256 + 0x01
/-- `SLOT_BITS` (0x6080+f). -/
def formatSlotBits (i : Nat) : Nat := (0x6080 + i) * 256 + 0x02
/-- `SAMPLE_BITS` (0x6080+f). -/
def formatSampleBits (i : Nat) : Nat := (0x6080 + i) * 256 + 0x03
/-- `WS_POLARITY` (0x6080+f). -/
def formatWsPolarity (i : Nat) : Nat := (0x6080 + i) * 256 + 0x04
/-- `DIRECTION` (0x6000+n). -/
def laneDirection (i : Nat) : Nat := (0x6000 + i) * 256 + 0x01
/-- `FORMAT` (0x6000+n). -/
def laneFormat (i : Nat) : Nat := (0x6000 + i) * 256 + 0x02
/-- `BLOCK_ANCHOR` (0x6000+n). -/
def laneBlockAnchor (i : Nat) : Nat := (0x6000 + i) * 256 + 0x03
/-- `LANE_STATE` (0x6000+n). -/
def laneState (i : Nat) : Nat := (0x6000 + i) * 256 + 0x04
/-- `LANE_GROUP` (0x6000+n). -/
def laneGroup (i : Nat) : Nat := (0x6000 + i) * 256 + 0x05
/-- `DRIVING` (0x6000+n). -/
def laneDriving (i : Nat) : Nat := (0x6000 + i) * 256 + 0x06
/-- `CS_TX_0` (0x6000+n). -/
def laneCsTx0 (i : Nat) : Nat := (0x6000 + i) * 256 + 0x07
/-- `CS_TX_1` (0x6000+n). -/
def laneCsTx1 (i : Nat) : Nat := (0x6000 + i) * 256 + 0x08
/-- `U_TX_0` (0x6000+n). -/
def laneUTx0 (i : Nat) : Nat := (0x6000 + i) * 256 + 0x09
/-- `U_TX_1` (0x6000+n). -/
def laneUTx1 (i : Nat) : Nat := (0x6000 + i) * 256 + 0x0A
/-- `CRCC_AUTO` (0x6000+n). -/
def laneCrccAuto (i : Nat) : Nat := (0x6000 + i) * 256 + 0x0B
/-- `CS_RX_0` (0x6000+n). -/
def laneCsRx0 (i : Nat) : Nat := (0x6000 + i) * 256 + 0x0C
/-- `CS_RX_1` (0x6000+n). -/
def laneCsRx1 (i : Nat) : Nat := (0x6000 + i) * 256 + 0x0D
/-- `RX_BLOCK_PHASE` (0x6000+n). -/
def laneRxBlockPhase (i : Nat) : Nat := (0x6000 + i) * 256 + 0x0E
/-- `SAMPLES_INVALID` (0x6000+n). -/
def laneSamplesInvalid (i : Nat) : Nat := (0x6000 + i) * 256 + 0x0F
/-- `PARITY_ERRORS` (0x6000+n). -/
def laneParityErrors (i : Nat) : Nat := (0x6000 + i) * 256 + 0x10
/-- `CRCC_ERRORS` (0x6000+n). -/
def laneCrccErrors (i : Nat) : Nat := (0x6000 + i) * 256 + 0x11
/-- `FOREIGN_COUNT` (0x6000+n). -/
def laneForeignCount (i : Nat) : Nat := (0x6000 + i) * 256 + 0x12
/-- `MUTED_FRAMES` (0x6000+n). -/
def laneMutedFrames (i : Nat) : Nat := (0x6000 + i) * 256 + 0x13
/-- `SLOT_MASK` (0x6040+g). -/
def groupSlotMask (i : Nat) : Nat := (0x6040 + i) * 256 + 0x01
/-- `G_DIRECTION` (0x6040+g). -/
def groupDirection (i : Nat) : Nat := (0x6040 + i) * 256 + 0x02
/-- `POLICY` (0x6040+g). -/
def groupPolicy (i : Nat) : Nat := (0x6040 + i) * 256 + 0x03
/-- `FADE_FRAMES` (0x6040+g). -/
def groupFadeFrames (i : Nat) : Nat := (0x6040 + i) * 256 + 0x04
/-- `FADE_CURVE` (0x6040+g). -/
def groupFadeCurve (i : Nat) : Nat := (0x6040 + i) * 256 + 0x05
/-- `HOME_TILE` (0x6040+g). -/
def groupHomeTile (i : Nat) : Nat := (0x6040 + i) * 256 + 0x06
/-- `G_CHANNELS` (0x6040+g). -/
def groupChannels (i : Nat) : Nat := (0x6040 + i) * 256 + 0x07
/-- `INPUT_WORD` (0x6040+g). -/
def groupInputWord (i : Nat) : Nat := (0x6040 + i) * 256 + 0x08
/-- `CAPTURE_ENABLE` (0x6040+g). -/
def groupCaptureEnable (i : Nat) : Nat := (0x6040 + i) * 256 + 0x09
/-- `CAPTURE_SPACE` (0x6040+g). -/
def groupCaptureSpace (i : Nat) : Nat := (0x6040 + i) * 256 + 0x0A
/-- `CAPTURE_BASE` (0x6040+g). -/
def groupCaptureBase (i : Nat) : Nat := (0x6040 + i) * 256 + 0x0B
/-- `CAPTURE_LOG2` (0x6040+g). -/
def groupCaptureLog2 (i : Nat) : Nat := (0x6040 + i) * 256 + 0x0C
/-- `CAPTURE_POSITION` (0x6040+g). -/
def groupCapturePosition (i : Nat) : Nat := (0x6040 + i) * 256 + 0x0D
/-- `JOINT_FRAMES` (0x6040+g). -/
def groupJointFrames (i : Nat) : Nat := (0x6040 + i) * 256 + 0x0E
/-- `SLIP_LAG` (0x6040+g). -/
def groupSlipLag (i : Nat) : Nat := (0x6040 + i) * 256 + 0x0F
/-- `SLIP_REANCHOR` (0x6040+g). -/
def groupSlipReanchor (i : Nat) : Nat := (0x6040 + i) * 256 + 0x10
/-- `FRAMES_FILLED` (0x6040+g). -/
def groupFramesFilled (i : Nat) : Nat := (0x6040 + i) * 256 + 0x11
/-- `SAMPLES_LATE` (0x6040+g). -/
def groupSamplesLate (i : Nat) : Nat := (0x6040 + i) * 256 + 0x12
/-- `FADES` (0x6040+g). -/
def groupFades (i : Nat) : Nat := (0x6040 + i) * 256 + 0x13
/-- `FRAMES_DROPPED` (0x6040+g). -/
def groupFramesDropped (i : Nat) : Nat := (0x6040 + i) * 256 + 0x14
/-- `MEMBERS` (0x6040+g). -/
def groupMembers (i : Nat) : Nat := (0x6040 + i) * 256 + 0x15
/-- `C_STEP_FRAMES` (0x2140+s). -/
def costStepFrames (i : Nat) : Nat := (0x2140 + i) * 256 + 0x01
/-- `C_TILE_CYCLES` (0x2140+s). -/
def costTileCycles (i : Nat) : Nat := (0x2140 + i) * 256 + 0x02
/-- `C_FEED_LINES` (0x2140+s). -/
def costFeedLines (i : Nat) : Nat := (0x2140 + i) * 256 + 0x03
/-- `C_GDDR7_BYTES` (0x2140+s). -/
def costGddr7Bytes (i : Nat) : Nat := (0x2140 + i) * 256 + 0x04
/-- `C_BRICK_CYCLES` (0x2140+s). -/
def costBrickCycles (i : Nat) : Nat := (0x2140 + i) * 256 + 0x05
/-- `C_KV_LINES` (0x2140+s). -/
def costKvLines (i : Nat) : Nat := (0x2140 + i) * 256 + 0x06
/-- `C_KV_BYTES` (0x2140+s). -/
def costKvBytes (i : Nat) : Nat := (0x2140 + i) * 256 + 0x07
/-- `C_BATCH` (0x2140+s). -/
def costBatch (i : Nat) : Nat := (0x2140 + i) * 256 + 0x08
/-- `STEP_MHZ` (0x2210+k). -/
def stepMhz (i : Nat) : Nat := (0x2210 + i) * 256 + 0x01
/-- `STEP_VDD_MV` (0x2210+k). -/
def stepVddMv (i : Nat) : Nat := (0x2210 + i) * 256 + 0x02
/-- `E_ARRAY_PJ` (0x2210+k). -/
def stepEArrayPj (i : Nat) : Nat := (0x2210 + i) * 256 + 0x03
/-- `E_FEED_PJ` (0x2210+k). -/
def stepEFeedPj (i : Nat) : Nat := (0x2210 + i) * 256 + 0x04
/-- `E_GDDR7_PJ` (0x2210+k). -/
def stepEGddr7Pj (i : Nat) : Nat := (0x2210 + i) * 256 + 0x05
/-- `E_BRICK_PJ` (0x2210+k). -/
def stepEBrickPj (i : Nat) : Nat := (0x2210 + i) * 256 + 0x06
/-- `STATIC_W` (0x2210+k). -/
def stepStaticW (i : Nat) : Nat := (0x2210 + i) * 256 + 0x07
/-- `T_TILE_MAX` (0x2200). -/
def tTileMax : Nat := 0x220001
/-- `T_TILE_HOTTEST` (0x2200). -/
def tTileHottest : Nat := 0x220002
/-- `T_MEM_MAX` (0x2200). -/
def tMemMax : Nat := 0x220003
/-- `T_MEM_HOTTEST` (0x2200). -/
def tMemHottest : Nat := 0x220004
/-- `THERMAL_PCT` (0x2200). -/
def thermalPct : Nat := 0x220005
/-- `POINTS` (0x2201). -/
def tileCurvePoints : Nat := 0x220101
/-- `TEMP` (0x2201). -/
def tileCurveTemp (k : Nat) : Nat := 0x220110 + k
/-- `FACTOR` (0x2201). -/
def tileCurveFactor (k : Nat) : Nat := 0x220118 + k
/-- `POINTS` (0x2202). -/
def memCurvePoints : Nat := 0x220201
/-- `TEMP` (0x2202). -/
def memCurveTemp (k : Nat) : Nat := 0x220210 + k
/-- `FACTOR` (0x2202). -/
def memCurveFactor (k : Nat) : Nat := 0x220218 + k
/-- `POWER_CAP_W` (0x2100). -/
def powerCapW : Nat := 0x210001
/-- `CLOCK_CAP_MHZ` (0x2100). -/
def clockCapMhz : Nat := 0x210002
/-- `LIVE_CEILING` (0x2100). -/
def liveCeiling : Nat := 0x210003
/-- `ADMIT_WAIT_MAX` (0x2100). -/
def admitWaitMax : Nat := 0x210004
/-- `GROUT_AGE_MAX` (0x2100). -/
def groutAgeMax : Nat := 0x210005
/-- `LIVE_STREAMS` (0x2100). -/
def liveStreams : Nat := 0x210006
/-- `LIVE_RESERVED_MJ` (0x2100). -/
def liveReservedMj : Nat := 0x210007
/-- `ADMISSIONS_WAITING` (0x2100). -/
def admissionsWaiting : Nat := 0x210008
/-- `L_COURSE` (0x2100). -/
def lCourse : Nat := 0x210009
/-- `L_ALLOWANCE_MJ` (0x2100). -/
def lAllowanceMj : Nat := 0x21000A
/-- `L_CLOCK_MHZ` (0x2100). -/
def lClockMhz : Nat := 0x21000B
/-- `L_FIXED_MJ` (0x2100). -/
def lFixedMj : Nat := 0x21000C
/-- `L_LIVE_MJ` (0x2100). -/
def lLiveMj : Nat := 0x21000D
/-- `L_PACED_MJ` (0x2100). -/
def lPacedMj : Nat := 0x21000E
/-- `L_GROUT_MJ` (0x2100). -/
def lGroutMj : Nat := 0x21000F
/-- `L_DEBT_MJ` (0x2100). -/
def lDebtMj : Nat := 0x210010
/-- `LOAD_PCT` (0x2100). -/
def loadPct : Nat := 0x210011
/-- `M_COURSE` (0x2100). -/
def mCourse : Nat := 0x210012
/-- `M_TOTAL_MJ` (0x2100). -/
def mTotalMj : Nat := 0x210013
/-- `M_FIXED_MJ` (0x2100). -/
def mFixedMj : Nat := 0x210014
/-- `M_LIVE_MJ` (0x2100). -/
def mLiveMj : Nat := 0x210015
/-- `M_PACED_MJ` (0x2100). -/
def mPacedMj : Nat := 0x210016
/-- `M_GROUT_MJ` (0x2100). -/
def mGroutMj : Nat := 0x210017
/-- `COURSES_GROUT_SHED` (0x2100). -/
def coursesGroutShed : Nat := 0x210018
/-- `COURSES_PACED_SLOWED` (0x2100). -/
def coursesPacedSlowed : Nat := 0x210019
/-- `LIVE_OVER` (0x2100). -/
def liveOver : Nat := 0x21001A
/-- `COURSES_GOVERNED` (0x2100). -/
def coursesGoverned : Nat := 0x21001B
/-- `ADMISSION_REFUSED_ENERGY` (0x2100). -/
def admissionRefusedEnergy : Nat := 0x21001C
/-- `ARREARS_FORGIVEN` (0x2100). -/
def arrearsForgiven : Nat := 0x21001D
/-- `GROUT_AGED` (0x2100). -/
def groutAged : Nat := 0x21001E
/-- `GDDR7_BYTES` (0x4000). -/
def gddr7Bytes : Nat := 0x400001
/-- `INTERLEAVED_BYTES` (0x4000). -/
def interleavedBytes : Nat := 0x400002
/-- `LOCAL_SHARE` (0x4000). -/
def localShare : Nat := 0x400003
/-- `GDDR7_USER_BYTES` (0x4000). -/
def gddr7UserBytes : Nat := 0x400004
/-- `CXL_BYTES` (0x4000). -/
def cxlBytes : Nat := 0x400005
/-- `CXL_INTERLEAVE` (0x4000). -/
def cxlInterleave : Nat := 0x400006
/-- `CXL_USER_BYTES` (0x4000). -/
def cxlUserBytes : Nat := 0x400007
/-- `SCRUB_FRAMES_PLANE` (0x4000). -/
def scrubFramesPlane : Nat := 0x400008
/-- `SCRUB_FRAMES_GDDR7` (0x4000). -/
def scrubFramesGddr7 : Nat := 0x400009
/-- `DEVICE_POOL_FREE` (0x4000). -/
def devicePoolFree : Nat := 0x40000A
/-- `PLANE_CORRECTED` (0x4001). -/
def planeCorrected : Nat := 0x400101
/-- `PLANE_UNCORRECTED` (0x4001). -/
def planeUncorrected : Nat := 0x400102
/-- `TBUF_CORRECTED` (0x4001). -/
def tbufCorrected : Nat := 0x400103
/-- `TBUF_UNCORRECTED` (0x4001). -/
def tbufUncorrected : Nat := 0x400104
/-- `GDDR7_CORRECTED` (0x4001). -/
def gddr7Corrected : Nat := 0x400105
/-- `GDDR7_UNCORRECTED` (0x4001). -/
def gddr7Uncorrected : Nat := 0x400106
/-- `GDDR7_CRC_RETRIES` (0x4001). -/
def gddr7CrcRetries : Nat := 0x400107
/-- `CXL_POISONED` (0x4001). -/
def cxlPoisoned : Nat := 0x400108
/-- `PLAN_REPAIRS` (0x4001). -/
def planRepairs : Nat := 0x400109
/-- `LAST_POISON_ADDR` (0x4001). -/
def lastPoisonAddr : Nat := 0x40010A
/-- `LAST_POISON_SPACE` (0x4001). -/
def lastPoisonSpace : Nat := 0x40010B
/-- `RETRAIN_INTERVAL` (0x4021). -/
def retrainInterval : Nat := 0x402101
/-- `RETRAIN_DELTA` (0x4021). -/
def retrainDelta : Nat := 0x402102
/-- `RETRAIN_NOW` (0x4021). -/
def retrainNow : Nat := 0x402103
/-- `RETRAINS` (0x4021). -/
def retrains : Nat := 0x402104
/-- `RETRAIN_FAILS` (0x4021). -/
def retrainFails : Nat := 0x402105
/-- `RETRAIN_CONCURRENT` (0x4021). -/
def retrainConcurrent : Nat := 0x402106
/-- `D_IN_SERVICE` (0x4040+d). -/
def dieInService (i : Nat) : Nat := (0x4040 + i) * 256 + 0x01
/-- `D_TEMP` (0x4040+d). -/
def dieTemp (i : Nat) : Nat := (0x4040 + i) * 256 + 0x02
/-- `D_CORRECTED` (0x4040+d). -/
def dieCorrected (i : Nat) : Nat := (0x4040 + i) * 256 + 0x03
/-- `D_RETRAINS` (0x4040+d). -/
def dieRetrains (i : Nat) : Nat := (0x4040 + i) * 256 + 0x04
/-- `D_LAST_TRAINED` (0x4040+d). -/
def dieLastTrained (i : Nat) : Nat := (0x4040 + i) * 256 + 0x05
/-- `D_RETRAIN_FAILS` (0x4040+d). -/
def dieRetrainFails (i : Nat) : Nat := (0x4040 + i) * 256 + 0x06
/-- `D_DEGRADED` (0x4040+d). -/
def dieDegraded (i : Nat) : Nat := (0x4040 + i) * 256 + 0x07
/-- `X_STATE` (0x40A0+x). -/
def expState (i : Nat) : Nat := (0x40A0 + i) * 256 + 0x01
/-- `X_WIDTH` (0x40A0+x). -/
def expWidth (i : Nat) : Nat := (0x40A0 + i) * 256 + 0x02
/-- `X_CAPACITY` (0x40A0+x). -/
def expCapacity (i : Nat) : Nat := (0x40A0 + i) * 256 + 0x03
/-- `X_MAPPED` (0x40A0+x). -/
def expMapped (i : Nat) : Nat := (0x40A0 + i) * 256 + 0x04
/-- `X_BASE` (0x40A0+x). -/
def expBase (i : Nat) : Nat := (0x40A0 + i) * 256 + 0x05
/-- `X_LINK_DOWNS` (0x40A0+x). -/
def expLinkDowns (i : Nat) : Nat := (0x40A0 + i) * 256 + 0x06
/-- `X_POISONED` (0x40A0+x). -/
def expPoisoned (i : Nat) : Nat := (0x40A0 + i) * 256 + 0x07
/-- `LEAF_ID` (0x1300). -/
def leafId : Nat := 0x130001
/-- `ROLE` (0x1300). -/
def role : Nat := 0x130002
/-- `PAIRED` (0x1300). -/
def paired : Nat := 0x130003
/-- `PARTNER_ROLE` (0x1300). -/
def partnerRole : Nat := 0x130004
/-- `PAIR_FAIL_REASON` (0x1300). -/
def pairFailReason : Nat := 0x130005
/-- `FIRMWARE_MATCH` (0x1300). -/
def firmwareMatch : Nat := 0x130006
/-- `HANDOVER` (0x1300). -/
def handover : Nat := 0x130007
/-- `LEAVE` (0x1300). -/
def leave : Nat := 0x130008
/-- `SYNC_START` (0x1300). -/
def syncStart : Nat := 0x130009
/-- `AUTO_CHECKPOINT` (0x1300). -/
def autoCheckpoint : Nat := 0x13000A
/-- `SHADOW_BUDGET` (0x1300). -/
def shadowBudget : Nat := 0x13000B
/-- `SHADOW_USED` (0x1300). -/
def shadowUsed : Nat := 0x13000C
/-- `SHADOWS` (0x1300). -/
def shadows : Nat := 0x13000D
/-- `HB_MISSED` (0x1300). -/
def hbMissed : Nat := 0x13000E
/-- `HB_PATH_MISSED` (0x1300). -/
def hbPathMissed : Nat := 0x13000F
/-- `TAKEOVERS` (0x1300). -/
def takeovers : Nat := 0x130010
/-- `HANDOVERS` (0x1300). -/
def handovers : Nat := 0x130011
/-- `PARTNER_LOSSES` (0x1300). -/
def partnerLosses : Nat := 0x130012
/-- `STREAMS_LOST` (0x1300). -/
def streamsLost : Nat := 0x130013
/-- `DIVERGENCES` (0x1300). -/
def divergences : Nat := 0x130014
/-- `LAST_DIVERGED_STREAM` (0x1300). -/
def lastDivergedStream : Nat := 0x130015
/-- `LAST_DIVERGED_COURSE` (0x1300). -/
def lastDivergedCourse : Nat := 0x130016
/-- `UNMATCHED` (0x1300). -/
def unmatched : Nat := 0x130017
/-- `RESYNCS` (0x1300). -/
def resyncs : Nat := 0x130018
/-- `ADOPTED` (0x1300). -/
def adopted : Nat := 0x130019
/-- `ADOPT_REFUSED` (0x1300). -/
def adoptRefused : Nat := 0x13001A
/-- `CHECKPOINTS_STORED` (0x1300). -/
def checkpointsStored : Nat := 0x13001B
/-- `TIE_STATE` (0x1301). -/
def tieState : Nat := 0x130101
/-- `TIE_WIDTH` (0x1301). -/
def tieWidth : Nat := 0x130102
/-- `TIE_FEC_CORRECTED` (0x1301). -/
def tieFecCorrected : Nat := 0x130103
/-- `TIE_CRC_ERRORS` (0x1301). -/
def tieCrcErrors : Nat := 0x130104
/-- `TIE_REPLAYS` (0x1301). -/
def tieReplays : Nat := 0x130105
/-- `TIE_RETRAINS` (0x1301). -/
def tieRetrains : Nat := 0x130106
/-- `TIE_DOWNS` (0x1301). -/
def tieDowns : Nat := 0x130107
/-- `TIE_LATENCY_NS` (0x1301). -/
def tieLatencyNs : Nat := 0x130108
/-- `EPOCH` (0x4100). -/
def epoch : Nat := 0x410001
/-- `EPOCH_POSITION` (0x4100). -/
def epochPosition : Nat := 0x410002
/-- `WINDOWS_IN_USE` (0x4100). -/
def windowsInUse : Nat := 0x410003
/-- `PROTECT_HALTS` (0x4100). -/
def protectHalts : Nat := 0x410004
/-- `PROTECT_RESUMES` (0x4100). -/
def protectResumes : Nat := 0x410005
/-- `LAST_REFUSED_ADDR` (0x4100). -/
def lastRefusedAddr : Nat := 0x410006
/-- `LAST_REFUSED_RING` (0x4100). -/
def lastRefusedRing : Nat := 0x410007
/-- `WINDOW` (0x4110). -/
def windowLo (k : Nat) : Nat := 0x411001 + k
/-- `WINDOW` (0x4111). -/
def windowHi (k : Nat) : Nat := 0x411101 + k
/-- `RUNNING_SLOT` (0x4200). -/
def runningSlot : Nat := 0x420001
/-- `BOOT_SLOT` (0x4200). -/
def bootSlot : Nat := 0x420002
/-- `FIRMWARE_DIGEST` (0x4200). -/
def firmwareDigest : Nat := 0x420003
/-- `RUNNING_SVN` (0x4200). -/
def runningSvn : Nat := 0x420004
/-- `FUSED_SVN` (0x4200). -/
def fusedSvn : Nat := 0x420005
/-- `SVN_ADVANCE` (0x4200). -/
def svnAdvance : Nat := 0x420006
/-- `SLOT_A_STATE` (0x4200). -/
def slotAState : Nat := 0x420007
/-- `SLOT_B_STATE` (0x4200). -/
def slotBState : Nat := 0x420008
/-- `SLOT_A_SVN` (0x4200). -/
def slotASvn : Nat := 0x420009
/-- `SLOT_B_SVN` (0x4200). -/
def slotBSvn : Nat := 0x42000A
/-- `FW_WRITE` (0x4200). -/
def fwWrite : Nat := 0x42000B
/-- `CUSTOMER_KEY_FUSED` (0x4200). -/
def customerKeyFused : Nat := 0x42000C
/-- `CUSTOMER_KEY_FUSE` (0x4200). -/
def customerKeyFuse : Nat := 0x42000D
/-- `VERIFY_FAILS` (0x4200). -/
def verifyFails : Nat := 0x42000E
/-- `BOOT_FALLBACKS` (0x4200). -/
def bootFallbacks : Nat := 0x42000F
/-- `ATTEST_NONCE` (0x4220). -/
def attestNonce : Nat := 0x422001
/-- `ATTEST_REPORT` (0x4220). -/
def attestReport : Nat := 0x422002
/-- `ATTEST_STATE` (0x4220). -/
def attestState : Nat := 0x422003
/-- `TOP_LEAVES_USED` (0x4220). -/
def topLeavesUsed : Nat := 0x422004
/-- `BOTTOM_LEFT` (0x4220). -/
def bottomLeft : Nat := 0x422005
/-- `ATTESTATIONS` (0x4220). -/
def attestations : Nat := 0x422006
/-- `CERT` (0x4220). -/
def cert : Nat := 0x422007
/-- `DEVICE_SERIAL` (0x4220). -/
def deviceSerial : Nat := 0x422008
/-- `PHASE` (0x5000). -/
def phase : Nat := 0x500007
/-- `FAIL_CAUSE` (0x5000). -/
def failCause : Nat := 0x500008
/-- `PHASE_TIMES` (0x5000). -/
def phaseTimes : Nat := 0x500009
/-- `BRICK_PRESENT` (0x5000). -/
def brickPresent : Nat := 0x50000A
/-- `MEMDIE_MAP` (0x5000). -/
def memdieMap : Nat := 0x50000B
/-- `GATHER_MAP` (0x5000). -/
def gatherMap : Nat := 0x50000C
/-- `LATE_NEW` (0x5000). -/
def lateNew : Nat := 0x50000D
/-- `BAD_PASSED` (0x5000). -/
def badPassed : Nat := 0x50000E
/-- `SPARE_TILES_LEFT` (0x5000). -/
def spareTilesLeft : Nat := 0x50000F
/-- `SPARE_BRICKS_LEFT` (0x5000). -/
def spareBricksLeft : Nat := 0x500010
/-- `BOOT_FENCED` (0x5000). -/
def bootFenced : Nat := 0x500011
/-- `BOOT_RESEND_ROUNDS` (0x5000). -/
def bootResendRounds : Nat := 0x500012
/-- `LOG_COUNT` (0x5001). -/
def logCount : Nat := 0x500101
/-- `DEFECT_LOG` (0x5001). -/
def defectLog : Nat := 0x500102
/-- `LOG_CLEAR` (0x5001). -/
def logClear : Nat := 0x500103
/-- `LOG_OVERFLOWS` (0x5001). -/
def logOverflows : Nat := 0x500104
/-- `BOOT_RESENT_PACKETS` (0x5001). -/
def bootResentPackets : Nat := 0x500105
/-- `PARTNER_SHORT` (0x5002). -/
def partnerShort : Nat := 0x500201
/-- `PARTNER_TILES` (0x5002). -/
def partnerTiles : Nat := 0x500202
/-- `PARTNER_BRICKS` (0x5002). -/
def partnerBricks : Nat := 0x500203
/-- `PARTNER_LATE_NEW` (0x5002). -/
def partnerLateNew : Nat := 0x500204
/-- `MORTAR_RETRAINS` (0x5140). -/
def mortarRetrains : Nat := 0x514001
/-- `MORTAR_LINKS_DOWN` (0x5140). -/
def mortarLinksDown : Nat := 0x514002
/-- `ISNS_FULL_SCALE_A` (0x2203). -/
def isnsFullScaleA (k : Nat) : Nat := 0x220301 + k
/-- `VIO_AUD_MV` (0x2203). -/
def vioAudMv : Nat := 0x220307
/-- `LAST_RESET_CAUSE` (0x2203). -/
def lastResetCause : Nat := 0x220308
/-- `VDD_SET_MV` (0x2203). -/
def vddSetMv : Nat := 0x220309
/-- `OPERATION` (0x1310). -/
def operation : Nat := 0x131007

/-- STATE of the progress record at an index (R81). -/
def progState (index : Nat) : Nat := index * 256 + 1
/-- POSITION of the progress record at an index (R81). -/
def progPosition (index : Nat) : Nat := index * 256 + 3
/-- TOTAL of the progress record at an index (R81). -/
def progTotal (index : Nat) : Nat := index * 256 + 4
/-- RESULT of the progress record at an index (R81). -/
def progResult (index : Nat) : Nat := index * 256 + 5

end Sys2Proof.Machine.Obj
end

