-- ==== Sys2Proof/Machine/Ops.lean ====
section
/-! DEFINITION. The shared operations: reading and writing dictionary objects, counters, free values, host memory writes and
what the device sends. -/

namespace Sys2Proof.Machine

/-- Answer of a meaning: it always has a next state. -/
abbrev Out := Host.Outcome State Fault Refusal

/-- ASCII name of a type as R58 gives it, as a little-endian value. -/
def typeName (code : Nat) : Nat :=
  let n : List Char :=
    if code == 1 then ['B', 'O', 'O', 'L', '8'] else if code == 2 then ['U', '8']
    else if code == 3 then ['U', '1', '6'] else if code == 4 then ['U', '3', '2'] else if code == 5 then ['U', '6', '4']
    else if code == 6 then ['I', '1', '6'] else if code == 7 then ['I', '3', '2'] else if code == 8 then ['I', '6', '4']
    else if code == 9 then ['F', '3', '2'] else if code == 10 then ['P', 'O', 'S'] else if code == 11 then ['P', 'C', 'T']
    else if code == 12 then ['O', 'C', 'T', '[', 'n', ']'] else ['D', 'O', 'M', 'A', 'I', 'N']
  ofLE (ascii n)

/-- SIZE of a type descriptor (R57, R58). -/
def typeSize (code : Nat) : Nat :=
  nth 0 [0, 1, 1, 2, 4, 8, 2, 4, 8, 4, 8, 2] code

/-- Tile curve temperatures and factors by default (R433). -/
def tileTemps : List Nat := [750, 800, 850, 900, 930, 950]
def tileFactors : List Nat := [10000, 9500, 8500, 6500, 4500, 2000]
/-- Memory curve temperatures and factors by default (R433). -/
def memTemps : List Nat := [850, 900, 950, 1000]
def memFactors : List Nat := [10000, 8000, 5000, 2000]
/-- Full scales of the current inputs by default (R571). -/
def isnsScales : List Nat := [3000, 720, 300, 220, 24, 72]

/-- Default of an object as its table gives it; objects whose default varies along an index range are given here. -/
def tableDefault (key : Nat) : Nat :=
  let index := key / 256
  let sub := key % 256
  if index < 0x000E then (if sub == 1 then typeSize index else if sub == 2 then typeName index else 2)
  else if index == 0x2201 && sub ≥ 0x10 then
    (if sub < 0x18 then nth 0 tileTemps (sub - 0x10) else nth 0 tileFactors (sub - 0x18))
  else if index == 0x2202 && sub ≥ 0x10 then
    (if sub < 0x18 then nth 0 memTemps (sub - 0x10) else nth 0 memFactors (sub - 0x18))
  else if index == 0x2203 && 1 ≤ sub && sub ≤ 6 then nth 0 isnsScales (sub - 1)
  else if 0x2210 ≤ index && index < 0x222F && sub == 1 then 500 + 25 * (index - 0x2210)
  else if 0x6040 ≤ index && index < 0x6080 && sub == 6 then 64 + (index - 0x6040) % 32
  else match objRow index sub with
    | some r => r.dflt
    | none => 0

/-- The value an object was given at reset (R66, R88). -/
def State.resetValue (s : State) (key : Nat) : Nat := (s.rst.find key).getD (tableDefault key)

/-- The stored value of an object. -/
def State.rd (s : State) (key : Nat) : Nat := (s.dict.find key).getD (s.resetValue key)

/-- Store a value in an object. -/
def State.wr (s : State) (key v : Nat) : State := { s with dict := s.dict.put key v }

/-- Store a two's complement value of `n` bits. -/
def State.wrInt (s : State) (key n : Nat) (v : Int) : State := s.wr key (ofSigned n v)

/-- Largest value of an object's type (R61). -/
def maxOf (key : Nat) : Nat :=
  match objRow (key / 256) (key % 256) with
  | some r => 2 ^ (8 * r.ty.size) - 1
  | none => 0

/-- Add to a counter, stopping at the largest value of its type (R61). -/
def State.bump (s : State) (key : Nat) (n : Nat := 1) : State := s.wr key (Nat.min (s.rd key + n) (maxOf key))

/-- Subtract from a number that counts what is in use. -/
def State.lower (s : State) (key : Nat) (n : Nat) : State := s.wr key (s.rd key - n)

/-- An object as a truth value. -/
def State.rdB (s : State) (key : Nat) : Bool := s.rd key != 0

/-- Draw the next free value number. -/
def State.draw (s : State) : Nat × State := (s.free, { s with free := s.free + 1 })

/-- A free value of the manual's own leaving (assumption 4). -/
def State.freeWord (s : State) : Nat × State := ((Config.freeWord s.free).toNat, { s with free := s.free + 1 })

/-- 16 bytes of the entropy source (R109). -/
def State.entropy16 (s : State) : Bytes × State :=
  (leBytes 16 (Config.entropy s.free).toNat, { s with free := s.free + 1 })

/-- Record something the device sends. -/
def State.send (s : State) (x : Sent) : State := { s with sent := s.sent ++ [x] }

/-- Whether the tie link is up (R505). -/
def State.tieUp (s : State) : Bool := decide (2 ≤ s.rd Obj.tieState)

/-- Send a message on the tie link (R478); while the link is down nothing leaves. -/
def State.tieSend (s : State) (kind tag : Nat) (body : Bytes) : State := if s.tieUp then s.send (.tie kind tag body) else s

/-- Write host memory; a write that comes due while the host is away is abandoned (R119). -/
def State.hostWrite (s : State) (addr : Nat) (bs : Bytes) : State :=
  { s with hostMem := if s.host then s.hostMem.writeBytes addr bs else s.hostMem }

/-- L (R28). -/
def State.courseLen (s : State) : Nat := 2 ^ s.rd Obj.courseLog2

/-- The current position (R27). -/
def State.pos (s : State) : Nat := s.rd Obj.position

/-- The course index under the current L (R28). -/
def State.course (s : State) : Nat := s.pos / s.courseLen

/-- The house rate (R24). -/
def State.fs (s : State) : Nat := s.rd Obj.houseRateHz

/-- Whether frames are being counted: LOCKED, BORROWED, COASTING or COAST_EXPIRED (R34). -/
def State.counting (s : State) : Bool := decide (2 ≤ s.rd Obj.clockState)

/-- A session. -/
def State.session (s : State) (i : Nat) : Session := s.sessions.getD i {}
/-- Store a session. -/
def State.setSession (s : State) (i : Nat) (x : Session) : State := { s with sessions := s.sessions.put i x }

/-- A ring. -/
def State.ring (s : State) (n : Nat) : Ring := s.rings.getD n {}
/-- Store a ring. -/
def State.setRing (s : State) (n : Nat) (r : Ring) : State := { s with rings := s.rings.put n r }

/-- A stream beside its objects. -/
def State.stream (s : State) (n : Nat) : Stream := s.streams.getD n {}
/-- Store a stream. -/
def State.setStream (s : State) (n : Nat) (x : Stream) : State := { s with streams := s.streams.put n x }

/-- A brick. -/
def State.brick (s : State) (k : Nat) : Brick := s.bricks.getD k {}
/-- Store a brick. -/
def State.setBrick (s : State) (k : Nat) (b : Brick) : State := { s with bricks := s.bricks.put k b }

/-- Replace bits of a position flag (R33). -/
def State.setFlag (s : State) (k : Nat) (b : Bool) : State := s.wr Obj.positionFlags (setBit (s.rd Obj.positionFlags) k b)

/-- Enter a new run of a progress record (R82). -/
def State.progStart (s : State) (index total : Nat) : State :=
  (((s.wr (Obj.progState index) 1).wr (Obj.progPosition index) 0).wr (Obj.progTotal index) total).wr (Obj.progResult index) 0

/-- A run of a progress record is held by something outside it, or goes on (R82). -/
def State.progHold (s : State) (index : Nat) (held : Bool) : State := s.wr (Obj.progState index) (if held then 5 else 1)

/-- A run of a progress record has come further by `n` units, at most to its TOTAL (R82). -/
def State.progAdd (s : State) (index n : Nat) : State :=
  s.wr (Obj.progPosition index) (Nat.min (s.rd (Obj.progPosition index) + n) (s.rd (Obj.progTotal index)))

/-- End a run of a progress record DONE (R82). -/
def State.progDone (s : State) (index : Nat) : State :=
  ((s.wr (Obj.progState index) 2).wr (Obj.progPosition index) (s.rd (Obj.progTotal index))).wr (Obj.progResult index) 0

/-- End a run of a progress record FAILED (R81). -/
def State.progFail (s : State) (index code : Nat) : State :=
  (s.wr (Obj.progState index) 3).wr (Obj.progResult index) code

/-- End a run of a progress record CANCELLED (R81). -/
def State.progCancel (s : State) (index : Nat) : State :=
  (s.wr (Obj.progState index) 4).wr (Obj.progResult index) 0

end Sys2Proof.Machine
end

