-- ==== Sys2Proof/Machine/Codes.lean ====
section
/-! DEFINITION. The codes the manual assigns: completion statuses (R146), check codes (R147 and each chapter's additions),
abort codes (R93) and clock states (R34). -/

namespace Sys2Proof.Machine

/-! ### Statuses (R146) -/
namespace St
def done : Nat := 0x00
def short : Nat := 0x01
def clipped : Nat := 0x02
def haltPage : Nat := 0x10
def haltProtect : Nat := 0x11
def haltPoison : Nat := 0x12
def missed : Nat := 0x20
def spilled : Nat := 0x21
def rearm : Nat := 0x22
def cancelled : Nat := 0x30
def check : Nat := 0x31
def level : Nat := 0x32
def fault : Nat := 0x3F
end St

/-! ### Check codes (R147, R215, R264, R348, R389 and the other tables of check codes) -/
namespace Chk
def reservedField : Nat := 0x0001
def badOpcode : Nat := 0x0002
def generation : Nat := 0x0003
def rate : Nat := 0x0004
def slotTaken : Nat := 0x0005
def absentUnit : Nat := 0x0006
def planAbsent : Nat := 0x0007
def notBound : Nat := 0x0008
def marks : Nat := 0x0009
def lead : Nat := 0x000A
def admission : Nat := 0x000B
def ringIndex : Nat := 0x000C
def voice : Nat := 0x000D
def tableAbsent : Nat := 0x000E
def tableInUse : Nat := 0x000F
def stageParam : Nat := 0x0010
def noRoom : Nat := 0x0011
def discontinuous : Nat := 0x0012
def brickCode : Nat := 0x0013
def bricksInUse : Nat := 0x0014
def descriptor : Nat := 0x0015
def planInvalid : Nat := 0x0016
def planFit : Nat := 0x0017
def planInUse : Nat := 0x0018
def group : Nat := 0x0019
def partner : Nat := 0x001A
def checkpointSize : Nat := 0x001B
def curve : Nat := 0x001C
def kvWindow : Nat := 0x001D
def liveHalted : Nat := 0x001E
end Chk

/-! ### Abort codes (R93) -/
namespace Abort
def noObject : Nat := 0x00010001
def noSubindex : Nat := 0x00010002
def notReadable : Nat := 0x00010003
def notWritable : Nat := 0x00010004
def sizeMismatch : Nat := 0x00010005
def useMailbox : Nat := 0x00010006
def level : Nat := 0x00020001
def notAuthenticated : Nat := 0x00020002
def protection : Nat := 0x00020003
def mailboxFault : Nat := 0x00020004
def rangeLow : Nat := 0x00030001
def rangeHigh : Nat := 0x00030002
def badEnum : Nat := 0x00030003
def nonzeroCounter : Nat := 0x00030004
def reservedBits : Nat := 0x00030005
def stageFull : Nat := 0x00040001
def commitPending : Nat := 0x00040002
def notBoundary : Nat := 0x00040003
def positionPassed : Nat := 0x00040004
def consistency : Nat := 0x00040005
def leadBroken : Nat := 0x00040006
def segmentSequence : Nat := 0x00050001
def segmentLength : Nat := 0x00050002
def domainBusy : Nat := 0x00050003
def busy : Nat := 0x00060001
def wrongState : Nat := 0x00060002
def hardware : Nat := 0x00060003
def timeout : Nat := 0x00060004
def partnerUnreachable : Nat := 0x00060005
def storeFailed : Nat := 0x00070001
end Abort

/-- The first check that fails, with what it is reported under. -/
def firstFail {α : Type} : List (Bool × α) → Option α
  | [] => none
  | (true, a) :: _ => some a
  | (false, _) :: r => firstFail r

end Sys2Proof.Machine
end

