-- ==== Sys2Proof/Machine/PlanImage.lean ====
section
/-! DEFINITION. Plan images, brick images and transfer descriptors: their parts and the checks that need nothing but the
image (R263-R264, R347, R353-R358, R383-R389). -/

namespace Sys2Proof.Machine

/-- The lowest offset whose check fails. -/
def lowestFail (xs : List (Bool × Nat)) : Option Nat :=
  match (xs.filter (·.1)).map (·.2) with
  | [] => none
  | o :: os => some (os.foldl Nat.min o)

/-! ### Brick images (R347) -/

/-- The image offset of the first header field of a brick image that breaks R347. -/
def brickImageFault (im : Bytes) : Option Nat :=
  let code := field im 8 4
  let addr := field im 16 4
  firstFail [
    (field im 0 4 != 0x60844243, 0), (field im 4 2 != 1, 4), (field im 6 2 != 0, 6),
    (code % 4 != 0 || code < 4 || code > 196544, 8),
    (decide (field im 12 4 ≥ code / 4), 12),
    (addr % 64 != 0 || decide (addr < roundUp code 64), 16),
    (decide (addr + field im 20 4 > 262144), 20),
    (field im 26 2 != 0, 26), (field im 28 4 != 0, 28), (!allZero (slice im 40 24), 40)]

/-- The length a brick image must have (R347). -/
def brickImageLength (im : Bytes) : Nat := 64 + field im 8 4 + field im 20 4

/-! ### Address programs and block lists (R357, R358) -/

/-- The instructions of an address program. -/
def progWords (d : Bytes) (off count : Nat) : List Nat := (List.range count).map (fun k => field d (off + 8 * k) 8)

/-- Operation, X and IMM of an address-program instruction. -/
def progOp (w : Nat) : Nat := bits w 63 60
def progX (w : Nat) : Bool := bit w 59
def progImm (w : Nat) : Nat := bits w 55 0

/-- Whether one instruction keeps its layout (R357). -/
def progInstrOk (w : Nat) : Bool :=
  let op := progOp w
  let imm := progImm w
  let lo := imm % 2 ^ 32
  decide (op ≤ 6) && bits w 58 56 == 0 && (op == 3 || op == 5 || !progX w) &&
  (op != 0 || imm == 0) && (op != 3 || (decide (lo ≥ 1) && imm == lo)) && (op != 4 || (decide (lo ≥ 1) && imm == lo)) &&
  (op != 6 || imm % 8 == 0)

/-- Byte total and step count of a program from its instructions, with the iteration counts of the open loops, innermost
first; none when it breaks R357. -/
def progTotal : List Nat → List Nat → Option (Nat × Nat)
  | [], _ => none
  | w :: ws, loops =>
    if !progInstrOk w then none else
    let m := loops.foldl (· * ·) 1
    let add (r : Option (Nat × Nat)) (bytes : Nat) : Option (Nat × Nat) := r.map (fun t => (t.1 + bytes, t.2 + m))
    match progOp w with
    | 0 => if loops.isEmpty then some (0, 1) else none
    | 3 => add (progTotal ws loops) (m * progImm w)
    | 4 => if loops.length ≥ 6 then none else add (progTotal ws (progImm w :: loops)) 0
    | 5 => match loops with
      | [] => none
      | _ :: outer => add (progTotal ws outer) 0
    | _ => add (progTotal ws loops) 0

/-- An open loop of an address program: first instruction of the body, iterations left, A at the LOOP. -/
structure AddrLoop where
  first : Nat
  left  : Nat
  saved : Nat
deriving DecidableEq, Repr

/-- Split a run that crosses the window's end (R357). -/
def splitRun (base a w n : Nat) : List (Nat × Nat) :=
  if w = 0 then [(base + a, n)]
  else
    let o := a % w
    if o + n ≤ w then [(base + o, n)]
    else (base + o, w - o) ::
      (List.range ((o + n - w + w - 1) / w)).map (fun k => (base, Nat.min w (o + n - w - k * w)))

/-- The runs of an address program, in order. -/
def progRuns (prog : List Nat) (base : Nat) : Nat → Nat → Nat → Nat → List AddrLoop → List (Nat × Nat)
  | 0, _, _, _, _ => []
  | f + 1, pc, a, w, loops =>
    let ins := nth 0 prog pc
    let imm := progImm ins
    match progOp ins with
    | 1 => progRuns prog base f (pc + 1) imm w loops
    | 2 => progRuns prog base f (pc + 1) (ofSigned 64 ((a : Int) + toSigned 56 imm)) w loops
    | 3 => splitRun base a w imm ++
        progRuns prog base f (pc + 1) (if progX ins then (a + imm) % 2 ^ 64 else a) w loops
    | 4 => progRuns prog base f (pc + 1) a w (⟨pc + 1, imm, a⟩ :: loops)
    | 5 => match loops with
      | [] => []
      | l :: outer =>
        let a' := ofSigned 64 ((a : Int) + toSigned 56 imm)
        if l.left > 1 then progRuns prog base f l.first a' w ({ l with left := l.left - 1 } :: outer)
        else progRuns prog base f (pc + 1) (if progX ins then l.saved else a') w outer
    | 6 => progRuns prog base f (pc + 1) a imm loops
    | _ => []

/-! ### Transfer descriptors (R353-R358) -/

/-- Form of a side: 0 contiguous, 1 program, 2 blocks. -/
def descForm (d : Bytes) (dst : Bool) : Nat := let f := field d 6 1; if dst then bits f 3 2 else bits f 1 0
def descSpace (d : Bytes) (dst : Bool) : Nat := field d (if dst then 5 else 4) 1
def descBase (d : Bytes) (dst : Bool) : Nat := field d (if dst then 24 else 16) 8
def descOff (d : Bytes) (dst : Bool) : Nat := field d (if dst then 36 else 32) 2
def descCount (d : Bytes) (dst : Bool) : Nat := field d (if dst then 38 else 34) 2
def descLength (d : Bytes) : Nat := field d 8 8

/-- Byte total of a side; none when its program or list breaks R357 or R358. -/
def sideTotal (d : Bytes) (dst : Bool) : Option Nat :=
  match descForm d dst with
  | 0 => some (descLength d)
  | 1 => (progTotal (progWords d (descOff d dst) (descCount d dst)) []).map (·.1)
  | _ =>
    (List.range (descCount d dst)).foldl (fun t k =>
      let o := descOff d dst + 16 * k
      if field d (o + 8) 4 == 0 || field d (o + 12) 4 != 0 then none else t.map (· + field d (o + 8) 4)) (some 0)

/-- The runs of a side, each an address and a byte count (R355). -/
def sideRuns (d : Bytes) (dst : Bool) : List (Nat × Nat) :=
  match descForm d dst with
  | 0 => [(descBase d dst, descLength d)]
  | 1 =>
    let ws := progWords d (descOff d dst) (descCount d dst)
    let steps := ((progTotal ws []).map (·.2)).getD 0
    progRuns ws (descBase d dst) (steps + 1) 0 0 0 []
  | _ => (List.range (descCount d dst)).map (fun k =>
      let o := descOff d dst + 16 * k
      (descBase d dst + field d o 8, field d (o + 8) 4))

/-- The header field, the lowest of several, or 0xFF for a program or list, at which a descriptor breaks R354. -/
def descFault (d : Bytes) (plan : Bool) : Option Nat :=
  let n := d.length
  let side (dst : Bool) : List (Bool × Nat) :=
    let space := descSpace d dst
    let form := descForm d dst
    let off := descOff d dst
    let cnt := descCount d dst
    let at0 := if dst then 36 else 32
    let size := if form == 1 then 8 else 16
    let top := if form == 1 then 16 else 4092
    [ (decide (space > 4) || (!plan && space == 4), if dst then 5 else 4),
      (form == 3 || (space == 4 && form != 0), 6),
      (space == 4 && descBase d dst != 0, if dst then 24 else 16),
      (if form == 0 then off != 0 else off % 8 != 0 || decide (off < 64), at0),
      (if form == 0 then cnt != 0 else decide (cnt < 1) || decide (cnt > top) || decide (off + cnt * size > n), at0 + 2)]
  let joint := descSpace d false == 4 || descSpace d true == 4
  lowestFail ([(decide (n < 64) || decide (n > 65536) || field d 0 4 != 0x60844D56, 0)] ++ side false ++ side true ++
    [ (bits (field d 6 1) 7 4 != 0, 6), (decide (field d 7 1 > 1), 7),
      (decide (descLength d < 1) || decide (descLength d > 2 ^ 40) || (joint && descLength d % 8 != 0), 8),
      (!joint && field d 40 2 != 0, 40), (!allZero (slice d 42 22), 42),
      (sideTotal d false != some (descLength d) || sideTotal d true != some (descLength d), 0xFF)])

/-- Whether a transfer takes the short path (R363): at most 256 bytes, both sides contiguous or both a single block. -/
def descShort (d : Bytes) : Bool :=
  decide (d.length ≤ 256) &&
  ((descForm d false == 0 && descForm d true == 0) ||
   (descForm d false == 2 && descForm d true == 2 && descCount d false == 1 && descCount d true == 1))

/-! ### Parts of a plan image (R383-R388) -/

/-- A section entry. -/
structure Sect where
  kind  : Nat
  count : Nat
  off   : Nat
  len   : Nat
  /-- Image offset of the entry. -/
  entry : Nat
deriving DecidableEq, Repr

def planStages (im : Bytes) : Nat := field im 20 1
def planRate (im : Bytes) : Nat := field im 16 4
def planLabel (im : Bytes) : Nat := field im 32 8

/-- The section entries (R384). -/
def planSects (im : Bytes) : List Sect :=
  (List.range (Nat.min 64 (field im 6 2))).map (fun i =>
    let e := 128 + 32 * i
    ⟨field im e 2, field im (e + 4) 4, field im (e + 8) 8, field im (e + 16) 8, e⟩)

/-- The section of a kind. -/
def planSect (im : Bytes) (kind : Nat) : Option Sect := (planSects im).find? (fun s => s.kind == kind)

/-- Offsets of the fixed-size entries of a section. -/
def sectItems (im : Bytes) (kind size : Nat) : List Nat :=
  match planSect im kind with
  | some s => (List.range (Nat.min s.count (s.len / size))).map (fun k => s.off + size * k)
  | none => []

/-- A bond-map entry (R388). -/
structure Bond where
  stage : Nat
  kind  : Nat
  rank  : Nat
  unit  : Nat
  slot  : Nat
  mode  : Nat
  plane : Nat
  pos   : Nat
deriving DecidableEq, Repr

def planBonds (im : Bytes) : List Bond :=
  (sectItems im 2 16).map (fun o => ⟨field im o 1, field im (o + 1) 1, field im (o + 2) 2, field im (o + 4) 2,
    field im (o + 6) 1, field im (o + 7) 1, field im (o + 8) 4, o⟩)

/-- A joint record (R387). -/
structure JointRec where
  link : Nat
  tile : Nat
  port : Nat
  readers : Nat
  maxPacket : Nat
  threshold : Nat
  reserve : Nat
  limit : Nat
  idle : Nat
  pos : Nat
deriving DecidableEq, Repr

def planJoints (im : Bytes) : List JointRec :=
  (sectItems im 4 32).map (fun o => ⟨field im o 1, field im (o + 1) 1, field im (o + 2) 1, field im (o + 3) 1,
    field im (o + 4) 2, field im (o + 6) 2, field im (o + 8) 4, field im (o + 12) 4, field im (o + 16) 4, o⟩)

/-- A tensor record (R385). -/
structure TensorRec where
  tensor : Nat
  format : Nat
  flags : Nat
  guard : Nat
  zp : Nat
  scale : F32
  sequence : Nat
  zpOff : Nat
  zpCount : Nat
  pos : Nat
deriving DecidableEq, Repr

def planTensors (im : Bytes) : List TensorRec :=
  (sectItems im 3 32).map (fun o => ⟨field im o 2, field im (o + 2) 1, field im (o + 3) 1, field im (o + 4) 2,
    field im (o + 6) 2, f32At im (o + 8), field im (o + 12) 4, field im (o + 16) 4, field im (o + 20) 4, o⟩)

/-- The record of a tensor. -/
def planTensor (im : Bytes) (t : Nat) : Option TensorRec := (planTensors im).find? (fun r => r.tensor == t)

/-- Format of the plan's keys and values, as the record's key/value section states it (R226, R303): that of its key tensors. -/
def planKvFormat (im : Bytes) : Nat :=
  ((Config.tokenProgram im).findSome? (fun o => match o with
    | .kv _ _ k _ _ _ => (planTensor im k).map (·.format)
    | _ => none)).getD 0x07

/-- A layer: stage, number, record kind, image offset of its record, record bytes, image offset of its header. -/
structure Layer where
  stage : Nat
  kind  : Nat
  body  : Nat
  bytes : Nat
  pos   : Nat
deriving DecidableEq, Repr

/-- The layers from an offset on; none when they leave the section. -/
def layersFrom (im : Bytes) (stage stop : Nat) : Nat → Nat → Option (List Layer × Nat)
  | 0, p => some ([], p)
  | n + 1, p =>
    let b := field im (p + 4) 4
    if p + 48 + b > stop then none
    else (layersFrom im stage stop n (p + 48 + b)).map (fun r => (⟨stage, field im (p + 2) 2, p + 48, b, p⟩ :: r.1, r.2))

/-- Stage headers (offset of each) with their layers; none when they leave the section. -/
def stagesFrom (im : Bytes) (base stop : Nat) : Nat → Nat → Nat → Option (List (Nat × List Layer))
  | 0, _, _ => some []
  | n + 1, i, p =>
    if p + 64 > stop then none
    else
      let layers := field im (p + 2) 2
      let q := if layers == 0 then p + 64 else base + field im (p + 4) 4
      match layersFrom im i stop layers q with
      | none => none
      | some r => (stagesFrom im base stop n (i + 1) r.2).map ((p, r.1) :: ·)

/-- The stages of a plan with their layers. -/
def planStageList (im : Bytes) : Option (List (Nat × List Layer)) :=
  match planSect im 1 with
  | some s => stagesFrom im s.off (s.off + s.len) (planStages im) 0 s.off
  | none => none

/-- Every layer of a plan, in order. -/
def planLayers (im : Bytes) : List Layer := ((planStageList im).getD []).flatMap (·.2)

/-- What carries out a stage: 0 tiles, 1 bricks, 2 gather units. -/
def stageUnitKind (im : Bytes) (stage : Nat) : Nat :=
  match ((planStageList im).getD [])[stage]? with
  | some h => field im (h.1 + 1) 1
  | none => 0

/-- Brick images of a plan: slot, image, image offset; `count` of them from offset `p`. -/
def brickImagesFrom (im : Bytes) : Nat → Nat → List (Nat × Bytes × Nat)
  | 0, _ => []
  | n + 1, p =>
    let b := field im (p + 4) 4
    (field im p 1, slice im (p + 8) b, p) :: brickImagesFrom im n (p + 8 + b)

def planBrickImages (im : Bytes) : List (Nat × Bytes × Nat) :=
  match planSect im 6 with
  | some s => brickImagesFrom im (Nat.min s.count (s.len / 8)) s.off
  | none => []

/-- Curves of a plan: slot, image, image offset. -/
def planCurves (im : Bytes) : List (Nat × Bytes × Nat) :=
  (sectItems im 7 808).map (fun o => (field im o 1, slice im (o + 8) 800, o))

/-- Plane bytes a plan takes on a tile (R384). -/
def planPlaneBytes (im : Bytes) (tile : Nat) : Nat :=
  sumN (((planBonds im).filter (fun b => b.kind == 0 && b.unit == tile)).map (·.plane))

/-- Bytes of the bed that a plan allowing SPREAD sets aside in every plane (R236). -/
def planBed (im : Bytes) : Nat := if Config.planAttr im .spread != 0 then 0x80000 else 0

/-- End of the weights placed in a plan's area of a tile's plane (R384). -/
def planWeightsEnd (im : Bytes) (tile : Nat) : Nat :=
  maxN (((sectItems im 5 16).filter (fun o => field im o 1 == tile)).map (fun o => field im (o + 4) 4 + field im (o + 12) 4))

/-- Key/value slots of a plan: what it declares, as far as its plane areas have room for the pages beside the weights; the slot of a block
has the same number in the plane of every tile that holds pages (R229, R232). -/
def planKvSlots (im : Bytes) : Nat :=
  let pairs := Config.planKvPairs im
  let tiles := pairs.map (fun p => Config.kvTile im p.1 p.2)
  if pairs.isEmpty then 0
  else tiles.foldl (fun m t => Nat.min m ((planPlaneBytes im t - planWeightsEnd im t) / (32768 * tiles.count t)))
    (Config.planAttr im .kvPlaneBytes / (32768 * pairs.length))

/-- Plane bytes a plan sets aside for key/value pages, all tiles together (R229, R244). -/
def planKvPlaneBytes (im : Bytes) : Nat := planKvSlots im * (32768 * (Config.planKvPairs im).length)

/-- The greatest window of a plan: what it declares, 4,194,304 positions at most (R19, R228). -/
def planWindowMax (im : Bytes) : Nat := Nat.min (Config.planAttr im .windowMax) 4194304

/-- Bytes of a feature row: a multiple of 8 from 16 to 4,096 (R218). -/
def planRowBytes (im : Bytes) : Nat := Nat.max 16 (Nat.min 4096 (Config.planAttr im .rowBytes / 8 * 8))

/-- The tile in whose plane a part of carried state lies: one of those of its stage, or of the plan for a part the manual gives no stage
(R302; assumption 36). -/
def planStateTile (im : Bytes) (stage tensor : Nat) : Nat :=
  let own := (planBonds im).filter (fun b => b.stage == stage)
  let tiles := dedup ((if own.isEmpty then planBonds im else own).map (fun b =>
    if b.kind == 0 then b.unit else if b.kind == 1 then b.unit / 32 else 16 * b.unit))
  if tiles.isEmpty then 0 else nth 0 tiles (tensor % tiles.length)

/-- Bricks of a plan's bond map. -/
def planBricks (im : Bytes) : List Nat := ((planBonds im).filter (fun b => b.kind == 1)).map (·.unit)

/-! ### Records of convolution and pooling layers (R263, R264) -/

/-- DESIGN CHOICE (assumption 30): RECORD_KIND 0 with 64 record bytes is the record of R263; the manual numbers no other
kind, and a layer of another kind is opaque. -/
def isConv (l : Layer) : Bool := l.kind == 0 && l.bytes == 64

def convK (r : Bytes) : Nat := field r 4 2
def convS (r : Bytes) : Nat := field r 6 2
def convD (r : Bytes) : Nat := field r 8 4
def convPL (r : Bytes) : Nat := field r 12 4
def convPR (r : Bytes) : Nat := field r 16 4
def convG (r : Bytes) : Nat := field r 20 4
def convCin (r : Bytes) : Nat := field r 24 4
def convCout (r : Bytes) : Nat := field r 28 4
def convFused (r : Bytes) : Bool := bit (field r 3 1) 1

/-- The record offset at which a layer's record breaks R264; `pos` is its place in a fused stack, from 0, when it is in
one, and `nextConv` whether another record follows in its stage. -/
def convFault (r : Bytes) (pos : Option Nat) (nextConv : Bool) : Option Nat :=
  let kind := field r 0 1
  let pool := decide (kind ≥ 2)
  let mode := field r 1 1
  let k := convK r
  let s := convS r
  let d := convD r
  let pl := convPL r
  let pr := convPR r
  let g := convG r
  let ci := convCin r
  let co := convCout r
  let span := (k - 1) * d
  let cg := if g == 0 then 0 else ci / g
  let inF := field r 32 1
  let wF := field r 33 1
  let outF := field r 34 1
  let ipk := bits (field r 35 1) 1 0
  let opk := bits (field r 35 1) 3 2
  let rs := ceilDiv (k * cg) 256 * 256 * formatBits inF / 8
  let stack := pos.isSome
  firstFail [
    (decide (kind > 3) || (stack && kind != 0), 0), (decide (mode > 1), 1),
    (decide (field r 2 1 > 3) || (kind == 1 && field r 2 1 != 0) || (mode == 0 && field r 2 1 == 2) ||
      (field r 2 1 == 2 && (match pos with | some p => decide (p > 0) | none => false)), 2),
    (decide (field r 3 1 > 3) || (!pool && bit (field r 3 1) 0) || (convFused r && !nextConv) ||
      (match pos with | some p => decide (p ≥ 16) | none => false), 3),
    (decide (k < 1) || decide (k > (if pool then 64 else 1024)) || (!pool && cg == 1 && g == ci && decide (k > 256)), 4),
    (decide (s < 1) || decide (s > 256) || (stack && s != 1), 6),
    (decide (d < 1) || decide (d > 65536) || (kind == 1 && d != 1) ||
      decide (span > (if mode == 0 then 65535 else 16777215)), 8),
    (kind == 1 && mode == 0 && pl == 0 && pr != 0, 16),
    (if kind == 1 then (mode == 0 && pl != 0) || decide (pl + pr > 16777215)
     else if mode == 0 || stack then pl + pr != span else decide (pl + pr > 16777215), 12),
    (g == 0 || ci % g != 0 || co % g != 0, 20), (decide (ci < 1) || decide (ci > 65536), 24),
    (decide (co < 1) || decide (co > 65536) || (pool && co != ci), 28),
    (!pool && decide (k * cg > (if formatInteger inF then 32768 else 16777216)), 4),
    (decide (inF < 1) || decide (inF > 9), 32),
    (if pool then wF != 0 else !formatKnown wF || wF == 0x0A || wF == 0x0B, 33),
    (!formatKnown outF, 34),
    (decide (field r 35 1 > 15) || ipk == 3 || opk == 3 || (ipk != 0 && (inF != 8 || ci % 32 != 0)) ||
      (opk != 0 && (outF != 8 || co % 32 != 0)), 35),
    (decide (field r 36 4 ≥ 2 ^ (8 * ceilDiv (formatBits inF) 8)), 36),
    (field r 40 4 % 16 != 0 || decide (field r 40 4 < 16) || decide (field r 40 4 > 65536), 40),
    (pool && field r 44 2 != 0, 44),
    (field r 50 2 != 0 || decide (field r 48 1 + field r 49 1 > 128) ||
      decide (ceilDiv (field r 40 4 * rs) 65536 > field r 49 1), 48),
    (!allZero (slice r 52 12), 52)]

/-- Check the records of a stage in order, with the place in the fused stack before (R280). -/
def convFaults (im : Bytes) : List Layer → Option Nat → Option (Nat × Nat)
  | [], _ => none
  | l :: ls, pos =>
    if !isConv l then convFaults im ls none
    else
      let r := slice im l.body 64
      let next := match ls with | m :: _ => isConv m | [] => false
      let here := if pos.isSome then pos else if convFused r then some 0 else none
      match convFault r here next with
      | some o => some (o, l.body + o)
      | none => convFaults im ls (if convFused r then some (here.getD 0 + 1) else none)

/-! ### The checks of R389 that need only the image -/

/-- R383 and R384: the header and the section entries. -/
def planHeaderFault (im : Bytes) (length : Nat) : Option Nat :=
  let n := field im 6 2
  let st := planStages im
  firstFail [
    (field im 0 4 != 0x6084504C, 0), (field im 4 2 != 1, 4),
    (decide (n < 1) || decide (n > 64) || decide (128 + 32 * n > length), 6), (field im 8 8 != length, 8),
    (decide (st < 1) || decide (st > 8), 20), (!allZero (slice im 21 3), 21), (field im 26 2 != st + 1, 26),
    (field im 28 4 != 0, 28), (!allZero (slice im 40 88), 40)]

def planSectFault (im : Bytes) (length : Nat) : Option Nat :=
  let ss := planSects im
  let one (s : Sect) : List (Bool × Nat) :=
    let size := nth 0 [0, 64, 16, 32, 32, 16, 8, 808, 64, 1] s.kind
    [ (decide (s.kind < 1) || decide (s.kind > 9) || decide ((ss.filter (fun x => x.kind == s.kind)).length > 1), s.entry),
      (field im (s.entry + 2) 2 != 0, s.entry + 2),
      (s.off % 64 != 0 || decide (s.off < 128 + 32 * ss.length), s.entry + 8),
      (decide (s.off + s.len > length) || decide (s.count * size > s.len), s.entry + 16),
      (field im (s.entry + 24) 8 != 0, s.entry + 24)]
  let has (k : Nat) := (planSect im k).isSome
  let count (k : Nat) := ((planSect im k).map (·.count)).getD 0
  firstFail (ss.flatMap one ++
    [(!has 1 || !has 2 || !has 4, 6), (field im 24 2 != 0 && !has 3, 24), (has 3 && count 3 != field im 24 2, 24),
     (count 1 != planStages im, 6)])

def planStageFault (im : Bytes) : Option Nat :=
  let base := ((planSect im 1).map (·.entry)).getD 0
  match planStageList im with
  | none => some (base + 16)
  | some hs => firstFail ((List.zip (List.range hs.length) hs).flatMap (fun e =>
      let p := e.2.1
      [(field im p 1 != e.1, p), (decide (field im (p + 1) 1 > 2), p + 1), (!allZero (slice im (p + 8) 56), p + 8)] ++
      e.2.2.map (fun l => (!allZero (slice im (l.pos + 40) 8), l.pos + 40))))

def planBondFault (im : Bytes) : Option Nat :=
  firstFail ((planBonds im).flatMap (fun b =>
    [ (decide (b.stage ≥ planStages im), b.pos), (decide (b.kind > 2) || b.kind != stageUnitKind im b.stage, b.pos + 1),
      (decide (b.unit ≥ (if b.kind == 0 then 96 else if b.kind == 1 then 3072 else 6)), b.pos + 4),
      ((b.slot == 0xFF) == (b.kind == 1), b.pos + 6),
      (decide (b.mode > (if b.kind == 0 then 1 else 0)), b.pos + 7), (b.kind != 0 && b.plane != 0, b.pos + 8),
      (field im (b.pos + 12) 4 != 0, b.pos + 12)]))

/-- The weight tensors of convolution records with their output columns. -/
def planWeights (im : Bytes) : List (Nat × Nat) :=
  ((planLayers im).filter isConv).filterMap (fun l =>
    let r := slice im l.body 64
    if field r 0 1 ≤ 1 then some (field r 44 2, convCout r) else none)

def planTensorFault (im : Bytes) : Option Nat :=
  let zps := planSect im 9
  firstFail ((planTensors im).flatMap (fun t =>
    let per := bit t.flags 2
    let lo := (intRange t.format).1
    let hi := (intRange t.format).2
    let signed := t.format == 2 || t.format == 6
    let zpInt := toSigned 16 t.zp
    let weightish := t.format == 2 || t.format == 3 || t.format == 6 || t.format == 7
    let uses := (planWeights im).filter (fun w => w.1 == t.tensor)
    let opaqueLayer := (planLayers im).any (fun l => !isConv l)
    let b := t.pos
    [ (decide (((planTensors im).filter (fun x => x.tensor == t.tensor)).length > 1), b), (!formatKnown t.format, b + 2),
      (decide (t.flags > 7) || (bit t.flags 1 && !formatTiled t.format) || (per && !weightish), b + 3),
      (decide (t.guard > 10000) && t.guard != 0xFFFF, b + 4),
      (if per || !weightish then t.zp != 0 else decide (zpInt < lo ∨ zpInt > hi), b + 6),
      (!isFinite t.scale || flt t.scale 0x0D800000#32 || flt 0x71800000#32 t.scale || bit t.scale.toNat 31, b + 8),
      (decide (t.sequence > 16777215), b + 12),
      (if per then (match zps with | some z => decide (t.zpOff + t.zpCount > z.len) | none => true) else t.zpOff != 0, b + 16),
      (if per then (uses.isEmpty && !opaqueLayer) || uses.any (fun w => w.2 != t.zpCount) else t.zpCount != 0, b + 20),
      (field im (b + 24) 8 != 0, b + 24)] ++
    (if per then (match zps with
      | some z => (List.range t.zpCount).map (fun k =>
          let v := field im (z.off + t.zpOff + k) 1
          let i := if signed then toSigned 8 v else (v : Int)
          (decide (i < lo ∨ i > hi), z.off + t.zpOff + k))
      | none => []) else [])))

def planJointFault (im : Bytes) : Option Nat :=
  firstFail ((planJoints im).flatMap (fun j =>
    [ (decide (j.link > planStages im) ||
        decide (((planJoints im).filter (fun x => x.link == j.link && x.tile == j.tile && x.port == j.port)).length > 1), j.pos),
      (decide (j.tile ≥ 96), j.pos + 1), (decide (j.port > 6), j.pos + 2),
      (decide (j.readers < 1) || decide (j.readers > 8), j.pos + 3),
      (decide (j.maxPacket < 1) || decide (j.maxPacket > 16384), j.pos + 4),
      (decide (j.threshold < 1) || decide (j.threshold > j.maxPacket), j.pos + 6),
      (decide (j.reserve < j.maxPacket) || decide (j.reserve > 262144), j.pos + 8),
      (decide (j.limit < j.reserve) || decide (j.limit > 262144), j.pos + 12),
      (!allZero (slice im (j.pos + 20) 12), j.pos + 20)]))

def planPlaceFault (im : Bytes) : Option Nat :=
  let w := planSect im 5
  let cnt := (w.map (·.count)).getD 0
  let len := (w.map (·.len)).getD 0
  firstFail ((sectItems im 5 16).flatMap (fun o =>
    let tile := field im o 1
    let n := field im (o + 12) 4
    [ ((planBonds im).all (fun b => b.kind != 0 || b.unit != tile), o), (!allZero (slice im (o + 1) 3), o + 1),
      (decide (field im (o + 4) 4 + n > planPlaneBytes im tile), o + 4),
      (decide (field im (o + 8) 4 < 16 * cnt) || decide (field im (o + 8) 4 + n > len), o + 8)]))

def planCurveFault (im : Bytes) : Option Nat :=
  firstFail ((planCurves im).flatMap (fun c =>
    [ (decide (c.1 > 239), c.2.2), (!allZero (slice im (c.2.2 + 1) 7), c.2.2 + 1),
      ((curveFault c.2.1).isSome, c.2.2 + 8 + (curveFault c.2.1).getD 0)]))

/-- Descriptors of the DESCRIPTORS section, one after another, each as long as the largest program or list it covers;
DESIGN CHOICE (assumption 31): each takes its header's programs and lists, rounded up to 64 bytes. -/
def descBytes (d : Bytes) : Nat :=
  let stop (dst : Bool) :=
    let f := descForm d dst
    if f == 0 then 64 else descOff d dst + descCount d dst * (if f == 1 then 8 else 16)
  roundUp (Nat.max 64 (Nat.max (stop false) (stop true))) 64

def descsFrom (im : Bytes) (stop : Nat) : Nat → Nat → List (Nat × Bytes)
  | 0, _ => []
  | n + 1, p =>
    let len := descBytes (slice im p 64)
    (p, slice im p (Nat.min len (stop - p))) :: descsFrom im stop n (p + len)

def planDescs (im : Bytes) : List (Nat × Bytes) :=
  match planSect im 8 with
  | some s => descsFrom im (s.off + s.len) (Nat.min s.count (s.len / 64)) s.off
  | none => []

def planDescFault (im : Bytes) : Option Nat :=
  firstFail ((planDescs im).map (fun e =>
    let f := descFault e.2 true
    (f.isSome || decide (field e.2 40 2 > planStages im), e.1 + (if f.getD 40 == 0xFF then 32 else f.getD 40))))

/-- The family rule of R177 for the operands of convolution records, at the record's WEIGHT_FORMAT. -/
def planFamilyFault (im : Bytes) : Option Nat :=
  firstFail (((planLayers im).filter isConv).map (fun l =>
    let r := slice im l.body 64
    (decide (field r 0 1 ≤ 1) && formatInteger (field r 32 1) != formatInteger (field r 33 1), l.body + 33)))

/-- Check 2 of R389: the image offset of the first field at fault. -/
def planInvalidAt (im : Bytes) (length : Nat) : Option Nat :=
  planHeaderFault im length <|> planSectFault im length <|> planStageFault im <|> planBondFault im <|> planTensorFault im <|>
  planJointFault im <|> planPlaceFault im <|> planCurveFault im <|> planDescFault im <|> planFamilyFault im

/-- Check 3 of R389: record offset and image offset of the first record at fault. -/
def planStageParam (im : Bytes) : Option (Nat × Nat) :=
  ((planStageList im).getD []).foldl (fun acc h => acc <|> convFaults im h.2 none) none

/-- Check 5 of R389: the image offset of the first brick image field at fault. -/
def planBrickFault (im : Bytes) : Option Nat :=
  firstFail ((planBrickImages im).flatMap (fun e =>
    let p := e.2.2
    [ (decide (e.1 > 254), p), (field im (p + 1) 3 != 0, p + 1),
      (field im (p + 4) 4 != brickImageLength e.2.1, p + 4),
      ((brickImageFault e.2.1).isSome, p + 8 + (brickImageFault e.2.1).getD 0)]))

end Sys2Proof.Machine
end

