-- ==== Sys2Proof/Machine/Joints.lean ====
section
/-! DEFINITION. Joints: packets, readers, space, spacers and the consumer commands (R323, R327, R369-R376, R391, R392). -/

namespace Sys2Proof.Machine

/-- Words of a record. -/
def JRec.words' : JRec → List Nat
  | .packet _ ws _ _ _ _ => ws
  | .spacer _ => []

/-- Whether a record holds words moved to the overflow region (R377). -/
def JRec.isSpilled : JRec → Bool
  | .packet _ _ _ _ _ sp => sp
  | .spacer _ => false

/-- Position before which a reader has freed every word: its mark, or where it stands (R372). -/
def Reader.freed (r : Reader) : Nat × Nat :=
  match r.mark with
  | some m => (m.1, m.2.1)
  | none => (r.idx, r.word)

/-- Whether one position comes before another. -/
def posBefore (a b : Nat × Nat) : Bool := decide (a.1 < b.1) || (a.1 == b.1 && decide (a.2 < b.2))

/-- Position before which every reader has freed every word (R323, R372). -/
def Joint.freed (j : Joint) : Nat × Nat :=
  match j.readers with
  | [] => (0, 0)
  | r :: rs => rs.foldl (fun acc x => if posBefore x.freed acc then x.freed else acc) r.freed

/-- Words held, in the pool or in the overflow region. -/
def Joint.heldIn (j : Joint) (spilled : Bool) : Nat :=
  let f := j.freed
  sumN ((List.zip (List.range j.recs.length) j.recs).map (fun e =>
    if e.2.isSpilled != spilled then 0
    else if e.1 < f.1 then 0
    else if e.1 == f.1 then e.2.words'.length - f.2
    else e.2.words'.length))

/-- Words the joint holds in its tile's pool (R375). -/
def Joint.held (j : Joint) : Nat := j.heldIn false

/-- Drop the records every reader has passed. -/
def Joint.trim (j : Joint) : Joint :=
  let n := j.freed.1
  { j with recs := j.recs.drop n
           base := j.base + Nat.min n j.recs.length
           readers := j.readers.map (fun r =>
             { r with idx := r.idx - n, mark := r.mark.map (fun m => (m.1 - n, m.2)) }) }

/-- Let a reader that drops the rest of its packet pass what has arrived (R372). -/
def settleReader (recs : List JRec) : Nat → Reader → Reader
  | 0, r => r
  | f + 1, r =>
    if !r.drop then r
    else match recs[r.idx]? with
      | none => r
      | some (.spacer _) => settleReader recs f { r with idx := r.idx + 1, word := 0 }
      | some (.packet _ ws ended _ _ _) =>
        if ended then { r with word := ws.length, drop := false }
        else if r.idx + 1 < recs.length then settleReader recs f { r with idx := r.idx + 1, word := 0 }
        else { r with word := ws.length }

def Joint.settle (j : Joint) : Joint :=
  Joint.trim { j with readers := j.readers.map (settleReader j.recs (j.recs.length + 1)) }

/-! ### Space (R375) -/

/-- Joints of a tile. -/
def State.tileJoints (s : State) (tile : Nat) : List Joint := (s.joints.filter (fun e => e.1 / 64 == tile)).map (·.2)

/-- Sum of the reserves of a tile (R392). -/
def State.reservedWords (s : State) (tile : Nat) : Nat := sumN ((s.tileJoints tile).map (·.reserve))

/-- Shared-pool words held on a tile (R392). -/
def State.sharedUsed (s : State) (tile : Nat) : Nat := sumN ((s.tileJoints tile).map (fun j => j.held - j.reserve))

/-- Words held on a tile. -/
def State.tileWords (s : State) (tile : Nat) : Nat := sumN ((s.tileJoints tile).map Joint.held)

/-- Words per tile pool (R375). -/
def poolWords : Nat := 262144

/-- Free space of a joint (R375). -/
def State.jointFree (s : State) (key : Nat) : Nat :=
  match s.joints.find key with
  | none => 0
  | some j =>
    let h := j.held
    let shared := poolWords - s.reservedWords (key / 64) - s.sharedUsed (key / 64)
    Nat.min (j.limit - h) (j.reserve - h + shared)

/-- Bytes held in the overflow region (R390). -/
def State.overflowUsed (s : State) : Nat := 8 * sumN (s.joints.map (fun e => e.2.heldIn true))

/-- Store a joint, keeping the tile's high-water mark (R392). -/
def State.setJoint (s : State) (key : Nat) (j : Joint) : State :=
  let s := { s with joints := s.joints.put key j }
  let t := key / 64
  s.wr (Obj.poolHighWater t) (Nat.max (s.rd (Obj.poolHighWater t)) (s.tileWords t))

/-! ### Producers -/

/-- Whether the last record is an open packet. -/
def Joint.openLast (j : Joint) : Bool :=
  match j.recs.getLast? with
  | some (.packet _ _ ended _ _ _) => !ended
  | _ => false

/-- Append words to the open packet, or open a new one with this tag for this chunk (R324, R369). -/
def Joint.append (j : Joint) (frames tag stream chunk : Nat) (ws : List Nat) : Joint :=
  let recs :=
    match j.recs.getLast? with
    | some (.packet t old false st c sp) => j.recs.dropLast ++ [.packet t (old ++ ws) false st c sp]
    | _ => j.recs ++ [.packet (j.again.getD tag) ws false stream chunk false]
  Joint.settle { j with recs := recs, written := frames, waiter := none, again := none }

/-- End the open packet. -/
def Joint.endPacket (j : Joint) : Joint :=
  match j.recs.getLast? with
  | some (.packet t ws false st c sp) => Joint.settle { j with recs := j.recs.dropLast ++ [.packet t ws true st c sp] }
  | _ => { j with again := none }

/-- An idle timeout ends the open packet (R371). -/
def Joint.timeOut (j : Joint) : Joint :=
  match j.recs.getLast? with
  | some (.packet t _ false _ _ _) => { j.endPacket with again := some t }
  | _ => j

/-- Whether every reader has taken the words of a record, by its number (R574). -/
def Joint.taken (j : Joint) (num : Nat) : Bool :=
  decide (num < j.base) || (match j.recs[num - j.base]? with
    | none => true
    | some r => j.readers.all (fun x =>
        decide (x.idx > num - j.base) || (x.idx == num - j.base && decide (r.words'.length ≤ x.word))))

/-- Whether the joint takes `n` words now: space, and a packet record when a new one is needed (R369, R375). -/
def State.jointTakes (s : State) (key n : Nat) : Bool :=
  match s.joints.find key with
  | none => false
  | some j => decide (n ≤ s.jointFree key) && (j.openLast || decide (j.recs.length < 64))

/-- Write words to a joint; none when the producer waits. -/
def State.jointWrite (s : State) (key tag stream chunk : Nat) (ws : List Nat) : Option State :=
  match s.joints.find key with
  | none => none
  | some j => if s.jointTakes key ws.length then some (s.setJoint key (j.append s.clk.frames tag stream chunk ws)) else none

/-- Note that the producer of a stream waits for space (R377). -/
def State.jointWait (s : State) (key stream : Nat) : State :=
  match s.joints.find key with
  | none => s
  | some j =>
    if j.waiter.isSome then s
    else { s with joints := s.joints.put key { j with waiter := some stream, waitSince := s.clk.frames } }

/-- One word from an input alignment group: it is dropped when the joint is full, and a spacer stands at its place (R373). -/
def State.jointDrop (s : State) (key tag stream chunk : Nat) (w : Nat) : State :=
  match s.joints.find key with
  | none => s
  | some j =>
    if s.jointTakes key 1 then s.setJoint key (j.append s.clk.frames tag stream chunk [w])
    else
      let s := s.bump Obj.wordsDropped
      match j.recs.getLast? with
      | some (.spacer n) => s.setJoint key { j with recs := j.recs.dropLast ++ [.spacer (Nat.min (n + 1) (2 ^ 32 - 1))] }
      | _ => (s.bump Obj.spacers).setJoint key (Joint.settle { j with recs := j.recs ++ [.spacer 1] })

/-! ### Consumers (R327, R370, R372) -/

/-- Change one reader. -/
def Joint.setReader (j : Joint) (r : Nat) (x : Reader) : Joint := Joint.settle { j with readers := setNth j.readers r x }

def Joint.reader (j : Joint) (r : Nat) : Reader := nth {} j.readers r

/-- Whether a consumer may begin the packet of a record (R370). -/
def Joint.ready (j : Joint) (idx : Nat) : Bool :=
  match j.recs[idx]? with
  | none => false
  | some (.spacer _) => true
  | some (.packet _ ws ended _ _ _) => ended || decide (ws.length ≥ j.threshold) || decide (idx + 1 < j.recs.length)

/-- NEXT: step to the next packet or spacer; the record stepped onto, or none while the consumer waits. -/
def Joint.next (j : Joint) (r : Nat) : Option (JRec × Joint) :=
  let x := j.reader r
  let i := if x.cur then x.idx + 1 else x.idx
  if x.drop then none
  else if j.ready i then (j.recs[i]?).map (fun rc => (rc, j.setReader r { x with idx := i, word := 0, cur := true }))
  else none

/-- What a read of up to `n` words finds (R327): the words, whether the packet has none left, the spacer consumed. -/
structure JRead where
  words  : List Nat
  ended  : Bool
  spacer : Option Nat
deriving DecidableEq, Repr

/-- Read up to `n` words of the current packet; none while the consumer waits. -/
def Joint.read (j : Joint) (r n : Nat) : Option (JRead × Joint) :=
  let x := j.reader r
  if !x.cur || x.drop then some (⟨[], true, none⟩, j)
  else
    match j.recs[x.idx]? with
    | none => none
    | some (.spacer c) => some (⟨[], false, some c⟩, j.setReader r { x with idx := x.idx + 1, word := 0 })
    | some (.packet _ ws ended _ _ _) =>
      let left := ws.drop x.word
      let got := left.take n
      let behind := j.recs[x.idx + 1]?
      if ended then
        some (⟨got, left.length == got.length, none⟩, j.setReader r { x with word := x.word + got.length })
      else match behind with
        | some (.spacer c) =>
          if left.length ≤ n then some (⟨got, false, some c⟩, j.setReader r { x with idx := x.idx + 2, word := 0 })
          else some (⟨got, false, none⟩, j.setReader r { x with word := x.word + got.length })
        | _ =>
          if left.length ≥ n then some (⟨got, false, none⟩, j.setReader r { x with word := x.word + got.length })
          else none

/-- DISCARD (R372). -/
def Joint.discard (j : Joint) (r : Nat) : Joint :=
  let x := j.reader r
  if x.cur then j.setReader r { x with mark := none, drop := true } else j.setReader r { x with mark := none }

/-- MARK (R372). -/
def Joint.mark (j : Joint) (r : Nat) : Joint :=
  let x := j.reader r
  j.setReader r { x with mark := some (x.idx, x.word, x.cur) }

/-- REWIND (R372); DESIGN CHOICE (assumption 34): without a mark it has no effect. -/
def Joint.rewind (j : Joint) (r : Nat) : Joint :=
  let x := j.reader r
  match x.mark with
  | some m => j.setReader r { x with idx := m.1, word := m.2.1, cur := m.2.2, drop := false }
  | none => j

/-- RELEASE (R372). -/
def Joint.release (j : Joint) (r : Nat) : Joint := j.setReader r { j.reader r with mark := none }

/-! ### Finding joints, and creating those of a plan (R376) -/

/-- Keys of the joints in use of a plan's link, on any tile. -/
def State.linkJoints (s : State) (plan link : Nat) : List Nat :=
  (s.joints.filter (fun e => e.2.plan == plan && e.2.link == link && e.2.group.isNone)).map (·.1)

/-- The joint of a plan's link on a tile at a port. -/
def State.portJoint (s : State) (plan link tile port : Nat) : Option Nat :=
  (s.joints.find? (fun e => e.1 / 64 == tile && e.2.plan == plan && e.2.link == link && e.2.port == port &&
    e.2.group.isNone)).map (·.1)

/-- Joint numbers of a tile not in use, lowest first. -/
def State.freeJoint (s : State) (tile : Nat) : Option Nat :=
  (List.range 64).find? (fun k => (s.joints.find (64 * tile + k)).isNone)

/-- Create one joint of a plan; none when the tile has no number or its reserves would not fit. DESIGN CHOICE (assumption 126): a record
that names an absent tile makes its joint as any other does. -/
def State.addJoint (s : State) (plan : Nat) (r : JointRec) : Option State :=
  match s.freeJoint r.tile with
  | none => none
  | some k =>
    if s.reservedWords r.tile + r.reserve > poolWords then none
    else
      let j : Joint := { plan := plan, link := r.link, port := r.port, maxPacket := r.maxPacket, threshold := r.threshold,
                         reserve := r.reserve, limit := r.limit, idle := r.idle, readers := List.replicate r.readers {} }
      some { s with joints := s.joints.put (64 * r.tile + k) j }

/-- Create the joints of a plan (R376); none when they do not fit. -/
def State.addJoints (s : State) (plan : Nat) : List JointRec → Option State
  | [] => some s
  | r :: rs => match s.addJoint plan r with
    | none => none
    | some s' => State.addJoints s' plan rs

/-- Create the gather groups of a plan: one for each stage whose bricks feed a collector (R323, R379). -/
def State.addColls (s : State) (plan : Nat) (im : Bytes) : State :=
  (List.range 8).foldl (fun s st =>
    let bonds := (planBonds im).filter (fun b => b.kind == 1 && b.stage == st)
    if bonds.isEmpty || !Config.gathers im st then s
    else
      let n := maxN (bonds.map (·.rank)) + 1
      let members := (List.range n).map (fun r => ((bonds.find? (fun b => b.rank == r)).map (·.unit)).getD 0)
      let x : Collector := { members := members, target := ((s.linkJoints plan (st + 1)).head?).getD 0
                             packets := List.replicate n [], opened := List.replicate n none }
      { s with colls := s.colls.put (16 * plan + st) x }) s

/-- Whether a plan's joints exist. -/
def State.jointsLive (s : State) (plan : Nat) : Bool := s.joints.any (fun e => e.2.plan == plan && e.2.group.isNone)

/-- Free the joints of a plan. -/
def State.freeJoints (s : State) (plan : Nat) : State :=
  { s with joints := s.joints.filter (fun e => e.2.plan != plan || e.2.group.isSome)
           colls := s.colls.filter (fun e => e.1 / 16 != plan) }

/-- Change every joint of a plan. -/
def State.mapJoints (s : State) (plan : Nat) (f : Joint → Joint) : State :=
  { s with joints := s.joints.mapV (fun _ j => if j.plan == plan && j.group.isNone then f j else j) }

/-- Discard every packet of a chunk, or of a whole stream when no chunk is named, that lies in a joint: readers standing
in it move past it. -/
def Joint.dropStream (j : Joint) (stream : Nat) (chunk : Option Nat) : Joint :=
  let gone (r : JRec) : Bool := match r with
    | .packet _ _ _ st c _ => st == stream && (match chunk with | some k => c == k | none => true)
    | .spacer _ => false
  let before (i : Nat) : Nat := ((j.recs.take i).filter gone).length
  let shift (i w : Nat) (cur : Bool) : Nat × Nat × Bool :=
    match j.recs[i]? with
    | some r => if gone r then (i - before i, 0, false) else (i - before i, w, cur)
    | none => (i - before i, w, cur)
  Joint.settle { j with
    recs := j.recs.filter (fun r => !gone r)
    again := if (j.recs.getLast?.map gone).getD true then none else j.again
    readers := j.readers.map (fun x =>
      let p := shift x.idx x.word x.cur
      { x with idx := p.1, word := p.2.1, cur := p.2.2, drop := x.drop && p.2.2,
               mark := x.mark.map (fun m => shift m.1 m.2.1 m.2.2) }) }

end Sys2Proof.Machine
end

