-- ==== Sys2Proof/Machine/Counting.lean ====
section
/-! DEFINITION. The counts of narrowed tensors: device-wide totals, the chunk's own, and the watch slots (R189, R197-R201). -/

namespace Sys2Proof.Machine

/-- Change the chunk of a stream's command. -/
def State.mapCmd (s : State) (n counter : Nat) (f : Cmd → Cmd) : State :=
  let r := s.ring n
  s.setRing n { r with cmds := r.cmds.map (fun c => if c.counter == counter then f c else c) }

/-- A fetched command by counter. -/
def State.cmd (s : State) (n counter : Nat) : Option Cmd := (s.ring n).cmds.find? (fun c => c.counter == counter)

/-- Counts into one watch slot (R201). -/
def State.watch (s : State) (w : Nat) (c : Counts) : State :=
  let s := ((((s.bump (Obj.watchElements w) c.elements).bump (Obj.watchSaturated w) c.saturated).bump
    (Obj.watchFlushed w) c.flushed).bump (Obj.watchBlocks w) c.blocks).bump (Obj.watchBlocksClipped w) c.clipped
  let s := s.wr (Obj.watchWorstBlock w) (Nat.max (s.rd (Obj.watchWorstBlock w)) c.worst)
  if flt (BitVec.ofNat 32 (s.rd (Obj.watchAbsmax w))) c.absmax then s.wr (Obj.watchAbsmax w) c.absmax.toNat else s

/-- Whether a watch slot counts a tensor of a plan for a stream (R201). -/
def State.watches (s : State) (plan stream tensor w : Nat) : Bool :=
  s.rdB (Obj.watchEnable w) && s.rd (Obj.watchPlan w) == plan && s.rd (Obj.watchTensor w) == tensor &&
  (s.rd (Obj.watchStream w) == 0xFFFF || s.rd (Obj.watchStream w) == stream)

/-- The counts of one narrowing of a tensor by a chunk of a stream. -/
def State.countNarrow (s : State) (plan stream chunk tensor : Nat) (c : Counts) : State :=
  let s := ((s.bump Obj.saturations c.saturated).bump Obj.flushes c.flushed).bump Obj.nanNarrowed c.nans
  let s := s.mapCmd stream chunk (fun k => { k with chunk := k.chunk.map (fun h =>
    { h with counts := h.counts.put tensor ((h.counts.getD tensor {}).add c) }) })
  (List.range 16).foldl (fun s w => if s.watches plan stream tensor w then s.watch w c else s) s

/-- Count NaNs that arise from non-NaN operands (R171, R189). -/
def State.nanProduced (s : State) (n : Nat) : State := if n == 0 then s else s.bump Obj.nanProduced n

end Sys2Proof.Machine
end

