-- ==== Sys2Proof/Machine/BrickOps.lean ====
section
/-! DEFINITION. A brick's registers, lanes, local memory, faults and the issue of one instruction (R314-R322, R328-R332,
R346). -/

namespace Sys2Proof.Machine

/-! ### What the bond map says of a brick (R323, R350) -/

/-- A brick's place: plan slot, image, bond-map entry. -/
structure Role where
  plan  : Nat
  image : Bytes
  bond  : Bond
deriving DecidableEq, Repr

/-- The place of a brick in a plan. -/
def planRole (plan : Nat) (im : Bytes) (k : Nat) : Option Role :=
  ((planBonds im).find? (fun b => b.kind == 1 && b.unit == k)).map (fun b => ⟨plan, im, b⟩)

/-- The place of a brick: in a plan a stream is bound to, else in any loaded plan. -/
def State.role (s : State) (k : Nat) : Option Role :=
  let all := s.plans.filterMap (fun e => planRole e.1 e.2.image k)
  match all.find? (fun r => s.rd (Obj.planBoundStreams r.plan) != 0) with
  | some r => some r
  | none => all.head?

/-- Bytes of a section of carried state: elements of its format in logical order (R305, R306). -/
def packElems (format : Nat) (es : List Nat) : Bytes :=
  let b := formatBits format
  if b == 4 then (chunks 2 es).map (fun p => BitVec.ofNat 8 (nth 0 p 0 % 16 + 16 * (nth 0 p 1 % 16)))
  else es.flatMap (leBytes (b / 8))

/-- Elements of a section from its bytes. -/
def unpackElems (format count : Nat) (bs : Bytes) : List Nat :=
  let b := formatBits format
  if b == 4 then (bs.flatMap (fun x => [x.toNat % 16, x.toNat / 16])).take count
  else ((chunks (b / 8) bs).map ofLE).take count

/-- Bytes a section takes. -/
def sectionBytes (x : Section) : Nat := ceilDiv (x.elems.length * formatBits x.format) 8

/-- The plan's initial state (R291, R308). -/
def initialSections (im : Bytes) : List Section :=
  (Config.planState im).map (fun e => ⟨e.1, e.2.1, e.2.2.1, e.2.2.2.1, e.2.2.2.2⟩)

/-- The sections of a stage that pass its state ports (R326): feedback and delay. -/
def stageSections (stage : Nat) (xs : List Section) : List Section := xs.filter (fun x => x.stage == stage && decide (x.cls ≤ 1))

/-- Whether a stage of a plan carries state under R326. -/
def stageCarries (im : Bytes) (stage : Nat) : Bool := !(stageSections stage (initialSections im)).isEmpty

/-- STATE_BYTES of a stage for a stream (R344). -/
def State.stateBytes (s : State) (stream stage : Nat) : Nat :=
  sumN ((stageSections stage (s.stream stream).sections).map sectionBytes)

/-- Bytes of a stage's sections, one after another. -/
def packSections (xs : List Section) : Bytes := xs.flatMap (fun x => packElems x.format x.elems)

/-- Sections with new contents taken from bytes in order. -/
def unpackSections (bs : Bytes) : List Section → List Section
  | [] => []
  | x :: xs =>
    { x with elems := unpackElems x.format x.elems.length (bs.take (sectionBytes x)) } :: unpackSections (bs.drop (sectionBytes x)) xs

/-! ### Registers and lanes (R314, R329, R330) -/

/-- s[f]; s0 reads as zero. -/
def Brick.s (b : Brick) (f : Field5) : BitVec 32 := if f = 0 then 0 else nth 0 b.regs f.toNat
/-- Write s[f]; a write of s0 is discarded. -/
def Brick.setS (b : Brick) (f : Field5) (v : BitVec 32) : Brick := if f = 0 then b else { b with regs := setNth b.regs f.toNat v }
/-- A register pair as a 64-bit value (R330). -/
def Brick.pair (b : Brick) (f : Field5) : Nat := (b.s f).toNat + 2 ^ 32 * (b.s (f + 1)).toNat
/-- Write a register pair. -/
def Brick.setPair (b : Brick) (f : Field5) (v : Nat) : Brick := (b.setS f (BitVec.ofNat 32 v)).setS (f + 1) (BitVec.ofNat 32 (v / 2 ^ 32))
/-- v[f]. -/
def Brick.v (b : Brick) (f : Field5) : BitVec 512 := nth 0 b.vecs f.toNat
def Brick.setV (b : Brick) (f : Field5) (x : BitVec 512) : Brick := { b with vecs := setNth b.vecs f.toNat x }
/-- a[f]. -/
def Brick.acc (b : Brick) (f : Field5) : Accum := nth {} b.accs f.toNat
def Brick.setAcc (b : Brick) (f : Field5) (x : Accum) : Brick := { b with accs := setNth b.accs f.toNat x }

/-- Element e of width w of a vector register (R314). -/
def elemOf (w e : Nat) (v : BitVec 512) : Nat := v.toNat / 2 ^ (w * e) % 2 ^ w
/-- The 16 lanes of a vector register. -/
def lanesOf (v : BitVec 512) : List F32 := (List.range 16).map (fun j => BitVec.ofNat 32 (elemOf 32 j v))
/-- A vector register from lanes of a width, lane 0 lowest. -/
def ofElems (w : Nat) (xs : List Nat) : BitVec 512 := BitVec.ofNat 512 (xs.foldr (fun x acc => x % 2 ^ w + 2 ^ w * acc) 0)
def ofLanes (xs : List F32) : BitVec 512 := ofElems 32 (xs.map (·.toNat))
/-- Bytes of a vector register. -/
def vecBytes (v : BitVec 512) : Bytes := leBytes 64 v.toNat

/-- A field that names a vector register, an accumulator, a source pair, a destination pair (R329, R330). -/
def vecOk (f : Field5) : Bool := decide (f.toNat < 16)
def accOk (f : Field5) : Bool := decide (f.toNat < 4)
def pairOk (f : Field5) : Bool := f.toNat % 2 == 0
def destPairOk (f : Field5) : Bool := pairOk f && f != 0

/-! ### Outcomes of an instruction -/

/-- What an instruction does. -/
inductive BRes where
  /-- It completes and the next one follows. -/
  | next (s : State) (b : Brick)
  /-- It completes and the brick goes on at an instruction index. -/
  | goto (s : State) (b : Brick) (target : Nat)
  /-- It faults with a cause of R346, without completing. -/
  | fault (cause : Nat)
  /-- It waits: for words, a packet, a section, or space in a joint. -/
  | wait (s : State)
deriving DecidableEq, Repr

/-- An instruction as a function of the machine and its brick. -/
abbrev BOp := State → Brick → BRes

/-- Fault with ILLEGAL unless the fields are legal (R329). -/
def legal (ok : Bool) (f : BOp) : BOp := fun s b => if ok then f s b else .fault 1

/-- Where execution goes on after an instruction that is not a taken branch (R332). -/
def loopNext (pc : Nat) : List LoopFrame → Nat × List LoopFrame
  | [] => (pc + 1, [])
  | l :: ls =>
    if pc == l.last then (if l.left > 1 then (l.first, { l with left := l.left - 1 } :: ls) else loopNext pc ls)
    else (pc + 1, l :: ls)

/-- The loop stack after a taken branch (R332): a target outside the innermost body ends that loop. -/
def loopBranch (target : Nat) : List LoopFrame → List LoopFrame
  | [] => []
  | l :: ls => if l.first ≤ target && target ≤ l.last then l :: ls else ls

/-- A fault of a brick (R346): it stops at the instruction, and the counters, the record and the run map show it. -/
def State.brickFault (s : State) (k cause : Nat) : State :=
  let b := s.brick k
  let s := s.bump Obj.brickFaults
  let s := if cause == 1 || cause == 5 || cause == 6 then s.bump Obj.illegalCount
    else if cause == 2 || cause == 3 then s.bump Obj.boundsCount
    else if cause == 4 then s.bump Obj.localEccUncorrected else s
  let s := ((s.wr Obj.lastFaultBrick k).wr Obj.lastFaultPc (b.pc % 2 ^ 32)).wr Obj.lastFaultCause cause
  s.setBrick k { b with run := false }

/-- Carry out the result of an instruction. -/
def finishBrick (k : Nat) (s0 : State) : BRes → State
  | .next s b =>
    let n := loopNext b.pc b.loops
    s.setBrick k { b with pc := n.1, loops := n.2 }
  | .goto s b t => s.setBrick k { b with pc := t, loops := loopBranch t b.loops }
  | .fault c => s0.brickFault k c
  | .wait s => s

/-- The word at a brick's instruction index. -/
def Brick.fetch (b : Brick) : BitVec 32 := BitVec.ofNat 32 (ofLE (b.mem.readBytes (4 * b.pc) 4))

/-- Issue one instruction on a brick (R315, R316, R329): a running brick whose next word is this instruction carries it out;
an unassigned word, an index beyond local memory or a bad word there faults; a brick that stands elsewhere, or does not
run, is unchanged (assumption 5). -/
def issue (k : BrickId) (i : Instr) (f : BOp) (s : State) : Out :=
  let b := s.brick k.val
  if !b.run then .next s
  else if 4 * b.pc + 4 > 262144 then .next (s.brickFault k.val 2)
  else if b.bad.contains (4 * b.pc / 8) then .next (s.brickFault k.val 4)
  else if (brickDecode k b.fetch).isNone then .next (s.brickFault k.val 1)
  else if brickEncode i = some b.fetch then .next (finishBrick k.val s (f s b))
  else .next s

/-! ### Operand shapes -/

/-- s[D] ← f s[A] s[B]. -/
def alu2 (d a b c : Field5) (f : BitVec 32 → BitVec 32 → BitVec 32) : BOp :=
  legal (c == 0) fun s k => .next s (k.setS d (f (k.s a) (k.s b)))

/-- FP32 results with their NaN count (R171): a NaN from operands of which none is one. -/
def nanCount (r : F32) (ops : List F32) : Nat := if isNan r && !ops.any isNan then 1 else 0

/-- s[D] ← fp32 f s[A] s[B]. -/
def fp2 (d a b c : Field5) (f : F32 → F32 → F32) : BOp :=
  legal (c == 0) fun s k =>
    let r := f (k.s a) (k.s b)
    .next (s.nanProduced (nanCount r [k.s a, k.s b])) (k.setS d r)

/-- s[D] ← f s[A]. -/
def alu1 (d a b c : Field5) (f : BitVec 32 → BitVec 32) : BOp :=
  legal (b == 0 && c == 0) fun s k => .next s (k.setS d (f (k.s a)))

/-- s[D] ← f s[A] IMM. -/
def aluImm (d a : Field5) (imm : BitVec 16) (ok : Bool) (f : BitVec 32 → BitVec 16 → BitVec 32) : BOp :=
  legal ok fun s k => .next s (k.setS d (f (k.s a) imm))

/-- Branch to own index + sext(OFF) when a condition holds. -/
def branch (a b : Field5) (off : BitVec 16) (f : BitVec 32 → BitVec 32 → Bool) : BOp := fun s k =>
  if f (k.s a) (k.s b) then .goto s k (ofSigned 32 ((k.pc : Int) + off.toInt)) else .next s k

/-- v[D] ← f on the lanes of v[A] and v[B], with C unused; NaNs counted for FP32. -/
def vec2 (fp : Bool) (d a b c : Field5) (f : BitVec 32 → BitVec 32 → BitVec 32) : BOp :=
  legal (vecOk d && vecOk a && vecOk b && c == 0) fun s k =>
    let xs := lanesOf (k.v a)
    let ys := lanesOf (k.v b)
    let r := List.zipWith f xs ys
    let n := if fp then sumN (List.zipWith (fun z p => nanCount z [p.1, p.2]) r (List.zip xs ys)) else 0
    .next (s.nanProduced n) (k.setV d (ofLanes r))

/-- v[D] ← f on each lane of v[A] with the scalar s[C], B unused. -/
def vecS (fp : Bool) (d a b c : Field5) (f : BitVec 32 → BitVec 32 → BitVec 32) : BOp :=
  legal (vecOk d && vecOk a && b == 0) fun s k =>
    let xs := lanesOf (k.v a)
    let y := k.s c
    let r := xs.map (fun x => f x y)
    let n := if fp then sumN (List.zipWith (fun z x => nanCount z [x, y]) r xs) else 0
    .next (s.nanProduced n) (k.setV d (ofLanes r))

/-- v[D] ← f on each lane of v[A], B and C unused. -/
def vec1 (d a b c : Field5) (f : BitVec 32 → BitVec 32) : BOp :=
  legal (vecOk d && vecOk a && b == 0 && c == 0) fun s k =>
    let xs := lanesOf (k.v a)
    let r := xs.map f
    .next (s.nanProduced (sumN (List.zipWith (fun z x => nanCount z [x]) r xs))) (k.setV d (ofLanes r))

/-- v[D] ← fused multiply-add of lanes with v[D]. -/
def vecFma (d a : Field5) (ok : Bool) (y : Brick → List F32) : BOp :=
  legal (ok && vecOk d && vecOk a) fun s k =>
    let xs := lanesOf (k.v a)
    let ys := y k
    let zs := lanesOf (k.v d)
    let r := List.zipWith (fun p z => ffma p.1 p.2 z) (List.zip xs ys) zs
    let n := sumN (List.zipWith (fun q p => nanCount q [p.1.1, p.1.2, p.2]) r (List.zip (List.zip xs ys) zs))
    .next (s.nanProduced n) (k.setV d (ofLanes r))

/-! ### Local memory (R320, R321, R334) -/

/-- Address of a memory instruction. -/
def memAddr (base : BitVec 32) (imm : BitVec 16) (scale : Nat) : Nat := ofSigned 32 ((base.toNat : Int) + imm.toInt * scale)

/-- The fault of an access of `n` bytes, if any. -/
def Brick.accessFault (b : Brick) (addr n : Nat) (store : Bool) : Option Nat :=
  if addr + n > 262144 || addr % n != 0 then some 2
  else if store && addr < b.codeBytes then some 3
  else if !store && b.bad.any (fun w => addr / 8 ≤ w && w ≤ (addr + n - 1) / 8) then some 4
  else none

/-- Load `n` bytes, or fault. -/
def load (addr n : Nat) (f : Nat → Brick → Brick) : BOp := fun s b =>
  match b.accessFault addr n false with
  | some c => .fault c
  | none => .next s (f (ofLE (b.mem.readBytes addr n)) b)

/-- Store `n` bytes, or fault. -/
def store (addr n v : Nat) : BOp := fun s b =>
  match b.accessFault addr n true with
  | some c => .fault c
  | none => .next s { b with mem := b.mem.writeBytes addr (leBytes n v)
                             bad := b.bad.filter (fun w => !(addr ≤ 8 * w && 8 * w + 8 ≤ addr + n)) }

/-- The curve of a tile slot applied to a value (R333): the canonical NaN where the slot holds none. -/
def State.brickCurve (s : State) (k : Nat) (slot : Nat) (x : F32) : F32 :=
  match s.role k with
  | none => nan32
  | some r =>
    match Config.tileCurve r.image (k / 32) slot with
    | none => nan32
    | some c => slotEval s.curves c x

end Sys2Proof.Machine
end

