-- ==== Sys2Proof/Machine/Protect.lean ====
section
/-! DEFINITION. The device address map (R448-R454) and the protection windows (R509-R514). -/

namespace Sys2Proof.Machine

/-! ### Device addresses (R448-R453) -/

/-- Whether a logical tile is enabled (R18). -/
def State.tileOn (s : State) (t : Nat) : Bool := decide (t < 96) && bit (s.rd Obj.tileMap) t
/-- Whether a logical brick is enabled (R550). -/
def State.brickOn (s : State) (b : Nat) : Bool := decide (b < 3072) && bit (s.rd Obj.brickPresent) b
/-- Whether a gather unit is present (R550). -/
def State.gatherOn (s : State) (u : Nat) : Bool := decide (u < 6) && bit (s.rd Obj.gatherMap) u
/-- Whether a memory die is in service (R468). -/
def State.dieOn (s : State) (d : Nat) : Bool := decide (d < 84) && s.rdB (Obj.dieInService d)

/-- Bytes of a plane (R448). -/
def planeSize : Nat := 0x8000000
/-- Bytes of a tile buffer (R19). -/
def tbufSize : Nat := 0x800000
/-- `SHORT` follows the counts: 1 while any of them is below its full value (R18). -/
def State.noteShort (s : State) : State :=
  s.wr Obj.short (b2n (s.rd Obj.tilesEnabled < 96 || s.rd Obj.bricksEnabled < 3072 || s.rd Obj.gatherUnits < 6 ||
    s.rd Obj.gddr7Dies < 84 || s.rd Obj.planeBytes < 96 * planeSize))
/-- First address of the interleaved GDDR7 range. -/
def gddr7Base : Nat := 0x1000000000
/-- First address of the stack-local window of a stack. -/
def localBase (st : Nat) : Nat := 0x8000000000 + st * 0x1000000000
/-- First address of the CXL range. -/
def cxlBase : Nat := 0x100000000000
def GiB : Nat := 2 ^ 30

/-- Dies in service, all or of one stack (R451). -/
def State.dies (s : State) : Nat := ((List.range 84).filter s.dieOn).length
def State.stackDies (s : State) (st : Nat) : Nat := ((List.range 14).filter (fun d => s.dieOn (14 * st + d))).length

/-- Sizes of the ranges under a value of `LOCAL_SHARE` (R451). -/
def State.interleavedUnder (s : State) (k : Nat) : Nat := s.dies * (4 * GiB - k * 0x10000000)
def State.localUnder (s : State) (k st : Nat) : Nat := s.stackDies st * (k * 0x10000000)

/-- The tier whose row of R448 holds an address: 1 plane, 2 GDDR7, 3 CXL memory. -/
def rangeSpace (a : Nat) : Option Nat :=
  if a < 96 * planeSize then some 1
  else if gddr7Base ≤ a && a < 0x6400000000 then some 2
  else if localBase 0 ≤ a && a < localBase 6 && (a - localBase 0) % 0x1000000000 < 56 * GiB then some 2
  else if cxlBase ≤ a && a < 0x200000000000 then some 3
  else none

/-- Whether an address is mapped with `share` for `LOCAL_SHARE` (R448, R450, R451). -/
def State.mappedUnder (s : State) (share a : Nat) : Bool :=
  if a < 96 * planeSize then s.tileOn (a / planeSize)
  else if gddr7Base ≤ a && a < 0x6400000000 then decide (a - gddr7Base < s.interleavedUnder share)
  else if localBase 0 ≤ a && a < localBase 6 then
    let st := (a - localBase 0) / 0x1000000000
    decide ((a - localBase 0) % 0x1000000000 < s.localUnder share st)
  else if cxlBase ≤ a && a < 0x200000000000 then decide (a - cxlBase < s.rd Obj.cxlBytes)
  else false

def State.mapped (s : State) (a : Nat) : Bool := s.mappedUnder (s.rd Obj.localShare) a

/-- The die, and its offset, of a GDDR7 address (R452). -/
def State.dieOf (s : State) (a : Nat) : Option (Nat × Nat) :=
  if gddr7Base ≤ a && a < 0x6400000000 then
    let o := a - gddr7Base
    let on := (List.range 84).filter s.dieOn
    if on.isEmpty then none else some (nth 0 on (o / 4096 % on.length), o / 4096 / on.length * 4096 + o % 4096)
  else if localBase 0 ≤ a && a < localBase 6 then
    let st := (a - localBase 0) / 0x1000000000
    let o := (a - localBase 0) % 0x1000000000
    let on := (List.range 84).filter (fun d => s.dieOn d && d / 14 == st)
    if on.isEmpty then none
    else some (nth 0 on (o / 4096 % on.length),
      4 * GiB - s.rd Obj.localShare * 0x10000000 + o / 4096 / on.length * 4096 + o % 4096)
  else none

/-- Whether an address lies in a region software addresses itself: the user regions of R453, the stack-local windows,
or a plane (R510). -/
def State.userRegion (s : State) (a : Nat) : Bool :=
  match rangeSpace a with
  | some 1 => true
  | some 2 => decide (a ≥ localBase 0) || decide (a - gddr7Base < s.rd Obj.gddr7UserBytes)
  | some 3 => decide (a - cxlBase < s.rd Obj.cxlUserBytes)
  | _ => false

/-! ### Device pool (R453) -/

/-- Bytes of a loaded table that the device allocated in a tier: 1 GDDR7, 2 CXL memory. -/
def Table.poolBytes (t : Table) (tier : Nat) : Nat :=
  if t.tier == tier && !bit (field t.header 1 1) 0 then field t.header 2 2 * field t.header 8 8 else 0

/-- Bytes of the table that a running LOAD fills and the device has allocated in a tier (R247). -/
def Load.poolBytes (l : Load) (tier : Nat) : Nat :=
  if l.head.isEmpty then 0 else (Table.mk l.head (field l.head 16 1) l.base).poolBytes tier

/-- Bytes of a plan's shadow: its plane contents (R462). -/
def planShadowBytes (im : Bytes) : Nat := sumN ((planBonds im).map (·.plane))

/-- Images of the plans that hold, or are about to hold, planes and shadows: those in force, and those of running LOADs; without those
of one slot. -/
def State.plansHeld (s : State) (but : Option Nat) : List Bytes :=
  (s.plans.filter (fun e => some e.1 != but)).map (·.2.image) ++
  (s.loads.filter (fun l => l.kind == 0 && some l.slot != but)).map (·.image)

/-- Bytes of the GDDR7 device pool that are allocated (R453). -/
def State.poolAllocated (s : State) : Nat :=
  sumN (s.tables.map (fun e => e.2.poolBytes 1)) + sumN (s.loads.map (fun l => l.poolBytes 1)) + s.rd Obj.kvGddr7Reserved + s.rd Obj.stateGddr7Used +
  sumN ((s.plansHeld none).map planShadowBytes) + s.rd Obj.shadowUsed +
  (if s.rd Obj.overflowBase == 0 then s.rd Obj.overflowBytes else 0)

/-- Unallocated bytes of the GDDR7 device pool. -/
def State.poolFree (s : State) : Nat :=
  s.rd Obj.interleavedBytes - s.rd Obj.gddr7UserBytes - s.poolAllocated

/-- Unallocated bytes of the CXL device pool. -/
def State.cxlFree (s : State) : Nat :=
  s.rd Obj.cxlBytes - s.rd Obj.cxlUserBytes - sumN (s.tables.map (fun e => e.2.poolBytes 2)) -
    sumN (s.loads.map (fun l => l.poolBytes 2)) - s.rd Obj.kvCxlReserved - s.rd Obj.stateCxlUsed

/-- Whether two byte ranges overlap. -/
def overlaps (a n b m : Nat) : Bool := decide (a < b + m) && decide (b < a + n) && decide (0 < n) && decide (0 < m)

/-- Bytes of one key/value block of a plan image (R225). -/
def kvBlockSize (im : Bytes) : Nat := 32768 * (Config.planKvPairs im).length

/-- Regions of device memory that the device has allocated: plan areas and shadows, tables, parts of carried state, records and directories of streams with the targets of
their moves, key/value blocks outside planes (R247, R289, R450, R453). -/
def State.allocated (s : State) : List (Nat × Nat) :=
  s.plans.flatMap (fun p => (p.2.shadow, planShadowBytes p.2.image) :: p.2.areas.map (fun a => (a.2, planPlaneBytes p.2.image a.1))) ++
  s.tables.map (fun t => (t.2.base, t.2.poolBytes t.2.tier)) ++
  s.loads.map (fun l => (l.base, l.poolBytes (field l.head 16 1))) ++
  s.streams.flatMap (fun e =>
    (s.rd (Obj.streamStateAddr e.1), if s.rd (Obj.streamStateTier e.1) == 0 then 4096 else e.2.placed) ::
    e.2.parts.map (fun (p : Nat × Nat) => (e.2.partAt.getD p.1 0, p.2)) ++
    (e.2.move.map (fun m => (m.addr, if m.dir == 2 then 0 else s.rd (Obj.streamSwapTotal e.1)))).toList ++
    (e.2.kv.filter (fun b => b.place % 4 == 1 || b.place % 4 == 2)).map (fun b =>
      (b.place / 16 * 16, kvBlockSize (((s.plans.find (s.rd (Obj.streamPlan e.1))).map (·.image)).getD []))))

/-- A place the device chooses itself for `size` units among the `n` from `lo` on, aligned, clear of what is held: free, but for those
bounds (R289, R450, R453). -/
def State.chooseFree (s : State) (held : List (Nat × Nat)) (lo n size align : Nat) : Nat × State :=
  let al := Nat.max 1 align
  let fits (x : Nat) : Bool := decide (lo ≤ x) && decide (x + size ≤ lo + n) && held.all (fun r => !overlaps x size r.1 r.2)
  let c := lo + (Config.chosenAddress s.free).toNat % ((n - size) / al + 1) * al
  (if fits c then c else ((lo :: held.map (fun r => roundUp (r.1 + r.2) al)).find? fits).getD c, { s with free := s.free + 1 })

/-- A region of a tier's device pool: 1 GDDR7, 2 CXL memory (R453). -/
def State.choosePool (s : State) (tier size : Nat) : Nat × State :=
  if tier == 2 then s.chooseFree s.allocated (cxlBase + s.rd Obj.cxlUserBytes) (s.rd Obj.cxlBytes - s.rd Obj.cxlUserBytes) size 4096
  else s.chooseFree s.allocated (gddr7Base + s.rd Obj.gddr7UserBytes) (s.rd Obj.interleavedBytes - s.rd Obj.gddr7UserBytes) size 4096

/-- A region of the first 126 MiB of a tile's plane (R450). -/
def State.choosePlane (s : State) (tile size : Nat) : Nat × State := s.chooseFree s.allocated (tile * planeSize) 0x7E00000 size 4096

/-! ### Windows (R509, R510) -/

/-- A window's record as a value: its fields. -/
def winSpace (w : Nat) : Nat := bits w 7 0
def winRights (w : Nat) : Nat := bits w 15 8
def winFirst (w : Nat) : Nat := bits w 47 32
def winLast (w : Nat) : Nat := bits w 63 48
def winBase (w : Nat) : Nat := bits w 127 64
def winLimit (w : Nat) : Nat := bits w 191 128

/-- Whether a record keeps its layout (R509). -/
def winOk (w : Nat) : Bool :=
  decide (winSpace w ≤ 3) && decide (winRights w < 8) && bits w 31 16 == 0 && decide (winFirst w ≤ winLast w) &&
  decide (winLast w < 32768) && winBase w % 4096 == 0 && (winLimit w + 1) % 4096 == 0 &&
  decide (winBase w < winLimit w + 1) && bits w 255 192 == 0

/-- The records in use (RIGHTS not 0) of the committed windows. -/
def State.windows (s : State) : List Nat :=
  ((s.dict.filter (fun e => e.1 / 256 == 0x4110 || e.1 / 256 == 0x4111)).map (·.2)).filter (fun w => winRights w != 0)

/-- Whether one window covers the page of an address for a ring with the given rights mask. -/
def winAllows (w space a ring rights : Nat) : Bool :=
  winSpace w == space && winRights w &&& rights == rights && decide (winFirst w ≤ ring) && decide (ring ≤ winLast w) &&
  decide (winBase w ≤ a / 4096 * 4096) && decide (a / 4096 * 4096 + 4095 ≤ winLimit w)

/-- READ and WRITE of RIGHTS; CAPTURE. -/
def rightRead : Nat := 1
def rightWrite : Nat := 2
def rightCapture : Nat := 4

/-- Whether a map of windows allows a request (R510). -/
def mapAllows (map : List Nat) (space a ring : Nat) (write : Bool) : Bool :=
  map.any (fun w => winAllows w space a ring (if write then rightWrite else rightRead))

/-- The first page of a range, at or after an offset, that fails a test: its first offset in the range. `n` pages at
most are looked at. -/
def firstBadPage (ok : Nat → Bool) : Nat → Nat → Nat → Option Nat
  | 0, _, _ => none
  | f + 1, a, stop => if a ≥ stop then none else if !ok a then some a else firstBadPage ok f (a / 4096 * 4096 + 4096) stop

/-- The first address of a range that windows refuse, under a map (R510). -/
def rangeRefused (map : List Nat) (space ring : Nat) (write : Bool) (a n : Nat) : Option Nat :=
  firstBadPage (fun x => mapAllows map space x ring write) (n / 4096 + 2) a (a + n)

/-- The first address of a range that is unmapped (R449). -/
def State.rangeUnmapped (s : State) (a n : Nat) : Option Nat := firstBadPage s.mapped (n / 4096 + 2) a (a + n)

/-- Whether windows given as a first and a last byte cover every byte from `a` to `stop`; one window at most is passed for each
unit of fuel. -/
def coverFrom (ws : List (Nat × Nat)) : Nat → Nat → Nat → Bool
  | 0, a, stop => decide (stop ≤ a)
  | f + 1, a, stop =>
    let m := maxN ((ws.filter (fun w => decide (w.1 ≤ a))).map (fun w => w.2 + 1))
    decide (stop ≤ a) || (decide (a < m) && coverFrom ws f m stop)

/-- Whether a range lies wholly within windows that hold the rights, for a ring where one is named (R129, R512). -/
def State.covered (s : State) (space : Nat) (ring : Option Nat) (rights a n : Nat) : Bool :=
  let ws := s.windows.filter (fun w => winSpace w == space && winRights w &&& rights == rights &&
    (match ring with | some r => decide (winFirst w ≤ r) && decide (r ≤ winLast w) | none => true))
  coverFrom (ws.map (fun w => (winBase w, winLimit w))) ws.length a (a + n)

/-- Whether a range overlaps the rows of a loaded table (R248). -/
def State.hitsTable (s : State) (a n : Nat) : Bool :=
  s.tables.any (fun e => overlaps a n e.2.base (field e.2.header 2 2 * field e.2.header 8 8))

/-! ### Poison (R460, R461) -/

/-- The first address at which a range meets poisoned ranges. -/
def poisonIn (ps : List (Nat × Nat)) (a n : Nat) : Option Nat :=
  match (ps.filter (fun r => overlaps a n r.1 r.2)).map (fun r => Nat.max r.1 a) with
  | [] => none
  | x :: xs => some (xs.foldl Nat.min x)

/-- The first poisoned address a read of a range meets. -/
def State.firstPoison (s : State) (a n : Nat) : Option Nat := poisonIn s.poison a n

/-- Take the lines a range covers whole out of poisoned ranges (R461). -/
def cleanLines (a n : Nat) (ps : List (Nat × Nat)) : List (Nat × Nat) :=
  let lo := roundUp a 64
  let hi := (a + n) / 64 * 64
  if hi ≤ lo then ps
  else ps.flatMap (fun r =>
    if r.1 + r.2 ≤ lo || hi ≤ r.1 then [r]
    else (if r.1 < lo then [(r.1, lo - r.1)] else []) ++ (if hi < r.1 + r.2 then [(hi, r.1 + r.2 - hi)] else []))

/-- Insert a range by address. -/
def insertRange (r : Nat × Nat) : List (Nat × Nat) → List (Nat × Nat)
  | [] => [r]
  | x :: xs => if r.1 < x.1 then r :: x :: xs else x :: insertRange r xs

/-- Poison whole lines. -/
def addPoison (a n : Nat) (ps : List (Nat × Nat)) : List (Nat × Nat) :=
  let lo := a / 64 * 64
  let len := roundUp (a + n) 64 - lo
  if len = 0 then ps else insertRange (lo, len) (cleanLines lo len ps)

/-- Expanders that are mapped, in the order of R465. -/
def State.mappedExpanders (s : State) : List Nat := (List.range 8).filter (fun x => s.rd (Obj.expMapped x) != 0)

/-- The expander that serves an address (R465). -/
def State.expanderOf (s : State) (a : Nat) : Option Nat :=
  let all := s.mappedExpanders
  if a < cxlBase || a ≥ cxlBase + s.rd Obj.cxlBytes || all.isEmpty then none
  else if s.rdB Obj.cxlInterleave then all[(a - cxlBase) / 4096 % all.length]?
  else all.find? (fun x => decide (s.rd (Obj.expBase x) ≤ a) && decide (a < s.rd (Obj.expBase x) + s.rd (Obj.expMapped x)))

/-- A range cut at the boundaries of 4 KiB; `f` pieces at most. -/
def pagesOf : Nat → Nat → Nat → List (Nat × Nat)
  | 0, _, _ => []
  | f + 1, a, n =>
    if n = 0 then []
    else
      let k := Nat.min n (4096 - a % 4096)
      (a, k) :: pagesOf f (a + k) (n - k)

/-- Whether an address lies on an expander whose link has failed: its lines are poisoned whatever is written (R460, R466). -/
def State.linkDownAt (s : State) (a : Nat) : Bool :=
  match s.expanderOf a with
  | some x => s.rd (Obj.expState x) == 2
  | none => false

/-- Poison after a write: a line it covers whole is clean, unless the link of its expander has failed (R461, R466). -/
def State.cleaned (s : State) (a n : Nat) : List (Nat × Nat) :=
  if a < cxlBase then cleanLines a n s.poison
  else (pagesOf (n / 4096 + 2) a n).foldl (fun ps r => if s.linkDownAt r.1 then ps else cleanLines r.1 r.2 ps) s.poison

/-- A write of device memory: a line it covers whole loses its poison (R461). -/
def State.devWrite (s : State) (a : Nat) (bs : Bytes) : State :=
  { s with devMem := s.devMem.writeBytes a bs, poison := s.cleaned a bs.length }

/-! ### Repair from a plan's shadow (R462) -/

/-- Where the area of a tile lies in a plan's shadow. -/
def planShadowAt (im : Bytes) (tile : Nat) : Nat := sumN ((List.range tile).map (planPlaneBytes im))

/-- The line of a shadow that stands for a line of a plane: one that a LOAD wrote. DEDUCED (assumption 150): key/value pages, which are
written later, have no shadow. -/
def State.shadowLine (s : State) (line : Nat) : Option Nat :=
  s.plans.findSome? (fun p => p.2.areas.findSome? (fun (a : Nat × Nat) =>
    if a.2 ≤ line && decide (line < a.2 + planWeightsEnd p.2.image a.1) then some (p.2.shadow + planShadowAt p.2.image a.1 + (line - a.2))
    else none))

/-- A reader has found a poisoned line of a plane: it is written again from the shadow, unless that is poisoned too. -/
def State.repairLine (s : State) (line : Nat) : State :=
  match s.shadowLine line with
  | none => s
  | some a =>
    if (s.firstPoison a 64).isSome then s else (s.devWrite line (s.devMem.readBytes a 64)).bump Obj.planRepairs

/-- The poisoned lines that a read of a range meets. -/
def State.poisonedLines (s : State) (a n : Nat) : List Nat :=
  s.poison.flatMap (fun r =>
    if !overlaps a n r.1 r.2 then []
    else
      let lo := Nat.max a r.1 / 64
      (List.range (ceilDiv (Nat.min (a + n) (r.1 + r.2)) 64 - lo)).map (fun i => 64 * (lo + i)))

/-- A read of a range of a plane repairs what it can. -/
def State.repair (s : State) (a n : Nat) : State :=
  if a < 96 * planeSize then (s.poisonedLines a n).foldl State.repairLine s else s

/-- What reads of ranges meet, given as space, address and bytes: the first poison left, as address and space (R461, R462); space 4 is the
tile buffers. -/
def State.readStop (s : State) : List (Nat × Nat × Nat) → State × Option (Nat × Nat)
  | [] => (s, none)
  | r :: rs =>
    let t := if r.1 == 1 then s.repair r.2.1 r.2.2 else s
    match (if r.1 == 4 then poisonIn t.tbufPoison r.2.1 r.2.2 else t.firstPoison r.2.1 r.2.2) with
    | some a => (t, some (a, r.1))
    | none => t.readStop rs

end Sys2Proof.Machine
end

