-- ==== Sys2Proof/Machine/Rings.lean ====
section
/-! DEFINITION. Rings: completion entries, the order of final entries, halts and notices, page requests, and how a fetched
command starts and ends (R124-R126, R130-R158). -/

namespace Sys2Proof.Machine

/-! ### Entries (R144, R145) -/

/-- A completion entry beside its PHASE. -/
structure Entry where
  opcode   : Nat
  status   : Nat
  notice   : Bool
  coasted  : Bool
  aux      : Nat
  index    : Nat
  tag      : Nat
  position : Nat
  detail   : Nat
deriving DecidableEq, Repr

/-- The 32 bytes of an entry (R144). -/
def Entry.bytes (e : Entry) (phase : Nat) : Bytes :=
  leBytes 1 e.opcode ++ leBytes 1 e.status ++ leBytes 1 (phase + 2 * b2n e.notice + 4 * b2n e.coasted) ++ leBytes 1 e.aux ++
  leBytes 4 (e.index % 2 ^ 24) ++ leBytes 8 e.tag ++ leBytes 8 e.position ++ leBytes 8 e.detail

/-- PHASE of a completion counter (R145). -/
def phaseOf (log c : Nat) : Nat := 1 - c / 2 ^ log % 2

/-- Opcode and TAG of a command. -/
def Cmd.op (c : Cmd) : Nat := field c.desc 0 1
def Cmd.tag (c : Cmd) : Nat := field c.desc 8 8

def State.ringState (s : State) (n : Nat) : Nat := s.rd (Obj.streamRingState n)
def State.setRingState (s : State) (n v : Nat) : State := s.wr (Obj.streamRingState n) v

/-- Distance between two 24-bit counters. -/
def dist24 (a b : Nat) : Nat := (a + 2 ^ 24 - b % 2 ^ 24) % 2 ^ 24

/-- Write an entry at CPL_TAIL and advance it (R144, R145). -/
def State.putEntry (s : State) (n : Nat) (e : Entry) : State :=
  let c := s.rd (Obj.streamCplTail n)
  let log := s.rd (Obj.streamCplLog2 n)
  (s.hostWrite (s.rd (Obj.streamCplBase n) + 32 * (c % 2 ^ log)) (e.bytes (phaseOf log c))).wr
    (Obj.streamCplTail n) ((c + 1) % 2 ^ 24)

/-- Whether a completion slot is free beside those the unfinished commands hold, `more` slots over (R136, R148). -/
def State.slotFree (s : State) (n more : Nat) : Bool :=
  let r := s.ring n
  decide (dist24 (s.rd (Obj.streamCplTail n)) r.cplHead + r.cmds.length + more < 2 ^ s.rd (Obj.streamCplLog2 n))

/-- The entry of a command's final or notice; COASTED under R33. -/
def State.entryOf (s : State) (c : Cmd) (notice : Bool) (status position detail aux : Nat) : Entry :=
  ⟨c.op, status, notice, bit (s.rd Obj.positionFlags) 0, aux, c.counter, c.tag, position, detail⟩

/-- Write, or count as lost, the final entry of an ended command (R120, R125, R136). -/
def State.putFinal (s : State) (n : Nat) (c : Cmd) (f : Final) : State :=
  if c.lost then s.bump (Obj.streamEntriesLost n)
  else
    let s := s.putEntry n (s.entryOf c false f.status (f.position.getD s.pos) f.detail f.aux)
    if f.status == St.missed then { s with missed := s.missed + 1 } else s

/-- Write final entries in counter order, up to the first command whose work has not finished (R154). -/
def drainList (n : Nat) : State → List Cmd → State
  | s, [] => s.setRing n { s.ring n with cmds := [] }
  | s, c :: cs =>
    match c.final with
    | none => s.setRing n { s.ring n with cmds := c :: cs }
    | some f => drainList n (s.putFinal n c f) cs

/-- The entry of an index error, after the last final entry (R133). DESIGN CHOICE (assumption 134): it takes the slot of CPL_TAIL, which
is that of CMD_HEAD unless notices have been written. -/
def State.putIndexError (s : State) (n : Nat) : State :=
  let r := s.ring n
  if r.errEntry && r.cmds.isEmpty then
    let s' := s.setRing n { r with errEntry := false }
    if s.slotFree n 0 then
      s'.putEntry n ⟨0, St.check, false, bit (s.rd Obj.positionFlags) 0, 0xFF, s.rd (Obj.streamCmdHead n), 0, s.pos, Chk.ringIndex⟩
    else s'.bump Obj.noticesSkipped
  else s

/-- Write what may be written. -/
def State.drain (s : State) (n : Nat) : State := (drainList n s (s.ring n).cmds).putIndexError n

/-- End a command with its final entry's fields. -/
def State.finish (s : State) (n counter status : Nat) (position : Option Nat := none) (detail : Nat := 0) (aux : Nat := 0) :
    State :=
  (s.mapCmd n counter (fun c => if c.final.isSome then c else
    { c with phase := .ended, halt := none, final := some ⟨status, position, detail, aux⟩ })).drain n

/-- End a command DONE. -/
def State.finishDone (s : State) (n counter : Nat) : State := s.finish n counter St.done

/-- End the MOVEs that were ignored behind a pending run, with the run's status (R368). -/
def State.endIgnored (s : State) (n counter : Nat) (f : Final) : State :=
  (s.rings.flatMap (fun e => (e.2.cmds.filter (fun c => (c.xfer.bind (·.ignored)) == some (n, counter))).map
    (fun c => (e.1, c.counter)))).foldl (fun s x => s.finish x.1 x.2 f.status f.position f.detail f.aux) s

/-- End a command REJECTED_CHECK with a check code and AUX. -/
def State.reject (s : State) (n counter code aux : Nat) : State := s.finish n counter St.check none code aux

/-- Whether a stream is in dual-run (R490): live, and bound on the partner with the same generation, as its latest DIGEST shows. -/
def State.dualRun (s : State) (n : Nat) : Bool :=
  s.rdB Obj.paired && s.rd (Obj.streamClass n) == 0 && s.pair.partnerGens.find n == some (s.rd (Obj.streamGeneration n))

/-- A live chunk completes DEVICE_FAULT: its courses' digests, the FAULTED flag, and on the leading leaf of a dual-run the request for a
handover (R484, R492, R494). -/
def State.liveFault (s : State) (n counter : Nat) : State :=
  match (s.cmd n counter).bind (·.chunk) with
  | none => s
  | some k =>
    if s.rd (Obj.streamClass n) != 0 then s
    else
      let l := s.courseLen
      let x := s.stream n
      let first := k.position / l
      let count := (k.position + k.frames - 1) / l - first + 1
      let s := s.setStream n { x with digestFault := x.digestFault ++ (List.range count).map (· + first) }
      let s := { s with pair := { s.pair with faultAt := some s.course } }
      if s.rd Obj.role == 1 && s.dualRun n then
        ({ s with pair := { s.pair with handover := true } }).tieSend 8 0 (2 :: List.replicate 7 0)
      else s

/-- End a command DEVICE_FAULT; DETAIL names the error counter in 0x5100 and above that counted the fault (R146). -/
def State.deviceFault (s : State) (n counter key : Nat) : State := (s.liveFault n counter).finish n counter St.fault none key 0

/-! ### Loads that end without their slot being filled (R120, R365) -/

/-- Index of the progress record of a LOAD (R81): plan slot, table slot, brick code; a curve has none. -/
def loadProgress (kind slot : Nat) : Option Nat :=
  if kind == 0 then some (0x3310 + slot) else if kind == 1 then some (0x3410 + slot) else if kind == 3 then some 0x33F0
  else none

/-- Empty a plan slot's objects (R393), and those of its cost record (R430). -/
def State.emptyPlan (s : State) (slot : Nat) : State :=
  let s := { s with plans := s.plans.del slot }
  [Obj.planLoaded slot, Obj.planDigest slot, Obj.planRateHz slot, Obj.planStages slot, Obj.planLabel slot,
   Obj.costStepFrames slot, Obj.costTileCycles slot, Obj.costFeedLines slot, Obj.costGddr7Bytes slot,
   Obj.costBrickCycles slot, Obj.costKvLines slot, Obj.costKvBytes slot, Obj.costBatch slot].foldl (fun s k => s.wr k 0) s

/-- Pinned bytes per stack of the loaded tables (R259). -/
def State.pinnedBytes (s : State) : Nat :=
  sumN (s.tables.map (fun e => if bit (field e.2.header 1 1) 1 then field e.2.header 2 2 * field e.2.header 8 8 else 0))

/-- Pinned bytes per stack with those of the LOADs that run (R259). -/
def State.pinnedSoon (s : State) : Nat :=
  s.pinnedBytes + sumN (s.loads.map (fun l => if bit (field l.head 1 1) 1 then field l.head 2 2 * field l.head 8 8 else 0))

/-- Empty a table slot: its region is freed and its objects read as empty (R247, R248, R262). -/
def State.emptyTable (s : State) (slot : Nat) : State :=
  let s := { s with tables := s.tables.del slot }
  let s := [Obj.tableLoaded slot, Obj.tableFormat slot, Obj.tableRowBytes slot, Obj.tableRows slot, Obj.tableTier slot,
    Obj.tableBase slot, Obj.tableLabel slot, Obj.tablePinned slot].foldl (fun s k => s.wr k 0) s
  s.wr Obj.pinBytes s.pinnedBytes

/-- Take the code of a brick away (R349, R365). -/
def State.emptyBrick (s : State) (k : Nat) : State :=
  s.setBrick k { s.brick k with code := 255, run := false, codeBytes := 0 }

/-- Empty what a LOAD was to fill. -/
def State.emptySlot (s : State) (kind slot first count : Nat) : State :=
  if kind == 0 then s.emptyPlan slot
  else if kind == 1 then s.emptyTable slot
  else if kind == 2 then
    { s.wr Obj.loadedMap (setBit (s.rd Obj.loadedMap) slot false) with curves := s.curves.del slot }
  else (List.range count).foldl (fun s i => s.emptyBrick (first + i)) s

/-- End a LOAD's run CANCELLED, or FAILED with a code, its slot empty. -/
def State.endLoad (s : State) (n : Nat) (c : Cmd) (failed : Option Nat) : State :=
  let kind := field c.desc 16 1
  let slot := field c.desc 18 2
  let s := s.emptySlot kind slot (field c.desc 40 2) (field c.desc 42 2)
  let s := { s with loads := s.loads.filter (fun l => !(l.ring == n && l.counter == c.counter)) }
  match loadProgress kind slot with
  | none => s
  | some i => match failed with
    | none => s.progCancel i
    | some code => s.progFail i code

/-! ### Halts, notices, RESUME and ABANDON (R126, R131, R134, R148, R364-R366) -/

/-- Announce the next halted command of a ring: its notice, and HALTED (R131, R148). -/
def State.announce (s : State) (n : Nat) : State :=
  if s.ringState n != 1 then s
  else match (s.ring n).cmds.find? (fun c => c.phase == .halted) with
  | none => s
  | some c => match c.halt with
    | none => s
    | some h =>
      let s' := if s.slotFree n 0 then s.putEntry n (s.entryOf c true h.status h.position h.detail h.aux)
        else s.bump Obj.noticesSkipped
      ((s'.setRing n { s'.ring n with halted := some c.counter }).setRingState n 2).wr (Obj.streamHaltPosition n) h.position

/-- A halt is over: the ring runs again, or the next halted command is announced. -/
def State.clearHalt (s : State) (n counter : Nat) : State :=
  let r := s.ring n
  let s := s.mapCmd n counter (fun c => if c.phase == .halted then { c with phase := .active, halt := none } else c)
  if r.halted == some counter then
    let s := (s.setRing n { s.ring n with halted := none }).wr (Obj.streamHaltPosition n) 0
    let s := if s.ringState n == 2 then s.setRingState n 1 else s
    s.announce n
  else s

/-- End a command CANCELLED as ABANDON does (R365): what it wrote stays; a LOAD leaves its slot empty; a chunk's packets
leave the joints of its plan. -/
def State.abandonCmd (s : State) (n counter : Nat) : State :=
  match s.cmd n counter with
  | none => s
  | some c =>
    let s := s.clearHalt n counter
    let s := { s with requests := s.requests.filter (fun q => !(q.ring == n && q.counter == counter)) }
    let s := s.mapCmd n counter (fun c => { c with xfer := c.xfer.map (fun x => { x with context := false }) })
    let s := if c.op == 10 then s.endLoad n c none else s
    let s := match c.chunk with
      | some _ => s.mapJoints (s.rd (Obj.streamPlan n)) (fun j => j.dropStream n (some counter))
      | none => s
    (s.finish n counter St.cancelled (some ((c.chunk.map (·.position)).getD 0))).endIgnored n counter ⟨St.cancelled, some 0, 0, 0⟩

/-- Halt a command (R148): a notice and HALTED, but a command of a ring that is DRAINING, in ERROR or in FAULT ends at once
(R125, R130, R133). -/
def State.haltCmd (s : State) (n counter : Nat) (h : Halt) : State :=
  match s.cmd n counter with
  | none => s
  | some c =>
    if c.lost || decide (s.ringState n ≥ 3) || !s.rdB (Obj.streamRingEnable n) then s.abandonCmd n counter
    else
      let s := s.mapCmd n counter (fun c => { c with phase := .halted, halt := some h })
      if (s.ring n).halted.isSome then s else s.announce n

/-- Halt a command with HALT_PROTECT and count it (R514). -/
def State.protectHalt (s : State) (n counter position addr space : Nat) (write : Bool) : State :=
  let s := ((s.bump Obj.protectHalts).wr Obj.lastRefusedAddr addr).wr Obj.lastRefusedRing n
  s.haltCmd n counter ⟨St.haltProtect, position, addr, space, write⟩

/-- Halt a command with HALT_POISON (R366, R461). -/
def State.poisonHalt (s : State) (n counter position addr space : Nat) : State :=
  s.haltCmd n counter ⟨St.haltPoison, position, addr, space, false⟩

/-- Outstanding page requests the device supports (R117). -/
def maxRequests : Nat := 256

/-- A transfer of a command meets a missing translation of a host page (R124, R126, R364). While no request may be made
it halts; while 256 are outstanding it waits its turn. -/
def State.pageFault (s : State) (n counter position addr : Nat) : State :=
  let page := addr / 4096 * 4096
  if s.priHeld then s.haltCmd n counter ⟨St.haltPage, position, page, 0xFF, false⟩
  else if s.requests.length ≥ maxRequests then s
  else
    let id := s.priNext % 512
    let s := { s with requests := s.requests ++ [PageRequest.mk id n counter page], priNext := s.priNext + 1 }
    (s.bump Obj.pageWaits).send (.pageRequest id page)

/-- Whether a command waits on a page request. -/
def State.waitsPage (s : State) (n counter : Nat) : Bool := s.requests.any (fun q => q.ring == n && q.counter == counter)

/-- Where the work of a command stands, as a halt notice gives it (R364). -/
def Cmd.saved (c : Cmd) : Nat :=
  match c.chunk with
  | some k => k.position
  | none => (c.xfer.map (·.next)).getD 0

/-- Halt every command that waits on a page request that meets a test, with an AUX (R126). -/
def State.failRequests (s : State) (p : PageRequest → Bool) (aux : Nat) : State :=
  let hit := s.requests.filter p
  let s := { s with requests := s.requests.filter (fun q => !p q) }
  hit.foldl (fun s q =>
    match s.cmd q.ring q.counter with
    | none => s
    | some c => s.haltCmd q.ring q.counter ⟨St.haltPage, c.saved, q.page, aux, false⟩) s

/-! ### Starting a fetched command (R152, R153) -/

/-- The first command of a ring that has not started. -/
def Ring.next (r : Ring) : Option Cmd := r.cmds.find? (fun c => c.phase == .fetched)

/-- Whether a BIND fetched before a command has not ended (R294). -/
def Ring.bindBefore (r : Ring) (counter : Nat) : Bool :=
  (r.cmds.takeWhile (fun c => c.counter != counter)).any (fun c => c.op == 1 && c.phase != .ended)

/-- The command of an opcode that may start now: the first not started, on a ring that is not HALTED, a FENCE only when it
stands first (R131, R152, R153). -/
def State.startable (s : State) (n op : Nat) : Option Cmd :=
  let r := s.ring n
  match r.next with
  | none => none
  | some c =>
    if c.op != op || s.ringState n == 2 || (c.unchecked && r.bindBefore c.counter) then none
    else if op == 11 && (r.cmds.head?.map (·.counter)) != some c.counter then none
    else some c

/-- Mark a command started. -/
def State.begin (s : State) (n counter : Nat) (p : Phase := .active) : State :=
  s.mapCmd n counter (fun c => { c with phase := p, unchecked := false })

/-- The first command of an opcode in a phase. -/
def State.findCmd (s : State) (n op : Nat) (p : Phase) : Option Cmd :=
  (s.ring n).cmds.find? (fun c => c.op == op && c.phase == p)

/-! ### FAULT, and the end of commands without entries (R120, R125) -/

/-- Every command fetched ends without an entry from now on. -/
def State.loseEntries (s : State) (n : Nat) : State :=
  let r := s.ring n
  s.setRing n { r with cmds := r.cmds.map (fun c => { c with lost := true }) }

/-- A translation of ring memory failed (R125). -/
def State.ringFault (s : State) (n : Nat) : State :=
  let s := ((s.bump (Obj.streamRingErrors n)).setRingState n 5).loseEntries n
  let s := s.setRing n { s.ring n with errEntry := false }
  ((s.ring n).cmds.filter (fun c => c.phase == .halted)).foldl (fun s c => s.abandonCmd n c.counter) s

/-- End every halted command of a ring as ABANDON does (R130, R133). -/
def State.abandonHalted (s : State) (n : Nat) : State :=
  ((s.ring n).cmds.filter (fun c => c.phase == .halted)).foldl (fun s c => s.abandonCmd n c.counter) s

end Sys2Proof.Machine
end

