-- ==== Sys2Proof/Machine/Descriptors.lean ====
section
/-! DEFINITION. The checks of a fetched descriptor (R137-R143, R294, R573). -/

namespace Sys2Proof.Machine

/-- A refusal: STATUS, DETAIL, AUX. -/
abbrev Refused := Nat × Nat × Nat

/-- Lift the first failing check, each a condition, a check code and an AUX. -/
def checkFail (xs : List (Bool × Nat × Nat)) : Option Refused :=
  (firstFail xs).map (fun e => (St.check, e.1, e.2))

/-- A reserved field: its offset is reported when its bytes are not zero. -/
def resv (d : Bytes) (off n : Nat) : Bool × Nat × Nat := (field d off n != 0, Chk.reservedField, off)

/-- Reserved fields and flags of a descriptor, by offset (R137, R140-R143, R256, R573). -/
def reservedFault (d : Bytes) : Option Refused :=
  let op := field d 0 1
  let head : List (Bool × Nat × Nat) :=
    [(decide (field d 1 1 > 1), Chk.reservedField, 1), (decide (op ≥ 9) && field d 2 2 != 0, Chk.reservedField, 2), resv d 4 4]
  let own : List (Bool × Nat × Nat) :=
    if op == 1 then [(bit (field d 20 4) 31 && bits (field d 20 4) 30 7 != 0, Chk.reservedField, 20), resv d 40 24]
    else if op == 2 then [(decide (field d 39 1 > 1), Chk.reservedField, 39)]
    else if op == 3 then [resv d 26 6, resv d 40 24]
    else if op == 4 || op == 5 then [resv d 24 40]
    else if op == 6 then [resv d 17 47]
    else if op == 8 || op == 9 then [resv d 28 36]
    else if op == 10 then [resv d 17 1, resv d 20 4, (field d 16 1 != 3 && field d 40 4 != 0, Chk.reservedField, 40), resv d 44 20]
    else [resv d 16 48]
  checkFail (head ++ own)

/-- Level an opcode requires (R139). -/
def levelOf (d : Bytes) : Nat := if field d 0 1 == 10 || (field d 0 1 == 1 && field d 24 1 == 0) then 1 else 2

/-- Steps 1 to 3 of R138. -/
def State.headCheck (s : State) (n : Nat) (d : Bytes) : Option Refused :=
  let op := field d 0 1
  if op < 1 || op > 12 then some (St.check, Chk.badOpcode, 0)
  else match reservedFault d with
    | some r => some r
    | none => if s.rd (Obj.streamRingLevel n) > levelOf d then some (St.level, levelOf d, 0) else none

/-- Whether a stream is bound. -/
def State.isBound (s : State) (n : Nat) : Bool := s.rd (Obj.streamResidency n) != 0

/-- Output frames of a plan step of a stream's plan, at least 1 (R430). -/
def State.stepFrames (s : State) (n : Nat) : Nat := Nat.max 1 (s.rd (Obj.costStepFrames (s.rd (Obj.streamPlan n))))

/-- Frames of a FEED. -/
def State.feedFrames (s : State) (n : Nat) (d : Bytes) : Nat := field d 36 2 * s.stepFrames n

/-- Whether a stream's output goes to the host. -/
def State.hostOutput (s : State) (n : Nat) : Bool := s.rd (Obj.streamGroup n) == 255

/-- Lowest index of a mark at fault (R141, R573). -/
def badMark (d : Bytes) (frames : Nat) : Option Nat :=
  let m := field d 38 1
  (List.range 4).find? (fun i =>
    let v := field d (48 + 4 * i) 4
    if i ≥ m then v != 0
    else decide (v ≥ frames) || (decide (i > 0) && decide (v ≤ field d (48 + 4 * (i - 1)) 4)))

/-- The opcode's own checks that need only the descriptor and the stream's binding (R6, R7, R573). -/
def State.ownCheck (s : State) (n : Nat) (d : Bytes) : Option Refused :=
  let op := field d 0 1
  let kind := field d 16 1
  let slot := field d 18 2
  let rate := s.rd (Obj.planRateHz (s.rd (Obj.streamPlan n))) != s.fs
  if op == 1 then
    let cls := field d 24 1
    let lead := field d 26 2
    let pace := field d 28 4
    checkFail
      [(decide (cls > 2), Chk.reservedField, 24),
       (if cls == 0 then decide (lead < 2) || decide (lead > 64) else lead != 0, Chk.lead, 26),
       (cls != 1 && pace != 0, Chk.reservedField, 28),
       (cls == 1 && (pace == 0 || decide (pace > 1000000)), Chk.admission, 28)]
  else if op ≤ 8 && !s.isBound n then some (St.check, Chk.notBound, 0xFF)
  else if op == 2 then
    let bad := badMark d (s.feedFrames n d)
    checkFail
      [(rate, Chk.rate, 0xFF),
       (field d 32 4 == 0 || decide (field d 32 4 > 16777216), Chk.reservedField, 32),
       (field d 36 2 == 0 || decide (field d 36 2 > 4096), Chk.reservedField, 36),
       (decide (field d 38 1 > 4), Chk.marks, 38),
       (s.hostOutput n == (field d 40 8 == 0), Chk.reservedField, 40),
       (bad.isSome, Chk.marks, 48 + 4 * bad.getD 0)]
  else if op == 3 then
    checkFail
      [(rate, Chk.rate, 0xFF),
       (s.hostOutput n && field d 24 1 != 0, Chk.reservedField, 24),
       (s.hostOutput n && field d 25 1 != 0, Chk.reservedField, 25),
       (field d 32 8 != 0 && decide (field d 32 8 ≤ field d 16 8), Chk.reservedField, 32)]
  else if op == 6 then checkFail [(decide (field d 16 1 > 2), Chk.reservedField, 16)]
  else if op == 10 then
    checkFail
      [(decide (kind > 3), Chk.reservedField, 16), (kind == 0 && decide (slot > 63), Chk.planInvalid, 18),
       (kind == 1 && decide (slot > 63), Chk.reservedField, 18), (kind == 2 && decide (slot > 239), Chk.curve, 18),
       (kind == 3 && decide (slot > 254), Chk.brickCode, 18)]
  else none

/-- Steps 4 and 5 of R138 as far as the descriptor shows. -/
def State.tailCheck (s : State) (n : Nat) (d : Bytes) : Option Refused :=
  let op := field d 0 1
  if op ≤ 8 && field d 2 2 != s.rd (Obj.streamGeneration n) % 65536 then some (St.check, Chk.generation, 2)
  else s.ownCheck n d

/-- Whether a FEED starts a segment (R294). -/
def State.startsSegment (s : State) (n : Nat) (d : Bytes) : Bool :=
  (s.stream n).segNext || (decide (field d 38 1 ≥ 1) && field d 48 4 == 0)

/-- The position check of R294. -/
def State.feedCheck (s : State) (n : Nat) (d : Bytes) : Option Refused :=
  let p := field d 16 8
  let want := s.rd (Obj.streamPosition n)
  if (if s.startsSegment n d then decide (p < want) else p != want) then some (St.check, Chk.discontinuous, 16) else none

/-- Renders without a STOP that cover an utterance's end finish there (R412). -/
def State.endAtFeed (s : State) (n e : Nat) : State :=
  let x := s.stream n
  let s := match x.renders.getLast? with
    | some r => if r.stop == 0 && r.endAt.isNone && decide (r.start < e) then s.wr (Obj.streamRenderTotal n) (e - r.start) else s
    | none => s
  let s := s.setStream n { x with
    lastEnd := some e
    renders := x.renders.map (fun r => if r.stop == 0 && r.endAt.isNone && decide (r.start < e) then { r with endAt := some e } else r) }
  { s with members := s.members.map (fun m =>
      if m.stream == n && m.stop == 0 && m.endAt.isNone && decide (m.start < e) then { m with endAt := some e } else m) }

/-- A FEED's chunk as fetched, with the stream's `POSITION` after it (R294). -/
def State.acceptFeed (s : State) (n counter : Nat) (d : Bytes) : State :=
  let frames := s.feedFrames n d
  let fin := bit (field d 39 1) 0
  let k : Chunk :=
    { position := field d 16 8, frames := frames, tokens := field d 36 2
      marks := (List.range (field d 38 1)).map (fun i => field d (48 + 4 * i) 4)
      segment := s.startsSegment n d, fin := fin, out := field d 40 8, fetchedAt := s.clk.frames
      decoded := 0, booked := 0, done := 0, age := 0, aged := false, agedBooked := false, released := false, map := [], held := false, retuneHeld := false
      produced := false, short := 0, clipped := none, spilled := 0, moved := (0, 0), ignores := 0, counts := [], error := none }
  let s := s.mapCmd n counter (fun c => { c with chunk := some k })
  let s := s.setStream n { s.stream n with segNext := fin }
  let s := if fin then s.endAtFeed n (k.position + frames) else s
  s.wr (Obj.streamPosition n) (k.position + frames)

/-- Checks from step 4 on of a command whose turn has come; the state with its FEED accepted, or its refusal. A BIND whose plan was
not there when it was fetched is refused for it (R155). -/
def State.checkTail (s : State) (n counter : Nat) (d : Bytes) : Option Refused × State :=
  match s.tailCheck n d with
  | some r => (some r, s)
  | none =>
    if field d 0 1 == 2 then
      match s.feedCheck n d with
      | some r => (some r, s)
      | none => (none, s.acceptFeed n counter d)
    else if field d 0 1 == 1 && ((s.cmd n counter).map (·.planThere)) == some false then (some (St.check, Chk.planAbsent, 16), s)
    else (none, s)

/-- End a command with a refusal. -/
def State.refuse (s : State) (n counter : Nat) (r : Refused) : State := s.finish n counter r.1 none r.2.1 r.2.2

/-- Start the command of an opcode, with the checks that waited for an earlier BIND (R294): its counter and descriptor, or
nothing when none can start or its checks refuse it. -/
def State.startCmd (s : State) (n op : Nat) : Option Cmd × State :=
  match s.startable n op with
  | none => (none, s)
  | some c =>
    if c.unchecked then
      match s.checkTail n c.counter c.desc with
      | (some r, s) => (none, s.refuse n c.counter r)
      | (none, s) => (some c, s.begin n c.counter)
    else (some c, s.begin n c.counter)

end Sys2Proof.Machine
end

