-- ==== Sys2Proof/Machine/Gather.lean ====
section
/-! DEFINITION. Gather tables, lookups, voices and the row cache (R245-R262). -/

namespace Sys2Proof.Machine

/-! ### Tables (R246) -/

def tableFormatOf (h : Bytes) : Nat := field h 0 1
def tableRowLen (h : Bytes) : Nat := field h 2 2
def tableRowCount (h : Bytes) : Nat := field h 8 8
def tableInPlace (h : Bytes) : Bool := bit (field h 1 1) 0
def tablePin (h : Bytes) : Bool := bit (field h 1 1) 1
def tableScale (h : Bytes) : F32 := BitVec.ofNat 32 (field h 32 4)

/-- Bytes of the rows of a table. -/
def tableBytes (h : Bytes) : Nat := tableRowLen h * tableRowCount h

/-- Whether a header keeps R246, for an image of a length. -/
def tableHeaderOk (h : Bytes) (length : Nat) : Bool :=
  let f := tableFormatOf h
  let sc := tableScale h
  let positiveNormal := isFinite sc && !bit sc.toNat 31 && decide (sc.toNat ≥ 0x00800000)
  let base := field h 24 8
  (f == 4 || f == 5 || f == 6 || f == 8 || f == 9 || f == 0x0A) && decide (field h 1 1 ≤ 3) &&
  tableRowLen h % 64 == 0 && decide (64 ≤ tableRowLen h) && decide (tableRowLen h ≤ 4096) && field h 4 4 == 0 &&
  decide (1 ≤ tableRowCount h) && decide (tableRowCount h ≤ 2 ^ 32) && (field h 16 1 == 1 || field h 16 1 == 2) &&
  allZero (slice h 17 7) && (if f == 6 then positiveNormal else sc == 0) && field h 36 4 == 0 && allZero (slice h 48 16) &&
  (if tableInPlace h then
    length == 64 && base % 4096 == 0 && rangeSpace base == some (if field h 16 1 == 1 then 2 else 3)
  else base == 0 && length == 64 + tableBytes h)

/-- The bytes of one row; a row beyond ROWS reads as zeros (R255). -/
def State.tableRow (s : State) (t : Table) (r : Nat) : Bytes :=
  let n := tableRowLen t.header
  if r ≥ tableRowCount t.header then List.replicate n 0 else s.devMem.readBytes (t.base + r * n) n

/-- The elements of a row as codes of a format. -/
def rowCodes (fmt : Nat) (row : Bytes) : List Nat := (chunks (formatBits fmt / 8) row).map ofLE

/-! ### Lookups (R250-R252) -/

/-- One element of a pooled lookup: the exact sum of weight × value, rounded once. -/
def pooledElement (fmt : Nat) (scale : F32) (ps : List (F32 × Nat)) : F32 :=
  chunkSum (ps.map (fun p =>
    let d := elementValue fmt p.2
    fvMul (f32v p.1) (if fmt == 6 then fvMul d (f32v scale) else d)))

/-- Whether a format may be a lookup's output: any of R168 but the MX and the tiled-scale ones (R250). -/
def outputFormat (fmt : Nat) : Bool := formatKnown fmt && !formatScaled fmt

/-- The output row of a lookup and its narrowing counts (R251, R252). -/
def State.lookup (s : State) (t : Table) (pairs : List (Nat × F32)) (out : Nat) : Bytes × Counts :=
  let fmt := tableFormatOf t.header
  let copy := match pairs with
    | [p] => p.2 == 0x3F800000#32 && fmt != 6 && out == fmt
    | _ => false
  if copy then ((pairs.map (fun p => s.tableRow t p.1)).flatten, {})
  else
    let rows := pairs.map (fun p => (p.2, rowCodes fmt (s.tableRow t p.1)))
    let n := tableRowLen t.header / (formatBits fmt / 8)
    let vs := (List.range n).map (fun e => pooledElement fmt (tableScale t.header) (rows.map (fun r => (r.1, nth 0 r.2 e))))
    let ns := vs.map (narrowElement out 0 .rne)
    (packElems out (ns.map (·.code)), countElements vs ns)

/-! ### The row cache (R258-R261) -/

/-- The stack that holds a stage, by the first entry of the bond map for it: its gather unit serves the stage's lookups (R245). -/
def stackOfStage (im : Bytes) (stage : Nat) : Nat :=
  match (planBonds im).find? (fun b => b.stage == stage) with
  | some b => if b.kind == 0 then b.unit / 16 else if b.kind == 1 then b.unit / 512 else b.unit
  | none => 0

/-- Cache bytes in service on a stack under a size (R258). -/
def State.stackCache (s : State) (size st : Nat) : Nat :=
  size / 16 * ((List.range 16).filter (fun t => s.tileOn (16 * st + t))).length

/-- Smallest cache in service among the stacks (R258, R262). -/
def State.cacheActive (s : State) (size : Nat) : Nat :=
  (List.range 6).foldl (fun m st => Nat.min m (s.stackCache size st)) (s.stackCache size 0)

/-- Keep the most recently used rows that fit. -/
def fitRows (bytes : Nat → Nat) : Nat → List (Nat × Nat) → List (Nat × Nat)
  | _, [] => []
  | room, e :: es => if bytes e.1 ≤ room then e :: fitRows bytes (room - bytes e.1) es else []

/-- One fetch of a row by a stack's unit: whether the cache served it, and the cache after it. -/
def State.fetchRow (s : State) (st slot row : Nat) : State :=
  let s := s.bump (Obj.tableLookupRows slot)
  let h := ((s.tables.find slot).map (·.header)).getD []
  if tablePin h then s.bump (Obj.tableCacheHits slot)
  else
    let c := s.rowCache.getD st []
    let hit := c.contains (slot, row)
    let bytes (t : Nat) : Nat := tableRowLen (((s.tables.find t).map (·.header)).getD [])
    let room := s.stackCache (s.rd Obj.rowCacheBytes) st - s.pinnedBytes
    let c' := fitRows bytes room ((slot, row) :: c.filter (· != (slot, row)))
    let s := { s with rowCache := s.rowCache.put st c' }
    if hit then s.bump (Obj.tableCacheHits slot) else s

/-- A row that a stack's unit must read from its tier lies on a poisoned line: the address and space of the poison (R255). A row in the
cache, or a pinned one, is not read again. -/
def State.rowPoison (s : State) (st slot row : Nat) : Option (Nat × Nat) :=
  match s.tables.find slot with
  | none => none
  | some t =>
    let n := tableRowLen t.header
    if row ≥ tableRowCount t.header || tablePin t.header || (s.rowCache.getD st []).contains (slot, row) then none
    else (s.firstPoison (t.base + row * n) n).map (fun a => (a, t.tier + 1))

/-- Fetch the distinct rows of a batch (R253), counting merged fetches and index faults (R255); poisoned rows are not
cached. -/
def State.fetchBatch (s : State) (st : Nat) (pairs : List (Nat × Nat)) : State :=
  let live := pairs.filter (fun p => match s.tables.find p.1 with
    | some t => decide (p.2 < tableRowCount t.header)
    | none => false)
  let distinct := dedup live
  let s := (pairs.filter (fun p => !live.contains p)).foldl (fun s p => s.bump (Obj.tableIndexFaults p.1)) s
  let s := s.bump Obj.merged (live.length - distinct.length)
  distinct.foldl (fun s p => if (s.rowPoison st p.1 p.2).isSome then s.bump (Obj.tableLookupRows p.1) else s.fetchRow st p.1 p.2) s

/-! ### Voices (R256, R257) -/

/-- The pairs a BIND's VOICE names (R256), or none where it breaks R256 or names an unused blend. -/
def State.voicePairs (s : State) (voice rows : Nat) : Option (List (Nat × F32)) :=
  if !bit voice 31 then (if voice < rows then some [(voice, 0x3F800000#32)] else none)
  else
    let b := voice % 128
    let n := s.rd (Obj.blendCount b)
    if n == 0 then none
    else
      let ps := (List.range n).map (fun k => (s.rd (Obj.blendRow b k), BitVec.ofNat 32 (s.rd (Obj.blendWeight b k))))
      if ps.any (fun p => decide (p.1 ≥ rows)) then none else some ps

/-! ### Commands -/

/-- The chunk of a ring at work: the first FEED released and not ended. -/
def State.activeChunk (s : State) (n : Nat) : Option Cmd :=
  (s.ring n).cmds.find? (fun c => c.final.isNone && c.phase == .active && (match c.chunk with
    | some k => k.released && !k.produced
    | none => false))

/-- Whether a batch of lookups keeps R250: 1 to 256 lookups of tables in force, 1 to 16 pairs each, an output format that is allowed. -/
def State.batchOk (s : State) (lookups : List Lookup) : Bool :=
  !lookups.isEmpty && decide (lookups.length ≤ 256) && lookups.all (fun l => (s.tables.find l.slot.val).isSome &&
    !l.pairs.isEmpty && decide (l.pairs.length ≤ 16) && outputFormat l.outFormat.toNat)

/-- GATHER_LOOKUP (R245, R250): one batch of a stage of the ring's chunk at work, served by the unit of the stack that holds the
stage. -/
def execGatherLookup (ring : RingId) (stage : Fin 8) (lookups : List Lookup) (s : State) : Out :=
  let n := ring.val
  .next (match s.activeChunk n with
    | none => s
    | some c =>
      let plan := s.rd (Obj.streamPlan n)
      let im := ((s.plans.find plan).map (·.image)).getD []
      let st := stackOfStage im stage.val
      if !s.batchOk lookups || !s.gatherOn st || decide (planStages im ≤ stage.val) then s
      else
        let pairs := lookups.flatMap (fun l => l.pairs.map (fun p => (l.slot.val, p.1)))
        let outs := lookups.map (fun l => match s.tables.find l.slot.val with
          | some t => (s.lookup t l.pairs l.outFormat.toNat, l.tensor)
          | none => (([], {}), l.tensor))
        let poison := pairs.findSome? (fun p => s.rowPoison st p.1 p.2)
        let s := s.fetchBatch st pairs
        let s := outs.foldl (fun s o => s.countNarrow plan n c.counter o.2 o.1.2) s
        { s with batches := s.batches.put s.batchNext ⟨n, c.counter, stage.val, outs.map (·.1.1), poison, false⟩
                 batchNext := s.batchNext + 1 })

/-- Push packets, each a tag and its words, into every joint of a link; none when one of them has no room (R254, R381). -/
def State.pushPackets (n counter : Nat) (keys : List Nat) : List (Nat × List Nat) → State → Option State
  | [], s => some s
  | p :: ps, s =>
    let step (acc : Option State) (key : Nat) : Option State := acc.bind (fun s =>
      (s.jointWrite key p.1 n counter p.2).map (fun s => match s.joints.find key with
        | some j => { s with joints := s.joints.put key j.endPacket }
        | none => s))
    match keys.foldl step (some s) with
    | none => none
    | some s => State.pushPackets n counter keys ps s

/-- Deliver the batches of a ring that have arrived, in order of issue, up to the first that has not or that finds no room (R254). A
poisoned row halts the stream (R255). -/
def State.deliverBatches (n : Nat) : List (Nat × Batch) → State → State
  | [], s => s
  | e :: es, s =>
    let b := e.2
    if ((s.cmd n b.counter).bind (·.final)).isSome || (s.cmd n b.counter).isNone then
      State.deliverBatches n es { s with batches := s.batches.del e.1 }
    else if !b.arrived then s
    else match b.poison with
      | some p => ({ s with batches := s.batches.del e.1 }).poisonHalt n b.counter (((s.cmd n b.counter).map Cmd.saved).getD 0) p.1 p.2
      | none =>
        let keys := s.linkJoints (s.rd (Obj.streamPlan n)) b.stage
        match State.pushPackets n b.counter keys (b.rows.map (fun r => (n, (chunks 8 r).map ofLE))) s with
        | some t => State.deliverBatches n es { t with batches := t.batches.del e.1 }
        | none => match keys.head? with
          | some key => s.jointWait key n
          | none => s

/-- ROW_FETCH_DONE (R254): every row of a batch has arrived; output rows reach the consumer's joint in order. -/
def execRowFetchDone (batch : Nat) (s : State) : Out :=
  .next (match s.batches.find batch with
    | none => s
    | some b =>
      let s := { s with batches := s.batches.put batch { b with arrived := true } }
      State.deliverBatches b.ring (s.batches.filter (fun e => e.2.ring == b.ring)) s)

end Sys2Proof.Machine
end

