-- ==== Sys2Proof/Machine/Energy.lean ====
section
/-! DEFINITION. Energy and cycles of work: cost records, clock steps, the thermal factor, the allowance, and the planning of a
course (R426-R446). -/

namespace Sys2Proof.Machine

/-! ### Work (R430, R431) -/

def Work.add (a b : Work) : Work :=
  ⟨a.tile + b.tile, a.feed + b.feed, a.gddr7 + b.gddr7, a.brick + b.brick, a.cxl + b.cxl⟩
def Work.times (a : Work) (n : Nat) : Work := ⟨n * a.tile, n * a.feed, n * a.gddr7, n * a.brick, n * a.cxl⟩
def sumWork (ws : List Work) : Work := ws.foldl Work.add {}

/-- Cost of one plan step with `held` key/value blocks of which `near` lie in GDDR7 (R430). -/
def State.stepWork (s : State) (plan : Nat) (spread : Bool) (held near : Nat) : Work :=
  let kv := held * s.rd (Obj.costKvLines plan)
  { tile := s.rd (Obj.costTileCycles plan) + kv
    feed := s.rd (Obj.costFeedLines plan) + (if spread then 0 else kv)
    gddr7 := s.rd (Obj.costGddr7Bytes plan) + (if spread then Nat.min held near * s.rd (Obj.costKvBytes plan) else 0)
    brick := s.rd (Obj.costBrickCycles plan)
    cxl := if spread then (held - near) * s.rd (Obj.costKvBytes plan) else 0 }

/-- Blocks of a stream's reservation that lie in GDDR7. -/
def State.nearBlocks (s : State) (n : Nat) : Nat :=
  let im := ((s.plans.find (s.rd (Obj.streamPlan n))).map (·.image)).getD []
  let b := 32768 * (Config.planKvPairs im).length
  if b = 0 then 0 else s.rd (Obj.streamKvBytesGddr7 n) / b

/-- Cost of one plan step of a stream as it stands (R430). -/
def State.streamStep (s : State) (n : Nat) : Work :=
  s.stepWork (s.rd (Obj.streamPlan n)) (s.rd (Obj.streamKvPlacement n) == 2) (s.stream n).kv.length (s.nearBlocks n)

/-- A live stream's reservation (R441): one course of output per course at its window W. -/
def State.reservation (s : State) (n : Nat) : Work :=
  (s.stepWork (s.rd (Obj.streamPlan n)) (s.rd (Obj.streamKvPlacement n) == 2) (s.rd (Obj.streamKvBlocksReserved n))
    (s.nearBlocks n)).times (ceilDiv s.courseLen (s.stepFrames n))

/-! ### Clock steps (R432) -/

/-- The steps the device may run at, as step numbers: up to `CLOCK_MAX_MHZ` and `CLOCK_CAP_MHZ`. -/
def State.steps (s : State) : List Nat :=
  (List.range 31).filter (fun k => decide (500 + 25 * k ≤ Nat.min (s.rd Obj.clockMaxMhz) (s.rd Obj.clockCapMhz)))

/-- The step of a clock. -/
def stepOf (mhz : Nat) : Nat := (mhz - 500) / 25

/-- The clock cap as a step. -/
def State.capStep (s : State) : Nat := maxN s.steps

/-- An FP32 coefficient in units of 2^-149 (0 for a negative one, a NaN or an infinity). -/
def f32Units (v : Nat) : Nat :=
  match f32v (BitVec.ofNat 32 v) with
  | .fin false m e => m * 2 ^ (e + 149).toNat
  | _ => 0

/-- Energy of work at a step, in units of 2^-155 pJ (R431). -/
def State.energy (s : State) (v : Nat) (w : Work) : Nat :=
  64 * w.tile * f32Units (s.rd (Obj.stepEArrayPj v)) + 64 * w.feed * f32Units (s.rd (Obj.stepEFeedPj v)) +
  w.gddr7 * f32Units (s.rd (Obj.stepEGddr7Pj v)) + 64 * w.brick * f32Units (s.rd (Obj.stepEBrickPj v))

/-- One millijoule in those units. -/
def mjUnits : Nat := 10 ^ 9 * 2 ^ 155

/-- Fixed energy of `frames` frames at a step, in those units times fs (R431). -/
def State.fixedFs (s : State) (v frames : Nat) : Nat := s.rd (Obj.stepStaticW v) * frames * 1000 * mjUnits

/-- Whole millijoules of an energy. -/
def wholeMj (e : Nat) : Nat := e / mjUnits

/-! ### Thermal factor and allowance (R433, R434) -/

/-- A curve at a temperature: points as pairs of temperature and factor. -/
def curveFactor : List (Int × Nat) → Int → Nat
  | [], _ => 10000
  | [p], _ => p.2
  | p :: q :: ps, t =>
    if t < p.1 then p.2
    else if t < q.1 then
      ((p.2 : Int) - ((p.2 : Int) - q.2) * (t - p.1) / (q.1 - p.1) -
        (if ((p.2 : Int) - q.2) * (t - p.1) % (q.1 - p.1) == 0 then 0 else 1)).toNat
    else curveFactor (q :: ps) t

/-- The points of a curve in use. -/
def State.curvePoints (s : State) (points : Nat) (temp factor : Nat → Nat) : List (Int × Nat) :=
  (List.range (s.rd points)).map (fun i => (toSigned 16 (s.rd (temp i)), s.rd (factor i)))

/-- The thermal factor under the latest readings (R433). -/
def State.thermalFactor (s : State) : Nat :=
  Nat.min (curveFactor (s.curvePoints Obj.tileCurvePoints Obj.tileCurveTemp Obj.tileCurveFactor) s.sched.tileTemp)
    (curveFactor (s.curvePoints Obj.memCurvePoints Obj.memCurveTemp Obj.memCurveFactor) s.sched.memTemp)

/-- a_gross for `frames` frames at a power and a thermal factor, in millijoules (R434). -/
def State.grossMj (s : State) (p f frames : Nat) : Nat := if s.fs = 0 then 0 else p * f * frames * 1000 / (10000 * s.fs)

/-- The allowance of a course of `frames` frames (R434). -/
def State.allowance (s : State) (frames : Nat) : Nat :=
  let g := s.grossMj (Nat.min (s.rd Obj.powerLimitW) (s.rd Obj.powerCapW)) s.thermalFactor frames
  g - Nat.min (s.rd Obj.lDebtMj) (g / 4)

/-! ### Fitting (R437) -/

/-- Lanes of the CXL ports that the expanders in service occupy. -/
def State.cxlLanes (s : State) : Nat :=
  sumN (((List.range 8).filter (fun x => s.rd (Obj.expState x) == 1)).map (fun x => s.rd (Obj.expWidth x)))

/-- Capacity of the units over `frames` frames at a step, times fs: tile-cycles, feed lines, GDDR7 bytes less those of
`windows` retraining windows of 40 µs (R458), brick-cycles, CXL bytes. DESIGN CHOICE (assumption 139): a CXL port reads 242 GB/s ÷ 32 a lane (R229, R465). -/
def State.capacityFs (s : State) (v frames windows : Nat) : Work :=
  let cyc := (500 + 25 * v) * 1000000 * frames
  { tile := s.rd Obj.tilesEnabled * cyc
    feed := s.rd Obj.tilesEnabled * cyc
    gddr7 := 192000000000 * (s.dies * frames) - 192000 * 40 * windows * s.fs
    brick := s.rd Obj.bricksEnabled * cyc
    cxl := 7562500000 * (s.cxlLanes * frames) }

/-- Whether work fits a share (out of 10,000) of the energy left and of the capacity, all times fs. -/
def State.fitsIn (s : State) (v : Nat) (energyFs : Nat) (cap : Work) (share : Nat) (w : Work) : Bool :=
  decide (10000 * s.energy v w * s.fs ≤ share * energyFs) && decide (10000 * w.tile * s.fs ≤ share * cap.tile) &&
  decide (10000 * w.feed * s.fs ≤ share * cap.feed) && decide (10000 * w.gddr7 * s.fs ≤ share * cap.gddr7) &&
  decide (10000 * w.brick * s.fs ≤ share * cap.brick) && decide (10000 * w.cxl * s.fs ≤ share * cap.cxl)

/-- Whether work fits the cycles of its units alone. -/
def State.fitsCycles (s : State) (cap w : Work) : Bool :=
  decide (w.tile * s.fs ≤ cap.tile) && decide (w.feed * s.fs ≤ cap.feed) && decide (w.gddr7 * s.fs ≤ cap.gddr7) &&
  decide (w.brick * s.fs ≤ cap.brick) && decide (w.cxl * s.fs ≤ cap.cxl)

/-- Room for units of `each` beside what is used, a resource at a time. -/
def roomFor (limit used each : Nat) : Option Nat := if each = 0 then none else some ((limit - used) / each)

/-- Most steps of work `w`, up to `want`, that fit beside `used`. -/
def State.mostSteps (s : State) (v energyFs : Nat) (cap used w : Work) (want : Nat) : Nat :=
  [roomFor energyFs (s.energy v used * s.fs) (s.energy v w * s.fs), roomFor cap.tile (used.tile * s.fs) (w.tile * s.fs),
   roomFor cap.feed (used.feed * s.fs) (w.feed * s.fs), roomFor cap.gddr7 (used.gddr7 * s.fs) (w.gddr7 * s.fs),
   roomFor cap.brick (used.brick * s.fs) (w.brick * s.fs), roomFor cap.cxl (used.cxl * s.fs) (w.cxl * s.fs)].foldl
    (fun m r => match r with | some n => Nat.min m n | none => m) want

/-! ### What there is to book (R426-R429, R436, R444) -/

/-- A chunk as the scheduler sees it: ring, counter, class, whether released, due steps, all steps left, age, aged. -/
structure Job where
  ring    : Nat
  counter : Nat
  cls     : Nat
  due     : Nat
  left    : Nat
  age     : Nat
  aged    : Bool
  work    : Work
deriving DecidableEq, Repr

/-- The last course boundary at which a live chunk may be released: at or before its first frame less the lead frames
(R414). -/
def releaseBy (l first lead : Nat) : Nat := (first - lead) / l * l

/-- Steps of a chunk due before a position (R436): those with a frame whose decision point, one frame before, lies before
it. -/
def dueSteps (k : Chunk) (step before : Nat) : Nat :=
  let all := ceilDiv k.frames step
  let upto := if before + 1 ≤ k.position then 0 else Nat.min all (ceilDiv (before + 1 - k.position) step)
  upto - k.done

/-- The jobs of the streams for a course that starts at `start` with `frames` frames (R427): chunks fetched before the frame
now beginning, started, of streams RESIDENT and not halted under R52. -/
def State.jobs (s : State) (start frames : Nat) : List Job :=
  s.rings.flatMap (fun e =>
    let n := e.1
    if s.rd (Obj.streamResidency n) != 1 then []
    else e.2.cmds.filterMap (fun c =>
      match c.chunk with
      | none => none
      | some k =>
        if c.final.isSome || k.produced || c.phase == .fetched || c.phase == .halted || decide (k.fetchedAt ≥ s.clk.frames)
        then none
        else
          let cls := s.rd (Obj.streamClass n)
          let step := s.stepFrames n
          let all := ceilDiv k.frames step
          let must := k.released || decide (releaseBy s.courseLen k.position (s.stream n).leadFrames ≤ start)
          if cls == 0 && bit (s.rd (Obj.streamStreamFlags n)) 1 then none
          else some
            { ring := n, counter := c.counter, cls := cls
              due := if cls == 0 && must then dueSteps k step (start + frames + s.courseLen) else 0
              left := all - k.done, age := k.age, aged := k.aged, work := s.streamStep n }))

/-- Contract of a paced stream at its j-th boundary (R428). -/
def contract (j pace l fs : Nat) : Nat := if fs = 0 then 0 else (j + 1) * pace * l / fs - j * pace * l / fs

/-- Bookings so far: steps by ring and counter, and the work they make. -/
structure Booking where
  steps : List ((Nat × Nat) × Nat) := []
  used  : Work := {}
deriving DecidableEq, Repr

def Booking.add (b : Booking) (j : Job) (n : Nat) : Booking :=
  if n = 0 then b else ⟨b.steps ++ [((j.ring, j.counter), n)], b.used.add (j.work.times n)⟩

/-- Steps booked of a job. -/
def Booking.of (b : Booking) (j : Job) : Nat :=
  sumN ((b.steps.filter (fun e => e.1 == (j.ring, j.counter))).map (·.2))

/-- Book a number of steps over a stream's chunks in ring order. -/
def bookOver (b : Booking) : List Job → Nat → Booking
  | [], _ => b
  | j :: js, n =>
    let t := Nat.min n (j.left - b.of j)
    bookOver (b.add j t) js (n - t)

/-- Insert a job by age, older first; ties to the lower stream, then ring order. -/
def insertOld (j : Job) : List Job → List Job
  | [] => [j]
  | x :: xs => if x.age ≤ j.age then j :: x :: xs else x :: insertOld j xs

/-- A paced stream's steps due: arrears, then contract; each with its jobs. -/
def State.pacedDue (s : State) (jobs : List Job) (frames : Nat) : List (Nat × Nat × Nat × List Job) :=
  (s.streams.filter (fun e => e.2.bound && s.rd (Obj.streamClass e.1) == 1)).map (fun e =>
    (e.1, s.rd (Obj.streamArrears e.1), contract e.2.courses (s.rd (Obj.streamPace e.1)) frames s.fs,
      jobs.filter (fun j => j.ring == e.1)))

/-- One try at a step (R437, R438): the bookings, paced steps, live steps not due, grout steps, and φ × 256. -/
structure Try where
  booking : Booking
  live    : Work
  paced   : Work
  grout   : Work
  pacedSteps : Nat
  early   : Nat
  groutSteps : Nat
  phi     : Nat
deriving DecidableEq, Repr

/-- Largest φ × 256 at which the paced steps fit (R438). -/
def largestPhi (ok : Nat → Bool) : Nat → Nat
  | 0 => 0
  | n + 1 => if ok (n + 1) then n + 1 else largestPhi ok n

/-- Book a course at a step (R437-R439). `energyFs` is the energy left beside the fixed energy; `excess` books due live work
and aged grout only; `drain` books paced work to contract alone and no young grout (R442). -/
def State.tryStep (s : State) (v energyFs : Nat) (cap : Work) (jobs : List Job)
    (paced : List (Nat × Nat × Nat × List Job)) (excess drain : Bool) : Try :=
  let liveJobs := jobs.filter (·.cls == 0)
  let b0 := liveJobs.foldl (fun b j => b.add j j.due) {}
  let aged := jobs.filter (fun j => j.cls == 2 && j.aged)
  let b1 := aged.foldl (fun b j => b.add j (Nat.min 1 j.left)) b0
  if excess then ⟨b1, b0.used, {}, sumWork (aged.map (fun j => j.work.times (Nat.min 1 j.left))), 0, 0, aged.length, 256⟩
  else
    let bookAt (phi : Nat) : Booking := paced.foldl (fun b p => bookOver b p.2.2.2 (phi * ((if drain then 0 else p.2.1) + p.2.2.1) / 256)) b1
    let phi := largestPhi (fun i => s.fitsIn v energyFs cap 10000 (bookAt i).used) 256
    let b2 := bookAt phi
    let steps (b c : Booking) : Nat := sumN (c.steps.map (·.2)) - sumN (b.steps.map (·.2))
    let b3 := liveJobs.foldl (fun b j =>
      b.add j (s.mostSteps v energyFs cap b.used j.work (j.left - j.due))) b2
    let young := (jobs.filter (fun j => j.cls == 2)).foldr insertOld []
    let b4 := if drain then b3 else young.foldl (fun b j =>
      b.add j (s.mostSteps v energyFs cap b.used j.work (j.left - b.of j))) b3
    let work (p : Job → Bool) : Work := sumWork ((jobs.filter p).map (fun j => j.work.times (b4.of j)))
    ⟨b4, work (·.cls == 0), work (·.cls == 1), work (·.cls == 2), steps b1 b2, steps b2 b3, aged.length + steps b3 b4, phi⟩

/-- Whether one score beats another (R437). -/
def Try.beats (a b : Try) : Bool :=
  decide (a.pacedSteps > b.pacedSteps) || (a.pacedSteps == b.pacedSteps &&
    (decide (a.early > b.early) || (a.early == b.early && decide (a.groutSteps > b.groutSteps))))

/-- The best of the tries, ties to the lower step. -/
def bestTry : List (Nat × Try) → Option (Nat × Try)
  | [] => none
  | x :: xs => some (xs.foldl (fun a y => if y.2.beats a.2 then y else a) x)

/-- Dies due whose windows would start at a boundary: at most two (R457, R458). -/
def maxWindows : Nat := 2

/-- Whether a live admission is pending (R442). -/
def State.admissionsWaitingNow (s : State) : Nat :=
  sumN (s.rings.map (fun e => (e.2.cmds.filter (fun c => c.op == 1 && c.final.isNone && decide (c.waited ≥ 1))).length))
def State.admissionPending (s : State) : Bool := decide (s.admissionsWaitingNow > 0)

/-- Plan a course that starts at `start` with `frames` frames (R437-R439): its plan and bookings. `windows` is the number of
retraining windows that start in it. -/
def State.planCourse (s : State) (start frames windows : Nat) : CoursePlan × Booking :=
  let a := s.allowance frames
  let jobs := s.jobs start frames
  let paced := s.pacedDue jobs frames
  let dueLive := sumWork ((jobs.filter (·.cls == 0)).map (fun j => j.work.times j.due))
  let steps := s.steps
  let floor' := (steps.find? (fun v => s.fitsCycles (s.capacityFs v frames windows) dueLive)).getD s.capStep
  let overAt (v : Nat) : Bool :=
    decide (s.fixedFs v frames + s.energy v dueLive * s.fs > a * mjUnits * s.fs)
  let drain := s.admissionPending
  let tryAt (excess : Bool) (v : Nat) : Try :=
    s.tryStep v (a * mjUnits * s.fs - s.fixedFs v frames) (s.capacityFs v frames windows) jobs paced excess drain
  let excess := overAt floor'
  let best : Nat × Try :=
    if excess then (floor', tryAt true floor')
    else (bestTry ((steps.filter (fun v => decide (floor' ≤ v))).map (fun v => (v, tryAt false v)))).getD
      (floor', tryAt false floor')
  let v := best.1
  let t := best.2
  let wanted := sumWork (jobs.map (fun j => if j.cls == 1 then {} else j.work.times j.left) ++
    paced.map (fun p => Work.times ((p.2.2.2.head?.map Job.work).getD {})
      (Nat.min (p.2.1 + p.2.2.1) (sumN (p.2.2.2.map (·.left))))))
  let room := a * mjUnits * s.fs - s.fixedFs v frames
  let load := if room = 0 then 10000 else Nat.min 10000 (10000 * s.energy v wanted * s.fs / room)
  let groutLeft := jobs.any (fun j => j.cls == 2 && !j.aged && decide (t.booking.of j < j.left))
  ({ start := start, mhz := 500 + 25 * v, allowance := a, thermal := s.thermalFactor
     fixed := if s.fs = 0 then 0 else s.fixedFs v frames / (mjUnits * s.fs)
     live := wholeMj (s.energy v t.live), paced := wholeMj (s.energy v t.paced), grout := wholeMj (s.energy v t.grout)
     load := load, slowed := !excess && decide (t.phi < 256), shed := groutLeft, excess := excess
     steps := paced.map (fun p => (p.1, p.2.1 + p.2.2.1, sumN (p.2.2.2.map t.booking.of))) }, t.booking)

/-- Record a plan: it stands until its boundary, and the chunks carry what is booked of them. -/
def State.setPlan (s : State) (p : CoursePlan × Booking) : State :=
  let s := { s with sched := { s.sched with next := some p.1 } }
  { s with rings := s.rings.mapV (fun n r => { r with cmds := r.cmds.map (fun c => { c with chunk := c.chunk.map (fun k =>
      let b := sumN ((p.2.steps.filter (fun e => e.1 == (n, c.counter))).map (·.2))
      { k with booked := b, agedBooked := k.aged && decide (0 < b) && !k.released }) }) }) }

/-! ### Admission of live streams (R441-R443) -/

/-- Reservations of the admitted live streams other than one. -/
def State.admittedWork (s : State) (except : Nat) : Work :=
  sumWork ((s.streams.filter (fun e => e.2.admitted && e.1 != except)).map (fun e => s.reservation e.1))

/-- The first two conditions of R442 for work, under an allowance. -/
def State.admits (s : State) (a : Nat) (w : Work) : Bool :=
  let v := s.capStep
  let l := s.courseLen
  s.fitsIn v (a * mjUnits * s.fs - s.fixedFs v l) (s.capacityFs v l 0) (s.rd Obj.liveCeiling) w

/-- Whether a reservation can never fit (R443). -/
def State.neverFits (s : State) (w : Work) : Bool :=
  !s.admits (s.grossMj (s.rd Obj.powerLimitW) 10000 s.courseLen) w

/-- Paced and grout work released and not finished (R442). -/
def State.releasedWork (s : State) : Work :=
  sumWork (s.rings.flatMap (fun e =>
    if s.rd (Obj.streamClass e.1) == 0 then []
    else e.2.cmds.filterMap (fun c => match c.chunk with
      | some k => if k.released && c.final.isNone && !k.produced then
          some ((s.streamStep e.1).times (ceilDiv k.frames (s.stepFrames e.1) - k.done)) else none
      | none => none)))

/-- Frames of the course that starts at a position: up to the next multiple of L (R42). -/
def State.framesFrom (s : State) (start : Nat) : Nat := s.courseLen - start % s.courseLen

/-- All conditions of R442 for a reservation of a stream, under the allowance of the course now beginning. -/
def State.admitsNow (s : State) (n : Nat) (w : Work) : Bool :=
  let a := s.rd Obj.lAllowanceMj
  let all := (s.admittedWork n).add w
  let v := s.capStep
  let l := s.framesFrom s.pos
  let left := a * mjUnits * s.fs - s.fixedFs v l
  s.fitsIn v left (s.capacityFs v l 0) (s.rd Obj.liveCeiling) all && s.fitsIn v left (s.capacityFs v l 0) 10000 (all.add s.releasedWork)

/-- Whether new work of a chunk may issue in a governed course (R435). -/
def State.issues (s : State) (n : Nat) (k : Chunk) : Bool :=
  !s.sched.governed || s.rd (Obj.streamClass n) == 0 || (s.rd (Obj.streamClass n) == 2 && k.aged)

/-- Energy of the reservations at the current step, in whole units: millijoules for the device, microjoules for one stream
(R445, R446). -/
def State.reservedMj (s : State) : Nat := wholeMj (s.energy (stepOf (s.rd Obj.lClockMhz)) (s.admittedWork 32768))
def State.reservedUj (s : State) (n : Nat) : Nat :=
  if (s.stream n).admitted then s.energy (stepOf (s.rd Obj.lClockMhz)) (s.reservation n) * 1000 / mjUnits else 0

end Sys2Proof.Machine
end

