-- ==== Sys2Proof/Machine/Record.lean ====
section
/-! DEFINITION. The stream table entry (R288), the canonical record of carried state (R303-R307) and the checkpoint image
(R495). -/

namespace Sys2Proof.Machine

/-- A section of a record: its table entry and its bytes. -/
structure RecSection where
  stage  : Nat
  tensor : Nat
  cls    : Nat
  format : Nat
  count  : Nat
  bytes  : Bytes
deriving DecidableEq, Repr

/-- Stage numbers of the sections the manual names and gives no stage: the scans of R310 and R311, the voice row, the
retuned scales, the key/value blocks, the token fed back. DESIGN CHOICE (assumption 35). -/
def stageScan : Nat := 0xFF00
def stageVoice : Nat := 0xFF01
def stageRetune : Nat := 0xFF02
def stageKv : Nat := 0xFF03
def stageToken : Nat := 0xFF04
/-- Histories of STREAMED layers, and their row counts. -/
def stageDelay : Nat := 0xFF05
def stageDelayAt : Nat := 0xFF06
/-- Biquads, and the steps of R208. -/
def stageBiquad : Nat := 0xFF07
def stageSteps : Nat := 0xFF08
/-- Open weight gradients. -/
def stageGrad : Nat := 0xFF09

/-- An element of an open weight gradient as 300 bytes: exact sum, what came in, count, combining stack (assumption 35). -/
def AccLane.bytes (l : AccLane) : Bytes :=
  leBytes 96 (ofSigned 768 l.sum.val) ++ leBytes 1 (b2n l.sum.nan + 2 * b2n l.sum.pos + 4 * b2n l.sum.neg) ++ leBytes 2 l.count ++
  leBytes 1 l.stack.length ++ padTo 200 (l.stack.flatMap (fun e => leBytes 4 e.1 ++ leBytes 4 e.2.toNat))

/-- Such an element from its bytes. -/
def laneOfBytes (bs : Bytes) : AccLane :=
  let f := field bs 96 1
  { sum := ⟨toSigned 768 (field bs 0 96), bit f 0, bit f 1, bit f 2⟩, count := field bs 97 2
    stack := (List.range (field bs 99 1)).map (fun i => (field bs (100 + 8 * i) 4, BitVec.ofNat 32 (field bs (104 + 8 * i) 4))) }

/-- The scale of a retuned tensor in force for a chunk at a position: that of the latest chunk that ends before it (R204). -/
def Retuned.at' (r : Retuned) (pos : Nat) : Nat :=
  (r.hist.foldl (fun (acc : Nat × Nat) e => if e.1 < pos && decide (acc.1 ≤ e.1) then e else acc) (0, r.scale)).2

/-- The latest scale. -/
def Retuned.latest (r : Retuned) : Nat :=
  (r.hist.foldl (fun (acc : Nat × Nat) e => if acc.1 ≤ e.1 then e else acc) (0, r.scale)).2

/-- FP32 words of a scan's carried values and its step count (R310, R311). -/
def Scan.words (x : Scan) : List Nat := x.h0 ++ x.a ++ x.b ++ x.hPrev ++ [x.count]

/-- A scan from its words: 3 for each channel of a scalar one, 10 for each of a biquad, and the step count. -/
def scanOfWords (biquad : Bool) (ws : List Nat) : Scan :=
  let k := (ws.length - 1) / (if biquad then 10 else 3)
  let part (i n : Nat) : List Nat := (ws.drop (i * k)).take (n * k)
  if biquad then ⟨part 0 2, part 2 4, part 6 2, part 8 2, nth 0 ws (10 * k)⟩ else ⟨part 0 1, part 1 1, part 2 1, [], nth 0 ws (3 * k)⟩

/-- Bytes of a key/value block, its pages in order (R306). -/
def KvBlock.bytes (b : KvBlock) : Bytes := b.pages.flatMap (fun p => p.mem.readBytes 0 32768)

/-- The page directory of a stream: one entry for each reserved block, oldest first, then the unused ones (R232). -/
def State.kvDirectory (s : State) (n : Nat) : List Nat :=
  (s.stream n).kv.map (·.place) ++ List.replicate (s.rd (Obj.streamKvBlocksReserved n) - (s.stream n).kv.length) 3

/-- Insert a section by stage, then tensor (R305). -/
def insertSection (r : RecSection) : List RecSection → List RecSection
  | [] => [r]
  | x :: xs => if r.stage * 65536 + r.tensor < x.stage * 65536 + x.tensor then r :: x :: xs else x :: insertSection r xs

/-- The sections of a stream's record (R305, R306). `alone` copies blocks a directory would name (R495); `reset` leaves out
the feedback sections (R298). -/
def State.recordSections (s : State) (n : Nat) (alone reset : Bool) : List RecSection :=
  let x := s.stream n
  let base := x.sections.map (fun e => RecSection.mk e.stage e.tensor e.cls e.format e.elems.length (packElems e.format e.elems))
  let scans := x.scans.map (fun e => RecSection.mk (if e.2.hPrev.isEmpty then stageScan else stageBiquad) e.1 0 0x0A e.2.words.length
    (e.2.words.flatMap (leBytes 4)))
  let im := ((s.plans.find (s.rd (Obj.streamPlan n))).map (·.image)).getD []
  let vf := Config.planAttr im .voiceFormat
  let voice := if x.voiceRow.isEmpty then [] else
    [RecSection.mk stageVoice (Config.planAttr im .voiceTensor) 1 vf (x.voiceRow.length * 8 / formatBits vf) x.voiceRow]
  let retune := x.retuned.map (fun r => RecSection.mk stageRetune r.tensor 0 0x0A 1 (leBytes 4 r.latest))
  let kv :=
    if s.rd (Obj.streamKvPlacement n) == 2 && !alone then
      let entries := s.kvDirectory n
      if entries.isEmpty then [] else [RecSection.mk stageKv 0 2 0x07 entries.length (entries.flatMap (leBytes 8))]
    else if x.kv.isEmpty then []
    else
      let bs := x.kv.flatMap KvBlock.bytes
      [RecSection.mk stageKv 0 1 (planKvFormat im) bs.length bs]
  let fed (tensor : Nat) (bs : Bytes) : List RecSection := if bs.isEmpty then [] else [RecSection.mk stageToken tensor 1 0x07 bs.length bs]
  let token := fed 0 x.feedback ++ fed 1 x.codeRow
  let delays := x.delays.map (fun e => RecSection.mk stageDelay e.1 1 e.2.format (e.2.rows.flatten).length
    (packElems e.2.format e.2.rows.flatten))
  let counts := x.delays.map (fun e =>
    let ws := [e.2.cin, e.2.first, e.2.seen, e.2.made, e.2.start, e.2.last] ++ e.2.high
    RecSection.mk stageDelayAt e.1 1 0x0B (2 * ws.length) (ws.flatMap (leBytes 8)))
  let steps := x.steps.map (fun e => RecSection.mk stageSteps 0 1 0x0B 4 ([e.1, e.2].flatMap (leBytes 8)))
  let grads := x.grads.map (fun e => RecSection.mk stageGrad e.1 1 0x07 (300 * e.2.length) (e.2.flatMap AccLane.bytes))
  ((base ++ scans ++ voice ++ retune ++ kv ++ token ++ delays ++ counts ++ steps ++ grads).foldl (fun rs r => insertSection r rs) []).filter
    (fun r => !(reset && r.cls == 0))

/-- Offsets of sections, each aligned to 64 bytes, from a position on. -/
def placeSections : Nat → List RecSection → List (Nat × RecSection)
  | _, [] => []
  | p, r :: rs => (p, r) :: placeSections (roundUp (p + r.bytes.length) 64) rs

/-- Bytes of a record with these sections. -/
def recordLength (rs : List RecSection) : Nat :=
  rs.foldl (fun p r => roundUp (p + r.bytes.length) 64) (roundUp (128 + 32 * rs.length) 64)

/-- Size of a stream's canonical record (R290, R302). -/
def State.recordSize (s : State) (n : Nat) : Nat :=
  if s.rd (Obj.streamResidency n) == 0 then 0
  else recordLength (s.recordSections n false (bit (s.rd (Obj.streamStreamFlags n)) 0))

/-- The parts of a stream's resident state other than key/value: bytes in each tile's plane (R302). -/
def State.residentParts (s : State) (n : Nat) : Map Nat :=
  let im := ((s.plans.find (s.rd (Obj.streamPlan n))).map (·.image)).getD []
  ((s.recordSections n true false).filter (fun r => r.stage != stageKv)).foldl (fun m r =>
    let t := planStateTile im r.stage r.tensor
    m.put t (m.getD t 0 + roundUp r.bytes.length 64)) []

/-- Plane bytes of a stream's resident state other than key/value (R302). -/
def State.residentSize (s : State) (n : Nat) : Nat := sumN ((s.residentParts n).map (·.2))

/-- The canonical record (R304, R305) of the sections chosen. -/
def State.recordWith (s : State) (n : Nat) (alone reset : Bool) : Bytes :=
  let flags := s.rd (Obj.streamStreamFlags n)
  let rs := s.recordSections n alone reset
  let start := roundUp (128 + 32 * rs.length) 64
  let placed := placeSections start rs
  let total := recordLength rs
  let digest := ((s.plans.find (s.rd (Obj.streamPlan n))).map (·.digest)).getD 0
  let head := leBytes 4 0x60845354 ++ leBytes 2 1 ++ leBytes 2 rs.length ++ leBytes 8 total ++ beBytes 32 digest ++
    leBytes 8 (s.rd (Obj.streamPosition n)) ++ leBytes 8 (s.rd (Obj.streamTokenIndex n)) ++
    leBytes 8 (s.rd (Obj.streamAttnPosition n)) ++ leBytes 4 (s.rd (Obj.streamGeneration n)) ++ leBytes 4 (flags % 4) ++
    leBytes 8 (s.rd (Obj.streamSeed n)) ++ leBytes 4 (s.rd (Obj.streamVoice n)) ++ List.replicate 36 0
  let table := placed.flatMap (fun e => leBytes 2 e.2.stage ++ leBytes 2 e.2.tensor ++ leBytes 1 e.2.cls ++
    leBytes 1 e.2.format ++ leBytes 2 0 ++ leBytes 8 e.1 ++ leBytes 8 e.2.bytes.length ++ leBytes 8 e.2.count)
  padTo total (placed.foldl (fun bs e => overwrite bs e.1 e.2.bytes) (padTo start (head ++ table)))

/-- The canonical record with every section. -/
def State.record (s : State) (n : Nat) (alone : Bool) : Bytes := s.recordWith n alone false

/-- The record that a move out writes (R295, R298). -/
def State.movedRecord (s : State) (n : Nat) : Bytes := s.recordWith n false (bit (s.rd (Obj.streamStreamFlags n)) 0)

/-- The sections of a record's bytes. -/
def recordParts (bs : Bytes) : List RecSection :=
  (List.range (field bs 6 2)).map (fun i =>
    let o := 128 + 32 * i
    ⟨field bs o 2, field bs (o + 2) 2, field bs (o + 4) 1, field bs (o + 5) 1, field bs (o + 24) 8,
      padTo (field bs (o + 16) 8) (slice bs (field bs (o + 8) 8) (field bs (o + 16) 8))⟩)

/-- Key/value blocks from the bytes of their pages, up to attention position `a`. -/
def kvOfBytes (im : Bytes) (a place : Nat) (bs : Bytes) : List KvBlock :=
  let pairs := Config.planKvPairs im
  let size := 32768 * pairs.length
  if size = 0 then []
  else
    let n := bs.length / size
    (List.range n).map (fun i =>
      let first := ((a + 255) / 256 - n + i) * 256
      ⟨first, Nat.min 256 (a - first), place,
        (List.zip (List.range pairs.length) pairs).map (fun p =>
          KvPage.mk p.2.1 p.2.2 (Config.kvTile im p.2.1 p.2.2) (Memory.writeBytes [] 0 (slice bs (i * size + p.1 * 32768) 32768)))⟩)

/-- Install a record's carried state into a stream whose plan is `plan` (R307). -/
def State.installRecord (s : State) (n : Nat) (plan : Nat) (bs : Bytes) : State :=
  let parts := recordParts bs
  let im := ((s.plans.find plan).map (·.image)).getD []
  let own (st : Nat) := parts.filter (fun r => r.stage == st)
  let x := s.stream n
  let a := field bs 64 8
  let x := { x with
    sections := (parts.filter (fun r => decide (r.stage < 0xFF00))).map (fun r =>
      ⟨r.stage, r.tensor, r.cls, r.format, unpackElems r.format r.count r.bytes⟩)
    scans := (own stageBiquad).foldl (fun m r => m.put r.tensor (scanOfWords true ((chunks 4 r.bytes).map ofLE)))
      ((own stageScan).foldl (fun m r => m.put r.tensor (scanOfWords false ((chunks 4 r.bytes).map ofLE))) [])
    grads := (own stageGrad).map (fun r => (r.tensor, (chunks 300 r.bytes).map laneOfBytes))
    steps := (own stageSteps).foldl (fun m r => m.put (field r.bytes 0 8) (field r.bytes 8 8)) []
    voiceRow := ((own stageVoice).head?.map (·.bytes)).getD []
    retuned := (own stageRetune).map (fun r => ⟨r.tensor, field r.bytes 0 4, []⟩)
    kv := ((own stageKv).head?.map (fun r => kvOfBytes im a 0 r.bytes)).getD []
    delays := (own stageDelay).foldl (fun m r =>
      let at' := (((own stageDelayAt).find? (fun q => q.tensor == r.tensor)).map (·.bytes)).getD []
      let ws := (chunks 8 at').map ofLE
      m.put r.tensor { format := r.format, cin := nth 1 ws 0, first := nth 0 ws 1, seen := nth 0 ws 2, made := nth 0 ws 3
                       rows := chunks (nth 1 ws 0) (unpackElems r.format r.count r.bytes), start := nth 0 ws 4, last := nth 0 ws 5
                       high := ws.drop 6 }) []
    feedback := (((own stageToken).find? (fun r => r.tensor == 0)).map (·.bytes)).getD []
    codeRow := (((own stageToken).find? (fun r => r.tensor == 1)).map (·.bytes)).getD [] }
  let s := s.setStream n x
  let s := ((s.wr (Obj.streamPosition n) (field bs 48 8)).wr (Obj.streamTokenIndex n) (field bs 56 8)).wr
    (Obj.streamAttnPosition n) a
  let s := ((s.wr (Obj.streamGeneration n) (field bs 72 4)).wr (Obj.streamSeed n) (field bs 80 8)).wr
    (Obj.streamVoice n) (field bs 88 4)
  (s.wr (Obj.streamStreamFlags n) (field bs 76 4 % 4 + 4 * b2n x.retune)).wr (Obj.streamKvBlocksHeld n) x.kv.length

/-! ### The stream table entry (R288) -/

/-- Whether a PARK of a stream waits for its move to start (R297). -/
def State.parkWaiting (s : State) (n : Nat) : Bool := s.rd (Obj.streamResidency n) == 1 && ((s.ring n).cmds.any (fun c => c.op == 6 && c.phase == .waiting))

/-- Whether a live stream is pinned (R297): a fetched chunk has an output frame before the current position plus 4 × L. -/
def State.pinned (s : State) (n : Nat) : Bool :=
  s.rd (Obj.streamClass n) == 0 && (s.ring n).cmds.any (fun c => c.final.isNone && (match c.chunk with
    | some k => decide (k.position < s.pos + 4 * s.courseLen)
    | none => false))

/-- RESIDENCY of the entry, with direction, PINNED and PARK_WAITING. -/
def State.residencyByte (s : State) (n : Nat) : Nat :=
  s.rd (Obj.streamResidency n) + 4 * (((s.stream n).move.map (·.dir)).getD 0) + 16 * b2n (s.pinned n) +
    32 * b2n (s.parkWaiting n)

/-- STATE_BYTES: the size of the canonical record; 0 for an unbound stream. -/
def State.stateSize (s : State) (n : Nat) : Nat := if (s.stream n).bound then s.recordSize n else 0

/-- The 64 bytes of the entry (R288). -/
def State.entryBytes (s : State) (n : Nat) : Bytes :=
  let r := s.ring n
  leBytes 8 (s.rd (Obj.streamStateTier n) + s.rd (Obj.streamStateAddr n) / 16 * 16) ++ leBytes 8 (s.rd (Obj.streamPosition n)) ++
  leBytes 4 (s.rd (Obj.streamGeneration n)) ++ leBytes 1 (s.residencyByte n) ++ leBytes 1 (s.rd (Obj.streamStreamFlags n)) ++
  leBytes 1 (s.rd (Obj.streamClass n)) ++ leBytes 1 (s.rd (Obj.streamGroup n)) ++ leBytes 4 (s.rd (Obj.streamPlan n)) ++
  leBytes 4 (s.rd (Obj.streamVoice n)) ++ leBytes 4 (ceilDiv (s.stateSize n) 4096) ++
  leBytes 3 (s.rd (Obj.streamCmdHead n)) ++ leBytes 3 (s.rd (Obj.streamCplTail n)) ++ leBytes 3 r.cmdTail ++ leBytes 3 r.cplHead ++
  leBytes 1 (s.ringState n) ++ leBytes 1 (s.rd (Obj.streamCmdLog2 n)) ++ leBytes 1 (s.rd (Obj.streamCplLog2 n)) ++
  leBytes 1 (s.rd (Obj.streamLead n)) ++ leBytes 4 (s.rd (Obj.streamPace n)) ++ leBytes 8 (s.rd (Obj.streamSeed n))

/-- A checkpoint image (R495): the entry, then the record with its blocks copied in. -/
def State.checkpointImage (s : State) (n : Nat) : Bytes := s.entryBytes n ++ s.record n true

end Sys2Proof.Machine
end

