-- ==== Sys2Proof/Machine/RingExec.lean ====
section
/-! DEFINITION. Doorbells, fetching, FENCE, NOTE, CANCEL and page request responses (R126, R130-R139, R152-R157). -/

namespace Sys2Proof.Machine

/-! ### Doorbells (R132-R134) -/

/-- Fields of a doorbell. -/
def bellTail (w : Nat) : Nat := bits w 23 0
def bellHead (w : Nat) : Nat := bits w 47 24

/-- Whether a doorbell write is discarded (R132). -/
def State.bellDiscarded (s : State) (n : Nat) (aligned : Bool) (w : Nat) : Bool :=
  !aligned || bits w 63 52 != 0 || !(s.ringState n == 1 || s.ringState n == 2)

/-- Whether a doorbell write is an index error (R133). -/
def State.bellError (s : State) (n w : Nat) : Bool :=
  (bit w 48 && decide (dist24 (bellTail w) (s.rd (Obj.streamCmdHead n)) > 2 ^ s.rd (Obj.streamCmdLog2 n))) ||
  (bit w 49 && decide (dist24 (bellHead w) (s.ring n).cplHead >
    dist24 (s.rd (Obj.streamCplTail n)) (s.ring n).cplHead))

/-- An index error (R133). -/
def State.indexError (s : State) (n : Nat) : State :=
  let s := (s.bump (Obj.streamRingErrors n)).setRingState n 4
  let s := s.setRing n { s.ring n with errEntry := true }
  (s.abandonHalted n).drain n

/-- RESUME of the halted command (R126, R134, R365, R514). -/
def State.resumeRing (s : State) (n : Nat) : State :=
  match (s.ring n).halted.bind (s.cmd n) with
  | none => s
  | some c => match c.halt with
    | none => s
    | some h =>
      if h.status == St.haltProtect then s
      else
        let s := s.mapCmd n c.counter (fun c =>
          { c with xfer := c.xfer.map (fun x => { x with map := s.windows })
                   chunk := c.chunk.map (fun k => { k with map := s.windows }) })
        let s := s.clearHalt n c.counter
        if h.status == St.haltPage && s.priHeld then s.haltCmd n c.counter { h with aux := 0xFF } else s

/-- A whole doorbell write (R132-R134). -/
def State.doorbell (s : State) (n : Nat) (aligned : Bool) (w : Nat) : State :=
  if s.bellDiscarded n aligned w then s.bump Obj.doorbellDiscards
  else if s.bellError n w then s.indexError n
  else
    let r := s.ring n
    let s := s.setRing n { r with cmdTail := if bit w 48 then bellTail w else r.cmdTail
                                  cplHead := if bit w 49 then bellHead w else r.cplHead }
    if s.ringState n == 2 then
      if bit w 51 then (match (s.ring n).halted with
        | some c => s.abandonCmd n c
        | none => s)
      else if bit w 50 then s.resumeRing n
      else s
    else s

/-- The ring whose doorbell lies at an offset of BAR2 (R122, R132). -/
def bellRing (offset : BitVec 18) : Nat := offset.toNat / 8

/-- Whether an access at an offset of BAR2 is an aligned 64-bit one: 8 bytes wide, at a multiple of 8. -/
def bellAligned (offset : BitVec 18) (wide : Bool) : Bool := wide && offset.toNat % 8 == 0

/-- A doorbell write that a row stands for: one with the row's bit set, or one the device discards. While the host is away no write
arrives, and a LEFT leaf discards writes to BAR2 (R501). -/
def State.bellRow (s : State) (offset : BitVec 18) (wide : Bool) (w k : Nat) : State :=
  let n := bellRing offset
  let aligned := bellAligned offset wide
  if !s.host || s.rd Obj.role == 4 then s
  else if bit w k || s.bellDiscarded n aligned w then s.doorbell n aligned w else s

/-- CMD_TAIL (R133). -/
def execCmdTail (offset : BitVec 18) (wide : Bool) (w : BitVec 64) (s : State) : Out := .next (s.bellRow offset wide w.toNat 48)
/-- CPL_HEAD (R133). -/
def execCplHead (offset : BitVec 18) (wide : Bool) (w : BitVec 64) (s : State) : Out := .next (s.bellRow offset wide w.toNat 49)
/-- RESUME (R134). -/
def execResume (offset : BitVec 18) (wide : Bool) (w : BitVec 64) (s : State) : Out := .next (s.bellRow offset wide w.toNat 50)
/-- ABANDON (R134). -/
def execAbandon (offset : BitVec 18) (wide : Bool) (w : BitVec 64) (s : State) : Out := .next (s.bellRow offset wide w.toNat 51)

/-- What a read of a doorbell returns (R132): CMD_HEAD, CPL_TAIL and RING_STATE; zero for a read that is not an aligned 64-bit one. -/
def State.bellRead (s : State) (offset : BitVec 18) (wide : Bool) : Nat :=
  let n := bellRing offset
  if bellAligned offset wide then
    s.rd (Obj.streamCmdHead n) % 2 ^ 24 + 2 ^ 24 * (s.rd (Obj.streamCplTail n) % 2 ^ 24) + 2 ^ 48 * s.ringState n
  else 0

/-! ### Fetching (R136, R138) -/

/-- Whether the device fetches the next command of a ring (R136). -/
def State.fetches (s : State) (n : Nat) : Bool :=
  let c := s.rd (Obj.streamCmdHead n)
  let r := s.ring n
  s.host && s.rd Obj.phase == 6 && !s.stopFetch && (s.ringState n == 1 || s.ringState n == 2) && decide (0 < dist24 r.cmdTail c) &&
  decide (dist24 r.cmdTail c ≤ 2 ^ s.rd (Obj.streamCmdLog2 n)) &&
  decide (dist24 c r.cplHead < 2 ^ s.rd (Obj.streamCplLog2 n) - 1)

/-- Whether a plan slot holds a plan whose LOAD has its final entry written (R155, R389). -/
def State.planLoaded (s : State) (slot : Nat) : Bool :=
  decide (slot < 64) && (s.plans.find slot).isSome &&
  !s.rings.any (fun e => e.2.cmds.any (fun c => c.op == 10 && field c.desc 16 1 == 0 && field c.desc 18 2 == slot))

/-- The command a descriptor brings at a counter; a BIND keeps what its fetch finds of its plan (R155). -/
def State.newCmd (s : State) (counter : Nat) (d : Bytes) : Cmd :=
  { counter := counter, desc := d, fetchedAt := s.clk.frames, planThere := field d 0 1 != 1 || s.planLoaded (field d 16 4) }

/-- Fetch a descriptor and run the checks of R138. -/
def State.fetch (s : State) (n : Nat) (d : Bytes) : State :=
  let c := s.rd (Obj.streamCmdHead n)
  let s := s.wr (Obj.streamCmdHead n) ((c + 1) % 2 ^ 24)
  let r := s.ring n
  let s := s.setRing n { r with cmds := r.cmds ++ [s.newCmd c d] }
  match s.headCheck n d with
  | some f => s.refuse n c f
  | none =>
    if decide (field d 0 1 ≤ 8) && (s.ring n).bindBefore c then s.mapCmd n c (fun k => { k with unchecked := true })
    else match s.checkTail n c d with
      | (some f, s) => s.refuse n c f
      | (none, s) => s

/-- Whether the device accesses the memory of a ring: it fetches, or it has entries to write (R125). -/
def State.usesRing (s : State) (n : Nat) : Bool :=
  s.fetches n || (s.host && decide (1 ≤ s.ringState n) && s.ringState n != 5 && (!(s.ring n).cmds.isEmpty || (s.ring n).errEntry))

/-- COMMAND_FETCH (R136): the 64 bytes of the descriptor at CMD_HEAD's slot, or none where a translation of the ring's memory failed:
that of the slot, or that of the completion slot the device is to write (R125). -/
def execCommandFetch (ring : RingId) (descriptor : Option Bytes) (s : State) : Out :=
  .next (match descriptor with
    | none => if s.usesRing ring.val then s.ringFault ring.val else s
    | some d => if s.fetches ring.val then s.fetch ring.val (padTo 64 d) else s)

/-- RING_DRAINED (R120, R125, R130): the last command of a disabled ring has ended. A ring that host detachment met in ERROR or FAULT
stays in that state until a commit disables it. -/
def execRingDrained (ring : RingId) (s : State) : Out :=
  let n := ring.val
  .next (if decide (s.ringState n ≥ 3) && !s.rdB (Obj.streamRingEnable n) && (s.ring n).cmds.isEmpty && !(s.ring n).errEntry &&
      !(s.ring n).kept
    then s.setRingState n 0 else s)

/-! ### FENCE, NOTE, CANCEL -/

/-- FENCE (R153). -/
def execFence (ring : RingId) (s : State) : Out :=
  .next (match s.startCmd ring.val 11 with
    | (some c, s) => s.finishDone ring.val c.counter
    | (none, s) => s)

/-- NOTE (R139). -/
def execNote (ring : RingId) (s : State) : Out :=
  .next (match s.startCmd ring.val 12 with
    | (some c, s) => s.finishDone ring.val c.counter
    | (none, s) => s)

/-- Whether a fetched command is a chunk not released, at or after a position. -/
def Cmd.pendingFrom (c : Cmd) (from' : Nat) : Bool :=
  c.final.isNone && (match c.chunk with
    | some k => !k.released && decide (k.position ≥ from')
    | none => false)

/-- Cancel the chunks of a stream not released that meet a test, each with its POSITION (R140, R157). -/
def State.cancelChunks (s : State) (n : Nat) (p : Cmd → Bool) : State :=
  ((s.ring n).cmds.filter p).foldl (fun s c =>
    s.finish n c.counter St.cancelled (some ((c.chunk.map (·.position)).getD 0))) s

/-- CANCEL (R157). -/
def execCancel (ring : RingId) (s : State) : Out :=
  let n := ring.val
  .next (match s.startCmd n 5 with
    | (some c, s) =>
      let before := ((s.ring n).cmds.takeWhile (fun x => x.counter != c.counter)).map (·.counter)
      let s := s.cancelChunks n (fun x => before.contains x.counter && x.pendingFrom (field c.desc 16 8))
      s.finish n c.counter St.done
    | (none, s) => s)

/-! ### Page request responses (R126) -/

/-- PRI_RESPONSE (R126): a page request group response with a code; the PCI Express codes are 0 Success, 1 Invalid Request
and 15 Response Failure. -/
def execPriResponse (request : Nat) (code : BitVec 4) (s : State) : Out :=
  .next (
    if !s.requests.any (fun q => q.id == request) then s
    else if code.toNat == 0 then { s with requests := s.requests.filter (fun q => q.id != request) }
    else
      let s := s.bump Obj.priFailures
      if code.toNat == 1 then s.failRequests (fun q => q.id == request) 1
      else ({ s with priHeld := true }).failRequests (fun _ => true) code.toNat)

/-- PRI_TIMEOUT (R126): no response for 1,000 ms of the internal reference. -/
def execPriTimeout (request : Nat) (s : State) : Out :=
  .next (if s.requests.any (fun q => q.id == request) then (s.bump Obj.priFailures).failRequests (fun q => q.id == request) 0xFE
    else s)

/-- PRI_ENABLE (R126): the host has cleared and set PRI Enable. -/
def execPriEnable (s : State) : Out := .next { s with priHeld := false }

end Sys2Proof.Machine
end

