-- ==== Sys2Proof/Machine/Streams.lean ====
section
/-! DEFINITION. Binding and placing streams (R140, R228-R233, R291-R293, R301-R302, R350, R376, R411) and their moves between
tiers (R295-R301). -/

namespace Sys2Proof.Machine

def State.planImage (s : State) (slot : Nat) : Bytes := ((s.plans.find slot).map (·.image)).getD []

/-! ### Rooms (R229, R291, R302) -/

/-- Share of `STATE_PLANE_BUDGET` of each enabled plane (R302). -/
def State.planeShare (s : State) (budget : Nat) : Nat :=
  if s.rd Obj.tilesEnabled = 0 then 0 else budget / s.rd Obj.tilesEnabled / 4096 * 4096

/-- Bytes of resident state that a tile's plane holds. -/
def State.planeHeld (s : State) (tile : Nat) : Nat := sumN (s.streams.map (fun e => e.2.parts.getD tile 0))

/-- Whether each part of a stream's state fits the free bytes of the share of the plane that is to hold it (R302). -/
def State.partsFit (s : State) (parts : Map Nat) : Bool :=
  parts.all (fun p => s.tileOn p.1 && decide (s.planeHeld p.1 + p.2 ≤ s.planeShare (s.rd Obj.statePlaneBudget)))

/-- Streams RESIDENT or MOVING in (R302). -/
def State.residentCountNow (s : State) : Nat :=
  (s.streams.filter (fun e =>
    s.rd (Obj.streamResidency e.1) == 1 ||
    (s.rd (Obj.streamResidency e.1) == 3 && (e.2.move.map (·.dir)) == some 2))).length

/-- Whether a resident slot is free. -/
def State.slotRoom (s : State) : Bool := decide (s.residentCountNow < s.rd Obj.residentMax)

/-- Tier for a record of a size: 1 GDDR7, 2 CXL memory; `want` 0 lets the device choose, GDDR7 first (R291, R295). -/
def State.recordTier (s : State) (want size : Nat) : Option Nat :=
  let near := decide (s.rd Obj.stateGddr7Used + size ≤ s.rd Obj.stateGddr7Budget) && decide (size ≤ s.poolFree)
  let far := decide (s.rd Obj.stateCxlUsed + size ≤ s.rd Obj.stateCxlBudget) && decide (size ≤ s.cxlFree)
  if want == 1 then (if near then some 1 else none)
  else if want == 2 then (if far then some 2 else none)
  else if near then some 1 else if far then some 2 else none

/-- Charge, or give back, bytes of carried state in a tier: 0 plane, 1 GDDR7, 2 CXL memory. -/
def tierUsedKey (tier : Nat) : Nat :=
  if tier == 0 then Obj.statePlaneUsed else if tier == 1 then Obj.stateGddr7Used else Obj.stateCxlUsed

def State.charge (s : State) (tier bytes : Nat) : State :=
  if tier ≥ 3 then s else s.wr (tierUsedKey tier) (s.rd (tierUsedKey tier) + bytes)

def State.uncharge (s : State) (tier bytes : Nat) : State :=
  if tier ≥ 3 then s else s.lower (tierUsedKey tier) bytes

/-! ### Key/value reservations (R228, R229) -/

/-- A reservation: placement (1 HEAD, 2 SPREAD), blocks, bytes in planes, GDDR7 and CXL memory. -/
structure KvPlan where
  placement : Nat := 0
  blocks    : Nat := 0
  plane     : Nat := 0
  gddr7     : Nat := 0
  cxl       : Nat := 0
deriving DecidableEq, Repr

/-- Bytes of one key/value block of a plan (R225). -/
def State.kvBlockBytes (s : State) (plan : Nat) : Nat := 32768 * (Config.planKvPairs (s.planImage plan)).length

/-- Plane bytes of a stream's reservation: those of a stream in planes that is not AWAY (R233). -/
def State.kvPlaneHeld (s : State) (n : Nat) : Nat :=
  let r := s.rd (Obj.streamResidency n)
  if s.rd (Obj.streamKvPlacement n) == 1 && (r == 1 || r == 3) then
    s.rd (Obj.streamKvBlocksReserved n) * s.kvBlockBytes (s.rd (Obj.streamPlan n))
  else 0

/-- Plane bytes of a plan's key/value slots that no stream holds. -/
def State.kvPlaneFree (s : State) (plan : Nat) : Nat :=
  planKvPlaneBytes (s.planImage plan) -
    sumN ((s.streams.filter (fun e => e.2.bound && s.rd (Obj.streamPlan e.1) == plan)).map (fun e => s.kvPlaneHeld e.1))

/-- Placement in GDDR7, then CXL memory, in whole blocks (R229); `near` and `far` allow each tier. -/
def State.kvOutside (s : State) (blocks size : Nat) (near far : Bool) : Option KvPlan :=
  let gRoom := if near then Nat.min (s.rd Obj.kvGddr7Budget - s.rd Obj.kvGddr7Reserved) s.poolFree else 0
  let cRoom := if far then Nat.min (s.rd Obj.kvCxlBudget - s.rd Obj.kvCxlReserved) s.cxlFree else 0
  let g := if size = 0 then 0 else Nat.min blocks (gRoom / size)
  let c := blocks - g
  if c * size ≤ cRoom then some ⟨2, blocks, 0, g * size, c * size⟩ else none

/-- The reservation of a stream for a plan (R228, R229); none where it cannot be placed. -/
def State.kvReserve (s : State) (plan window tier : Nat) : Option KvPlan :=
  let im := s.planImage plan
  let size := s.kvBlockBytes plan
  let blocks := window / 256
  let spread := Config.planAttr im .spread != 0
  let planes := decide (blocks * size ≤ s.kvPlaneFree plan)
  if tier == 1 then (if planes then some ⟨1, blocks, blocks * size, 0, 0⟩ else none)
  else if tier == 0 && planes then some ⟨1, blocks, blocks * size, 0, 0⟩
  else if !spread then none
  else s.kvOutside blocks size (tier != 3) (tier != 2)

/-- Take a reservation for a stream (R243, R244). -/
def State.takeKv (s : State) (n : Nat) (k : KvPlan) : State :=
  let s := ((s.wr (Obj.streamKvPlacement n) k.placement).wr (Obj.streamKvBlocksReserved n) k.blocks).wr
    (Obj.streamKvBlocksHeld n) 0
  let s := (s.wr (Obj.streamKvBytesGddr7 n) k.gddr7).wr (Obj.streamKvBytesCxl n) k.cxl
  ((s.wr Obj.kvPlaneReserved (s.rd Obj.kvPlaneReserved + k.plane)).wr Obj.kvGddr7Reserved
    (s.rd Obj.kvGddr7Reserved + k.gddr7)).wr Obj.kvCxlReserved (s.rd Obj.kvCxlReserved + k.cxl)

/-- Where the next block of a stream goes: a slot of its plan's plane area, GDDR7 for the first blocks of its reservation, then CXL
memory; as the directory entry of the block (R232). -/
def State.chooseBlock (s : State) (n held : Nat) : Nat × State :=
  let plan := s.rd (Obj.streamPlan n)
  let size := s.kvBlockBytes plan
  if s.rd (Obj.streamKvPlacement n) == 2 then
    let tier := if held < s.nearBlocks n then 1 else 2
    let a := s.choosePool tier size
    (tier + a.1, a.2)
  else
    let taken := (s.streams.filter (fun e => s.rd (Obj.streamPlan e.1) == plan && s.kvPlaneHeld e.1 != 0)).flatMap (fun e =>
      (e.2.kv.filter (fun b => b.place % 4 == 0)).map (fun b => (b.place / 16, 1)))
    let a := s.chooseFree taken 0 (planKvSlots (s.planImage plan)) 1 1
    (16 * a.1, a.2)

/-- Give a stream's blocks places under its placement, oldest first; they have none before (R232, R233). -/
def State.placeBlocks (s : State) (n : Nat) : State :=
  let x := s.stream n
  let s := s.setStream n { x with kv := x.kv.map (fun b => { b with place := 3 }) }
  (List.range x.kv.length).foldl (fun s i =>
    let a := s.chooseBlock n i
    let y := a.2.stream n
    a.2.setStream n { y with kv := setNth y.kv i { nth ⟨0, 0, 3, []⟩ y.kv i with place := a.1 } }) s

/-- Give a stream's reservation back. -/
def State.freeKv (s : State) (n : Nat) : State :=
  let s := ((s.lower Obj.kvPlaneReserved (s.kvPlaneHeld n)).lower Obj.kvGddr7Reserved (s.rd (Obj.streamKvBytesGddr7 n))).lower
    Obj.kvCxlReserved (s.rd (Obj.streamKvBytesCxl n))
  [Obj.streamKvPlacement n, Obj.streamKvBlocksReserved n, Obj.streamKvBlocksHeld n, Obj.streamKvBytesGddr7 n,
   Obj.streamKvBytesCxl n].foldl (fun s k => s.wr k 0) s

/-! ### Renders and members that end (R412) -/

/-- Take a render to lanes away, with its joint. -/
def State.dropMember (s : State) (m : Member) : State :=
  let s := { s with members := s.members.filter (fun x => !(x.stream == m.stream && x.counter == m.counter))
                    joints := s.joints.del m.joint }
  s.wr (Obj.groupMembers m.group) ((s.members.filter (fun x => x.group == m.group)).length)

/-- End a member: its render's final entry, and its joint. -/
def State.endMember (s : State) (m : Member) : State :=
  (s.dropMember m).finish m.stream m.counter St.done (some (m.last.getD (m.start - 1)))

/-- A member's render ends after the last frame the ring has fetched, or at its STOP (R120). -/
def Member.endBy (m : Member) (e : Nat) : Member :=
  if m.stop == 0 then { m with endAt := some (Nat.min e (m.endAt.getD e)) } else { m with stop := Nat.min m.stop (Nat.max 1 e) }

/-- Take a render to the host away. The stream's render record shows the run of the newest RENDER: only its end is recorded there, DONE
with POSITION at TOTAL, or CANCELLED (R82, R290). -/
def State.dropRender (s : State) (n : Nat) (r : Render) (ok : Bool) : State :=
  let x := s.stream n
  let newest := (x.renders.getLast?.map (·.counter)) == some r.counter
  let s := s.setStream n { x with renders := x.renders.filter (fun y => y.counter != r.counter) }
  if !newest then s
  else if ok then (s.wr (Obj.streamRenderState n) 2).wr (Obj.streamRenderPosition n) (s.rd (Obj.streamRenderTotal n))
  else s.wr (Obj.streamRenderState n) 4

/-- End a render to the host. -/
def State.endRender (s : State) (n : Nat) (r : Render) (ok : Bool) : State :=
  (s.dropRender n r ok).finish n r.counter St.done (some r.last)

/-- End every render of a stream (R412). -/
def State.endRenders (s : State) (n : Nat) : State :=
  let s := (s.members.filter (fun m => m.stream == n)).foldl (fun s m => s.endMember m) s
  (s.stream n).renders.foldl (fun s r => s.endRender n r false) s

/-- The device does not render for a stream bound at another rate than the clock has locked to (R7): its renders and every FEED and RENDER
fetched complete REJECTED_CHECK with RATE. -/
def State.refuseRate (s : State) (n : Nat) : State :=
  if !s.isBound n || s.rd (Obj.planRateHz (s.rd (Obj.streamPlan n))) == s.fs then s
  else
    let s := (s.members.filter (fun m => m.stream == n)).foldl (fun s m =>
      (s.dropMember m).reject n m.counter Chk.rate 0xFF) s
    let s := (s.stream n).renders.foldl (fun s r => (s.dropRender n r false).reject n r.counter Chk.rate 0xFF) s
    let hit := (s.ring n).cmds.filter (fun c => c.final.isNone && (c.op == 2 || c.op == 3))
    let s := hit.foldl (fun s c =>
      let s := s.clearHalt n c.counter
      let s := { s with requests := s.requests.filter (fun q => !(q.ring == n && q.counter == c.counter)) }
      let s := s.mapJoints (s.rd (Obj.streamPlan n)) (fun j => j.dropStream n (some c.counter))
      s.reject n c.counter Chk.rate 0xFF) s
    { s with produced := s.produced.del n }

/-! ### Carried state between chunks (R120, R300) -/

/-- The carried state of a stream as it stands. -/
def State.carried (s : State) (n : Nat) : Carried :=
  let x := s.stream n
  ⟨x.sections, x.scans, x.delays, x.kv, x.feedback, x.retuned, x.steps, x.grads, x.codeRow, s.rd (Obj.streamTokenIndex n), s.rd (Obj.streamAttnPosition n)⟩

/-- The tile in whose plane the device keeps a stream's state directory (R289). -/
def directoryTile (parts : Map Nat) : Nat := (parts.head?.map (·.1)).getD 0

/-- Where a page of a block lies: in its plane, or in the region of the block (R232). The slots of a plane follow the plan's weights, those of
one page together. DESIGN CHOICE (assumption 151). -/
def State.kvPageAt (s : State) (plan : Nat) (b : KvBlock) (i : Nat) (p : KvPage) : Nat × Nat × Nat :=
  if b.place % 4 == 0 then
    let im := s.planImage plan
    let areas : Map Nat := ((s.plans.find plan).map (·.areas)).getD []
    let before := ((b.pages.take i).filter (fun q => q.tile == p.tile)).length
    (1, areas.getD p.tile (p.tile * planeSize) + planWeightsEnd im p.tile +
      32768 * (planKvSlots im * before + b.place / 16), 32768)
  else (b.place % 4 + 1, b.place / 16 * 16 + 32768 * i, 32768)

/-- Where the pages of a block lie. -/
def State.blockAt (s : State) (plan : Nat) (b : KvBlock) : List (Nat × Nat × Nat) :=
  (List.zip (List.range b.pages.length) b.pages).map (fun e => s.kvPageAt plan b e.1 e.2)

/-- Where the parts and the directory of a RESIDENT stream's state lie (R289). -/
def State.partsAt (s : State) (n : Nat) : List (Nat × Nat × Nat) :=
  (1, s.rd (Obj.streamStateAddr n), 4096) ::
    (s.stream n).parts.map (fun (p : Nat × Nat) => (1, (s.stream n).partAt.getD p.1 0, p.2))

/-- Where a stream's carried state lies, key/value blocks among it: spaces, addresses and bytes. -/
def State.carriedAt (s : State) (n : Nat) : List (Nat × Nat × Nat) :=
  s.partsAt n ++ (s.stream n).kv.flatMap (s.blockAt (s.rd (Obj.streamPlan n)))

/-- A chunk writes the carried state: lines it covers whole lose their poison (R461). -/
def State.writeCarried (s : State) (n : Nat) : State :=
  { s with poison := (s.partsAt n).foldl (fun ps r => cleanLines r.2.1 r.2.2 ps) s.poison }

/-- The device keeps the parts of a stream's state, and its directory, at places of its choice in their planes (R289, R302). -/
def State.placeParts (s : State) (n : Nat) (parts : Map Nat) : State :=
  let a := s.choosePlane (directoryTile parts) 4096
  let s := a.2.wr (Obj.streamStateAddr n) a.1
  parts.foldl (fun s (p : Nat × Nat) =>
    let a := s.choosePlane p.1 p.2
    let x := a.2.stream n
    a.2.setStream n { x with partAt := x.partAt.put p.1 a.1 }) (s.setStream n { s.stream n with parts := parts, partAt := [] })

/-- The work of a chunk begins: the state the chunk before it wrote is kept until the chunk ends. -/
def State.saveCarried (s : State) (n counter : Nat) : State :=
  let x := s.stream n
  if (x.before.find counter).isSome then s else s.setStream n { x with before := x.before.put counter (s.carried n) }

/-- A chunk ends where it stands: the carried state is again the one the chunk before it wrote. -/
def State.restoreCarried (s : State) (n counter : Nat) : State :=
  let x := s.stream n
  match x.before.find counter with
  | none => s
  | some b =>
    let s := s.setStream n { x with sections := b.sections, scans := b.scans, delays := b.delays, kv := b.kv, feedback := b.feedback
                                    retuned := b.retuned, steps := b.steps, grads := b.grads, codeRow := b.codeRow, before := []
                                    owed := x.owed.filter (fun e => e.2.1 != counter) }
    ((s.wr (Obj.streamTokenIndex n) b.tokenIndex).wr (Obj.streamAttnPosition n) b.attnPosition).wr (Obj.streamKvBlocksHeld n) b.kv.length

/-! ### Freeing a stream (R291, R293, R376) -/

/-- Free a stream's state, reservation, joints and renders. -/
def State.freeStream (s : State) (n : Nat) : State :=
  if !s.isBound n then s
  else
    let plan := s.rd (Obj.streamPlan n)
    let x := s.stream n
    let s := s.endRenders n
    let s := s.uncharge (s.rd (Obj.streamStateTier n)) x.placed
    let s := match x.move with
      | some m => if m.dir == 2 then s.uncharge 0 m.addr else s.uncharge m.tier (s.rd (Obj.streamSwapTotal n))
      | none => s
    let s := s.freeKv n
    let s := s.mapJoints plan (fun j => j.dropStream n none)
    let s := s.lower (Obj.planBoundStreams plan) 1
    let s := if s.rd (Obj.planBoundStreams plan) == 0 then s.freeJoints plan else s
    let s := { s with produced := s.produced.del n, rows := s.rows.mapV (fun _ ns => ns.filter (· != n)) }
    (((s.setStream n {}).wr (Obj.streamStateTier n) 3).wr (Obj.streamStateAddr n) 0).wr (Obj.streamResidency n) 0

/-! ### BIND (R140, R228, R256, R291, R350, R376, R411) -/

/-- Whether every unit of a plan's bond map is present (R17). -/
def State.unitsPresent (s : State) (im : Bytes) : Bool :=
  (planBonds im).all (fun b => if b.kind == 0 then s.tileOn b.unit else if b.kind == 1 then s.brickOn b.unit else s.gatherOn b.unit)

/-- Whether a brick of a plan holds its code and uses only bound ports (R350). -/
def State.brickReady (s : State) (im : Bytes) (b : Bond) : Bool :=
  let k := s.brick b.unit
  let joint (link p : Nat) := (planJoints im).any (fun j => j.link == link && j.tile == b.unit / 32 && j.port == p)
  let used (mask p : Nat) := bit mask p
  let portOk (mask link : Nat) (out : Bool) : Bool :=
    (List.range 8).all (fun p => !used mask p ||
      (if p == 7 then stageCarries im b.stage else joint link p || (out && p == 0 && Config.gathers im b.stage)))
  k.code == b.slot && portOk k.portsIn b.stage false && portOk k.portsOut (b.stage + 1) true

/-- Whether a table slot holds a table in force (R247). -/
def State.tableReady (s : State) (t : Nat) : Bool :=
  (s.tables.find t).isSome && !s.loads.any (fun l => l.kind == 1 && l.slot == t)

/-- Whether a plan slot holds a plan in force (R389). -/
def State.planReady (s : State) (p : Nat) : Bool :=
  decide (p < 64) && (s.plans.find p).isSome && !s.loads.any (fun l => l.kind == 0 && l.slot == p)

/-- A refused BIND: the refusal, and the counter it counts in. -/
abbrev BindRefused := Refused × Option Nat

/-- The window a BIND takes (R228). -/
def State.bindWindow (s : State) (n : Nat) (im : Bytes) : Nat :=
  if Config.planAttr im .attention == 0 then 0
  else if s.rd (Obj.streamKvWindow n) == 0 then planWindowMax im else s.rd (Obj.streamKvWindow n)

/-- The checks of a BIND against the device, before anything is placed. -/
def State.bindCheck (s : State) (n : Nat) (d : Bytes) : Option BindRefused :=
  let plan := field d 16 4
  let im := s.planImage plan
  let grp := field d 25 1
  let voiceSlot := Config.planAttr im .voiceTable
  let rows := ((s.tables.find (voiceSlot - 1)).map (fun t => tableRowCount t.header)).getD 0
  let codebook := Config.planAttr im .codebook
  let tables := Config.planTables im ++ (if voiceSlot == 0 then [] else [voiceSlot - 1]) ++ (if codebook == 0 then [] else [codebook - 1])
  (checkFail
    [(!s.planReady plan, Chk.planAbsent, 16), (planRate im != s.fs, Chk.rate, 16), (!s.unitsPresent im, Chk.absentUnit, 16),
     (!(((planBonds im).filter (fun b => b.kind == 1)).all (s.brickReady im)), Chk.brickCode, 16),
     (!(tables.all s.tableReady), Chk.tableAbsent, 16),
     (voiceSlot != 0 && (s.voicePairs (field d 20 4) rows).isNone, Chk.voice, 20),
     (grp != 255 && (field d 24 1 != 0 || decide (grp > 63) || s.rd (Obj.groupDirection grp) != 2), Chk.group, 25),
     (decide (s.bindWindow n im > planWindowMax im) && Config.planAttr im .attention != 0, Chk.kvWindow, 16)]).map
    (fun r => (r, none))

/-- The voice lookup of a BIND (R257): the table's slot and the pairs; none where the plan has no voice table. -/
def State.voiceLookup (s : State) (im : Bytes) (voice : Nat) : Option (Nat × Table × List (Nat × F32)) :=
  let slot := Config.planAttr im .voiceTable
  if slot == 0 then none
  else (s.tables.find (slot - 1)).map (fun t => (slot - 1, t, (s.voicePairs voice (tableRowCount t.header)).getD []))

/-- The voice row of a BIND, narrowed and counted as a tensor of its plan (R252, R257). -/
def State.voiceRowOf (s : State) (n counter plan voice : Nat) : State × Bytes :=
  let im := s.planImage plan
  match s.voiceLookup im voice with
  | none => (s, [])
  | some v =>
    let r := s.lookup v.2.1 v.2.2 (Config.planAttr im .voiceFormat)
    let s := s.fetchBatch (stackOfStage im 0) (v.2.2.map (fun p => (v.1, p.1)))
    (s.countNarrow plan n counter (Config.planAttr im .voiceTensor) r.2, r.1)

/-- The poison that the voice lookup of a BIND meets (R255). -/
def State.voicePoison (s : State) (d : Bytes) : Option (Nat × Nat) :=
  let im := s.planImage (field d 16 4)
  match s.voiceLookup im (field d 20 4) with
  | none => none
  | some v => v.2.2.findSome? (fun p => s.rowPoison (stackOfStage im 0) v.1 p.1)

/-- Put a stream's record into a tier, at a place the device chooses, and charge it (R289, R291). -/
def State.placeAway (s : State) (n tier size : Nat) : State :=
  let a := s.choosePool tier size
  let s := ((a.2.charge tier size).wr (Obj.streamStateTier n) tier).wr (Obj.streamStateAddr n) a.1
  (s.setStream n { s.stream n with placed := size, parts := [], partAt := [] }).wr (Obj.streamResidency n) 2

/-- Build the plan's initial state and place it (R291): the state with the stream's carried state, or a refusal. -/
def State.placeInitial (s : State) (n : Nat) (cls : Nat) : Except BindRefused State :=
  let parts := s.residentParts n
  let size := s.residentSize n
  if s.slotRoom && s.partsFit parts then
    let s := ((s.charge 0 size).wr (Obj.streamStateTier n) 0).placeParts n parts
    .ok ((s.setStream n { s.stream n with placed := size }).wr (Obj.streamResidency n) 1)
  else if cls == 0 then .error ((St.check, Chk.admission, 0xFF), none)
  else
    let rec' := recordLength (s.recordSections n false true)
    match s.recordTier 0 rec' with
    | none => .error ((St.check, Chk.noRoom, 0xFF), none)
    | some t => .ok (s.placeAway n t rec')

/-- Bind a stream as a descriptor says, all but admission and the final entry (R140, R291, R292). -/
def State.bindTry (s : State) (n counter : Nat) (d : Bytes) : Except BindRefused State :=
  match s.bindCheck n d with
  | some r => .error r
  | none =>
    let plan := field d 16 4
    let im := s.planImage plan
    let cls := field d 24 1
    let window := s.bindWindow n im
    let tierWant := s.rd (Obj.streamKvTier n)
    let samePlan := s.isBound n && s.rd (Obj.streamPlan n) == plan
    let s := if samePlan then s.wr (Obj.planBoundStreams plan) (s.rd (Obj.planBoundStreams plan) + 1) else s
    let s := s.freeStream n
    let s := if samePlan then s else s.wr (Obj.planBoundStreams plan) (s.rd (Obj.planBoundStreams plan) + 1)
    match (if s.jointsLive plan then some s else (s.addJoints plan (planJoints im)).map (fun s => s.addColls plan im)) with
    | none => .error ((St.check, Chk.admission, 0xFF), some Obj.admissionRefused)
    | some s =>
      match (if Config.planAttr im .attention == 0 then some {} else s.kvReserve plan window tierWant) with
      | none => .error ((St.check, Chk.admission, 0xFF), some Obj.kvBindRefused)
      | some kv =>
        let v := s.voiceRowOf n counter plan (field d 20 4)
        let s := v.1.takeKv n kv
        let retune := s.rdB (Obj.streamRetune n)
        let x : Stream :=
          { bound := true, leadFrames := field d 26 2 * s.courseLen, sections := initialSections im, kvWindow := window
            voiceRow := v.2, retune := retune, headroom := s.rd (Obj.streamRetuneHeadroom n)
            retuned := if retune then ((planTensors im).filter (fun t => bit t.flags 1)).map (fun t =>
              ⟨t.tensor, t.scale.toNat, []⟩) else [] }
        let s := s.setStream n x
        let s := (((s.wr (Obj.streamPlan n) plan).wr (Obj.streamClass n) cls).wr (Obj.streamVoice n) (field d 20 4)).wr
          (Obj.streamGroup n) (field d 25 1)
        let s := (((s.wr (Obj.streamLead n) (field d 26 2)).wr (Obj.streamPace n) (field d 28 4)).wr (Obj.streamSeed n)
          (field d 32 8)).wr (Obj.streamArrears n) 0
        let s := ((s.wr (Obj.streamStreamFlags n) (1 + 4 * b2n retune)).wr (Obj.streamTokenIndex n) 0).wr
          (Obj.streamAttnPosition n) 0
        s.placeInitial n cls

/-- What a completed BIND leaves beside its placement: generation, position, noise table (R138, R205, R292). -/
def State.bindDone (s : State) (n counter : Nat) : State :=
  let s := (s.wr (Obj.streamGeneration n) ((s.rd (Obj.streamGeneration n) + 1) % 2 ^ 32)).wr (Obj.streamPosition n) 0
  let x := s.stream n
  let s := s.setStream n { x with noise := true, boundAt := s.clk.frames, admitted := s.rd (Obj.streamClass n) == 0 }
  let s := if s.rd (Obj.streamResidency n) == 2 then s.devWrite (s.rd (Obj.streamStateAddr n)) (s.movedRecord n) else s
  (s.bump Obj.tableFills).finishDone n counter

/-- Chunks of a ring before a command that are released and have not ended. -/
def State.runningBefore (s : State) (n counter : Nat) : Bool :=
  ((s.ring n).cmds.takeWhile (fun c => c.counter != counter)).any (fun c => c.final.isNone && (match c.chunk with
    | some k => k.released && !k.produced
    | none => false))

/-- A shadow of the stream on the partner is dropped when the stream is bound anew or unbound (R498). -/
def State.dropShadow (s : State) (n : Nat) : State :=
  if s.rdB Obj.paired && s.isBound n && s.rd (Obj.streamClass n) != 0 then
    s.tieSend 5 0 (leBytes 2 n ++ [3, 8] ++ List.replicate 12 0)
  else s

/-- Refuse a BIND. -/
def State.bindRefuse (s : State) (n counter : Nat) (r : BindRefused) : State :=
  (match r.2 with
    | some k => s.bump k
    | none => s).refuse n counter r.1

/-- Cancel the chunks that an earlier binding left pending (R140). -/
def State.cancelBefore (s : State) (n counter : Nat) : State :=
  let before := ((s.ring n).cmds.takeWhile (fun x => x.counter != counter)).map (·.counter)
  s.cancelChunks n (fun x => before.contains x.counter && x.pendingFrom 0)

/-- A BIND whose voice lookup meets a poisoned row halts; when it resumes, it runs again (R255). -/
def State.bindPoisoned (s : State) (n : Nat) (c : Cmd) : State :=
  let im := s.planImage (field c.desc 16 4)
  let at' := (s.voicePoison c.desc).getD (0, 0)
  let s := match s.voiceLookup im (field c.desc 20 4) with
    | none => s
    | some v => s.fetchBatch (stackOfStage im 0) (v.2.2.map (fun (p : Nat × F32) => (v.1, p.1)))
  (s.begin n c.counter).poisonHalt n c.counter c.saved at'.1 at'.2

/-- Run a BIND that has started (R140, R291, R301, R442, R443): it waits for a move and for the released chunks of its ring,
a live one for its admission. -/
def State.runBind (s : State) (n : Nat) (c : Cmd) : State :=
  if s.rd (Obj.streamResidency n) == 3 || s.runningBefore n c.counter then s.begin n c.counter .waiting
  else match s.bindTry n c.counter c.desc with
    | .error r => s.bindRefuse n c.counter r
    | .ok t =>
      if (s.voicePoison c.desc).isSome then s.bindPoisoned n c
      else if field c.desc 24 1 == 0 then
        if t.neverFits (t.reservation n) then
          (s.bump Obj.admissionRefusedEnergy).reject n c.counter Chk.admission 0xFF
        else (s.begin n c.counter .waiting).mapCmd n c.counter (fun k => { k with waited := Nat.max 1 k.waited })
      else ((t.dropShadow n).cancelBefore n c.counter).bindDone n c.counter

/-- Try a waiting live BIND at a course boundary (R442). -/
def State.admitBind (s : State) (n : Nat) (c : Cmd) : State :=
  match s.bindTry n c.counter c.desc with
  | .error r => s.bindRefuse n c.counter r
  | .ok t =>
    if (s.voicePoison c.desc).isSome then s.bindPoisoned n c
    else if t.admitsNow n (t.reservation n) then ((t.dropShadow n).cancelBefore n c.counter).bindDone n c.counter
    else s.mapCmd n c.counter (fun k => { k with waited := k.waited + 1 })

/-! ### Moves (R295-R300) -/

/-- Start a new run of a stream's move record (R81, R290). -/
def State.swapStart (s : State) (n total : Nat) : State :=
  (((s.wr (Obj.streamSwapState n) 1).wr (Obj.streamSwapPosition n) 0).wr (Obj.streamSwapTotal n) total).wr
    (Obj.streamSwapResult n) 0

def State.swapDone (s : State) (n : Nat) : State :=
  ((s.wr (Obj.streamSwapState n) 2).wr (Obj.streamSwapPosition n) (s.rd (Obj.streamSwapTotal n))).bump (Obj.streamSwaps n)

/-- Whether every released chunk of a stream has written its state (R300). -/
def State.stateSettled (s : State) (n : Nat) : Bool :=
  !(s.ring n).cmds.any (fun c => c.final.isNone && (match c.chunk with
    | some k => k.released && !k.produced
    | none => false))

/-- Start a move out into a tier (R295): the record's room is taken at once; none when no tier allowed has room. -/
def State.moveOut (s : State) (n want : Nat) : Option State :=
  let size := s.recordSize n
  match s.recordTier want size with
  | none => none
  | some t =>
    let a := s.choosePool t size
    let s := a.2.charge t size
    let x := s.stream n
    let s := s.setStream n { x with move := some ⟨1, false, t, a.1⟩, swapWas := none }
    some ((s.wr (Obj.streamResidency n) 3).swapStart n size)

/-- Plane-placed key/value pages take slots of the plan's plane area again, or room in GDDR7 and CXL memory (R233); none where neither
has room: the manual does not say what happens then. DESIGN CHOICE (assumption 140). -/
def State.returnKv (s : State) (n : Nat) : Option State :=
  if s.rd (Obj.streamKvPlacement n) != 1 then some s
  else
    let plan := s.rd (Obj.streamPlan n)
    let size := s.kvBlockBytes plan
    let blocks := s.rd (Obj.streamKvBlocksReserved n)
    let held := s.rd (Obj.streamKvBlocksHeld n)
    if blocks * size ≤ s.kvPlaneFree plan then some (s.wr Obj.kvPlaneReserved (s.rd Obj.kvPlaneReserved + blocks * size))
    else (s.kvOutside blocks size true true).map (fun k => (s.takeKv n k).wr (Obj.streamKvBlocksHeld n) held)

/-- Start a move in, where a slot, the planes and the key/value pages have room (R233, R296). -/
def State.moveIn (s : State) (n : Nat) : Option State :=
  let parts := s.residentParts n
  let size := s.residentSize n
  let total := s.recordSize n
  if s.slotRoom && s.partsFit parts then
    (s.returnKv n).map (fun s =>
      let s := s.charge 0 size
      let x := s.stream n
      let s := s.setStream n { x with move := some ⟨2, false, 0, size⟩, wakeOrder := none, parts := parts }
      (s.wr (Obj.streamResidency n) 3).swapStart n total)
  else none

/-- A WAKE waits for a slot (R296). -/
def State.wakeWait (s : State) (n : Nat) : State :=
  let x := s.stream n
  if x.wakeOrder.isSome then s
  else
    let s := s.setStream n { x with wakeOrder := some s.waitNext }
    (({ s with waitNext := s.waitNext + 1 }).wr (Obj.streamSwapState n) 5).bump Obj.wakeWaits

/-- End the waiting PARKs or WAKEs of a stream. -/
def State.endWaiting (s : State) (n op : Nat) : State :=
  ((s.ring n).cmds.filter (fun c => c.op == op && c.phase == .waiting)).foldl (fun s c => s.finishDone n c.counter) s

/-- A PARK begins to wait for a stream (R297): `SWAP_STATE` as it was is kept. -/
def State.parkWait (s : State) (n counter : Nat) : State :=
  let x := s.stream n
  let s := if x.swapWas.isSome then s else s.setStream n { x with swapWas := some (s.rd (Obj.streamSwapState n)) }
  ((s.begin n counter .waiting).wr (Obj.streamSwapState n) 5).mapCmd n counter (fun c => { c with waited := b2n (s.pinned n) })

/-- No PARK waits any more: `SWAP_STATE` shows the last move again (R290). -/
def State.swapBack (s : State) (n : Nat) : State :=
  let x := s.stream n
  match x.swapWas with
  | none => s
  | some w => if s.parkWaiting n then s else (s.setStream n { x with swapWas := none }).wr (Obj.streamSwapState n) w

/-- What a move of a stream's state is to read: that of a RESIDENT stream with its pages in planes, or its record (R233, R289). -/
def State.moveReads (s : State) (n : Nat) : List (Nat × Nat × Nat) :=
  if s.rd (Obj.streamResidency n) == 1 then (s.carriedAt n).filter (fun r => r.1 == 1)
  else [(s.rd (Obj.streamStateTier n) + 1, s.rd (Obj.streamStateAddr n), (s.stream n).placed)]

/-- A PARK on a RESIDENT stream (R295, R297, R300); poison in the state halts it before the move (R461). DESIGN CHOICE (assumption
149): poison is looked for as a move begins. -/
def State.tryPark (s : State) (n : Nat) (c : Cmd) : State :=
  if s.pinned n || !s.stateSettled n then s.parkWait n c.counter
  else match (s.readStop (s.moveReads n)).2 with
  | some p => s.poisonHalt n c.counter c.saved p.1 p.2
  | none => match s.moveOut n (field c.desc 16 1) with
    | some s => s.begin n c.counter .waiting
    | none => (s.reject n c.counter Chk.noRoom 16).swapBack n

/-- PARK by the state it finds (R295). -/
def State.runPark (s : State) (n : Nat) (c : Cmd) : State :=
  let r := s.rd (Obj.streamResidency n)
  if r == 1 then s.tryPark n c
  else if r == 2 then s.finishDone n c.counter
  else
    let x := s.stream n
    match x.move with
    | some m =>
      if m.dir != 2 then s.begin n c.counter .waiting
      else (s.setStream n { x with move := some { m with thenOut := true, tier := field c.desc 16 1 } }).begin n c.counter .waiting
    | none => s

/-- WAKE by the state it finds (R295-R297). -/
def State.runWake (s : State) (n : Nat) (c : Cmd) : State :=
  let r := s.rd (Obj.streamResidency n)
  if r == 1 then
    let s := ((s.ring n).cmds.filter (fun p => p.op == 6 && p.phase == .waiting)).foldl (fun s p =>
      s.finish n p.counter St.cancelled (some 0)) s
    (s.swapBack n).finishDone n c.counter
  else if r == 2 then
    match (s.readStop (s.moveReads n)).2 with
    | some p => s.poisonHalt n c.counter c.saved p.1 p.2
    | none => match s.moveIn n with
      | some s => s.begin n c.counter .waiting
      | none => (s.wakeWait n).begin n c.counter .waiting
  else
    let x := s.stream n
    match x.move with
    | some m =>
      let s := if m.dir == 1 then s.setStream n { x with move := some { m with dir := 3 } } else s
      s.begin n c.counter .waiting
    | none => s

/-- A move out has ended (R289, R295): the record stands, the plane share is free. Plane-placed key/value pages left with it
(R233). -/
def State.movedOut (s : State) (n : Nat) (m : Move) : State :=
  let x := s.stream n
  let s := s.devWrite m.addr (s.movedRecord n)
  let s := (s.uncharge 0 x.placed).lower Obj.kvPlaneReserved (s.kvPlaneHeld n)
  let s := s.setStream n { x with move := none, placed := s.rd (Obj.streamSwapTotal n), parts := [], partAt := [], noise := false }
  let s := ((s.wr (Obj.streamResidency n) 2).wr (Obj.streamStateTier n) m.tier).wr (Obj.streamStateAddr n) m.addr
  let s := (s.swapDone n).endWaiting n 6
  if m.dir == 3 then (match s.moveIn n with
    | some s => s
    | none => s.wakeWait n)
  else s

/-- A move in has ended (R206, R233, R295): plane-placed pages lie in the slots, or the regions, they were given room in. -/
def State.movedIn (s : State) (n : Nat) (m : Move) : State :=
  let x := s.stream n
  let s := s.uncharge (s.rd (Obj.streamStateTier n)) x.placed
  let s := if x.kv.all (fun b => b.place % 4 == 0) then s.placeBlocks n else s
  let s := (s.placeParts n x.parts)
  let s := s.setStream n { s.stream n with move := none, placed := m.addr, noise := true }
  let s := (s.wr (Obj.streamResidency n) 1).wr (Obj.streamStateTier n) 0
  let s := (s.bump Obj.tableFills).swapDone n
  let s := s.endWaiting n 7
  if m.thenOut then (match s.moveOut n m.tier with
    | some s => s
    | none => ((s.ring n).cmds.filter (fun c => c.op == 6 && c.phase == .waiting)).foldl (fun s c =>
        s.reject n c.counter Chk.noRoom 16) s)
  else s

/-- Commands of a stream that waited for its state: a BIND, and a PARK, which one that waited on a pinned stream does at a course
boundary only (R297, R300, R301). -/
def State.retryWaiting (s : State) (n : Nat) (boundary : Bool) : State :=
  let s := match (s.ring n).cmds.find? (fun c => c.op == 1 && c.phase == .waiting && c.waited == 0) with
    | some c => s.runBind n c
    | none => s
  match (s.ring n).cmds.find? (fun c => c.op == 6 && c.phase == .waiting) with
  | some c => if s.rd (Obj.streamResidency n) == 1 && (boundary || c.waited == 0) then s.tryPark n c else s
  | none => s

/-! ### UNBIND (R293) -/

/-- Unbind a stream; the caller has found its ring DISABLED. -/
def State.unbindStream (s : State) (n : Nat) : State :=
  let s := (s.dropShadow n).freeStream n
  let s := (s.wr (Obj.streamResidency n) 0).wr (Obj.streamClass n) 0xFF
  s.wr (Obj.streamGeneration n) ((s.rd (Obj.streamGeneration n) + 1) % 2 ^ 32)

end Sys2Proof.Machine
end

