-- ==== Sys2Proof/Machine/StreamExec.lean ====
section
/-! DEFINITION. The stream commands of a ring: BIND, FEED, RENDER, FLUSH, PARK and WAKE, and the ends of their moves (R140-R142,
R295-R297, R411-R413, R443, R574). -/

namespace Sys2Proof.Machine

/-- The command of an opcode to run: one of the ring that was halted and is resumed, or the next that can start. -/
def State.startAgain (s : State) (n op : Nat) : Option Cmd × State :=
  match (s.ring n).cmds.find? (fun c => c.op == op && c.phase == .active && c.final.isNone) with
  | some c => (some c, s)
  | none => s.startCmd n op

/-- BIND (R140): the next of the ring starts, or one that a poisoned voice row halted runs again once it is resumed (R255). -/
def execBind (ring : RingId) (s : State) : Out :=
  .next (match s.startAgain ring.val 1 with
    | (some c, s) => s.runBind ring.val c
    | (none, s) => s)

/-- ADMISSION_TIMEOUT (R443): `ADMIT_WAIT_MAX` boundaries have passed without admitting the BIND. -/
def execAdmissionTimeout (ring : RingId) (s : State) : Out :=
  let n := ring.val
  .next (match (s.ring n).cmds.find? (fun c => c.op == 1 && c.phase == .waiting && decide (c.waited ≥ 1)) with
    | none => s
    | some c =>
      if c.waited ≥ 1 + s.rd Obj.admitWaitMax then
        (s.bump Obj.admissionRefusedEnergy).reject n c.counter Chk.admission 0xFF
      else s)

/-- FEED (R141): the chunk waits for its release. -/
def execFeed (ring : RingId) (s : State) : Out :=
  .next (match s.startCmd ring.val 2 with
    | (some c, s) => s.begin ring.val c.counter .waiting
    | (none, s) => s)

/-! ### RENDER (R142, R411-R413) -/

/-- Whether the leaf takes its time from a locked clock (R52). -/
def State.lockedTime (s : State) : Bool :=
  s.rd Obj.clockState == 2 || (s.rd Obj.clockState == 3 && s.clk.leadState == 2)

/-- Frames of a packet of a member's joint at most (R413). -/
def State.memberPacket (s : State) (channels : Nat) : Nat := Nat.min s.courseLen (32766 / Nat.max 1 channels)

/-- RESERVE and LIMIT of a member's joint (R413). -/
def State.memberWords (s : State) (lead channels : Nat) : Nat :=
  ceilDiv ((lead + 1) * s.courseLen * channels) 2 + (lead + 2) * ceilDiv s.courseLen (s.memberPacket channels)

/-- Where a render without a STOP ends, as far as the FEEDs fetched so far show (R412). -/
def State.knownEnd (s : State) (n start : Nat) : Option Nat :=
  let ends := (s.ring n).cmds.filterMap (fun c => c.chunk.bind (fun k =>
    if k.fin && decide (k.position + k.frames > start) then some (k.position + k.frames) else none))
  match ends with
  | e :: es => some (es.foldl Nat.min e)
  | [] => (s.stream n).lastEnd.filter (fun e => decide (e > start))

/-- Where an earlier render stops when a later one starts (R412). -/
def stopBefore (stop start : Nat) : Nat := if stop == 0 then start else Nat.min stop start

/-- Renders to the host have reached a position: progress, and the ends (R412, R148). -/
def State.renderTo (s : State) (n upto : Nat) : State :=
  let x := s.stream n
  let s := s.setStream n { x with delivered := Nat.max x.delivered upto }
  (s.stream n).renders.foldl (fun s r =>
    let lim := if r.stop != 0 then r.stop else r.endAt.getD (upto + 1)
    let at' := Nat.min upto lim
    if at' ≤ r.start && !decide (lim ≤ r.start) then s
    else
      let r' := { r with frames := at' - r.start, last := at' - 1 }
      let y := s.stream n
      let s := s.setStream n { y with renders := y.renders.map (fun q => if q.counter == r.counter then r' else q) }
      let newest := (y.renders.getLast?.map (·.counter)) == some r.counter
      let s := if newest then s.wr (Obj.streamRenderPosition n) r'.frames else s
      if lim ≤ upto then s.endRender n r' true else s) s

/-- The checks of a RENDER that need the device (R52, R142, R411, R8). -/
def State.renderCheck (s : State) (n : Nat) (d : Bytes) : Option Refused :=
  let start := field d 16 8
  let first := field d 24 1
  let channels := field d 25 1
  let g := s.rd (Obj.streamGroup n)
  let live := s.rd (Obj.streamClass n) == 0
  let lead := (s.stream n).leadFrames
  let lane := !s.hostOutput n
  checkFail
    [(live && bit (s.rd (Obj.streamStreamFlags n)) 1 && !s.lockedTime, Chk.liveHalted, 0xFF),
     (live && decide (start < s.pos + lead), Chk.lead, 16),
     (lane && (channels == 0 || decide (first + channels > s.rd (Obj.groupChannels g))), Chk.group, 25),
     (lane && decide (s.rd (Obj.groupChannels g) > 8) && decide (lead < s.rd (Obj.groupFadeFrames g) + 2), Chk.lead, 0xFF),
     (lane && s.members.any (fun m => m.group == g && m.stream != n && decide (m.first < first + channels) &&
       decide (first < m.first + m.channels)), Chk.slotTaken, 24)]

/-- A render to lanes: the member and its joint (R412, R413). -/
def State.renderLane (s : State) (n counter : Nat) (d : Bytes) : State :=
  let start := field d 16 8
  let channels := field d 25 1
  let stop := field d 32 8
  let g := s.rd (Obj.streamGroup n)
  let tile := s.rd (Obj.groupHomeTile g)
  let w := s.memberWords (s.rd (Obj.streamLead n)) channels
  match s.freeJoint tile with
  | none => s.reject n counter Chk.admission 0xFF
  | some k =>
    if s.reservedWords tile + w > poolWords || !s.tileOn tile then s.reject n counter Chk.admission 0xFF
    else
      let j : Joint := { plan := s.rd (Obj.streamPlan n), link := 0, port := 0, maxPacket := w, threshold := 0, reserve := w
                         limit := w, idle := 0, group := some g }
      let m : Member := { stream := n, counter := counter, group := g, first := field d 24 1, channels := channels, start := start
                          stop := stop, endAt := if stop == 0 then s.knownEnd n start else none, joint := 64 * tile + k
                          gain := 0, down := false, started := false, last := none, used := 0 }
      let m := match (s.ring n).cutoff with
        | some e => m.endBy e
        | none => m
      let older : List Member := s.members.map (fun x =>
        if x.stream == n then { x with stop := stopBefore x.stop start } else x)
      let s := { s with joints := s.joints.put (64 * tile + k) j, members := older ++ [m] }
      s.wr (Obj.groupMembers g) ((s.members.filter (fun x => x.group == g)).length)

/-- A render to the host (R142, R148, R290). -/
def State.renderHost (s : State) (n counter : Nat) (d : Bytes) : State :=
  let start := field d 16 8
  let stop := field d 32 8
  let x := s.stream n
  let r : Render := { counter := counter, start := start, stop := stop, notices := bit (field d 1 1) 0, frames := 0, last := start - 1
                      endAt := if stop == 0 then s.knownEnd n start else none }
  let s := s.setStream n { x with renders := x.renders.map (fun y => { y with stop := stopBefore y.stop start }) ++ [r] }
  let s := (((s.wr (Obj.streamRenderState n) 1).wr (Obj.streamRenderPosition n) 0).wr (Obj.streamRenderTotal n)
    (if stop == 0 then (r.endAt.getD start) - start else stop - start)).wr (Obj.streamRenderResult n) 0
  s.renderTo n x.delivered

/-- RENDER (R142). -/
def execRender (ring : RingId) (s : State) : Out :=
  let n := ring.val
  .next (match s.startCmd n 3 with
    | (some c, s) =>
      (match s.renderCheck n c.desc with
        | some r => s.refuse n c.counter r
        | none =>
          let s := s.wr (Obj.streamStreamFlags n) (setBit (s.rd (Obj.streamStreamFlags n)) 1 false)
          if s.hostOutput n then s.renderHost n c.counter c.desc else s.renderLane n c.counter c.desc)
    | (none, s) => s)

/-! ### FLUSH (R574) -/

/-- Whether a packet of a stream holds words for frames before a position. A packet on its way to lanes says from which frame on its
words are; in a joint of the plan they are for frames of the chunk they carry, whose first frame is the first they can be for. -/
def State.packetBefore (s : State) (n chunk until' : Nat) (j : Joint) (words : List Nat) : Bool :=
  until' == 0 || (if j.group.isSome then decide (words.headD 0 < until')
    else match (s.cmd n chunk).bind (·.chunk) with
    | some k => decide (k.position < until')
    | none => false)

/-- The joints whose last packet, open and of a stream, a FLUSH ends, each with the packet's record number. -/
def State.flushPackets (s : State) (n until' : Nat) : List (Nat × Nat) :=
  (s.joints.filter (fun e => match e.2.recs.getLast? with
    | some (.packet _ ws false st c _) => st == n && s.packetBefore n c until' e.2 ws
    | _ => false)).map (fun e => (e.1, e.2.base + e.2.recs.length - 1))

/-- FLUSH (R574). -/
def execFlush (ring : RingId) (s : State) : Out :=
  let n := ring.val
  .next (match s.startCmd n 4 with
    | (some c, s) =>
      let hits := s.flushPackets n (field c.desc 16 8)
      if hits.isEmpty then s.finishDone n c.counter
      else
        let s := { s with joints := s.joints.mapV (fun k j => if hits.any (fun h => h.1 == k) then j.endPacket else j) }
        s.mapCmd n c.counter (fun x => { x with flush := hits })
    | (none, s) => s)

/-- FLUSH_DONE (R574): every packet it ended has been taken. -/
def execFlushDone (ring : RingId) (s : State) : Out :=
  let n := ring.val
  .next (match s.findCmd n 4 .active with
    | none => s
    | some c =>
      if c.flush.all (fun h => match s.joints.find h.1 with
        | none => true
        | some j => j.taken h.2)
      then s.finishDone n c.counter else s)

/-! ### PARK and WAKE (R295-R297) -/

/-- PARK (R295), or one that poison halted and is resumed (R461). -/
def execPark (ring : RingId) (s : State) : Out :=
  .next (match s.startAgain ring.val 6 with
    | (some c, s) => s.runPark ring.val c
    | (none, s) => s)

/-- WAKE (R295), or one that poison halted and is resumed (R461). -/
def execWake (ring : RingId) (s : State) : Out :=
  .next (match s.startAgain ring.val 7 with
    | (some c, s) => s.runWake ring.val c
    | (none, s) => s)

/-- WAKE_SLOT_TAKEN (R296): the WAKE that has waited longest takes a slot, unless poison in the record halts it (R461). -/
def execWakeSlotTaken (ring : RingId) (s : State) : Out :=
  let n := ring.val
  .next (match (s.stream n).wakeOrder with
    | none => s
    | some o =>
      if s.streams.any (fun e => match e.2.wakeOrder with
        | some p => decide (p < o)
        | none => false) then s
      else match (s.readStop (s.moveReads n)).2, (s.ring n).cmds.find? (fun c => c.op == 7 && c.phase == .waiting) with
        | some p, some c => (s.setStream n { s.stream n with wakeOrder := none }).poisonHalt n c.counter c.saved p.1 p.2
        | _, _ => (s.moveIn n).getD s)

/-- MOVE_OUT_DONE (R295). -/
def execMoveOutDone (ring : RingId) (s : State) : Out :=
  let n := ring.val
  .next (match (s.stream n).move with
    | some m => if m.dir == 1 || m.dir == 3 then (s.movedOut n m).retryWaiting n false else s
    | none => s)

/-- MOVE_IN_DONE (R295). -/
def execMoveInDone (ring : RingId) (s : State) : Out :=
  let n := ring.val
  .next (match (s.stream n).move with
    | some m => if m.dir == 2 then (s.movedIn n m).retryWaiting n false else s
    | none => s)

end Sys2Proof.Machine
end

