-- ==== Sys2Proof/Machine/Lanes.lean ====
section
/-! DEFINITION. Lanes and alignment groups: framing, AES3, what a member plays at each frame, capture (R395-R425). -/

namespace Sys2Proof.Machine

/-! ### Formats and slots (R398, R399, R408) -/

/-- Framing of a lane: 0 I2S, 1 LEFT_JUSTIFIED, 2 AES3. -/
def State.framing (s : State) (n : Nat) : Nat := s.rd (Obj.formatFraming (s.rd (Obj.laneFormat n)))
def State.slotBits (s : State) (n : Nat) : Nat := s.rd (Obj.formatSlotBits (s.rd (Obj.laneFormat n)))
def State.sampleBits (s : State) (n : Nat) : Nat := s.rd (Obj.formatSampleBits (s.rd (Obj.laneFormat n)))
def State.isAes (s : State) (n : Nat) : Bool := s.framing n == 2
def State.lane (s : State) (n : Nat) : LaneRun := s.lanes.getD n {}
def State.setLane (s : State) (n : Nat) (l : LaneRun) : State := { s with lanes := s.lanes.put n l }
def State.group (s : State) (g : Nat) : GroupRun := s.groups.getD g {}
def State.setGroup (s : State) (g : Nat) (x : GroupRun) : State := { s with groups := s.groups.put g x }

/-- Slots of a group in ascending order (R408). -/
def State.groupSlots (s : State) (g : Nat) : List Nat :=
  let m := s.rd (Obj.groupSlotMask g)
  (List.range 128).filter (fun k => bit m k)

/-- Whether the leaf drives its output lanes (R483, R50, R485). -/
def State.drives (s : State) : Bool :=
  s.counting && s.rd Obj.role == 1 && !s.pair.released && decide (s.pair.leadSince ≤ s.clk.frames)

/-- Whether an output lane plays zero (R25, R52, R397, R485). -/
def State.laneMuted (s : State) (n : Nat) : Bool :=
  s.clk.bitMuted || s.clk.coastHalt || (s.lane n).muted || s.pair.failed

/-- A sample with the bits below its SAMPLE_BITS zero (R399). -/
def keepBits (n w : Nat) : Nat := w % 2 ^ 32 / 2 ^ (32 - Nat.min n 32) * 2 ^ (32 - Nat.min n 32)

/-- Channel carried in half h of a frame: 0 high, 1 low (R398). -/
def State.halfChannel (s : State) (n h : Nat) : Nat :=
  if s.rd (Obj.formatWsPolarity (s.rd (Obj.laneFormat n))) == 0 then h else 1 - h

/-! ### Channel status (R402) -/

/-- Block index of a position (R402). -/
def blockIndex (anchor p : Nat) : Nat := (((p : Int) - anchor) % 192).toNat

/-- CRCC of AES3 over bytes 0 to 22: x^8 + x^4 + x^3 + x^2 + 1, all bits initially 1. Bits enter least significant first, and
the check byte's bits follow in the same order. -/
def crcc (v : Nat) : Nat :=
  let c := (natBits 184 v).foldl (crcStepMsb 8 0x1D) 0xFF
  ofBits (natBits 8 c).reverse

/-- A channel-status block as it is sent (R402). -/
def State.statusBlock (s : State) (n v : Nat) : Nat :=
  if s.rdB (Obj.laneCrccAuto n) && bit v 0 then v % 2 ^ 184 + crcc (v % 2 ^ 184) * 2 ^ 184 else v

/-- A lane takes up the committed bits of its blocks. -/
def State.takeBlocks (s : State) (n : Nat) (l : LaneRun) : LaneRun :=
  { l with cs0 := s.statusBlock n (s.rd (Obj.laneCsTx0 n)), cs1 := s.statusBlock n (s.rd (Obj.laneCsTx1 n))
           u0 := s.rd (Obj.laneUTx0 n), u1 := s.rd (Obj.laneUTx1 n) }

/-- At a block start the lane takes up the committed bits, and an I2S input reports the block it has assumed (R402, R406). -/
def State.latchBlock (s : State) (n p : Nat) : State :=
  if blockIndex (s.rd (Obj.laneBlockAnchor n)) p != 0 then s
  else
    let l := s.lane n
    let s := if s.rd (Obj.laneDirection n) == 1 && !s.isAes n then
      (s.wr (Obj.laneCsRx0 n) l.cs0).wr (Obj.laneCsRx1 n) l.cs1 else s
    s.setLane n (s.takeBlocks n l)

/-- C and U of both channels at a position, and whether a block starts there. -/
def State.statusAt (s : State) (n p : Nat) : List Bool :=
  let l := s.lane n
  let k := blockIndex (s.rd (Obj.laneBlockAnchor n)) p
  [bit l.cs0 k, bit l.u0 k, bit l.cs1 k, bit l.u1 k, k == 0]

/-! ### Output pins (R396, R399, R401) -/

/-- Bits of a frame of I2S or left-justified framing: R of them, and the one carried into the next frame. -/
def serialBits (r delta slotBits sampleBits : Nat) (carry : Bool) (half0 half1 : Nat) : List Bool × Bool :=
  let slotBit (w k : Nat) : Bool := decide (k < slotBits) && decide (k < sampleBits) && bit w (31 - k)
  let half := r / 2
  let at' (i : Nat) : Bool :=
    if i < delta then carry
    else
      let j := i - delta
      slotBit (if j < half then half0 else half1) (if j < half then j else j - half)
  ((List.range r).map at', delta == 1 && slotBit half1 (half - 1))

/-- A preamble as eight half-cells for a line at level zero before it: X, Y, Z. PRESUMED (assumption 40): the patterns are
those of AES3, which the manual names. -/
def preamble (k : Nat) : List Bool :=
  let o := true
  let z := false
  if k == 0 then [o, o, o, z, z, z, o, z] else if k == 1 then [o, o, o, z, z, o, z, z] else [o, o, o, z, o, z, z, z]

/-- Biphase-mark half-cells of bits, from a level; the level at the end. -/
def biphase : Bool → List Bool → List Bool × Bool
  | lv, [] => ([], lv)
  | lv, b :: bs =>
    let a := !lv
    let c := if b then !a else a
    let r := biphase c bs
    (a :: c :: r.1, r.2)

/-- One subframe (R401): preamble, slots 4 to 31 with parity. -/
def subframeBits (lv : Bool) (pre sampleBits w : Nat) (v u c : Bool) : List Bool × Bool :=
  let audio := natBits 24 (keepBits sampleBits w / 256)
  let body := audio ++ [v, u, c]
  let p := (body.filter id).length % 2 == 1
  let head := (preamble pre).map (fun b => b != lv)
  let r := biphase (head.getLastD lv) (body ++ [p])
  (head ++ r.1, r.2)

/-- What an output lane sends in a frame: the words of its channels, whether each carries a stream's sample (R403). -/
def State.driveLane (s : State) (n p : Nat) (w0 w1 : Nat × Bool) : State :=
  let l := s.lane n
  let r := s.rd Obj.bitRatio
  if s.laneMuted n || r == 0 then s.setLane n { l with out := List.replicate r false, carry := false, level := false }
  else if s.isAes n then
    let st := s.statusAt n p
    let a := subframeBits l.levelIn (if nth false st 4 then 2 else 0) (s.sampleBits n) w0.1 (!w0.2) (nth false st 1) (nth false st 0)
    let b := subframeBits a.2 1 (s.sampleBits n) w1.1 (!w1.2) (nth false st 3) (nth false st 2)
    s.setLane n { l with out := a.1 ++ b.1, level := b.2 }
  else
    let ch (h : Nat) : Nat := if s.halfChannel n h == 0 then w0.1 else w1.1
    let x := serialBits r (if s.framing n == 0 then 1 else 0) (s.slotBits n) (s.sampleBits n) l.carryIn (ch 0) (ch 1)
    s.setLane n { l with out := x.1, carry := x.2 }

/-! ### Input samples (R399, R400, R404, R405) -/

/-- The words of both channels of a frame of an I2S or left-justified lane: its bits, and those of the next frame. -/
def State.serialWords (s : State) (n : Nat) (f next : List Bool) : Nat × Nat :=
  let half := f.length / 2
  let delta := if s.framing n == 0 then 1 else 0
  let bitAt (h k : Nat) : Bool :=
    let i := h * half + k + delta
    if i < f.length then nth false f i else nth false next (i - f.length)
  let word (h : Nat) : Nat :=
    sumN ((List.range (Nat.min (s.slotBits n) (s.sampleBits n))).map (fun k => if bitAt h k then 2 ^ (31 - k) else 0))
  if s.halfChannel n 0 == 0 then (word 0, word 1) else (word 1, word 0)

/-- What a slot delivers for a frame: the sample, V, U, C, block start (R400, R404, R406, R423). -/
structure SlotIn where
  word  : Nat := 0
  v     : Bool := true
  u     : Bool := false
  c     : Bool := false
  start : Bool := false
deriving DecidableEq, Repr

/-- A slot of an input lane at the frame three before the one that begins. -/
def State.slotIn (s : State) (slot p : Nat) : SlotIn :=
  let n := slot / 2
  let ch := slot % 2
  let l := s.lane n
  if s.isAes n then
    if l.aes.foreign || l.aes.phi.isNone then {}
    else match l.aes.got.find? (fun x => x.pos == p && x.chan == ch && !x.muted) with
      | some x => ⟨x.word, x.v, x.u, x.c, x.z⟩
      | none => {}
  else
    match l.frames.find? (fun f => f.pos == p) with
    | none => {}
    | some f =>
      let next := ((l.frames.takeWhile (fun x => x.pos != p)).getLast?.map (·.bits)).getD []
      let w := s.serialWords n f.bits next
      let st (k : Nat) : Bool := nth false f.status k
      if f.muted then { v := true, u := st (2 * ch + 1), c := st (2 * ch), start := st 4 }
      else ⟨if ch == 0 then w.1 else w.2, false, st (2 * ch + 1), st (2 * ch), st 4⟩

/-- The word an input group writes (R422). -/
def captureWord (flagged : Bool) (x : SlotIn) (extra : Bool) : Nat :=
  if flagged then
    x.word / 256 * 256 + 8 * b2n x.start + 4 * b2n x.u + 2 * b2n x.c + b2n (x.v || extra)
  else x.word

/-! ### Gain (R418) -/

/-- round-half-even(s × g) saturated to 32 bits, with g the fade curve at c ÷ F. -/
def State.fade (s : State) (g c f w : Nat) : Nat :=
  let x := slotEval s.curves (s.rd (Obj.groupFadeCurve g)) (fdiv (intToF32 c) (intToF32 f))
  let v := toSigned 32 w
  match f32v x with
  | .fin neg m e => ofSigned 32 (clampSigned 32 (roundInt (neg != decide (v < 0)) (m * v.natAbs) e))
  | .inf neg => if v == 0 then 0 else ofSigned 32 (if neg != decide (v < 0) then -(2 ^ 31) else 2 ^ 31 - 1)
  | .nan => 0

/-! ### Members (R411-R420) -/

/-- Position at which a member's render ends. -/
def Member.stops (m : Member) : Option Nat := if m.stop != 0 then some m.stop else m.endAt

/-- Whether a render covers a position. -/
def Member.covers (m : Member) (d : Nat) : Bool :=
  decide (m.start ≤ d) && (match m.stops with
    | some e => decide (d < e)
    | none => true)

def State.putMember (s : State) (m : Member) : State :=
  { s with members := s.members.map (fun x => if x.stream == m.stream && x.counter == m.counter then m else x) }

/-- First frame and frame count of a packet of a member's joint. -/
def memberRec : JRec → Nat × Nat × List Nat
  | .packet tag ws _ _ _ _ => (ws.headD 0, tag, ws)
  | .spacer _ => (0, 0, [])

/-- Discard the samples below a position; how many frames that were (R415). -/
def discardBelow (channels d : Nat) : Nat → Joint → Nat → Joint × Nat × Nat
  | 0, j, used => (j, used, 0)
  | f + 1, j, used =>
    match j.recs with
    | [] => (j, used, 0)
    | r :: _ =>
      let p := memberRec r
      if p.1 + p.2.1 ≤ d then
        let j' := j.setReader 0 { j.reader 0 with idx := 1, word := 0, cur := false }
        let x := discardBelow channels d f j' 0
        (x.1, x.2.1, x.2.2 + (p.2.1 - used))
      else if p.1 + used < d then
        let k := d - p.1
        (j.setReader 0 { j.reader 0 with idx := 0, word := 1 + k * channels / 2, cur := true }, k, k - used)
      else (j, used, 0)

/-- The samples of frame i of a packet (R413). -/
def packetFrame (channels : Nat) (ws : List Nat) (i : Nat) : List Nat :=
  (List.range channels).map (fun k =>
    let x := i * channels + k
    nth 0 ws (1 + x / 2) / 2 ^ (32 * (x % 2)) % 2 ^ 32)

/-- The frames a member's joint holds, oldest first: position and samples; `used` frames of the first packet are consumed. -/
def memberFrames (channels used : Nat) (j : Joint) : List (Nat × List Nat) :=
  (List.zip (List.range j.recs.length) j.recs).flatMap (fun e =>
    let p := memberRec e.2
    let skip := if e.1 == 0 then used else 0
    (List.range (p.2.1 - skip)).map (fun i => (p.1 + skip + i, packetFrame channels p.2.2 (skip + i))))

/-- The samples of a member's frame, if present. -/
def memberFrame (channels d used : Nat) (j : Joint) : Option (List Nat) :=
  ((List.zip (List.range j.recs.length) j.recs).find? (fun e =>
    let p := memberRec e.2
    decide (p.1 + (if e.1 == 0 then used else 0) ≤ d) && decide (d < p.1 + p.2.1))).map (fun e =>
      packetFrame channels (memberRec e.2).2.2 (d - (memberRec e.2).1))

/-- Whether every one of `n` frames from a position is present; frames past the end of the render count as present. -/
def State.present (s : State) (m : Member) (d n : Nat) : Bool :=
  let j := s.joints.getD m.joint { plan := 0, link := 0, port := 0, maxPacket := 0, threshold := 0, reserve := 0, limit := 0, idle := 0 }
  (List.range n).all (fun k =>
    (match m.stops with
      | some e => decide (d + k ≥ e)
      | none => false) || (memberFrame m.channels (d + k) m.used j).isSome)

/-- Record a missed frame of a stream, joining runs. -/
def addMissed (d : Nat) (xs : List (Nat × Nat)) : List (Nat × Nat) :=
  match xs.getLast? with
  | some (a, n) =>
    if xs.any (fun r => decide (r.1 ≤ d) && decide (d < r.1 + r.2)) then xs
    else if a + n == d then xs.dropLast ++ [(a, n + 1)] else xs ++ [(d, 1)]
  | none => [(d, 1)]

/-- Take a frame out of the missed ones. -/
def dropMissed (d : Nat) (xs : List (Nat × Nat)) : List (Nat × Nat) :=
  xs.flatMap (fun r =>
    if d < r.1 || r.1 + r.2 ≤ d then [r]
    else (if r.1 < d then [(r.1, d - r.1)] else []) ++ (if d + 1 < r.1 + r.2 then [(d + 1, r.1 + r.2 - (d + 1))] else []))

def State.missFrame (s : State) (n d : Nat) : State :=
  let x := s.stream n
  s.setStream n { x with missed := addMissed d x.missed }

/-- A frame of a member of a LOCK group missed, counted as fill or silence (R420). -/
def State.fill (s : State) (m : Member) (d : Nat) (lock : Bool) : State :=
  let s := s.bump (Obj.groupFramesFilled m.group)
  if lock then s.missFrame m.stream d else s

/-- The frames in a member's joint. -/
def State.framesIn (s : State) (m : Member) : List (Nat × List Nat) :=
  match s.joints.find m.joint with
  | none => []
  | some j => memberFrames m.channels m.used j

/-- Positions of the oldest `k` frames in a member's joint that its render covers and that were never decided for it. -/
def State.undecided (s : State) (m : Member) (k : Nat) : List Nat :=
  (((s.framesIn m).take k).map (·.1)).filter (fun p => m.covers p && (match m.last with
    | some x => decide (x < p)
    | none => true))

/-- Discard below the due position, with its count (R415). A frame that was not decided before counts as filled, and under LOCK is
missed (R420); one that was played or filled has counted already. DEDUCED (assumption 146). -/
def State.memberDiscard (s : State) (m : Member) (d : Nat) : State :=
  match s.joints.find m.joint with
  | none => s
  | some j =>
    let x := discardBelow m.channels d (j.recs.length + 1) j m.used
    let t := (({ s with joints := s.joints.put m.joint x.1 }).bump (Obj.groupSamplesLate m.group) x.2.2).putMember { m with used := x.2.1 }
    (s.undecided m x.2.2).foldl (fun t p => t.fill m p (s.rd (Obj.groupPolicy m.group) == 0)) t

/-- Consume the sample a member has played, or plays as silence. -/
def State.memberConsume (s : State) (m : Member) (d : Nat) : State :=
  match s.joints.find m.joint with
  | none => s
  | some j =>
    let x := discardBelow m.channels (d + 1) (j.recs.length + 1) j m.used
    ({ s with joints := s.joints.put m.joint x.1 }).putMember { m with used := x.2.1, last := some d }

def State.member (s : State) (m : Member) : Member :=
  (s.members.find? (fun x => x.stream == m.stream && x.counter == m.counter)).getD m

/-- The gain counter of a member at a decision point (R417): gain, direction, whether a fade began. -/
def stepGain (f gain : Nat) (down allPresent lastPresent : Bool) : Nat × Bool × Bool :=
  if down && decide (gain > 0) then (gain - 1, true, false)
  else if gain == 0 then (if allPresent then (1, false, false) else (0, down, false))
  else if !lastPresent then (gain - 1, true, true)
  else if gain < f then (gain + 1, false, false)
  else (gain, down, false)

/-- Frames at a position that the LOCK members' slots lose: they are missed (R51, R421). `lost` tells of a slot. -/
def State.missFrames (s : State) (p : Nat) (lost : Nat → Bool) : State :=
  (s.members.filter (fun m => s.rd (Obj.groupPolicy m.group) == 0 && m.covers p)).foldl (fun s m =>
    if (List.range m.channels).any (fun k => lost (nth 0 (s.groupSlots m.group) (m.first + k))) then s.missFrame m.stream p else s) s

/-- The frame in progress is missed on muted lanes (R421). -/
def State.missMuted (s : State) (p : Nat) : State := s.missFrames p (fun slot => s.laneMuted (slot / 2))

/-- A member of a LOCK group plays frame d (R415-R418): the words of its channels, and whether they carry the
stream's sample. -/
def State.playLock (s : State) (m : Member) (d : Nat) (wide : Bool) : List (Nat × Bool) × State :=
  let silent := List.replicate m.channels (0, false)
  let s := s.memberDiscard m d
  let m := s.member m
  if !m.covers d || (match m.last with | some x => decide (d ≤ x) | none => false) then (silent, s)
  else
    let j := s.joints.getD m.joint { plan := 0, link := 0, port := 0, maxPacket := 0, threshold := 0, reserve := 0, limit := 0, idle := 0 }
    let x := memberFrame m.channels d m.used j
    if !wide then
      match x with
      | some ws => (ws.map (fun w => (w, true)), s.memberConsume m d)
      | none => (silent, (s.fill m d true).memberConsume m d)
    else
      let f := s.rd (Obj.groupFadeFrames m.group)
      let m := if m.started then { m with gain := Nat.min m.gain f }
        else { m with started := true, down := false, gain := if s.present m d f then f else 0 }
      let g := stepGain f m.gain m.down (s.present m d f) (s.present m (d + f - 1) 1)
      let m := { m with gain := g.1, down := g.2.1 }
      let s := if g.2.2 then (s.putMember m).bump (Obj.groupFades m.group) else s.putMember m
      match x with
      | none => (silent, (s.fill m d true).memberConsume m d)
      | some ws =>
        if m.gain == 0 then (silent, (s.fill m d true).memberConsume m d)
        else
          let out := ws.map (fun w => (if m.gain == f then w else s.fade m.group m.gain f w, true))
          (out, s.memberConsume m d)

/-- A member of a SLIP group plays frame d, present for every member (R419). -/
def State.playSlip (s : State) (m : Member) (d : Nat) : List (Nat × Bool) × State :=
  let silent := List.replicate m.channels (0, false)
  if !m.covers d then (silent, s)
  else match memberFrame m.channels d m.used (s.joints.getD m.joint { plan := 0, link := 0, port := 0, maxPacket := 0, threshold := 0, reserve := 0, limit := 0, idle := 0 }) with
    | some ws => (ws.map (fun w => (w, true)), s.memberConsume m d)
    | none => (silent, s)

/-- Lay a member's words into its channels. -/
def layChannels (first : Nat) (ws : List (Nat × Bool)) (out : List (Nat × Bool)) : List (Nat × Bool) :=
  out.take first ++ ws ++ out.drop (first + ws.length)

/-- The decision for frame p of an output group (R415-R420). -/
def State.decideGroup (s : State) (g p : Nat) : State :=
  let slots := s.groupSlots g
  let blank : List (Nat × Bool) := List.replicate slots.length (0, false)
  let ms := s.members.filter (fun m => m.group == g)
  let slip := s.rd (Obj.groupPolicy g) == 1
  let s := if (s.group g).reanchor && p % s.courseLen == 0 then
    (s.setGroup g { s.group g with reanchor := false }).wr (Obj.groupSlipLag g) 0 else s
  let lag := if slip then s.rd (Obj.groupSlipLag g) else 0
  if p < lag then s.setGroup g { s.group g with next := blank }
  else
    let d := p - lag
    if slip then
      let s := ms.foldl (fun s m => s.memberDiscard (s.member m) d) s
      let ms := ms.map s.member
      let back := match (s.group g).last with
        | some x => decide (d ≤ x)
        | none => false
      let due := ms.filter (fun m => m.covers d)
      if back then s.setGroup g { s.group g with next := blank }
      else if due.any (fun m => !s.present m d 1) then
        let s := due.foldl (fun s m => s.fill m d false) s
        (s.setGroup g { s.group g with next := blank }).wr (Obj.groupSlipLag g) (Nat.min (lag + 1) (2 ^ 32 - 1))
      else
        let r := ms.foldl (fun (acc : List (Nat × Bool) × State) m =>
          let x := acc.2.playSlip m d
          (layChannels m.first x.1 acc.1, x.2)) (blank, s)
        r.2.setGroup g { r.2.group g with next := r.1, last := some d }
    else
      let r := ms.foldl (fun (acc : List (Nat × Bool) × State) m =>
        let m := acc.2.member m
        let x := acc.2.playLock m d (decide (slots.length > 8))
        (if m.covers d then layChannels m.first x.1 acc.1 else acc.1, x.2)) (blank, s)
      r.2.setGroup g { r.2.group g with next := r.1, last := some d }

/-! ### Taking decisions back (R43) -/

/-- Words of a packet: its first position, then its samples in pairs. -/
def packetWords (first : Nat) (frames : List (List Nat)) : List Nat :=
  first :: (chunks 2 frames.flatten).map (fun p => nth 0 p 0 % 2 ^ 32 + 2 ^ 32 * (nth 0 p 1 % 2 ^ 32))

/-- Put the frame last taken out of a member's joint back at its front; `x` is the joint with the consumed frames of its first packet. -/
def giveBack (channels stream : Nat) (f : Nat × List Nat) (x : Joint × Nat) : Joint × Nat :=
  let j := x.1
  let head := (j.recs.head?.map memberRec).getD (0, 0, [])
  if 0 < x.2 && head.1 + x.2 == f.1 + 1 then
    let k := x.2 - 1
    (j.setReader 0 { j.reader 0 with idx := 0, word := if k == 0 then 0 else 1 + k * channels / 2, cur := decide (0 < k) }, k)
  else
    let chunk := match j.recs.head? with
      | some (.packet _ _ _ _ c _) => c
      | _ => 0
    ({ j with recs := .packet 1 (packetWords f.1 [f.2]) true stream chunk false :: j.recs, base := j.base - 1 }, 0)

/-- What a decision changed in a group, from the states before and after it. -/
def State.decision (s t : State) (g : Nat) : Decided :=
  let ms := s.members.filter (fun m => m.group == g)
  { members := ms, last := (s.group g).last, reanchor := (s.group g).reanchor, lag := s.rd (Obj.groupSlipLag g)
    filled := t.rd (Obj.groupFramesFilled g) - s.rd (Obj.groupFramesFilled g)
    late := t.rd (Obj.groupSamplesLate g) - s.rd (Obj.groupSamplesLate g)
    fades := t.rd (Obj.groupFades g) - s.rd (Obj.groupFades g)
    taken := ms.map (fun m =>
      let a := s.framesIn m
      ((m.stream, m.counter), a.take (a.length - (t.framesIn (t.member m)).length))) }

/-- Take one decision of a group back. -/
def State.takeBack (s : State) (g : Nat) (u : Decided) : State :=
  let s := u.taken.foldl (fun s e =>
    match u.members.find? (fun m => m.stream == e.1.1 && m.counter == e.1.2) with
    | none => s
    | some m =>
      let x := s.stream m.stream
      let fresh := (e.2.map (·.1)).filter (fun p => match m.last with
        | some q => decide (q < p)
        | none => true)
      s.setStream m.stream { x with missed := fresh.foldl (fun xs p => dropMissed p xs) x.missed }) s
  let s := u.taken.foldl (fun s e =>
    match s.members.find? (fun m => m.stream == e.1.1 && m.counter == e.1.2) with
    | none => s
    | some m => match s.joints.find m.joint with
      | none => s
      | some j =>
        let x := e.2.reverse.foldl (fun x f => giveBack m.channels m.stream f x) (j, m.used)
        ({ s with joints := s.joints.put m.joint x.1 }).putMember { m with used := x.2 }) s
  let s := u.members.foldl (fun s m =>
    s.putMember { s.member m with gain := m.gain, down := m.down, started := m.started, last := m.last }) s
  let s := ((s.lower (Obj.groupFramesFilled g) u.filled).lower (Obj.groupSamplesLate g) u.late).lower (Obj.groupFades g) u.fades
  let s := if s.rd (Obj.groupPolicy g) == 1 then s.wr (Obj.groupSlipLag g) u.lag else s
  s.setGroup g { s.group g with last := u.last, reanchor := u.reanchor }

/-- Take back the decisions of the frame in progress and of the next, at a jump. DESIGN CHOICE (assumption 122): the manual fixes a frame's
sample one frame ahead (R415) and lets samples that lie ahead after a jump wait (R43); the jump frame's own decision is made anew. -/
def State.undecide (s : State) : State :=
  let s := s.groups.foldl (fun s e =>
    let s := e.2.undo.foldl (fun s u => s.takeBack e.1 u) s
    s.setGroup e.1 { s.group e.1 with undo := [] }) s
  (s.members.filter (fun m => s.rd (Obj.groupPolicy m.group) == 0)).foldl (fun s m =>
    let x := s.stream m.stream
    s.setStream m.stream { x with missed := dropMissed s.pos (dropMissed (s.pos + 1) x.missed) }) s

/-- End the renders whose end the frame that begins has reached (R412). -/
def State.endReached (s : State) : State :=
  (s.members.filter (fun m =>
    let lag := if s.rd (Obj.groupPolicy m.group) == 1 then s.rd (Obj.groupSlipLag m.group) else 0
    match m.stops with
    | some e => decide (e + lag ≤ s.pos)
    | none => false)).foldl (fun s m => s.endMember (s.member m)) s

/-! ### Produced frames into member joints (R413) -/

/-- Move produced frames of a stream into the joints of its renders while they take them. -/
def State.flushFrames (n : Nat) : Nat → State → State
  | 0, s => s
  | f + 1, s =>
    match s.produced.getD n [] with
    | [] => s
    | p :: ps =>
      if p.samples.isEmpty then State.flushFrames n f { s with produced := s.produced.put n ps }
      else
        let ms := s.members.filter (fun m => m.stream == n)
        match (ms.filter (fun m => m.covers p.first)).getLast? with
        | none =>
          if ms.isEmpty then s
          else State.flushFrames n f { s with produced := s.produced.put n ({ p with first := p.first + 1, samples := p.samples.drop 1 } :: ps) }
        | some m =>
          let toEnd := match m.stops with
            | some e => e - p.first
            | none => p.samples.length
          let l := s.courseLen
          let k := Nat.min (Nat.min p.samples.length toEnd) (Nat.min (s.memberPacket m.channels) (l - p.first % l))
          let frames := (p.samples.take k).map (fun fr => (fr ++ List.replicate (m.channels - fr.length) 0).take m.channels)
          let ws := packetWords p.first frames
          if !s.jointTakes m.joint ws.length then s
          else match s.joints.find m.joint with
            | none => s
            | some j =>
              let s := s.setJoint m.joint (j.append s.clk.frames k n p.chunk ws).endPacket
              State.flushFrames n f { s with produced := s.produced.put n ({ p with first := p.first + k, samples := p.samples.drop k } :: ps) }

/-- All that fits. -/
def State.flushProduced (s : State) (n : Nat) : State :=
  State.flushFrames n (sumN ((s.produced.getD n []).map (fun p => p.samples.length + 1)) + 1) s

/-! ### Capture (R423-R425) -/

def State.captureWords (s : State) (g : Nat) : Nat := ceilDiv (s.groupSlots g).length 2

/-- Free space of an input group's joint in whole frames; none to spare when it has no record for a new packet. -/
def State.captureFree (s : State) (g key : Nat) : Nat :=
  match s.joints.find key with
  | none => 0
  | some j => if j.openLast || decide (j.recs.length < 64) then s.jointFree key / Nat.max 1 (s.captureWords g) else 0

/-- Drop a frame: a spacer counts its words (R373, R424). -/
def State.captureDrop (s : State) (g key p : Nat) : State :=
  let w := s.captureWords g
  let s := (s.bump (Obj.groupFramesDropped g)).bump Obj.wordsDropped w
  let s := s.setGroup g { s.group g with frames := (s.group g).frames ++ [(p, true)] }
  match s.joints.find key with
  | none => s
  | some j => match j.recs.getLast? with
    | some (.spacer c) => { s with joints := s.joints.put key { j with recs := j.recs.dropLast ++ [JRec.spacer (Nat.min (c + w) (2 ^ 32 - 1))] } }
    | _ => ({ s with joints := s.joints.put key { j with recs := j.recs ++ [JRec.spacer w] } }).bump Obj.spacers

/-- Admit a frame of an input group into its joint (R423-R425). A wide group's counter is that of R417: room for 2F frames stands for
the last sample's presence, room for 3F for all of them. DEDUCED (assumption 147): a fade that has begun falls to 0 before it rises. -/
def State.captureAdmit (s : State) (g key p : Nat) : State :=
  let slots := s.groupSlots g
  let wide := decide (slots.length > 8)
  let f := s.rd (Obj.groupFadeFrames g)
  let free := s.captureFree g key
  let x := s.group g
  let st := if wide then stepGain f x.gain x.down (decide (3 * f ≤ free)) (decide (2 * f ≤ free)) else (f, false, false)
  let s := s.setGroup g { x with gain := st.1, down := st.2.1 }
  let s := if st.2.2 then s.bump (Obj.groupFades g) else s
  if (wide && st.1 == 0) || free == 0 then s.captureDrop g key p
  else
    let flagged := s.rd (Obj.groupInputWord g) == 0
    let ws := slots.map (fun sl =>
      let v := s.slotIn sl p
      if st.1 == f then captureWord flagged v false
      else captureWord flagged { v with word := s.fade g st.1 f v.word } true)
    let words := (chunks 2 ws).map (fun q => nth 0 q 0 + 2 ^ 32 * nth 0 q 1)
    let s := s.setGroup g { s.group g with frames := (s.group g).frames ++ [(p, false)] }
    match s.joints.find key with
    | none => s
    | some j => s.setJoint key { (j.append s.clk.frames 0 0 0 words) with readers := [{}] }

/-- The mover takes the oldest frame out of the joint: its words, or none where a spacer stands for it. -/
def Joint.takeFrame (j : Joint) (w : Nat) : Option (List Nat) × Joint :=
  match j.recs with
  | JRec.spacer c :: rs => (none, { j with recs := if c ≤ w then rs else JRec.spacer (c - w) :: rs, base := j.base + b2n (decide (c ≤ w)) })
  | JRec.packet t ws e st c sp :: rs =>
    (some (ws.take w), if ws.length ≤ w && !rs.isEmpty then { j with recs := rs, base := j.base + 1 }
      else { j with recs := JRec.packet t (ws.drop w) e st c sp :: rs })
  | [] => (none, j)

/-- CAPTURE_WRITE (R423): the group's capture mover writes the next frame. -/
def execCaptureWrite (group : Fin 64) (translated : Bool) (s : State) : Out :=
  let g := group.val
  let x := s.group g
  .next (match x.joint, x.frames with
    | some key, (p, _) :: rest =>
      let host := s.rd (Obj.groupCaptureSpace g) == 0
      let id := 32768 + g
      if !s.rdB (Obj.groupCaptureEnable g) || (host && (!s.host || s.rd Obj.role == 4)) || s.waitsPage id 0 then s
      else
        let slots := (s.groupSlots g).length
        let addr := s.rd (Obj.groupCaptureBase g) + p % 2 ^ s.rd (Obj.groupCaptureLog2 g) * 4 * slots
        if host && !translated then s.pageFault id 0 p addr
        else
          match s.joints.find key with
          | none => s
          | some j =>
            let t := j.takeFrame (s.captureWords g)
            let blank := if s.rd (Obj.groupInputWord g) == 0 then 1 else 0
            let ws := match t.1 with
              | some ws => (ws.flatMap (fun v => [v % 2 ^ 32, v / 2 ^ 32])).take slots
              | none => List.replicate slots blank
            let bs := ws.flatMap (leBytes 4)
            let s := { s with joints := s.joints.put key t.2 }
            let s := s.setGroup g { x with frames := rest }
            (if host then s.hostWrite addr bs else s.devWrite addr bs).wr (Obj.groupCapturePosition g) (p + 1)
    | _, _ => s)

/-! ### AES3 input rows (R404, R405) -/

/-- Distance of two phases on the circle of one frame. -/
def phaseGap (a b : Nat) : Nat := let d := absDiff (a % 65536) (b % 65536); Nat.min d (65536 - d)

/-- Count a finished channel-status block, or store it (R405). -/
def State.storeBlock (s : State) (n key : Nat) (bs : Option (List Bool)) : State :=
  match bs with
  | none => s
  | some b =>
    if b.length != 192 then s
    else
      let v := ofBits b
      if bit v 0 && v / 2 ^ 184 != crcc (v % 2 ^ 184) then s.bump (Obj.laneCrccErrors n) else s.wr key v

/-- Subframe 1 begins a frame: lock, drift and the position it takes (R404). -/
def State.aesStart (s : State) (n : Nat) (phase : Nat) (good : Bool) : State :=
  let l := s.lane n
  let a := l.aes
  let house := s.clk.frames * 65536 + phase % 65536
  let drift := match a.phi with
    | some f => decide (phaseGap phase f > 16384)
    | none => false
  let off := match a.start with
    | some x => decide (absDiff (house - x) 65536 > 65)
    | none => false
  let foreign := a.phi.isSome && !a.foreign && (drift || off)
  let keep := if phaseGap phase a.kept ≤ 8192 then a.keep + 1 else 1
  let p := match a.phi with
    | some f => if phase % 65536 + 32768 < f then s.pos + 1 else if f + 32768 < phase % 65536 then s.pos - 1 else s.pos
    | none => s.pos
  let s := if foreign then s.bump (Obj.laneForeignCount n) else s
  let s := if foreign then s.wr (Obj.laneState n) 4 else s
  s.setLane n { l with aes := { a with start := some house, first := good, foreign := a.foreign || foreign, at' := p,
                                       kept := if keep == 1 then phase % 65536 else a.kept, keep := keep } }

/-- AES3_SUBFRAME (R405). -/
def execAes3Subframe (lane : Fin 64) (sub : Subframe) (s : State) : Out :=
  let n := lane.val
  .next (if !s.counting || s.rd (Obj.laneDirection n) != 1 || !s.isAes n then s
    else
      let pre := sub.preamble.val
      let one := pre != 1
      let bad := sub.violation || (natBits 28 sub.slots.toNat).foldl (fun a b => a != b) false
      let s := if one then s.aesStart n sub.phase (!sub.violation) else s
      let s := if bad then s.bump (Obj.laneParityErrors n) else s
      let bitOf (k : Nat) : Bool := sub.slots.getLsbD (k - 4)
      let v := bad || bitOf 28
      let s := if v then s.bump (Obj.laneSamplesInvalid n) else s
      let word := keepBits (s.sampleBits n) (sub.slots.toNat % 2 ^ 24 * 256)
      let l := s.lane n
      let a := l.aes
      let s := if pre == 2 then (s.storeBlock n (Obj.laneCsRx0 n) a.bits0).storeBlock n (Obj.laneCsRx1 n) a.bits1 else s
      let s := if pre == 2 then s.wr (Obj.laneRxBlockPhase n) (blockIndex (s.rd (Obj.laneBlockAnchor n)) a.at') else s
      let b0 := if pre == 2 then some [bitOf 30] else if pre == 0 then a.bits0.map (· ++ [bitOf 30]) else a.bits0
      let b1 := if pre == 2 then some [] else if pre == 1 then a.bits1.map (· ++ [bitOf 30]) else a.bits1
      let z := if one then pre == 2 else (a.got.find? (fun x => x.pos == a.at' && x.chan == 0)).any (·.z)
      let x : AesSample := ⟨a.at', if one then 0 else 1, word, v, bitOf 29, bitOf 30, z, s.clk.bitMuted || l.muted⟩
      let good := if one then (if sub.violation then 0 else a.good)
        else if sub.violation || !a.first then 0 else a.good + 1
      s.setLane n { l with aes := { a with good := good, bits0 := b0, bits1 := b1, first := one && !sub.violation
                                           got := (a.got.filter (fun y => decide (y.pos + 5 > s.pos))) ++ [x] } })

/-- AES3_LOCK (R404): 64 consecutive good frames. -/
def execAes3Lock (lane : Fin 64) (s : State) : Out :=
  let n := lane.val
  let l := s.lane n
  .next (if s.rd (Obj.laneDirection n) == 1 && s.isAes n && l.aes.phi.isNone && decide (l.aes.good ≥ 64) then
    (s.setLane n { l with aes := { l.aes with phi := l.aes.start.map (· % 65536) } }).wr (Obj.laneState n) 1
  else s)

/-- FOREIGN_RELOCK (R404): at a course boundary, after 4,096 frames at one phase. -/
def execForeignRelock (lane : Fin 64) (s : State) : Out :=
  let n := lane.val
  let l := s.lane n
  .next (if s.rd (Obj.laneDirection n) == 1 && s.isAes n && l.aes.foreign && decide (l.aes.keep ≥ 4096) && s.pos % s.courseLen == 0
    then (s.setLane n { l with aes := { l.aes with foreign := false, phi := l.aes.start.map (· % 65536) } }).wr (Obj.laneState n) 1
  else s)

/-! ### The lanes at a frame (R395-R407, R415, R423) -/

/-- LANE_STATE and DRIVING of a lane, and its muted frames (R397, R404, R407, R483). DEDUCED (assumption 148): a lane muted under R25 is
RATIO_MUTED too. -/
def State.laneStatus (s : State) (n : Nat) : State :=
  let dir := s.rd (Obj.laneDirection n)
  let l := s.lane n
  let ratio := s.isAes n && s.rd Obj.bitRatio == 64
  let l := if ratio && dir != 0 then { l with muted := true } else l
  let s := if dir == 0 then s else s.setLane n l
  let st :=
    if dir == 0 then 0
    else if dir == 2 && !s.drives then 5
    else if l.muted || s.clk.bitMuted then 2
    else if dir == 1 && s.isAes n then (if l.aes.foreign then 4 else if l.aes.phi.isNone then 3 else 1)
    else 1
  let s := (s.wr (Obj.laneState n) st).wr (Obj.laneDriving n) (b2n (dir == 2 && s.drives))
  if dir != 0 && (l.muted || s.clk.bitMuted || (dir == 2 && s.clk.coastHalt)) then s.bump (Obj.laneMutedFrames n) else s

/-- The lanes with a direction. -/
def State.activeLanes (s : State) : List Nat := (List.range 64).filter (fun n => s.rd (Obj.laneDirection n) != 0)

/-- The bits sampled in the frame that ended, with its position, kept for the frames after it (R400). -/
def State.takeBits (s : State) (prev : Nat) (lanes : List (Fin 64 × List Bool)) : State :=
  lanes.foldl (fun s e =>
    let n := e.1.val
    if s.rd (Obj.laneDirection n) != 1 || s.isAes n then s
    else
      let l := s.lane n
      let muted := s.clk.bitMuted || l.muted
      s.setLane n { l with frames := (⟨prev, padTo' (s.rd Obj.bitRatio) e.2, l.status, muted⟩ :: l.frames).take 8 }) s
where
  /-- Bits of one frame, cut or filled with zero. -/
  padTo' (r : Nat) (bs : List Bool) : List Bool := (bs ++ List.replicate (r - bs.length) false).take r

/-- A new frame takes over the bit and the level at which the frame before it left the pins. -/
def State.rollLanes (s : State) : State :=
  s.activeLanes.foldl (fun s n => let l := s.lane n; s.setLane n { l with carryIn := l.carry, levelIn := l.level }) s

/-- Play the frame that begins: blocks, the words decided for it, the lanes' pins. -/
def State.playFrame (s : State) (p : Nat) : State :=
  let lanes := s.activeLanes
  let s := lanes.foldl (fun s n => s.laneStatus n) s
  let s := lanes.foldl (fun s n =>
    let s := s.latchBlock n p
    let s := if s.rd (Obj.laneDirection n) == 1 then s.setLane n { s.lane n with status := s.statusAt n p } else s
    s) s
  let word (s : State) (slot : Nat) : Nat × Bool :=
    match (List.range 64).find? (fun g => s.rd (Obj.groupDirection g) == 2 && bit (s.rd (Obj.groupSlotMask g)) slot) with
    | none => (0, false)
    | some g => nth (0, false) (s.group g).next ((s.groupSlots g).takeWhile (fun x => x != slot)).length
  ((lanes.filter (fun n => s.rd (Obj.laneDirection n) == 2)).foldl (fun s n =>
    let w := (word s (2 * n), word s (2 * n + 1))
    (s.setLane n { s.lane n with words := w }).driveLane n p w.1 w.2) s).missMuted p

/-- A position passes with no edge: an input lane's frame there is a muted one (R48), and its block goes on (R402). -/
def State.passMuted (s : State) (p : Nat) : State :=
  s.activeLanes.foldl (fun s n =>
    let s := s.latchBlock n p
    if s.rd (Obj.laneDirection n) != 1 || s.isAes n then s
    else
      let l := s.lane n
      s.setLane n { l with frames := (⟨p, List.replicate (s.rd Obj.bitRatio) false, s.statusAt n p, true⟩ :: l.frames).take 8 }) s

/-- Bit periods after which a slot's sample has left its pin (R396, R399, R401). -/
def State.slotEnd (s : State) (slot : Nat) : Nat :=
  let n := slot / 2
  let r := s.rd Obj.bitRatio
  if s.isAes n then 64 * (slot % 2 + 1)
  else
    let h := if s.halfChannel n 0 == slot % 2 then 0 else 1
    Nat.min r (h * r / 2 + Nat.min (s.slotBits n) (s.sampleBits n) + (if s.framing n == 0 then 1 else 0))

/-- The decisions at the start of the frame before a position. -/
def State.decideFrame (s : State) (p : Nat) : State :=
  ((List.range 64).filter (fun g => s.rd (Obj.groupDirection g) == 2 && s.rd (Obj.groupSlotMask g) != 0)).foldl
    (fun s g =>
      let t := s.decideGroup g p
      t.setGroup g { t.group g with undo := s.decision t g :: (s.group g).undo.take 1 }) s

/-- Admissions of the input groups at the end of frame p + 2 (R424). -/
def State.admitFrames (s : State) (p : Nat) : State :=
  ((List.range 64).filter (fun g => s.rd (Obj.groupDirection g) == 1 && s.rdB (Obj.groupCaptureEnable g))).foldl
    (fun s g => match (s.group g).joint with
      | some key => s.captureAdmit g key p
      | none => s) s

/-- What the lanes do when a frame begins (R395-R425): `prev` is the position of the frame that ended. -/
def State.lanesFrame (s : State) (prev : Nat) (lanes : List (Fin 64 × List Bool)) : State :=
  let s := s.takeBits prev lanes
  let s := (s.rollLanes.playFrame s.pos).endReached
  let s := s.streams.foldl (fun s e => s.flushProduced e.1) s
  let s := if s.pos ≥ 3 then s.admitFrames (s.pos - 3) else s
  s.decideFrame (s.pos + 1)

/-- SLIP_LAG after a jump (R419). -/
def State.slipJump (s : State) (from' to' : Nat) : State :=
  if to' ≤ from' then s
  else ((List.range 64).filter (fun g => s.rd (Obj.groupDirection g) == 2 && s.rd (Obj.groupPolicy g) == 1)).foldl
    (fun s g => s.wr (Obj.groupSlipLag g) (Nat.min (s.rd (Obj.groupSlipLag g) + (to' - from')) (2 ^ 32 - 1))) s

end Sys2Proof.Machine
end

