-- ==== Sys2Proof/Machine/Access.lean ====
section
/-! DEFINITION. Accesses of commands to memory software names: protection, missing translations, poison (R124, R364, R366, R449,
R460, R461, R510, R514). -/

namespace Sys2Proof.Machine

/-- What stops an access: refused by the map, a missing translation, poison, an unmapped device address; the first
and the last with whether the request was a write. -/
inductive Stop where
  | refused (write : Bool)
  | missing
  | poison
  | unmapped (write : Bool)
deriving DecidableEq, Repr

/-- The earlier of two stops; the first on a tie. -/
def earlier (a b : Option (Nat × Stop)) : Option (Nat × Stop) :=
  match a, b with
  | some x, some y => if y.1 < x.1 then some y else some x
  | some x, none => some x
  | none, y => y

/-- Where a request to host memory stops, as an address: `missing` and `poison` are offsets in the range. -/
def hostStop (map : List Nat) (ring : Nat) (write : Bool) (a n : Nat) (missing poison : Option Nat) : Option (Nat × Stop) :=
  let within (o : Option Nat) (k : Stop) : Option (Nat × Stop) := (o.filter (fun x => decide (x < n))).map (fun x => (a + x, k))
  earlier ((rangeRefused map 0 ring write a n).map (fun x => (x, Stop.refused write)))
    (earlier (within missing .missing) (within poison .poison))

/-- Where a request to device memory stops (R449, R461, R510). -/
def State.deviceStop (s : State) (map : List Nat) (space ring : Nat) (write : Bool) (a n : Nat) : Option (Nat × Stop) :=
  let unmapped := (firstBadPage (fun x => s.mapped x && rangeSpace x == some space) (n / 4096 + 2) a (a + n)).map (fun x => (x, Stop.unmapped write))
  let poison := if write then none else (s.firstPoison a n).map (fun x => (x, Stop.poison))
  earlier unmapped (earlier ((rangeRefused map space ring write a n).map (fun x => (x, Stop.refused write))) poison)

/-- Stop a command where an access stops; a device address that is not mapped halts it as the map does (R449). -/
def State.stopAt (s : State) (n counter position space : Nat) (x : Nat × Stop) : State :=
  match x.2 with
  | .refused w | .unmapped w => s.protectHalt n counter position x.1 space w
  | .missing => s.pageFault n counter position x.1
  | .poison => s.poisonHalt n counter position x.1 space

end Sys2Proof.Machine
end

