-- ==== Sys2Proof/Machine/Movers.lean ====
section
/-! DEFINITION. Movers: transfers between memories and joints, contexts, re-arms, and their ends (R353-R368, R449, R496, R513,
R514). -/

namespace Sys2Proof.Machine

/-! ### Where a transfer stops (R364, R366, R449, R461, R514) -/

/-- The first address of a range at which a table's rows begin or go on (R248). -/
def State.tableHit (s : State) (a n : Nat) : Option Nat :=
  let hits := (s.tables.filter (fun e => overlaps a n e.2.base (tableBytes e.2.header))).map (fun e => Nat.max a e.2.base)
  match hits with
  | [] => none
  | x :: xs => some (xs.foldl Nat.min x)

/-- Where one side of a transfer stops at or after byte `next`: the byte, the address, and why. `missing` and `poison` are
bytes of the transfer at which host memory lacks a translation or returns poison. -/
def State.sideStop (s : State) (map : List Nat) (ring space : Nat) (write : Bool) (missing poison : Option Nat) (next : Nat) :
    Nat → List (Nat × Nat) → Option (Nat × Nat × Stop)
  | _, [] => none
  | o, (a, n) :: rs =>
    let d := Nat.min n (next - o)
    let from' (m : Option Nat) : Option Nat := (m.filter (fun x => decide (o + d ≤ x))).map (fun x => x - (o + d))
    let here :=
      if space == 0 then hostStop map ring write (a + d) (n - d) (from' missing) (from' poison)
      else earlier (s.deviceStop map space ring write (a + d) (n - d))
        (if write then (s.tableHit (a + d) (n - d)).map (fun x => (x, Stop.refused true)) else none)
    match here with
    | some x => some (o + (x.1 - a), x.1, x.2)
    | none => s.sideStop map ring space write missing poison next (o + n) rs

/-- A stop of a transfer: the byte, the space, the address and why. -/
structure MoveStop where
  byte  : Nat
  space : Nat
  addr  : Nat
  why   : Stop
deriving DecidableEq, Repr

/-- Where a transfer stops at or after a byte: the earlier of its sides, the source on a tie. A joint side stops nowhere. -/
def State.moveStop (s : State) (map : List Nat) (ring : Nat) (d : Bytes) (next : Nat) (data : HostRead) : Option MoveStop :=
  let side (dst : Bool) : Option MoveStop :=
    let space := descSpace d dst
    if space == 4 then none
    else (s.sideStop map ring space dst data.missingAt (if dst then none else data.poisonAt) next 0 (sideRuns d dst)).map
      (fun x => ⟨x.1, space, x.2.1, x.2.2⟩)
  match side false, side true with
  | some a, some b => if b.byte < a.byte then some b else some a
  | some a, none => some a
  | none, b => b

/-! ### Copying (R355, R356, R361) -/

/-- The parts of runs between two bytes of the sequence, as addresses and counts. -/
def cutRuns (lo hi : Nat) : Nat → List (Nat × Nat) → List (Nat × Nat)
  | _, [] => []
  | o, (a, n) :: rs =>
    let x := Nat.max lo o
    let y := Nat.min hi (o + n)
    (if x < y then [(a + (x - o), y - x)] else []) ++ cutRuns lo hi (o + n) rs

/-- Bytes of runs in a space. -/
def State.readRuns (s : State) (space : Nat) (runs : List (Nat × Nat)) : Bytes :=
  runs.flatMap (fun r => (if space == 0 then s.hostMem else s.devMem).readBytes r.1 r.2)

/-- What a destination byte takes where ranges are in doubt: its own value or the one copied, each time free (R356). -/
def State.doubt (s : State) (space : Nat) (clash : List (Nat × Nat)) (a : Nat) (bs : Bytes) : Bytes :=
  (List.zip (List.range bs.length) bs).map (fun e =>
    let x := a + e.1
    if clash.any (fun r => decide (r.1 ≤ x) && decide (x < r.1 + r.2)) && !bit (Config.freeWord (s.free + e.1)).toNat 0 then
      (if space == 0 then s.hostMem else s.devMem).read x
    else e.2)

/-- Write bytes over runs in a space. -/
def State.writeRuns (s : State) (space : Nat) (clash : List (Nat × Nat)) : List (Nat × Nat) → Bytes → State
  | [], _ => s
  | (a, n) :: rs, bs =>
    let own := bs.take n
    let out := if clash.isEmpty then own else s.doubt space clash a own
    let t := if clash.isEmpty then s else { s with free := s.free + n }
    (if space == 0 then t.hostWrite a out else t.devWrite a out).writeRuns space clash rs (bs.drop n)

/-- Source ranges of a transfer that its destination overlaps (R356). -/
def ownOverlap (d : Bytes) : List (Nat × Nat) :=
  if descSpace d false != descSpace d true || descSpace d true == 4 then []
  else (sideRuns d false).filter (fun r => (sideRuns d true).any (fun q => overlaps r.1 r.2 q.1 q.2))

/-- Words of bytes, little-endian. -/
def wordsOf (bs : Bytes) : List Nat := (chunks 8 bs).map ofLE

/-- Read up to `n` words of a joint's packets by its first reader, as a mover of a stage does (R327, R370); `fuel` bounds the packets
stepped over. -/
def Joint.take : (fuel n : Nat) → Joint → List Nat × Joint
  | 0, _, j => ([], j)
  | _ + 1, 0, j => ([], j)
  | f + 1, n + 1, j =>
    match j.read 0 1 with
    | some (r, j') => match r.words with
      | w :: _ => let q := Joint.take f n j'; (w :: q.1, q.2)
      | [] => match j'.next 0 with
        | some (_, j2) => Joint.take f (n + 1) j2
        | none => ([], j')
    | none => ([], j)

/-- Words that a mover finds in a joint, with the joint after it has read them. -/
def State.takeJoint (s : State) (key n : Nat) : List Nat × State :=
  match s.joints.find key with
  | none => ([], s)
  | some j => let r := j.take (2 * (n + j.recs.length + 1)) n; (r.1, { s with joints := s.joints.put key r.2 })

/-- Copy the bytes of a transfer from `lo` up to `hi`; a joint side belongs to a plan, and its packets to a chunk. -/
def State.copy (s : State) (d : Bytes) (clash : List (Nat × Nat)) (data : HostRead) (lo hi : Nat) (plan stream chunk : Nat) :
    State :=
  let src := descSpace d false
  let dst := descSpace d true
  let link := field d 40 2
  let got : Bytes × State :=
    if src == 0 then (padTo (hi - lo) (data.bytes.drop lo), s)
    else if src == 4 then
      match (s.linkJoints plan link).head? with
      | none => (List.replicate (hi - lo) 0, s)
      | some k => let r := s.takeJoint k (ceilDiv (hi - lo) 8); (padTo (hi - lo) (r.1.flatMap (leBytes 8)), r.2)
    else (s.readRuns src (cutRuns lo hi 0 (sideRuns d false)), s)
  if dst == 4 then
    (got.2.linkJoints plan link).foldl (fun s k =>
      match s.joints.find k with
      | none => s
      | some j =>
        let j := if got.1.isEmpty then j else j.append s.clk.frames 0 stream chunk (wordsOf got.1)
        s.setJoint k (if bit (field d 7 1) 0 && hi == descLength d then j.endPacket else j)) got.2
  else got.2.writeRuns dst (clash ++ ownOverlap d) (cutRuns lo hi 0 (sideRuns d true)) got.1

/-- Merged writes of a transfer of `n` bytes (R362): how many depends on cycles, so the number is free. -/
def State.countMerges (s : State) (n : Nat) : State :=
  let r := s.freeWord
  r.2.bump Obj.writesMerged (r.1 % (n + 1))

/-! ### MOVE commands (R353, R354, R359, R363, R367, R368) -/

/-- Whether a command is a MOVE whose descriptor is running (R367). -/
def Cmd.moving (c : Cmd) : Bool :=
  c.op == 9 && c.final.isNone && (match c.xfer with
    | some x => !x.desc.isEmpty
    | none => false)

/-- Started MOVEs of every ring that name a descriptor and are not ignored. -/
def State.movesNaming (s : State) (iova : Nat) : List (Nat × Cmd) :=
  s.rings.flatMap (fun e => (e.2.cmds.filter (fun c =>
    c.op == 9 && c.final.isNone && field c.desc 16 8 == iova && (match c.xfer with
      | some x => x.ignored.isNone
      | none => false))).map (fun c => (e.1, c)))

/-- Host contexts in use (R359). -/
def State.contextsBusy (s : State) : Nat :=
  sumN (s.rings.map (fun e => (e.2.cmds.filter (fun c => c.final.isNone && ((c.xfer.map (·.context)).getD false))).length))

/-- Short transfers in flight (R363). -/
def State.shortInFlight (s : State) : Nat :=
  sumN (s.rings.map (fun e => (e.2.cmds.filter (fun c => c.moving && !((c.xfer.map (·.context)).getD true))).length))

def hostContexts : Nat := 256
def shortSlots : Nat := 4096

/-- A side whose space code names another tier than its addresses: the offset of the code (R449). -/
def tierFault (d : Bytes) : Option Nat :=
  let bad (dst : Bool) : Bool :=
    let space := descSpace d dst
    space != 0 && space != 4 && (sideRuns d dst).any (fun r =>
      [r.1, r.1 + r.2 - 1].any (fun a => match rangeSpace a with
        | some t => t != space
        | none => false))
  if bad false then some 4 else if bad true then some 5 else none

/-- A transfer that has not started. -/
def Transfer.blank (ignores : Nat) : Transfer :=
  { desc := [], next := 0, context := false, order := 0, rearm := false, ignored := none, ignores := ignores, map := [], clash := []
    noPartner := false }

/-- Set the transfer of a command. -/
def State.setXfer (s : State) (n counter : Nat) (x : Transfer) : State := s.mapCmd n counter (fun c => { c with xfer := some x })

/-- End a MOVE, with those ignored behind it (R368). -/
def State.endMove (s : State) (n counter : Nat) (ignores : Nat) : State :=
  let f : Final := if ignores > 0 then ⟨St.rearm, none, ignores, 0⟩ else ⟨St.done, none, 0, 0⟩
  (s.finish n counter f.status f.position f.detail f.aux).endIgnored n counter f

/-- Start a descriptor from a snapshot (R354, R359, R363, R367): where no context is free a long one waits. -/
def State.startDesc (s : State) (n : Nat) (c : Cmd) (read : HostRead) : State :=
  let iova := field c.desc 16 8
  let len := field c.desc 24 4
  let ig := (c.xfer.map (·.ignores)).getD 0
  match hostStop s.windows n false iova len read.missingAt read.poisonAt with
  | some x => s.stopAt n c.counter 0 0 x
  | none =>
    let d := padTo len read.bytes
    let short := descShort d
    if (if short then decide (s.shortInFlight ≥ shortSlots) else decide (s.contextsBusy ≥ hostContexts)) then
      match c.xfer with
      | some x => if !x.rearm && x.desc.isEmpty then s else s.setXfer n c.counter { x with rearm := false, order := s.waitNext }
      | none => { s.setXfer n c.counter { Transfer.blank ig with order := s.waitNext } with waitNext := s.waitNext + 1 }
    else match descFault d false <|> tierFault d with
      | some aux => (s.reject n c.counter Chk.descriptor aux).endIgnored n c.counter ⟨St.check, none, Chk.descriptor, aux⟩
      | none =>
        let s := if short then s.bump Obj.shortPathMoves else s
        s.setXfer n c.counter { Transfer.blank ig with desc := d, context := !short, map := s.windows }

/-- A MOVE that has started (R368): it runs its descriptor, sets it pending, or is ignored. -/
def State.runMove (s : State) (n : Nat) (c : Cmd) (read : HostRead) : State :=
  let others := s.movesNaming (field c.desc 16 8)
  if others.isEmpty then s.startDesc n c read
  else match others.find? (fun e => (e.2.xfer.map (·.rearm)).getD false) with
    | none => (s.setXfer n c.counter { Transfer.blank 0 with rearm := true }).bump Obj.rearms
    | some p =>
      let s := (s.setXfer n c.counter { Transfer.blank 0 with ignored := some (p.1, p.2.counter) }).bump Obj.rearmsIgnored
      s.mapCmd p.1 p.2.counter (fun k => { k with xfer := k.xfer.map (fun x => { x with ignores := x.ignores + 1 }) })

/-- MOVE (R353): `descriptor` is what the read of the descriptor found. -/
def execMove (ring : RingId) (descriptor : HostRead) (s : State) : Out :=
  let n := ring.val
  .next (match (s.ring n).cmds.find? (fun c => c.op == 9 && c.phase == .active && c.xfer.isNone && c.final.isNone) with
    | some c => if s.waitsPage n c.counter then s else s.runMove n c descriptor
    | none => match s.startCmd n 9 with
      | (some c, s) => s.runMove n c descriptor
      | (none, s) => s)

/-- Waiting for a context, and since when. -/
def Cmd.waitsContext (c : Cmd) : Option Nat :=
  if c.op == 9 && c.phase == .active && c.final.isNone then
    (match c.xfer with
      | some x => if x.desc.isEmpty && !x.rearm && x.ignored.isNone then some x.order else none
      | none => none)
  else none

/-- MOVER_START (R359): the MOVE of the ring that has waited longest for a context, when none of another ring has waited
longer. -/
def execMoverStart (ring : RingId) (descriptor : HostRead) (s : State) : Out :=
  let n := ring.val
  .next (match (s.ring n).cmds.find? (fun c => c.waitsContext.isSome) with
    | none => s
    | some c =>
      let mine := c.waitsContext.getD 0
      if s.waitsPage n c.counter || s.rings.any (fun e => e.2.cmds.any (fun k => match k.waitsContext with
        | some o => decide (o < mine)
        | none => false)) then s
      else s.startDesc n c descriptor)

/-- REARM_RUN (R368): the earlier run of the descriptor has ended. -/
def execRearmRun (ring : RingId) (descriptor : HostRead) (s : State) : Out :=
  let n := ring.val
  .next (match (s.ring n).cmds.find? (fun c => c.op == 9 && c.phase == .active && c.final.isNone &&
      ((c.xfer.map (·.rearm)).getD false)) with
    | none => s
    | some c =>
      if s.waitsPage n c.counter || (s.movesNaming (field c.desc 16 8)).any (fun e => !(e.1 == n && e.2.counter == c.counter)) then s
      else s.startDesc n c descriptor)

/-! ### TRANSFER_DONE (R361, R364, R366, R496) -/

/-- Tell running transfers into the same space that one has written where they are to write (R356). -/
def State.spreadClash (s : State) (n counter : Nat) (d : Bytes) : State :=
  let own := sideRuns d true
  { s with rings := s.rings.mapV (fun m r => { r with cmds := r.cmds.map (fun c =>
      if c.moving && !(m == n && c.counter == counter) then
        { c with xfer := c.xfer.map (fun x =>
          if descSpace x.desc true == descSpace d true then
            { x with clash := x.clash ++ own.filter (fun q => (sideRuns x.desc true).any (fun z => overlaps q.1 q.2 z.1 z.2)) }
          else x) }
      else c) }) }

/-- The lines of planes that a transfer reads, repaired where a plan's shadow has them (R462). -/
def State.repairSource (s : State) (d : Bytes) : State :=
  if descSpace d false == 1 then (sideRuns d false).foldl (fun s r => s.repair r.1 r.2) s else s

/-- The end of a MOVE's transfer, or its stop. -/
def State.moveDone (s : State) (n : Nat) (c : Cmd) (x : Transfer) (data : HostRead) : State :=
  let len := descLength x.desc
  let s := s.repairSource x.desc
  match s.moveStop x.map n x.desc x.next data with
  | some st =>
    let s := s.copy x.desc x.clash data x.next st.byte 0 0 0
    let s := s.setXfer n c.counter { x with next := st.byte }
    s.stopAt n c.counter st.byte st.space (st.addr, st.why)
  | none =>
    let s := s.copy x.desc x.clash data x.next len 0 0 0
    let s := (s.countMerges len).spreadClash n c.counter x.desc
    (s.setXfer n c.counter { x with next := len, context := false }).endMove n c.counter x.ignores

/-- The end of a CHECKPOINT's host copy, or its stop (R364, R496). -/
def State.checkpointDone (s : State) (n : Nat) (c : Cmd) (x : Transfer) (data : HostRead) : State :=
  let dest := field c.desc 16 8
  let len := x.desc.length
  match hostStop x.map n true (dest + x.next) (len - x.next) ((data.missingAt.filter (fun m => decide (x.next ≤ m))).map (· - x.next)) none with
  | some st =>
    let at' := st.1 - dest
    let s := s.hostWrite (dest + x.next) (slice x.desc x.next (at' - x.next))
    (s.setXfer n c.counter { x with next := at' }).stopAt n c.counter at' 0 st
  | none =>
    let s := s.hostWrite (dest + x.next) (x.desc.drop x.next)
    if x.noPartner then s.reject n c.counter Chk.partner 0xFF else s.finishDone n c.counter

/-- TRANSFER_DONE (R361): the oldest running transfer of the ring. `data` holds what its reads of host memory found, by byte
of the transfer, and the byte at which host memory lacks a translation on either side. -/
def execTransferDone (ring : RingId) (data : HostRead) (s : State) : Out :=
  let n := ring.val
  .next (match (s.ring n).cmds.find? (fun c => (c.op == 9 || c.op == 8) && c.phase == .active && c.final.isNone &&
      ((c.xfer.map (fun x => !x.desc.isEmpty)).getD false) && !s.waitsPage n c.counter) with
    | none => s
    | some c => match c.xfer with
      | none => s
      | some x => if c.op == 9 then s.moveDone n c x data else s.checkpointDone n c x data)

/-! ### Descriptors of a plan, run by a chunk's stages (R359, R365, R366) -/

/-- How far the joints of a transfer let it go from byte `lo` on (R360, R370): to the words present in its source joint, and to those for
which its destination joints have room; with the joint it waits at. -/
def State.jointReach (s : State) (d : Bytes) (plan lo hi : Nat) : Nat × Option Nat :=
  let keys := s.linkJoints plan (field d 40 2)
  let words := ceilDiv (hi - lo) 8
  let source := match (if descSpace d false == 4 then keys.head? else none) with
    | some k => [((s.takeJoint k words).1.length, k)]
    | none => []
  let room := (if descSpace d true == 4 then keys else []).map (fun k => (if s.jointTakes k 0 then s.jointFree k else 0, k))
  match (source ++ room).find? (fun e => decide (e.1 < words) && (source ++ room).all (fun q => decide (e.1 ≤ q.1))) with
  | none => (hi, none)
  | some e => (lo + 8 * e.1, some e.2)

/-- Why the descriptors of a chunk's stages stand still: a stop, or a joint that one of them waits at, with the byte it has reached. -/
inductive PlanStop where
  | halt (at' : MoveStop)
  | wait (joint byte : Nat)
deriving DecidableEq, Repr

/-- Run the descriptors of a plan that a chunk's stages ran, from where they stand; it stops where one of them does, and waits where its
joints let it go no further (R360). -/
def State.planMoves (s : State) (n : Nat) (c : Cmd) (im : Bytes) (plan : Nat) (map : List Nat) :
    Nat → Nat → List PlanMove → State × Option (PlanStop × Nat)
  | _, _, [] => (s, none)
  | k, next, m :: ms =>
    match (planDescs im)[m.index]? with
    | none => s.planMoves n c im plan map (k + 1) 0 ms
    | some e =>
      let s := s.repairSource e.2
      let stop := s.moveStop map n e.2 next m.data
      let upto := (stop.map (·.byte)).getD (descLength e.2)
      let reach := s.jointReach e.2 plan next upto
      let t := s.copy e.2 [] m.data next reach.1 plan n c.counter
      match reach.2, stop with
      | some key, _ => (t, some (.wait key reach.1, k))
      | none, some st => (t, some (.halt st, k))
      | none, none => t.planMoves n c im plan map (k + 1) 0 ms

end Sys2Proof.Machine
end

