-- ==== Sys2Proof/Machine/Loads.lean ====
section
/-! DEFINITION. LOAD: plans, gather tables, curves and brick code (R82, R213, R214, R247, R248, R259, R347-R352, R389, R430,
R512). -/

namespace Sys2Proof.Machine

/-- KIND, SLOT, IMAGE and LENGTH of a LOAD (R143). -/
def loadKind (d : Bytes) : Nat := field d 16 1
def loadSlot (d : Bytes) : Nat := field d 18 2
def loadLength (d : Bytes) : Nat := field d 32 8

/-! ### Fencing a brick (R17, R349) -/

/-- Fence a brick for the rest of the boot: it is absent. -/
def State.fenceBrick (s : State) (k : Nat) : State :=
  let s := s.setBrick k { code := 255, fenced := true }
  if bit (s.rd Obj.brickPresent) k then
    ((s.wr Obj.brickPresent (setBit (s.rd Obj.brickPresent) k false)).lower Obj.bricksEnabled 1).noteShort
  else s

/-! ### Plans (R389) -/

/-- Slots of plans to which a stream is bound. -/
def State.boundPlans (s : State) : List Nat := (s.plans.map (·.1)).filter (fun p => s.rd (Obj.planBoundStreams p) != 0)

/-- Bricks that receive an image of a plan, with the image (R389). -/
def planDeliveries (im : Bytes) : List (Nat × Nat × Bytes) :=
  ((planBonds im).filter (fun b => b.kind == 1)).filterMap (fun b =>
    ((planBrickImages im).find? (fun e => e.1 == b.slot)).map (fun e => (b.unit, b.slot, e.2.1)))

/-- A plan names a library slot that holds no curve once its own curves are placed (R213). -/
def State.curveMissing (s : State) (im : Bytes) : Bool :=
  (List.range 96).any (fun t => (List.range 16).any (fun k =>
    match Config.tileCurve im t k with
    | none => false
    | some c => !bit (s.rd Obj.loadedMap) c && !(planCurves im).any (fun e => e.1 == c)))

/-! ### Refusals that rest on what the manual gives no place for in the image (assumption 20) -/

/-- Uses of a region of a tile's buffer in a stage: those of the bond map, and the expanded buffers of the stage's records (R160, R263). -/
def regionUses (im : Bytes) (stage tile region : Nat) : Nat :=
  let conv := ((planLayers im).filter (fun l => isConv l && l.stage == stage)).any (fun l =>
    let r := slice im l.body 64
    decide (field r 48 1 ≤ region) && decide (region < field r 48 1 + field r 49 1))
  Config.regionUse im stage tile region ||| (if conv then 2 else 0)

/-- Whether a stage gives a region of a tile two uses, or the scale store of a tile more than 16 regions (R160). -/
def regionsClash (im : Bytes) : Bool :=
  (planBonds im).any (fun b => b.kind == 0 &&
    (let us := (List.range 128).map (regionUses im b.stage b.unit)
     us.any (fun u => decide (1 < ((List.range 4).filter (bit u)).length)) || decide (16 < (us.filter (fun u => bit u 3)).length)))

/-- Whether chunks [lo, hi) of a reduction of `n` chunks are a subtree of its combining tree (R179). -/
def subtree (n lo hi : Nat) : Bool :=
  decide (lo < hi) && (List.range 17).any (fun j => lo % 2 ^ j == 0 && hi == Nat.min (lo + 2 ^ j) n)

/-- Whether a division among units is one that R179 and R221 allow: 1 to 16 tiles, a reduction of 16,777,216 elements at most, and either
column ranges that are multiples of 256 or subtrees. -/
def splitOk (x : Config.Split) : Bool :=
  decide (1 ≤ x.tiles.length) && decide (x.tiles.length ≤ 16) && decide (x.chunks ≤ 65536) && (x.columns.isEmpty || x.ranges.isEmpty) &&
  x.columns.all (fun c => c.1 % 256 == 0 && c.2 % 256 == 0) && x.ranges.all (fun r => subtree x.chunks r.1 r.2)

/-- Whether the bond map divides a matrix as R221 does not allow, or places a layer across two groups. -/
def splitsFault (im : Bytes) : Bool :=
  let xs := Config.planSplits im
  xs.any (fun x => !splitOk x) ||
  xs.any (fun x => xs.any (fun y => x.tiles != y.tiles && (x.layer == y.layer || x.tiles.any (fun t => y.tiles.contains t))))

/-- Whether keys or values of a plan are held in another format than FP8 E4M3 or E5M2 (R226). -/
def kvFormatFault (im : Bytes) : Bool :=
  let bad (tensor : Nat) : Bool := match planTensor im tensor with
    | some r => r.format != 4 && r.format != 5
    | none => true
  (Config.tokenProgram im).any (fun o => match o with
    | .kv _ _ k v _ _ => bad k || bad v
    | _ => false)

/-- A refusal at LOAD for which the image has no field (R160, R166, R179, R213, R221, R226). -/
def State.hiddenFault (s : State) (im : Bytes) : Bool :=
  s.curveMissing im || regionsClash im || (List.range 8).any (Config.scalesElsewhere im) || splitsFault im || kvFormatFault im

/-- Bytes of the first 126 MiB of a plane outside plane windows that hold WRITE (R450, R512). -/
def State.planeOpen (s : State) (t : Nat) : Nat :=
  let lo := t * planeSize
  let hi := lo + 0x7E00000
  let ws := ((s.windows.filter (fun w => winSpace w == 1 && bit (winRights w) 1)).map (fun w =>
    (Nat.max lo (winBase w), Nat.min hi (winLimit w + 1)))).filter (fun r => decide (r.1 < r.2))
  let edges := dedup (ws.flatMap (fun r => [r.1, r.2]))
  let next (a : Nat) : Nat := (edges.filter (fun e => decide (a < e))).foldl Nat.min hi
  (hi - lo) - sumN (edges.map (fun a => if ws.any (fun r => decide (r.1 ≤ a) && decide (a < r.2)) then next a - a else 0))

/-- Whether a plan fits its planes beside what they hold, and its shadow the device pool (R389, R302, R258, R462). -/
def State.planFits (s : State) (slot : Nat) (im : Bytes) : Bool :=
  decide (planShadowBytes im ≤ s.poolFree + planShadowBytes (s.planImage slot)) &&
  (List.range 96).all (fun t =>
    let own := planPlaneBytes im t + planBed im
    own == 0 || !s.tileOn t ||
    (let others := sumN ((s.plansHeld (some slot)).map (fun im => planPlaneBytes im t + planBed im))
     decide (own + others + s.rd Obj.rowCacheBytes / 16 + s.planeShare (s.rd Obj.statePlaneBudget) ≤ s.planeOpen t)))

/-- The first check of R389 a plan fails: check code, AUX, and the image offset reported. -/
def State.planCheck (s : State) (slot : Nat) (im : Bytes) (length : Nat) : Option (Nat × Nat × Option Nat) :=
  let bonds := planBonds im
  let absent := bonds.find? (fun b =>
    !(if b.kind == 0 then s.tileOn b.unit else if b.kind == 1 then s.brickOn b.unit else s.gatherOn b.unit))
  let inUse := ((s.boundPlans.filter (· != slot)).flatMap (fun p => planBricks (s.planImage p)))
  let clash := bonds.find? (fun b => b.kind == 1 && (planBrickImages im).any (fun e => e.1 == b.slot) && inUse.contains b.unit)
  match planInvalidAt im length with
  | some o => some (Chk.planInvalid, 0xFF, some o)
  | none =>
    if s.hiddenFault im then some (Chk.planInvalid, 0xFF, some (Config.freeWord s.free).toNat)
    else match planStageParam im with
    | some f => some (Chk.stageParam, f.1, some f.2)
    | none => match absent with
      | some b => some (Chk.absentUnit, 0xFF, some (b.pos + 4))
      | none => match planBrickFault im with
        | some o => some (Chk.brickCode, 0xFF, some o)
        | none => match clash with
          | some b => some (Chk.bricksInUse, 0xFF, some (b.pos + 4))
          | none => if s.planFits slot im then none else some (Chk.planFit, 0xFF, none)

/-- The progress record of a running LOAD counts the image bytes read; that of brick code counts bytes delivered, and stands still until
they are (R82, R247, R352, R389). -/
def State.loadReached (s : State) (l : Load) (bytes : Nat) : State :=
  match loadProgress l.kind l.slot with
  | some i => if l.kind == 3 then s else s.wr (Obj.progPosition i) bytes
  | none => s

/-- A run of a LOAD begins: what it is to fill is emptied, the region of a table is taken, and its record kept (R82, R247, R349, R365,
R389). -/
def State.startRun (s : State) (n : Nat) (c : Cmd) (head image : Bytes) : State :=
  let kind := loadKind c.desc
  let slot := loadSlot c.desc
  let first := field c.desc 40 2
  let count := field c.desc 42 2
  let s := if kind == 2 then s else s.emptySlot kind slot first count
  let s := if kind == 0 then (planDeliveries image).foldl (fun s e => s.emptyBrick e.1) s else s
  let s := if kind == 1 then { s with rowCache := s.rowCache.mapV (fun _ es => es.filter (fun e => e.1 != slot)) } else s
  let head := if kind == 1 then head.take 64 else []
  let place := if kind != 1 then (0, s) else if tableInPlace head then (field head 24 8, s)
    else s.choosePool (field head 16 1) (tableBytes head)
  let l : Load := { ring := n, counter := c.counter, kind := kind, slot := slot, first := first, count := count, image := image
                    head := head, base := place.1 }
  let s := { place.2 with loads := place.2.loads ++ [l] }
  let s := match loadProgress kind slot with
    | none => s
    | some i => s.progStart i (if kind == 3 then loadLength c.desc * count else loadLength c.desc)
  let s := if image.isEmpty then s else s.loadReached l (loadLength c.desc)
  if kind == 3 then (s.wr Obj.loadFirst first).wr Obj.loadCount count else s

/-- The image of a LOAD has been read whole. -/
def State.imageRead (s : State) (n counter : Nat) (image : Bytes) : State :=
  let s := match s.loads.find? (fun l => l.ring == n && l.counter == counter) with
    | some l => s.loadReached l image.length
    | none => s
  { s with loads := s.loads.map (fun l => if l.ring == n && l.counter == counter then { l with image := image } else l) }

/-- The LOAD of a kind whose turn has come: one that has started and whose image is not read, or the next to start. -/
def State.loadTurn (s : State) (n kind : Nat) : Option Cmd × State :=
  match (s.ring n).cmds.find? (fun c => c.op == 10 && loadKind c.desc == kind && c.phase == .active && c.final.isNone &&
      !s.loads.any (fun l => l.ring == n && l.counter == c.counter && !l.image.isEmpty)) with
  | some c => if s.waitsPage n c.counter then (none, s) else (some c, s)
  | none =>
    match s.startable n 10 with
    | some c =>
      if loadKind c.desc == kind then
        match s.startCmd n 10 with
        | (some c, s) => (some c, s.setXfer n c.counter { Transfer.blank 0 with map := s.windows })
        | r => r
      else (none, s)
    | none => (none, s)

/-- Whether a LOAD's run has begun. -/
def State.loadRunning (s : State) (n counter : Nat) : Bool := s.loads.any (fun l => l.ring == n && l.counter == counter)

/-- The first byte of a LOAD's image that cannot be read, with what stops it (R364, R366, R514). -/
def imageStop (n : Nat) (c : Cmd) (map : List Nat) (read : HostRead) : Option (Nat × Nat × Stop) :=
  (hostStop map n false (field c.desc 24 8) (loadLength c.desc) read.missingAt read.poisonAt).map
    (fun x => (x.1 - field c.desc 24 8, x))

/-- Stop a LOAD at a byte of its image. -/
def State.stopImage (s : State) (n : Nat) (c : Cmd) (x : Nat × Nat × Stop) : State :=
  let s := match s.loads.find? (fun l => l.ring == n && l.counter == c.counter) with
    | some l => s.loadReached l x.1
    | none => s
  (s.mapCmd n c.counter (fun k => { k with xfer := k.xfer.map (fun t => { t with next := x.1 }) })).stopAt n c.counter x.1 0 x.2

/-- The map a LOAD's image is read under: that of its start, or of its resumption (R513, R514). -/
def State.imageMap (s : State) (n counter : Nat) : List Nat := (((s.cmd n counter).bind (·.xfer)).map (·.map)).getD s.windows

/-- LOAD_PLAN (R389): `image` is what the read of the image found. -/
def execLoadPlan (ring : RingId) (image : HostRead) (s : State) : Out :=
  let n := ring.val
  .next (match s.loadTurn n 0 with
    | (none, s) => s
    | (some c, s) =>
      let slot := loadSlot c.desc
      if s.rd (Obj.planBoundStreams slot) != 0 then s.reject n c.counter Chk.planInUse 0xFF
      else match imageStop n c (s.imageMap n c.counter) image with
        | some x => s.stopImage n c x
        | none =>
          let im := padTo (loadLength c.desc) image.bytes
          match s.planCheck slot im (loadLength c.desc) with
          | some f =>
            let s := match f.2.2 with
              | some o => { s.wr Obj.planErrorOffset o with free := s.free + 1 }
              | none => s
            s.reject n c.counter f.1 f.2.1
          | none => s.startRun n c [] im)

/-! ### Gather tables (R246-R248, R259) -/

/-- Whether a plan names a table slot (R245, R256, R239). -/
def planNamesTable (im : Bytes) (slot : Nat) : Bool :=
  (Config.planTables im).contains slot || Config.planAttr im .voiceTable == slot + 1 || Config.planAttr im .codebook == slot + 1

/-- Whether a bound stream's plan names a table slot (R248). -/
def State.tableInUse (s : State) (slot : Nat) : Bool := s.boundPlans.any (fun p => planNamesTable (s.planImage p) slot)

/-- Room for a table's region in its tier, and for its pinned rows (R247, R259). -/
def State.tableRoom (s : State) (slot : Nat) (h : Bytes) : Bool :=
  let size := tableBytes h
  let region := tableInPlace h || decide (size ≤ (if field h 16 1 == 1 then s.poolFree else s.cxlFree))
  let mine := match s.tables.find slot with
    | some t => if tablePin t.header then tableBytes t.header else 0
    | none => 0
  let pinned := s.pinnedSoon - mine
  region && (!tablePin h || decide (2 * (pinned + size) ≤ s.cacheActive (s.rd Obj.rowCacheBytes)))

/-- LOAD_TABLE (R247). -/
def execLoadTable (ring : RingId) (image : HostRead) (s : State) : Out :=
  let n := ring.val
  .next (match s.loadTurn n 1 with
    | (none, s) => s
    | (some c, s) =>
      let slot := loadSlot c.desc
      let im := padTo (loadLength c.desc) image.bytes
      let h := im.take 64
      let stop := imageStop n c (s.imageMap n c.counter) image
      let cut (t : State) : State := match stop with
        | some x => t.stopImage n c x
        | none => t.imageRead n c.counter im
      if s.loadRunning n c.counter then cut s
      else if s.tableInUse slot then s.reject n c.counter Chk.tableInUse 0xFF
      else if loadLength c.desc < 64 then s.reject n c.counter Chk.reservedField 0xFF
      else match stop.filter (fun x => decide (x.1 < 64)) with
        | some x => s.stopImage n c x
        | none =>
          if !tableHeaderOk h (loadLength c.desc) then s.reject n c.counter Chk.reservedField 0xFF
          else if !s.tableRoom slot h then s.reject n c.counter Chk.admission 0xFF
          else cut (s.startRun n c h []))

/-! ### Curves (R213, R214) -/

/-- LOAD_CURVE (R214). -/
def execLoadCurve (ring : RingId) (image : HostRead) (s : State) : Out :=
  let n := ring.val
  .next (match s.loadTurn n 2 with
    | (none, s) => s
    | (some c, s) =>
      if loadLength c.desc != 800 then s.reject n c.counter Chk.curve 32
      else match imageStop n c (s.imageMap n c.counter) image with
        | some x => s.stopImage n c x
        | none =>
          let im := padTo 800 image.bytes
          if (curveFault im).isSome then s.reject n c.counter Chk.curve 0xFF else s.startRun n c [] im)

/-! ### Brick code (R348, R349) -/

/-- Check 1 and 3 of R348 for the targets of a LOAD. -/
def State.targetsOk (s : State) (first count : Nat) : Bool :=
  decide (1 ≤ count) && decide (first + count ≤ 3072) && (List.range count).all (fun i => s.brickOn (first + i))
def State.targetsBound (s : State) (first count : Nat) : Bool :=
  s.boundPlans.any (fun p => (planBricks (s.planImage p)).any (fun b => decide (first ≤ b) && decide (b < first + count)))

/-- LOAD_BRICK_CODE (R348). -/
def execLoadBrickCode (ring : RingId) (image : HostRead) (s : State) : Out :=
  let n := ring.val
  .next (match s.loadTurn n 3 with
    | (none, s) => s
    | (some c, s) =>
      let first := field c.desc 40 2
      let count := field c.desc 42 2
      let len := loadLength c.desc
      let im := padTo len image.bytes
      let stop := imageStop n c (s.imageMap n c.counter) image
      let cut (t : State) : State := match stop with
        | some x => t.stopImage n c x
        | none => t.imageRead n c.counter im
      if s.loadRunning n c.counter then cut s
      else if !s.targetsOk first count then s.reject n c.counter Chk.absentUnit 40
      else if len < 64 || len > 196608 then s.reject n c.counter Chk.brickCode 32
      else match stop.filter (fun x => decide (x.1 < 64)) with
        | some x => s.stopImage n c x
        | none =>
          if len != brickImageLength im then s.reject n c.counter Chk.brickCode 32
          else match brickImageFault im with
            | some o => (s.wr Obj.brickErrorOffset o).reject n c.counter Chk.brickCode 0xFF
            | none =>
              if s.targetsBound first count then s.reject n c.counter Chk.bricksInUse 40
              else cut (s.startRun n c [] []))

/-! ### LOAD_DONE (R82, R247, R349, R389, R430) -/

/-- A brick that has received an image starts at ENTRY (R316, R349). -/
def freshBrick (slot : Nat) (im : Bytes) : Brick :=
  let code := field im 8 4
  let mem := Memory.writeBytes [] 0 (slice im 64 code)
  { code := slot, run := true, pc := field im 12 4
    mem := mem.writeBytes (field im 16 4) (slice im (64 + code) (field im 20 4))
    codeBytes := code, portsIn := field im 24 1, portsOut := field im 25 1 }

/-- Deliver images to bricks: those that fail are fenced (R349). -/
def State.deliverBricks (s : State) (targets : List (Nat × Nat × Bytes)) (resent : Nat) (failed : List Nat) : State :=
  let s := s.bump Obj.loadResentPackets resent
  targets.foldl (fun s e =>
    if failed.contains e.1 then (s.fenceBrick e.1).bump Obj.loadFenced else s.setBrick e.1 (freshBrick e.2.1 e.2.2)) s

/-- Take a plan's area in each tile's plane, and its shadow (R384, R450, R462). -/
def State.placeAreas (s : State) (slot : Nat) (im : Bytes) (program : List TileOp) (tokens : List TokenOp) : State :=
  let sh := if planShadowBytes im == 0 then (0, s) else s.choosePool 1 (planShadowBytes im)
  let s := sh.2
  let p : Plan := { image := im, digest := ofBE (sha256 im), program := program, tokens := tokens, shadow := sh.1 }
  (List.range 96).foldl (fun s t =>
    let own := (s.plans.find slot).getD p
    if planPlaneBytes im t == 0 then s
    else
      let a := s.choosePlane t (planPlaneBytes im t)
      { a.2 with plans := a.2.plans.put slot { own with areas := own.areas.put t a.1 } }) { s with plans := s.plans.put slot p }

/-- Place a plan's weights in its areas, and in its shadow (R384, R389, R462). -/
def State.placeWeights (s : State) (slot : Nat) (im : Bytes) : State :=
  let p := (s.plans.find slot).getD { image := im, digest := 0 }
  let base := ((planSect im 5).map (·.off)).getD 0
  (sectItems im 5 16).foldl (fun s o =>
    let tile := field im o 1
    let bs := slice im (base + field im (o + 8) 4) (field im (o + 12) 4)
    (s.devWrite (p.areas.getD tile 0 + field im (o + 4) 4) bs).devWrite (p.shadow + planShadowAt im tile + field im (o + 4) 4) bs) s

/-- A plan comes into force: its contents, its objects, its curves and its cost record (R389, R393, R430). -/
def State.placePlan (s : State) (slot : Nat) (im : Bytes) : State :=
  let digest := sha256 im
  let s := (s.placeAreas slot im (Config.chunkProgram im) (Config.tokenProgram im)).placeWeights slot im
  let s := (planCurves im).foldl (fun s e =>
    { s.wr Obj.loadedMap (setBit (s.rd Obj.loadedMap) e.1 true) with curves := s.curves.put e.1 e.2.1 }) s
  [(Obj.planLoaded slot, 1), (Obj.planDigest slot, ofLE digest), (Obj.planRateHz slot, planRate im),
   (Obj.planStages slot, planStages im), (Obj.planLabel slot, planLabel im),
   (Obj.costStepFrames slot, Nat.max 1 (Config.planCost im 1)), (Obj.costTileCycles slot, Config.planCost im 2),
   (Obj.costFeedLines slot, Config.planCost im 3), (Obj.costGddr7Bytes slot, Config.planCost im 4),
   (Obj.costBrickCycles slot, Config.planCost im 5), (Obj.costKvLines slot, Config.planCost im 6),
   (Obj.costKvBytes slot, Config.planCost im 7), (Obj.costBatch slot, Config.planCost im 8)].foldl
    (fun s e => s.wr e.1 (Nat.min e.2 (maxOf e.1))) s

/-- A table comes into force (R247, R262); rows that came with the image lie from `base` on. -/
def State.placeTable (s : State) (slot base : Nat) (im : Bytes) : State :=
  let h := im.take 64
  let s := if tableInPlace h then s else s.devWrite base (slice im 64 (tableBytes h))
  let t : Table := { header := h, tier := field h 16 1, base := base }
  let s := { s with tables := s.tables.put slot t }
  let s := [(Obj.tableLoaded slot, 1), (Obj.tableFormat slot, tableFormatOf h), (Obj.tableRowBytes slot, tableRowLen h),
    (Obj.tableRows slot, tableRowCount h), (Obj.tableTier slot, field h 16 1), (Obj.tableBase slot, base),
    (Obj.tableLabel slot, field h 40 8), (Obj.tablePinned slot, b2n (tablePin h))].foldl (fun s e => s.wr e.1 e.2) s
  s.wr Obj.pinBytes s.pinnedBytes

/-- End a LOAD whose delivery fenced bricks (R349). -/
def State.loadFault (s : State) (n : Nat) (l : Load) : State :=
  let s := match loadProgress l.kind l.slot with
    | none => s
    | some i => s.progFail i Abort.hardware
  s.deviceFault n l.counter Obj.loadFenced

/-- What a LOAD leaves, and its final entry. -/
def State.endRun (s : State) (n : Nat) (l : Load) (rounds resent : Nat) (failed : List Nat) : State :=
  let s := { s with loads := s.loads.filter (fun x => !(x.ring == n && x.counter == l.counter)) }
  let targets := if l.kind == 0 then planDeliveries l.image
    else if l.kind == 3 then (List.range l.count).map (fun i => (l.first + i, l.slot, l.image)) else []
  let failed := (dedup failed).filter (fun k => targets.any (fun e => e.1 == k))
  let s := if targets.isEmpty then s else s.deliverBricks targets resent failed
  let s := if l.kind == 3 then
      ((s.wr Obj.resendRounds (Nat.min rounds 3)).wr Obj.loadFencedLast failed.length).wr Obj.lastDigest (ofLE (sha256 l.image))
    else s
  if !failed.isEmpty then s.loadFault n l
  else
    let s := if l.kind == 0 then s.placePlan l.slot l.image
      else if l.kind == 1 then s.placeTable l.slot l.base l.image
      else if l.kind == 2 then
        { s.wr Obj.loadedMap (setBit (s.rd Obj.loadedMap) l.slot true) with curves := s.curves.put l.slot l.image }
      else s
    let s := match loadProgress l.kind l.slot with
      | none => s
      | some i => s.progDone i
    s.finishDone n l.counter

/-- LOAD_DONE (R389): the LOAD at the head of its ring, its image read, finishes; its contents come into force with its final
entry. `rounds`, `resent` and `failed` are what the delivery to bricks took. -/
def execLoadDone (ring : RingId) (rounds resent : Nat) (failed : List BrickId) (s : State) : Out :=
  let n := ring.val
  .next (match (s.ring n).cmds.head? with
    | none => s
    | some c =>
      if c.op != 10 || c.phase != .active then s
      else match s.loads.find? (fun l => l.ring == n && l.counter == c.counter && !l.image.isEmpty) with
        | none => s
        | some l => s.endRun n l rounds resent (failed.map (·.val)))

end Sys2Proof.Machine
end

