-- ==== Sys2Proof/Machine/BrickAcc.lean ====
section
/-! DEFINITION. Accumulator instructions of bricks (R338-R341). -/

namespace Sys2Proof.Machine

/-- Combine a chunk sum of a size with the stack (R338). -/
def popEqual : Nat → F32 → List (Nat × F32) → List (Nat × F32)
  | n, c, [] => [(n, c)]
  | n, c, (m, v) :: st => if m = n then popEqual (2 * n) (fadd v c) st else (n, c) :: (m, v) :: st

/-- Close the chunk of a lane (R338). -/
def AccLane.closeChunk (l : AccLane) : AccLane := { sum := {}, count := 0, stack := popEqual 1 l.sum.round l.stack }

/-- One element into a float-mode lane (R338). -/
def AccLane.take (l : AccLane) (x : Fv) : AccLane :=
  let l := if l.count == 256 then l.closeChunk else l
  { l with sum := l.sum.add x, count := l.count + 1 }

/-- NaNs that combining a chunk sum with the stack brings forth (R171). -/
def popNans : Nat → F32 → List (Nat × F32) → Nat
  | _, _, [] => 0
  | n, c, (m, v) :: st => if m = n then nanNew (fadd v c) [v, c] + popNans (2 * n) (fadd v c) st else 0

/-- NaNs the close of a lane's chunk brings forth: infinities of both signs in the chunk, or in a combination (R171). -/
def AccLane.nanAtClose (l : AccLane) : Nat := b2n (isNan l.sum.round && !l.sum.nan) + popNans 1 l.sum.round l.stack

/-- Elements into a float-mode lane, with the NaNs that the chunks they close bring forth (R171, R338). -/
def AccLane.takeAll (l : AccLane) (xs : List Fv) : AccLane × Nat :=
  xs.foldl (fun p x => (p.1.take x, p.2 + (if p.1.count == 256 then p.1.nanAtClose else 0))) (l, 0)

/-- The result of a float-mode lane (R338). -/
def AccLane.fin (l : AccLane) : F32 :=
  let l := if l.count > 0 then l.closeChunk else l
  match l.stack with
  | [] => 0#32
  | t :: st => st.foldl (fun r e => fadd e.2 r) t.2

/-- Elements into an integer-mode lane; none past 32,768 since its clear (R339). -/
def AccLane.takeInt (l : AccLane) (xs : List Int) : Option AccLane :=
  if l.count + xs.length > 32768 then none
  else some { l with sum := { l.sum with val := xs.foldl (· + ·) l.sum.val }, count := l.count + xs.length }

/-- Change every lane, or none when one of them faults. -/
def mapLanes (f : Nat → AccLane → Option AccLane) (ls : List AccLane) : Option (List AccLane) :=
  (List.zip (List.range ls.length) ls).foldr (fun e acc => match acc, f e.1 e.2 with
    | some xs, some x => some (x :: xs)
    | _, _ => none) (some [])

/-- NaNs the result of a lane brings forth: at the close of its last chunk, or in the combinations that follow (R171). -/
def AccLane.nanAtFin (l : AccLane) : Nat :=
  let c := if l.count > 0 then l.closeChunk else l
  (if l.count > 0 then l.nanAtClose else 0) + (match c.stack with
    | [] => 0
    | t :: st => (st.foldl (fun (p : F32 × Nat) e => (fadd e.2 p.1, p.2 + nanNew (fadd e.2 p.1) [e.2, p.1])) (t.2, 0)).2)

/-- Elements per lane of an MV in a format; 0 where the format is not allowed (R340). -/
def mvElements (f : Nat) : Nat := if f == 4 || f == 5 || f == 6 then 16 else if f == 8 || f == 9 then 8 else if f == 0x0A then 1 else 0

/-- Element width of an MV with so many elements a lane (R340). -/
def brickWidth (e : Nat) : Nat := if e == 16 then 8 else if e == 8 then 16 else 32

/-- MV (R340). -/
def execMv (k : BrickId) (d a b c : Field5) (fn : BitVec 6) (s : State) : Out := issue k (.mv k d a b c fn) (let f := fn.toNat % 32
  let e := mvElements f
  legal (accOk d && vecOk b && decide (e ≠ 0) && decide (c.toNat < (if e == 1 then 16 else 4))) fun s0 q =>
    let w := brickWidth e
    let addr := (q.s a).toNat
    let bytes := 2 * w * e
    let acc := q.acc d
    if acc.int != (f == 6) then .fault 6
    else if addr % 64 != 0 || decide (addr + bytes > 262144) then .fault 2
    else if q.bad.any (fun x => addr / 8 ≤ x && x ≤ (addr + bytes - 1) / 8) then .fault 4
    else
      let wts := q.mem.readBytes addr bytes
      let x (i : Nat) : Nat := elemOf w (e * c.toNat + i) (q.v b)
      let wt (j i : Nat) : Nat := field wts ((j * e + i) * w / 8) (w / 8)
      let q := if fn.toNat ≥ 32 then q.setS a (q.s a + BitVec.ofNat 32 bytes) else q
      if f == 6 then
        match mapLanes (fun j l => l.takeInt ((List.range e).map (fun i => intValue 6 (wt j i) * intValue 6 (x i)))) acc.lanes with
        | none => .fault 6
        | some ls => .next s0 (q.setAcc d { acc with lanes := ls })
      else
        let prod (j i : Nat) : Fv := fvMul (elementValue f (wt j i)) (elementValue f (x i))
        let made := sumN ((List.range 16).map (fun j => ((List.range e).filter (fun i =>
          prod j i == .nan && elementValue f (wt j i) != .nan && elementValue f (x i) != .nan)).length))
        let ls := (List.zip (List.range 16) acc.lanes).map (fun p => p.2.takeAll ((List.range e).map (prod p.1)))
        .next (s0.nanProduced (made + sumN (ls.map (·.2)))) (q.setAcc d { acc with lanes := ls.map (·.1) })) s

/-- AZERO (R341). -/
def execAzero (k : BrickId) (d a b c : Field5) (s : State) : Out := issue k (.azero k d a b c) (legal (accOk d && a == 0 && b == 0 && c == 0) fun s0 q => .next s0 (q.setAcc d {})) s

/-- AFIN (R338, R341). -/
def execAfin (k : BrickId) (d a b c : Field5) (s : State) : Out := issue k (.afin k d a b c) (legal (vecOk d && accOk a && b == 0 && c == 0) fun s0 q =>
    let acc := q.acc a
    let r := acc.lanes.map (fun l => if acc.int then BitVec.ofInt 32 l.sum.val else l.fin)
    let made := if acc.int then 0 else sumN (acc.lanes.map AccLane.nanAtFin)
    .next (s0.nanProduced made) ((q.setV d (ofLanes r)).setAcc a { int := acc.int })) s

/-- AADD (R341). -/
def execAadd (k : BrickId) (d a b c : Field5) (s : State) : Out := issue k (.aadd k d a b c) (legal (accOk d && vecOk a && b == 0 && c == 0) fun s0 q =>
    let acc := q.acc d
    if acc.int then .fault 6
    else
      let ls := List.zipWith (fun l x => l.takeAll [f32v x]) acc.lanes (lanesOf (q.v a))
      .next (s0.nanProduced (sumN (ls.map (·.2)))) (q.setAcc d { acc with lanes := ls.map (·.1) })) s

/-- ASUMV (R341). -/
def execAsumv (k : BrickId) (d a b c : Field5) (s : State) : Out := issue k (.asumv k d a b c) (legal (accOk d && vecOk a && b == 0 && c == 0) fun s0 q =>
    let acc := q.acc d
    if acc.int then .fault 6
    else
      let l := (nth {} acc.lanes 0).takeAll ((lanesOf (q.v a)).map f32v)
      .next (s0.nanProduced l.2) (q.setAcc d { acc with lanes := setNth acc.lanes 0 l.1 })) s

/-- Order of an exact sum against an FP32 value (R341); none where either is a NaN, which the manual leaves open. -/
def compareSum (x : XSum) (y : F32) : Option (BitVec 32) :=
  let sum : Option Fv :=
    if x.nan || (x.pos && x.neg) then none
    else if x.pos then some (.inf false) else if x.neg then some (.inf true)
    else some (.fin (decide (x.val < 0)) x.val.natAbs (-298))
  match sum, f32v y with
  | none, _ => none
  | _, .nan => none
  | some v, w => some (if fvLt w v then 1 else if fvLt v w then 0xFFFFFFFF else 0)

/-- ACMP (R341). Where a NaN takes part the result is a free value of the operand, the same in every run (assumption 4, R13). -/
def execAcmp (k : BrickId) (d a b c : Field5) (s : State) : Out := issue k (.acmp k d a b c) (legal (accOk a && c == 0) fun s0 q =>
    let l := nth {} (q.acc a).lanes 0
    if (q.acc a).int || !l.stack.isEmpty then .fault 6
    else .next s0 (q.setS d ((compareSum l.sum (q.s b)).getD (Config.acmpNan (q.s b))))) s

/-- AZEROI (R341). -/
def execAzeroi (k : BrickId) (d a b c : Field5) (s : State) : Out := issue k (.azeroi k d a b c) (legal (accOk d && a == 0 && b == 0 && c == 0) fun s0 q => .next s0 (q.setAcc d { int := true })) s

end Sys2Proof.Machine
end

