-- ==== Sys2Proof/Machine/TileOps.lean ====
section
/-! DEFINITION. The arithmetic of a tile (R161-R187, R191-R198, R207-R211, R241, R263-R285, R310-R311): stored tensors, products in
square and shallow mode, convolution and pooling, scans, feature-map compression, and the steps of a stage program. -/

namespace Sys2Proof.Machine

/-! ### Tensors -/

/-- The zero point of an output column, or of the tensor (R173). -/
def Stored.zp (x : Stored) (column : Nat) : Int :=
  match x.zps with
  | [z] => z
  | zs => nth 0 zs column

/-- The exact value the array takes of a code: less its zero point, times its block scale (R173, R178). -/
def Stored.value (x : Stored) (scale column code : Nat) : Fv :=
  if formatInteger x.format then
    let i := intValue x.format code - x.zp column
    .fin (decide (i < 0)) i.natAbs 0
  else scaledValue x.format scale code

/-- The exact value of an element of a row, with the zero point of an output column. -/
def Stored.fv (x : Stored) (r : TRow) (e column : Nat) : Fv := x.value (nth 0 r.scales (e / 32)) column (nth 0 r.codes e)

/-- The value the vector unit reads (R195): a tiled-scale value with its tensor scale. -/
def Stored.widen (x : Stored) (r : TRow) (e : Nat) : F32 :=
  if formatTiled x.format then fmul (ofFv (x.fv r e 0)) x.scale else ofFv (x.fv r e 0)

/-- Elements a stored row takes in storage: whole blocks for the scaled formats (R175, R191). -/
def storedWidth (fmt width : Nat) : Nat := if formatScaled fmt then roundUp width 32 else width

/-- What a program of a chunk, or of a token, runs under: its plan slot and image, its plane areas, stream, command counter, position,
frames, whether it starts and ends a segment, its reset marks, its feature rows with their positions. -/
structure TileCtx where
  plan    : Nat
  image   : Bytes
  areas   : Map Nat
  stream  : Nat
  chunk   : Nat
  pos     : Nat
  frames  : Nat
  segment : Bool
  fin     : Bool
  marks   : List Nat
  rows    : List (Nat × Bytes)

/-- How a tensor of the plan is held: format, tensor scale, zero points, random sequence where it rounds stochastically (R181-R183,
R193, R202). -/
structure Rule where
  format   : Nat
  scale    : F32
  zps      : List Int
  sequence : Option Nat
deriving DecidableEq, Repr

/-- The zero points of a tensor record: its own, or one for each output column (R173, R385). -/
def planZps (im : Bytes) (r : TensorRec) : List Int :=
  if bit r.flags 2 then
    let off := ((planSect im 9).map (·.off)).getD 0 + r.zpOff
    (List.range r.zpCount).map (fun k => intValue r.format (field im (off + k) 1))
  else [toSigned 16 r.zp]

/-- The rule of a tensor: its record, with its retuned scale; without a record, the format of the layer that writes it. -/
def tensorRule (im : Bytes) (pos : Nat) (x : Stream) (tensor : Nat) : Rule :=
  match planTensor im tensor with
  | some r =>
    let scale := match x.retuned.find? (fun q => q.tensor == tensor) with
      | some q => BitVec.ofNat 32 (q.at' pos)
      | none => r.scale
    ⟨r.format, scale, planZps im r, if bit r.flags 0 then some r.sequence else none⟩
  | none =>
    let rec' := ((planLayers im).map (fun l => slice im l.body 64)).find? (fun q => field q 46 2 == tensor)
    ⟨(rec'.map (fun q => field q 34 1)).getD 0x0A, 0x3F800000, [0], none⟩

/-- Narrow the values of one row, its first element at a logical coordinate of the tensor's random sequence (R181-R183, R196, R208). -/
def Rule.narrow (r : Rule) (fmt seed e0 column : Nat) (vs : List F32) : Narrowed :=
  let modes := (List.range vs.length).map (fun j => match r.sequence with
    | some q => Mode.stoch (randomByte seed (2 ^ 40 * q + (e0 + j) % 2 ^ 40))
    | none => Mode.rne)
  let zp := match r.zps with
    | [z] => z
    | zs => nth 0 zs column
  narrowRow fmt r.scale zp modes vs

/-! ### Storage (R175, R194) -/

/-- The address of a byte of a place, in device memory or in the tile buffers. -/
def placeAt (p : Place) (c : TileCtx) (off : Nat) : Nat :=
  if p.space.val == 1 then c.areas.getD p.tile.val (p.tile.val * planeSize) + off
  else if p.space.val == 4 then p.tile.val * tbufSize + off else off

/-- Read, and write, bytes of a place; a write takes the poison off the lines it covers whole (R461). -/
def State.placeRead (s : State) (c : TileCtx) (p : Place) (off n : Nat) : Bytes :=
  (if p.space.val == 4 then s.tbuf else s.devMem).readBytes (placeAt p c off) n

def State.tbufWrite (s : State) (a : Nat) (bs : Bytes) : State :=
  { s with tbuf := s.tbuf.writeBytes a bs, tbufPoison := cleanLines a bs.length s.tbufPoison }

def State.placeWrite (s : State) (c : TileCtx) (p : Place) (off : Nat) (bs : Bytes) : State :=
  if p.space.val == 4 then s.tbufWrite (placeAt p c off) bs else s.devWrite (placeAt p c off) bs

/-- Position of the first frame of row i of `rows` rows of a chunk. -/
def TileCtx.rowAt (c : TileCtx) (rows i : Nat) : Nat := c.pos + i * (c.frames / Nat.max 1 rows)

/-- A tensor from storage: `rows` rows of `width` elements. -/
def State.fetchTensor (s : State) (c : TileCtx) (r : Rule) (rows width : Nat) (p : Place) : Stored :=
  let w := storedWidth r.format width
  let codes := unpackElems r.format (rows * w) (s.placeRead c p p.elems (ceilDiv (rows * w * formatBits r.format) 8))
  let nb := if formatScaled r.format then w / 32 else 0
  { format := r.format, width := width, scale := r.scale, zps := r.zps
    rows := (List.range rows).map (fun i =>
      ⟨c.rowAt rows i, (codes.drop (i * w)).take w, (s.placeRead c p (p.scales + i * nb) nb).map (·.toNat)⟩) }

/-- A tensor to storage: the elements packed, and one scale byte for each block (R194). -/
def State.storeTensor (s : State) (c : TileCtx) (x : Stored) (p : Place) : State :=
  let s := s.placeWrite c p p.elems (packElems x.format (x.rows.flatMap (·.codes)))
  if formatScaled x.format then s.placeWrite c p p.scales ((x.rows.flatMap (·.scales)).map (BitVec.ofNat 8)) else s

/-! ### Array products (R161-R166, R178-R180, R186) -/

/-- Rate class of an array operand by its element width: 4 FP4, 8 FP8, 16 BF16 (R168). -/
def rateClass (fmt : Nat) : Nat := if fmt == 3 then 8 else formatBits fmt

/-- Width in output columns of a weight block of a pair of formats (R161). -/
def blockWidth (a b : Nat) : Nat :=
  let c := Nat.max (rateClass a) (rateClass b)
  if c ≤ 4 then 512 else if c ≤ 8 then 256 else 64

/-- K-rows that a 4,096-byte line of shallow layout holds (R164). -/
def kLine (fmt : Nat) : Nat := 128 / formatBits fmt

/-- A reduction of pairs of operands: under R178, or exact for integers with one conversion (R174); with the NaNs it brings forth. -/
def reduceAs (integer : Bool) (ps : List (Fv × Fv)) : F32 × Nat :=
  if integer then (chunkSum (ps.map (fun p => fvMul p.1 p.2)), 0) else reducePairs ps

/-- The product of the two tensor scales, applied to a reduced value (R180). -/
def rescale (a b v : F32) : F32 := fmul (fmul a b) v

/-- Rows of an operand against the rows of another, each of them one output column, with the NaNs that arise. -/
def productRows (integer : Bool) (sa sb : F32) (xs ws : List (List Fv)) : List (List F32 × Nat) :=
  xs.map (fun x =>
    let rs := ws.map (fun w => reduceAs integer (List.zip x w))
    (rs.map (fun r => rescale sa sb r.1), sumN (rs.map (·.2))))

/-- The rows of a stored tensor as exact values: each an output column of a weight tensor, or a row of an activation. -/
def Stored.matrix (x : Stored) : List (List Fv) :=
  (List.zip (List.range x.rows.length) x.rows).map (fun e => (List.range x.width).map (fun k => x.fv e.2 k e.1))

/-- Columns for rows (R186). -/
def transpose (width : Nat) (m : List (List Fv)) : List (List Fv) :=
  (List.range width).map (fun k => m.map (fun r => nth (.fin false 0 0) r k))

/-- The code of element (k, n) of weights in shallow layout, `depth` elements deep, at an address of a plane (R163). -/
def State.shallowCode (s : State) (fmt base depth k n : Nat) : Nat :=
  let kl := kLine fmt
  let line := n / 256 * ceilDiv depth kl + k / kl
  let e := 256 * (k % kl) + n % 256
  let b := formatBits fmt
  let a := base + 4096 * line + e * b / 8
  if b == 4 then (s.devMem.read a).toNat / 16 ^ (e % 2) % 16 else ofLE (s.devMem.readBytes a (b / 8))

/-- The weights of a shallow stage: element lines from the plane, block scales from the scale store in the tile's buffer (R163, R166). -/
def State.shallowWeights (s : State) (r : Rule) (base scaleAt depth n : Nat) : List (List Fv) :=
  let w : Stored := { format := r.format, scale := r.scale, zps := r.zps }
  (List.range n).map (fun j => (List.range depth).map (fun k =>
    let scale := if formatScaled r.format then (s.tbuf.read (scaleAt + j * ceilDiv depth 32 + k / 32)).toNat else 0
    w.value scale j (s.shallowCode r.format base depth k j)))

/-! ### Layer records (R263) -/

/-- Fields of a layer record. -/
structure ConvRec where
  kind : Nat
  whole : Bool
  pad : Nat
  full : Bool
  fused : Bool
  taps : Nat
  stride : Nat
  dil : Nat
  padL : Nat
  padR : Nat
  groups : Nat
  cin : Nat
  cout : Nat
  inFormat : Nat
  weightFormat : Nat
  outFormat : Nat
  inPack : Nat
  outPack : Nat
  padConst : Nat
  stripe : Nat
  outTensor : Nat
  region : Nat
deriving DecidableEq, Repr

/-- The record's fields; quantities that R264 keeps positive are taken as at least 1. -/
def convRec (r : Bytes) : ConvRec :=
  { kind := field r 0 1, whole := field r 1 1 == 1, pad := field r 2 1, full := bit (field r 3 1) 0, fused := bit (field r 3 1) 1
    taps := Nat.max 1 (field r 4 2), stride := Nat.max 1 (field r 6 2), dil := Nat.max 1 (field r 8 4), padL := field r 12 4
    padR := field r 16 4, groups := Nat.max 1 (field r 20 4), cin := Nat.max 1 (field r 24 4), cout := Nat.max 1 (field r 28 4)
    inFormat := field r 32 1, weightFormat := field r 33 1, outFormat := field r 34 1, inPack := bits (field r 35 1) 1 0
    outPack := bits (field r 35 1) 3 2, padConst := field r 36 4, stripe := Nat.max 1 (field r 40 4), outTensor := field r 46 2
    region := field r 48 1 }

/-- Input channels of a group (R271). -/
def ConvRec.cg (r : ConvRec) : Nat := r.cin / r.groups
/-- Output columns of a group (R274). -/
def ConvRec.co (r : ConvRec) : Nat := Nat.max 1 (r.cout / r.groups)
/-- Reduction elements of a group (R271). -/
def ConvRec.kred (r : ConvRec) : Nat := r.taps * r.cg

/-- Groups that share a weight block (R274): 1 where each runs as a convolution of its own. -/
def ConvRec.pack (r : ConvRec) : Nat :=
  if r.kred ≤ 256 then Nat.max 1 (Nat.min (256 / Nat.max 1 r.kred) (blockWidth r.inFormat r.weightFormat / r.co)) else 1

/-- The row a padded index reads (R269); none for the padding value. -/
def padIndex (mode : Nat) (l : Nat) (x : Int) : Option Nat :=
  if 0 ≤ x && x < l then some x.toNat
  else if l = 0 then none
  else if mode == 3 then some (max 0 (min x (l - 1))).toNat
  else if mode == 2 then
    if l = 1 then some 0
    else
      let p : Int := 2 * ((l : Int) - 1)
      let m := x % p
      some (if m ≥ l then p - m else m).toNat
  else none

/-- Input index of a tap (R265). -/
def ConvRec.index (r : ConvRec) (o k : Nat) : Int := (o * r.stride + k * r.dil : Nat) - (r.padL : Int)

/-- Input row a tap of a transposed layer reads (R276). -/
def ConvRec.backIndex (r : ConvRec) (o k : Nat) : Int := ((o + r.padL : Nat) - (k : Int)) / r.stride

/-- Output rows of a segment of `l` input rows (R265, R276, R277). -/
def ConvRec.outRows (r : ConvRec) (l : Nat) : Int :=
  if r.kind == 1 then
    (if r.whole then ((l : Int) - 1) * r.stride + r.taps - r.padL - r.padR else (r.stride * l : Nat))
  else ((l : Int) + r.padL + r.padR - ((r.taps - 1) * r.dil : Nat) - 1) / r.stride + 1

/-- Rows of a STREAMED layer that its input so far allows (R266, R277). -/
def ConvRec.readyRows (r : ConvRec) (seen : Nat) : Nat :=
  if r.kind == 1 then r.stride * seen
  else
    let last : Int := (seen : Int) - 1 + r.padL - ((r.taps - 1) * r.dil : Nat)
    if last < 0 then 0 else (last / r.stride).toNat + 1

/-- Input rows of a segment as a layer sees them: the rows held, from index `first` on, and the rows known. -/
structure RowsIn where
  first : Nat
  seen  : Nat
  held  : Stored
deriving DecidableEq, Repr

/-- The code a layer reads at an input index in a channel: the input's, or its padding's (R269). -/
def RowsIn.code (i : RowsIn) (r : ConvRec) (x : Int) (ch : Nat) : Nat :=
  match padIndex r.pad i.seen x with
  | some j => nth 0 (nth ⟨0, [], []⟩ i.held.rows (j - i.first)).codes ch
  | none =>
    if r.pad == 1 then r.padConst
    else if formatInteger i.held.format then ofSigned (formatBits i.held.format) (i.held.zp 0) else 0

/-- The exact value of that code. -/
def RowsIn.tap (i : RowsIn) (r : ConvRec) (x : Int) (ch : Nat) : Fv := i.held.value 0 0 (i.code r x ch)

/-- Taps that a transposed output row aligns with (R276). -/
def ConvRec.phaseTaps (r : ConvRec) (o : Nat) : List Nat :=
  (List.range r.taps).filter (fun k => k % r.stride == (o + r.padL) % r.stride)

/-- A weight of an output column: element ρ of its row, with its block scale and zero point (R263, R271). -/
def Stored.weight (w : Stored) (n e : Nat) : Fv :=
  match w.rows[n]? with
  | some row => w.fv row e n
  | none => .fin false 0 0

/-- Pairs of weight and input of one output element (R271, R272, R276); a skipped tap, and an aligned tap outside the segment, gives
exact zeros (R270). -/
def ConvRec.pairs (r : ConvRec) (i : RowsIn) (w : Stored) (skip : List Nat) (o n : Nat) : List (Fv × Fv) :=
  let g := n / r.co
  let none' : Fv × Fv := (.fin false 0 0, .fin false 0 0)
  let pair (k c : Nat) (x : Int) : Fv × Fv := (w.weight n (k * r.cg + c), i.tap r x (g * r.cg + c))
  if r.kind == 1 then
    (r.phaseTaps o).flatMap (fun k =>
      let x := r.backIndex o k
      (List.range r.cg).map (fun c => if 0 ≤ x && x < i.seen then pair k c x else none'))
  else
    (List.range r.taps).flatMap (fun k => (List.range r.cg).map (fun c =>
      if skip.contains k then none' else pair k c (r.index o k)))

/-- One pooled element, whether its window was empty, the NaNs it brings forth (R278, R279). -/
def ConvRec.pool (r : ConvRec) (i : RowsIn) (o c : Nat) : F32 × Bool × Nat :=
  let ks := (List.range r.taps).filter (fun k =>
    let x := r.index o k
    r.full || (decide (0 ≤ x) && decide (x < i.seen)))
  let vs := ks.map (fun k => i.tap r (r.index o k) c)
  if vs.isEmpty then (0, true, 0)
  else if r.kind == 2 then (maxF32 (vs.map ofFv), false, 0)
  else
    let n := intToF32 vs.length
    let sum := chunkSum vs
    let q := fdiv sum n
    (q, false, chunkNans (vs.map (fun v => (v, Fv.fin false 1 0))) + nanNew q [sum, n])

/-- One output row before its epilogue, with its empty windows and the NaNs it brings forth. -/
def ConvRec.outRow (r : ConvRec) (i : RowsIn) (w : Stored) (skip : List Nat) (o : Nat) : List F32 × Nat × Nat :=
  if r.kind ≥ 2 then
    let ps := (List.range r.cin).map (r.pool i o)
    (ps.map (·.1), (ps.filter (·.2.1)).length, sumN (ps.map (·.2.2)))
  else
    let es := (List.range r.cout).map (fun n => reduceAs (formatInteger i.held.format) (r.pairs i w skip o n))
    (es.map (fun e => rescale i.held.scale w.scale e.1), 0, sumN (es.map (·.2)))

/-- Taps that lie outside the segment for each of a stripe's rows of a layer under ZERO (R270). -/
def ConvRec.skipped (r : ConvRec) (seen : Nat) (os : List Nat) : List Nat :=
  if r.kind != 0 || r.pad != 0 || os.isEmpty then []
  else (List.range r.taps).filter (fun k => os.all (fun o =>
    let x := r.index o k
    decide (x < 0) || decide (x ≥ seen)))

/-! ### The expanded buffer (R271, R274) -/

/-- Elements of a row of the expanded buffer (R271). -/
def ConvRec.stride' (r : ConvRec) : Nat := ceilDiv r.kred 256 * 256

/-- Codes of a row of the expanded buffer for the packed groups from `g` on; the columns of a skipped tap are not built and keep what
they held, and those beyond the reduction are zero (R270, R271, R274). -/
def ConvRec.expandRow (r : ConvRec) (i : RowsIn) (skip : List Nat) (old : List Nat) (o g : Nat) : List Nat :=
  (List.range r.stride').map (fun p =>
    let j := p / Nat.max 1 r.kred
    let e := p % Nat.max 1 r.kred
    let k := e / Nat.max 1 r.cg
    if j ≥ r.pack || g + j ≥ r.groups then 0
    else if skip.contains k then nth 0 old p
    else i.code r (r.index o k) ((g + j) * r.cg + e % Nat.max 1 r.cg))

/-- The bytes of the expanded buffer of a stripe as its last pack of groups leaves it. -/
def ConvRec.expand (r : ConvRec) (i : RowsIn) (skip : List Nat) (old : Bytes) (os : List Nat) : Bytes :=
  let fmt := i.held.format
  let n := r.stride' * formatBits fmt / 8
  let g := (r.groups - 1) / r.pack * r.pack
  (List.zip (List.range os.length) os).flatMap (fun e =>
    packElems fmt (r.expandRow i skip (unpackElems fmt r.stride' (slice old (e.1 * n) n)) e.2 g))

/-! ### The vector unit (R184, R185) -/

/-- An element-wise operation with two operands: 0 add, 1 subtract, 2 multiply, 3 divide, 4 minimum, 5 maximum, 6 below, 7 equal; a
comparison gives 1.0 or +0. -/
def tileMap2 (op : Nat) (a b : F32) : F32 :=
  let truth (p : Bool) : F32 := if isNan a || isNan b then nan32 else if p then 0x3F800000 else 0
  if op == 0 then fadd a b else if op == 1 then fsub a b else if op == 2 then fmul a b
  else if op == 3 then fdiv a b else if op == 4 then fmin a b else if op == 5 then fmax a b
  else if op == 6 then truth (flt a b) else truth (feq a b)

/-- Reciprocal, square root, reciprocal square root. -/
def tileMap1 (op : Nat) (a : F32) : F32 := if op == 0 then frecip a else if op == 1 then fsqrt a else frsqrt a

/-- Select (R184): by the first operand, one of the other two; only a NaN among the two operands it takes makes the result a NaN. -/
def fselect (a b c : F32) : F32 :=
  let v := if feq a 0 then c else b
  if isNan a || isNan v then nan32 else v

/-- Exact minimum, NaN if any value is NaN (R184). -/
def minF32 : List F32 → F32
  | [] => 0#32
  | [x] => if isNan x then nan32 else x
  | x :: xs => fmin x (minF32 xs)

/-- Element i of a list in which one element stands for all. -/
def spread {α : Type} (d : α) (xs : List α) (i : Nat) : α :=
  match xs with
  | [x] => x
  | _ => nth d xs i

/-- The values of a row and the NaNs that arise of an operation over rows of operands. -/
def mapRow (f : List F32 → F32) (n : Nat) (args : List (List F32)) : List F32 × Nat :=
  let es := (List.range n).map (fun i =>
    let xs := args.map (fun a => spread 0 a i)
    (f xs, nanNew (f xs) xs))
  (es.map (·.1), sumN (es.map (·.2)))

/-- The curve of a tile's curve slot, which its plan names (R213); none where the tile holds none there. -/
def tileCurveEval (curves : Map Bytes) (im : Bytes) (tile slot : Nat) : Option (F32 → F32) :=
  (Config.tileCurve im tile slot).map (fun c => slotEval curves c)

/-- An epilogue operation on a row (R180); `skip` is the row of the stack's input with the same index. -/
def epiRow (curves : Map Bytes) (im : Bytes) (skip : List F32) (acc : List F32 × Nat) (e : Epi) : List F32 × Nat :=
  let arg : EpiArg → List F32
    | .row vs => vs
    | .skip => skip
  let n := acc.1.length
  let r := match e with
    | .map2 op a => mapRow (fun xs => tileMap2 op.val (nth 0 xs 0) (nth 0 xs 1)) n [acc.1, arg a]
    | .fma a b => mapRow (fun xs => ffma (nth 0 xs 0) (nth 0 xs 1) (nth 0 xs 2)) n [acc.1, arg a, arg b]
    | .map1 op => mapRow (fun xs => tileMap1 op.val (nth 0 xs 0)) n [acc.1]
    | .curve tile slot => match tileCurveEval curves im tile.val slot.val with
      | some f => mapRow (fun xs => f (nth 0 xs 0)) n [acc.1]
      | none => (acc.1, 0)
  (r.1, acc.2 + r.2)

/-! ### Stacks of layers (R265-R282) -/

/-- A layer of a stack under way: its record and weights, its epilogue, how its output is held, the time step of row 0 of the segment
along its output's axis, and the rows of the segment computed so far. -/
structure LayerRun where
  r       : ConvRec
  weights : Stored
  epi     : List Epi
  rule    : Rule
  base    : Nat
  high    : Nat

/-- What a stack has done: its output rows, and for each layer its rows computed, the counts of its output, the expanded buffer of its
last stripe; empty windows, NaNs, taps skipped, rows recomputed. -/
structure StackOut where
  rows  : List TRow := []
  empty : Nat := 0
  nans  : Nat := 0
  taps  : Nat := 0
  halo  : Nat := 0

/-- What a stack runs under: curves, image and seed, the stack's input, the position of the segment's first row, frames of a row. -/
structure StackEnv where
  curves : Map Bytes
  image  : Bytes
  seed   : Nat
  input  : RowsIn
  start  : Nat
  hop    : Nat

/-- Position of the first frame of an output row. -/
def ConvRec.rowAt (r : ConvRec) (start hop o : Nat) : Nat := start + (if r.kind == 1 then o * hop / r.stride else o * r.stride * hop)

/-- The row of the stack's input with an index, as the vector unit reads it. -/
def RowsIn.widenRow (i : RowsIn) (o : Nat) : List F32 :=
  match i.held.rows[o - i.first]? with
  | some row => (List.range i.held.width).map (i.held.widen row)
  | none => []

/-- Rows [lo, hi) of a layer: the stored rows, the counts of those computed for the first time, empty windows, NaNs. -/
def LayerRun.rows (l : LayerRun) (env : StackEnv) (i : RowsIn) (skip : List Nat) (lo hi : Nat) : List TRow × Counts × Nat × Nat :=
  ((List.range (hi - lo)).map (· + lo)).foldl (fun acc o =>
    let v := l.r.outRow i l.weights skip o
    let e := l.epi.foldl (epiRow env.curves env.image (env.input.widenRow o)) (v.1, v.2.2)
    let n := l.rule.narrow l.r.outFormat env.seed ((l.base + o) * roundUp l.r.cout 8) 0 e.1
    let rows := acc.1 ++ [⟨l.r.rowAt env.start env.hop o, n.codes, n.scales⟩]
    if o < l.high then (rows, acc.2) else (rows, acc.2.1.add n.counts, acc.2.2.1 + v.2.1, acc.2.2.2 + e.2)) ([], {}, 0, 0)

/-- The rows of one stripe [s, e) of a stack's output, layer by layer (R280): the layers with their new high-water marks and counts, what
was done, and the expanded buffers, each with its first region. -/
def stripeRows (env : StackEnv) (total : Nat) : List LayerRun → RowsIn → Nat → Nat → List (LayerRun × Counts) × StackOut × List (Nat × Bytes)
  | [], i, _, _ => ([], { rows := i.held.rows }, [])
  | l :: ls, i, s, e =>
    let lo := s - sumN (ls.map (fun m => m.r.padL))
    let hi := if ls.isEmpty then e else Nat.min total (e + sumN (ls.map (fun m => m.r.padR)))
    let os := (List.range (hi - lo)).map (· + lo)
    let skip := l.r.skipped i.seen os
    let q := l.rows env i skip lo hi
    let next : RowsIn := ⟨lo, total, { format := l.r.outFormat, width := l.r.cout, scale := l.rule.scale, zps := l.rule.zps, rows := q.1 }⟩
    let r := stripeRows env total ls next s e
    (({ l with high := Nat.max l.high hi }, q.2.1) :: r.1,
     { r.2.1 with empty := r.2.1.empty + q.2.2.1, nans := r.2.1.nans + q.2.2.2, taps := r.2.1.taps + skip.length
                  halo := r.2.1.halo + (Nat.min hi l.high - lo) },
     (if l.r.kind == 0 then [(l.r.region, l.r.expand i skip [] os)] else []) ++ r.2.2)

/-- The rows of a segment that a stack's layers see. -/
def Delay.input (d : Delay) (src : Stored) (new : List TRow) : RowsIn :=
  ⟨d.first, d.seen + new.length, { src with rows := d.rows.map (fun cs => ⟨0, cs, []⟩) ++ new }⟩

/-- Output rows of a stack for a segment whose end is known, or as far as its input allows (R265, R266, R280). -/
def stackRows (layers : List LayerRun) (seen made : Nat) (ends : Bool) : Nat :=
  match layers with
  | [l] => if ends then (l.r.outRows seen).toNat else if l.r.whole then made else l.r.readyRows seen
  | ls =>
    let right := sumN (ls.map (fun l => l.r.padR))
    if ends then seen else if ls.any (fun l => l.r.whole) then made else Nat.max made (seen - right)

/-- The first input row that a stack still reads after it has produced `made` rows (R266, R277, R282). -/
def stackNeed (layers : List LayerRun) (seen made : Nat) : Nat :=
  match layers with
  | [l] =>
    if l.r.whole then 0 else if l.r.kind == 1 then seen - (ceilDiv l.r.taps l.r.stride - 1) else (l.r.index made 0).toNat
  | ls => if ls.any (fun l => l.r.whole) then 0 else made - sumN (ls.map (fun l => l.r.padL))

/-! ### Scans (R310, R311) -/

/-- FP32 operations with the NaN they bring forth. -/
def fmulN (a b : F32) : F32 × Nat := (fmul a b, nanNew (fmul a b) [a, b])
def ffmaN (a b c : F32) : F32 × Nat := (ffma a b c, nanNew (ffma a b c) [a, b, c])

/-- Carried words of a channel. -/
def word (xs : List Nat) (i : Nat) : F32 := BitVec.ofNat 32 (nth 0 xs i)

/-- A scalar scan of `k` channels at a segment start. -/
def scanStart (init : List F32) (k : Nat) : Scan :=
  ⟨(List.range k).map (fun i => (spread 0 init i).toNat), List.replicate k 0x3F800000, List.replicate k 0, [], 0⟩

/-- One step of a scalar scan, channel by channel (R310): the row h_t, the scan after it, the NaNs that arise. -/
def scanStep (x : Scan) (as bs : List F32) : List F32 × Scan × Nat :=
  let k := x.h0.length
  let es := (List.range k).map (fun i =>
    let a := spread 0 as i
    let ah := fmulN a (word x.a i)
    let bh := ffmaN a (word x.b i) (spread 0 bs i)
    let h := ffmaN ah.1 (word x.h0 i) bh.1
    (h.1, ah.1, bh.1, ah.2 + bh.2 + h.2))
  let hs := es.map (·.1)
  let next : Scan :=
    if x.count + 1 == 16 then ⟨hs.map (·.toNat), List.replicate k 0x3F800000, List.replicate k 0, [], 0⟩
    else ⟨x.h0, es.map (·.2.1.toNat), es.map (·.2.2.1.toNat), [], x.count + 1⟩
  (hs, next, sumN (es.map (·.2.2.2)))

/-- A biquad of `k` channels at a segment start: initial state zero, transform identity. -/
def biquadStart (k : Nat) : Scan :=
  ⟨List.replicate (2 * k) 0, List.replicate k 0x3F800000 ++ List.replicate (2 * k) 0 ++ List.replicate k 0x3F800000,
   List.replicate (2 * k) 0, List.replicate (2 * k) 0, 0⟩

/-- Coefficients of a biquad, with g0 and g1 (R311). -/
structure Biquad where
  b0 : F32
  g0 : F32
  g1 : F32
  a1 : F32
  a2 : F32

/-- One step of channel `c` of `k` of a biquad (R311): y_t, the words of h_t, of the transform and of its offset, the NaNs that arise. -/
def biquadChannel (q : Biquad) (s : Scan) (k c : Nat) (x : F32) : F32 × List F32 × List F32 × List F32 × Nat :=
  let neg (f : F32) : F32 := f ^^^ 0x80000000#32
  let a (i j : Nat) : F32 := word s.a ((2 * i + j) * k + c)
  let b (i : Nat) : F32 := word s.b (i * k + c)
  let h0 (i : Nat) : F32 := word s.h0 (i * k + c)
  let m (i j : Nat) : F32 := if j == 1 then (if i == 0 then 0x3F800000#32 else 0) else neg (if i == 0 then q.a1 else q.a2)
  let y := ffmaN q.b0 x (word s.hPrev c)
  let u := [fmulN q.g0 x, fmulN q.g1 x]
  let an := [0, 1].flatMap (fun i => [0, 1].map (fun j =>
    let p := fmulN (m i 0) (a 0 j)
    let r := ffmaN (m i 1) (a 1 j) p.1
    (r.1, p.2 + r.2)))
  let bn := [0, 1].map (fun i =>
    let p := ffmaN (m i 0) (b 0) ((nth (0, 0) u i).1)
    let r := ffmaN (m i 1) (b 1) p.1
    (r.1, p.2 + r.2))
  let h := [0, 1].map (fun i =>
    let p := ffmaN ((nth (0, 0) an (2 * i)).1) (h0 0) ((nth (0, 0) bn i).1)
    let r := ffmaN ((nth (0, 0) an (2 * i + 1)).1) (h0 1) p.1
    (r.1, p.2 + r.2))
  (y.1, h.map (·.1), an.map (·.1), bn.map (·.1), y.2 + sumN ((u ++ an ++ bn ++ h).map (·.2)))

/-- One step of a biquad, channel by channel. -/
def biquadStep (q : Biquad) (s : Scan) (xs : List F32) : List F32 × Scan × Nat :=
  let k := s.hPrev.length / 2
  let es := (List.range k).map (fun c => biquadChannel q s k c (spread 0 xs c))
  let words (n : Nat) (f : F32 × List F32 × List F32 × List F32 × Nat → List F32) : List Nat :=
    (List.range n).flatMap (fun i => es.map (fun e => (nth 0 (f e) i).toNat))
  let h := words 2 (·.2.1)
  let next : Scan :=
    if s.count + 1 == 16 then { biquadStart k with h0 := h, hPrev := h }
    else ⟨s.h0, words 4 (·.2.2.1), words 2 (·.2.2.2.1), h, s.count + 1⟩
  (es.map (·.1), next, sumN (es.map (·.2.2.2.2)))

/-- Whether a scan begins a segment at a row (R308): at the first row of a chunk that starts one, or of a scan that carries nothing, and at
the first row at or after a mark. -/
def scanBegins (c : TileCtx) (prev : Option Nat) (carried : Bool) (at' : Nat) : Bool :=
  match prev with
  | none => !carried || ((c.segment || c.marks.any (fun f => decide (f ≤ at'))) && decide (c.pos ≤ at'))
  | some p => c.marks.any (fun f => decide (p < f) && decide (f ≤ at'))

/-- A scan over rows: its output rows, what it carries, the NaNs that arise. -/
def scanRows {α : Type} (c : TileCtx) (start : Scan) (step : Scan → α → List F32 × Scan × Nat) :
    Option Nat → Option Scan → List (Nat × α) → List VRow × Option Scan × Nat
  | _, x, [] => ([], x, 0)
  | prev, x, r :: rs =>
    let y := if scanBegins c prev x.isSome r.1 then start else x.getD start
    let o := step y r.2
    let q := scanRows c start step (some r.1) (some o.2.1) rs
    (⟨r.1, o.1⟩ :: q.1, q.2.1, o.2.2 + q.2.2)

/-! ### Feature-map compression (R283-R285) -/

/-- |v| × 2^(bias − E) of a BF16 value, rounded to an integer with ties to even. -/
def packMag (bias e : Nat) (code : Nat) : Nat :=
  match fmtBf16.decode code with
  | .fin _ m x => (roundInt false m (x + (bias : Int) - e)).natAbs
  | _ => 0

/-- One block: E, whether it holds a NaN, whether E was increased, elements as sign and magnitude. -/
structure Packed where
  e      : Nat
  nan    : Bool
  bumped : Bool
  elems  : List (Bool × Nat)
deriving DecidableEq, Repr

/-- Encode a block of BF16 codes: 4:3 when `wide`, else 2:1. -/
def packBlock (wide : Bool) (codes : List Nat) : Packed :=
  let nan := codes.any (fun c => match fmtBf16.decode c with | .nan => true | _ => false)
  let e := maxN (codes.map (fun c => Nat.max 1 (bits c 14 7)))
  if nan then ⟨e, true, false, codes.map (fun _ => (false, 0))⟩
  else
    let bias := if wide then 136 else 132
    let up := !wide && codes.any (fun c => decide (packMag bias e c > 63))
    let e' := if up then e + 1 else e
    ⟨e', false, up, codes.map (fun c => (bit c 15, packMag bias e' c))⟩

/-- Decode a block, exact in BF16. -/
def unpackBlock (wide : Bool) (p : Packed) : List F32 :=
  p.elems.map (fun x => if p.nan then nan32 else round32 x.1 x.2 ((p.e : Int) - (if wide then 136 else 132)) false)

/-- Bits of an element and bytes of a block under a packing: 2:1 or 4:3 (R284, R285). -/
def packWidth (wide : Bool) : Nat := if wide then 11 else 7
def packBytes (wide : Bool) : Nat := if wide then 48 else 32

/-- A block in memory (R284, R285). -/
def Packed.bytes (p : Packed) (wide : Bool) : Bytes :=
  let w := packWidth wide
  let elems := (List.zip (List.range p.elems.length) p.elems).foldl (fun (a : Nat) x =>
    a + (x.2.2 + (if x.2.1 then 2 ^ (w - 1) else 0)) * 2 ^ (w * x.1)) 0
  leBytes 1 p.e ++ leBytes 1 (b2n p.nan) ++ leBytes (4 * w) elems ++ leBytes 2 0

/-- A block from memory. -/
def packedOf (wide : Bool) (bs : Bytes) : Packed :=
  let w := packWidth wide
  let elems := field bs 2 (4 * w)
  ⟨field bs 0 1, bit (field bs 1 1) 0, false, (List.range 32).map (fun i =>
    let x := elems / 2 ^ (w * i) % 2 ^ w
    (bit x (w - 1), x % 2 ^ (w - 1)))⟩

/-! ### The steps of a program -/

/-- A program under way, with the device. -/
structure TileRun where
  st    : State
  bench : Bench := {}

def TileRun.buf (t : TileRun) (k : Nat) : List VRow := t.bench.bufs.getD k []
def TileRun.tensor (t : TileRun) (k : Nat) : Stored := t.bench.tens.getD k {}
def TileRun.set (t : TileRun) (k : Nat) (rows : List VRow) : TileRun := { t with bench := { t.bench with bufs := t.bench.bufs.put k rows } }
def TileRun.setTensor (t : TileRun) (k : Nat) (x : Stored) : TileRun := { t with bench := { t.bench with tens := t.bench.tens.put k x } }
/-- NaNs a step brought forth (R171). -/
def TileRun.nans (t : TileRun) (n : Nat) : TileRun := { t with st := t.st.nanProduced n }

/-- An operation over the rows of operands, one row of an operand standing for all its rows. -/
def TileRun.mapRows (t : TileRun) (dst : Nat) (f : List F32 → F32) (a : Nat) (more : List Nat) : TileRun :=
  let rows := t.buf a
  let rs := (List.zip (List.range rows.length) rows).map (fun e =>
    (e.2.at', mapRow f e.2.vals.length (e.2.vals :: more.map (fun k => (spread ⟨0, []⟩ (t.buf k) e.1).vals))))
  (t.set dst (rs.map (fun r => ⟨r.1, r.2.1⟩))).nans (sumN (rs.map (·.2.2)))

/-- An operation that makes one value of each row. -/
def TileRun.foldRows (t : TileRun) (dst a : Nat) (f : List F32 → F32 × Nat) : TileRun :=
  let rs := (t.buf a).map (fun r => (r.at', f r.vals))
  (t.set dst (rs.map (fun r => ⟨r.1, [r.2.1]⟩))).nans (sumN (rs.map (·.2.2)))

/-- Products of rows put into a buffer. -/
def TileRun.products (t : TileRun) (dst : Nat) (ats : List Nat) (rs : List (List F32 × Nat)) : TileRun :=
  (t.set dst (List.zipWith (fun a r => ⟨a, r.1⟩) ats rs)).nans (sumN (rs.map (·.2)))

/-- Count time steps of an axis of the stream since BIND (R208). -/
def State.addSteps (s : State) (n key by' : Nat) : State :=
  let x := s.stream n
  s.setStream n { x with steps := x.steps.put key (x.steps.getD key 0 + by') }

/-- Narrow a buffer into a stored tensor, and count it (R181-R183, R196, R197, R208). -/
def TileRun.narrow (t : TileRun) (c : TileCtx) (dst src tensor : Nat) (flat : Bool) : TileRun :=
  let x := t.st.stream c.stream
  let r := tensorRule c.image c.pos x tensor
  let seed := t.st.rd (Obj.streamSeed c.stream)
  let rows := t.buf src
  let u := x.steps.getD tensor 0
  let n8 := roundUp (sumN (rows.map (fun v => v.vals.length))) 8
  let ns := (List.zip (List.range rows.length) rows).map (fun e =>
    let e0 := if flat then u * n8 + sumN ((rows.take e.1).map (fun v => v.vals.length)) else (u + e.1) * roundUp e.2.vals.length 8
    (e.2.at', r.narrow r.format seed e0 e.1 e.2.vals))
  let t := t.setTensor dst { format := r.format, width := ((rows.head?).map (fun v => v.vals.length)).getD 0, scale := r.scale, zps := r.zps
                             rows := ns.map (fun n => ⟨n.1, n.2.codes, n.2.scales⟩) }
  let st := t.st.countNarrow c.plan c.stream c.chunk tensor (ns.foldl (fun (a : Counts) n => a.add n.2.counts) {})
  { t with st := if r.sequence.isSome then st.addSteps c.stream tensor (if flat then 1 else rows.length) else st }

/-- Take ended packets of a chunk at the front of a joint, up to `n` of them or with 0 up to CHUNK_LAST: the words of each; none while
they are not all there. A packet begun and not read to its end counts (R370). -/
def takePackets (stream chunk n : Nat) : (fuel : Nat) → Joint → Option (List (List Nat) × Joint)
  | 0, _ => none
  | f + 1, j =>
    let x := j.reader 0
    let rest := match j.recs[x.idx]? with
      | some r => decide (x.word < r.words'.length)
      | none => false
    let i := if x.cur && (x.drop || !rest) then x.idx + 1 else x.idx
    match j.recs[i]? with
    | some (.packet tag ws true st ch _) =>
      if st == stream && ch == chunk then
        let j' := j.setReader 0 { x with idx := i, word := ws.length, cur := true, drop := false }
        if n == 1 || (n == 0 && bit tag 17) then some ([ws], j')
        else (takePackets stream chunk (n - 1) f j').map (fun r => (ws :: r.1, r.2))
      else none
    | _ => none

/-- Take the packets of a chunk from the joints of a link, each tile its own. A link without a joint gives none, and no stage waits
there. -/
def State.takeLink (s : State) (plan stream chunk link n : Nat) : Option (List (List Nat) × State) :=
  (s.linkJoints plan link).foldr (fun key acc => acc.bind (fun q => match q.2.joints.find key with
    | none => some q
    | some j => (takePackets stream chunk n (j.recs.length + 1) j).map (fun r =>
        (r.1, { q.2 with joints := q.2.joints.put key r.2 })))) (some ([], s))

/-- DISCARD, MARK, REWIND and RELEASE by a tile (R372). -/
def State.actLink (s : State) (plan link : Nat) (a : JointAct) : State :=
  let f : Joint → Joint := fun j => match a with
    | .discard => j.discard 0
    | .mark => j.mark 0
    | .rewind => j.rewind 0
    | .release => j.release 0
  (s.linkJoints plan link).foldl (fun s key => match s.joints.find key with
    | some j => { s with joints := s.joints.put key (f j) }
    | none => s) s

/-- The packets of the rows of a stored tensor, cut to `most` words, under the tags of R324 and R325; `u` is the step of the first row. -/
def rowPackets (c : TileCtx) (u most : Nat) (x : Stored) : List (Nat × List Nat) :=
  let begins (i : Nat) : Bool :=
    let here := ((x.rows[i]?).map (·.at')).getD 0
    let before := if i = 0 then none else (x.rows[i - 1]?).map (·.at')
    match before with
    | none => c.segment || c.marks.any (fun f => decide (f ≤ here) && decide (c.pos ≤ f))
    | some p => c.marks.any (fun f => decide (p < f) && decide (f ≤ here))
  let ps := (List.zip (List.range x.rows.length) x.rows).flatMap (fun e =>
    let ws := chunks most ((chunks 8 (packElems x.format e.2.codes)).map ofLE)
    (List.zip (List.range ws.length) ws).map (fun w => (b2n (begins e.1 && w.1 == 0), u + e.1, w.2)))
  (List.zip (List.range ps.length) ps).map (fun e =>
    (c.stream + 2 ^ 16 * b2n (e.1 == 0) + 2 ^ 17 * b2n (e.1 + 1 == ps.length) + 2 ^ 18 * e.2.1 + 2 ^ 19 * b2n c.fin +
      2 ^ 32 * (e.2.2.1 % 2 ^ 64), e.2.2.2))

/-- A stage puts the rows of a stored tensor into the joints of a link; none while one has no room. -/
def State.sendRows (s : State) (c : TileCtx) (link : Nat) (x : Stored) : Option State :=
  let keys := s.linkJoints c.plan link
  let most := keys.foldl (fun m k => Nat.min m (((s.joints.find k).map (·.maxPacket)).getD 16384)) 16384
  let u := (s.stream c.stream).steps.getD (131072 + 2 ^ 24 + link) 0
  (State.pushPackets c.stream c.chunk keys (rowPackets c u most x) s).map (fun s =>
    s.addSteps c.stream (131072 + 2 ^ 24 + link) x.rows.length)

/-- Values of packed elements of an unscaled format. -/
def widenBytes (fmt : Nat) (bs : Bytes) : List F32 :=
  (unpackElems fmt (bs.length * 8 / Nat.max 1 (formatBits fmt)) bs).map (fun k => ofFv (elementValue fmt k))

/-- The tile that works a stripe of a layer: the tiles of its stage take the stripes in turn. DESIGN CHOICE (assumption 141). -/
def stripeTile (im : Bytes) (layer stripe : Nat) : Nat :=
  let stage := (((planLayers im)[layer]?).map (·.stage)).getD 0
  let tiles := ((planBonds im).filter (fun b => b.kind == 0 && b.stage == stage)).map (·.unit)
  if tiles.isEmpty then 0 else nth 0 tiles (stripe % tiles.length)

/-- Put the expanded buffers of a stripe into the tile's buffer (R271); bytes of skipped columns stay. -/
def State.putExpanded (s : State) (tile : Nat) (bufs : List (Nat × Bytes)) : State :=
  bufs.foldl (fun s b => s.tbufWrite (tile * tbufSize + 65536 * b.1) b.2) s

/-- Work out stripe after stripe of a stack's output (R280-R282): the layers with their high-water marks, the counts by output tensor, what
was done, the expanded buffers of the last stripe with its number. -/
def stackStripes (env : StackEnv) (total : Nat) (layers : List LayerRun) (stripes : List (List Nat)) :
    List LayerRun × Map Counts × StackOut × List (Nat × List (Nat × Bytes)) :=
  stripes.foldl (fun acc os =>
    let s0 := os.headD 0
    let q := stripeRows env total acc.1 env.input s0 (s0 + os.length)
    (q.1.map (·.1),
     q.1.foldl (fun m e => m.put e.1.r.outTensor ((m.getD e.1.r.outTensor {}).add e.2)) acc.2.1,
     { rows := acc.2.2.1.rows ++ q.2.1.rows, empty := acc.2.2.1.empty + q.2.1.empty, nans := acc.2.2.1.nans + q.2.1.nans
       taps := acc.2.2.1.taps + q.2.1.taps, halo := acc.2.2.1.halo + q.2.1.halo },
     acc.2.2.2 ++ [(acc.2.2.2.length, q.2.2)])) (layers, [], {}, [])

/-- The layers of a stack at work on a segment of which `high` rows of each have been computed. -/
def TileRun.layers (t : TileRun) (c : TileCtx) (ls : List StackLayer) (high : List Nat) : List LayerRun :=
  let x := t.st.stream c.stream
  (List.zip (List.range ls.length) ls).map (fun e =>
    let r := convRec (((planLayers c.image)[e.2.layer]?).elim [] (fun l => slice c.image l.body 64))
    let h := nth 0 high e.1
    ⟨r, t.tensor e.2.weights, e.2.epilogue, tensorRule c.image c.pos x r.outTensor, x.steps.getD r.outTensor 0 - h, h⟩)

/-- A stack works on rows of one segment: what it puts out, and its history after them (R266, R270, R280-R282). -/
def TileRun.segment (t : TileRun) (c : TileCtx) (ls : List StackLayer) (src : Stored) (hop : Nat) (d : Delay) (new : List TRow)
    (ends : Bool) : TileRun × List TRow × Delay :=
  let layers := t.layers c ls d.high
  let last := (layers.getLast?).map (·.r)
  let start := if d.seen = 0 then ((new.head?).map (·.at')).getD c.pos else d.start
  let i := d.input src new
  let upto := stackRows layers i.seen d.made ends
  let env : StackEnv := ⟨t.st.curves, c.image, t.st.rd (Obj.streamSeed c.stream), i, start, hop⟩
  let stripes := chunks ((last.map (·.stripe)).getD 1) ((List.range (upto - d.made)).map (· + d.made))
  let q := stackStripes env i.seen layers stripes
  let whole := layers.any (fun l => l.r.whole)
  let empty := b2n (whole && ends && layers.length == 1 && layers.all (fun l => decide (l.r.outRows i.seen ≤ 0)))
  let st := q.2.1.foldl (fun s e => s.countNarrow c.plan c.stream c.chunk e.1 e.2) t.st
  let st := (List.zip layers q.1).foldl (fun s e =>
    if e.1.rule.sequence.isSome then s.addSteps c.stream e.1.r.outTensor (e.2.high - e.1.high) else s) st
  let st := q.2.2.2.foldl (fun s e => s.putExpanded (stripeTile c.image ((ls.head?.map (·.layer)).getD 0) e.1) e.2) st
  let st := (((st.bump Obj.emptyWindows (q.2.2.1.empty + empty)).bump Obj.tapsSkipped q.2.2.1.taps).bump Obj.haloRows q.2.2.1.halo).nanProduced
    q.2.2.1.nans
  let first := Nat.max i.first (Nat.min (stackNeed layers i.seen upto) i.seen)
  ({ t with st := st }, q.2.2.1.rows,
   { format := src.format, cin := src.width, first := first, seen := i.seen, made := upto
     rows := (i.held.rows.drop (first - i.first)).map (·.codes), start := start
     last := ((new.getLast?).map (·.at')).getD d.last, high := q.1.map (·.high) })

/-- Cut rows where a reset mark begins a segment (R268). -/
def cutRows (marks : List Nat) : List TRow → List (List TRow)
  | [] => []
  | r :: rs => match cutRows marks rs with
    | (n :: q) :: qs =>
      if marks.any (fun f => decide (r.at' < f) && decide (f ≤ n.at')) then [r] :: (n :: q) :: qs else (r :: n :: q) :: qs
    | qs => [r] :: qs

/-- Convolution and pooling layers, one or a fused stack (R263-R282): the rows of the chunk cut into segments at the marks, a STREAMED
stack's history carried on, and ended where a segment ends. -/
def TileRun.stack (t : TileRun) (c : TileCtx) (dst src : Nat) (ls : List StackLayer) (hop : Nat) : TileRun :=
  let x := t.st.stream c.stream
  let input := t.tensor src
  let layers := t.layers c ls []
  let whole := layers.any (fun l => l.r.whole)
  let last := (layers.getLast?).map (·.r)
  let key := (last.map (·.outTensor)).getD 0
  let old := if whole then none else x.delays.find key
  let anew := match old, input.rows.head? with
    | some d, some r => x.marks.any (fun f => decide (d.last < f) && decide (f ≤ r.at'))
    | _, _ => false
  let cuts := cutRows x.marks input.rows
  let pre : TileRun × List TRow × Option Delay := match old with
    | some d =>
      if anew || (c.fin && cuts.isEmpty) then
        let r := t.segment c ls input hop d [] true
        (r.1, r.2.1, none)
      else (t, [], some d)
    | none => (t, [], none)
  let run := (List.zip (List.range cuts.length) cuts).foldl (fun (acc : TileRun × List TRow × Option Delay) e =>
    let ends := decide (e.1 + 1 < cuts.length) || whole || c.fin
    let r := acc.1.segment c ls input hop (acc.2.2.getD {}) e.2 ends
    (r.1, acc.2.1 ++ r.2.1, if ends then none else some r.2.2)) pre
  let y := run.1.st.stream c.stream
  let delays := if whole then y.delays else match run.2.2 with
    | some d => y.delays.put key d
    | none => y.delays.del key
  let rule := tensorRule c.image c.pos x key
  ({ run.1 with st := run.1.st.setStream c.stream { y with delays := delays } }).setTensor dst
    { format := (last.map (fun (r : ConvRec) => r.outFormat)).getD rule.format, width := (last.map (fun (r : ConvRec) => r.cout)).getD 0, scale := rule.scale, zps := rule.zps
      rows := run.2.1 }

/-- A scan carried as a section of the stream. -/
def TileRun.carryScan (t : TileRun) (c : TileCtx) (dst sect : Nat) (r : List VRow × Option Scan × Nat) : TileRun :=
  let x := t.st.stream c.stream
  let st := match r.2.1 with
    | some y => t.st.setStream c.stream { x with scans := x.scans.put sect y }
    | none => t.st
  (({ t with st := st }).set dst r.1).nans r.2.2

/-- Write a feature map under a packing: BF16 codes, or blocks of 32 (R283-R285). -/
def State.writeMap (s : State) (x : Stored) (pack addr : Nat) : State :=
  if pack == 0 then s.devWrite addr (packElems x.format (x.rows.flatMap (·.codes)))
  else
    let wide := pack == 2
    let blocks := (chunks 32 (x.rows.flatMap (·.codes))).map (packBlock wide)
    let s := s.devWrite addr (blocks.flatMap (fun p => p.bytes wide))
    let s := (s.bump (if wide then Obj.blocks43 else Obj.blocks21) blocks.length).bump Obj.blocksNan (blocks.filter (·.nan)).length
    s.bump Obj.bumped21 (blocks.filter (·.bumped)).length

/-- Codes of a feature map of `count` elements read under a packing. -/
def State.readMap (s : State) (fmt pack addr count : Nat) : List Nat :=
  if pack == 0 then unpackElems fmt count (s.devMem.readBytes addr (ceilDiv (count * formatBits fmt) 8))
  else
    let wide := pack == 2
    ((List.range (ceilDiv count 32)).flatMap (fun b =>
      (unpackBlock wide (packedOf wide (s.devMem.readBytes (addr + b * packBytes wide) (packBytes wide)))).map
        (fun v => (narrowFloat fmtBf16 .rne v).code))).take count

/-- The words of a hod chain reach the tiles that take them, in order (R241, R242): none is dropped, moved or doubled. -/
def State.hodChain (s : State) (c : TileCtx) (tiles : List Nat) (p : Place) (base : Nat) (words : List (Nat × Nat)) : State :=
  (List.zip (List.range words.length) words).foldl (fun s w =>
    let bs := s.placeRead c p (p.elems + 512 * w.1) 512
    (List.zip (List.range tiles.length) tiles).foldl (fun s e =>
      if decide (w.2.1 ≤ e.1) && decide (e.1 ≤ w.2.2) then s.tbufWrite (e.2 * tbufSize + base + 512 * w.1) bs else s) s) s

/-- Go on with a weight gradient over rows, lane by lane (R187). -/
def gradLanes (lanes : List AccLane) (x dy : Stored) : List AccLane × Nat :=
  let pairs := List.zip x.rows dy.rows
  let ls := (List.range (x.width * dy.width)).map (fun i =>
    let ps := pairs.map (fun p => (x.fv p.1 (i / dy.width) 0, dy.fv p.2 (i % dy.width) 0))
    let made := (ps.filter (fun p => fvMul p.1 p.2 == .nan && p.1 != .nan && p.2 != .nan)).length
    let r := (nth {} lanes i).takeAll (ps.map (fun p => fvMul p.1 p.2))
    (r.1, made + r.2))
  (ls.map (·.1), sumN (ls.map (·.2)))

/-- The layer record a program names by its number. -/
def TileCtx.layer (c : TileCtx) (layer : Nat) : ConvRec :=
  convRec (((planLayers c.image)[layer]?).elim [] (fun l => slice c.image l.body 64))

/-- One step of a program. -/
def TileRun.op (t : TileRun) (c : TileCtx) : TileOp → TileRun
  | .const dst values => t.set dst [⟨c.pos, values⟩]
  | .features dst format offset count => t.set dst (c.rows.map (fun r =>
      ⟨r.1, (unpackElems format.toNat count (r.2.drop offset)).map (fun k => ofFv (elementValue format.toNat k))⟩))
  | .voice dst => t.set dst [⟨c.pos, widenBytes (Config.planAttr c.image .voiceFormat) (t.st.stream c.stream).voiceRow⟩]
  | .fedBack dst format => t.set dst [⟨c.pos, widenBytes format.toNat (t.st.stream c.stream).feedback⟩]
  | .map2 op dst a b => t.mapRows dst (fun xs => tileMap2 op.val (nth 0 xs 0) (nth 0 xs 1)) a [b]
  | .fma dst a b k => t.mapRows dst (fun xs => ffma (nth 0 xs 0) (nth 0 xs 1) (nth 0 xs 2)) a [b, k]
  | .select dst a b k =>
    (t.buf a |> fun rows => t.set dst ((List.zip (List.range rows.length) rows).map (fun e =>
      ⟨e.2.at', (List.range e.2.vals.length).map (fun i => fselect (nth 0 e.2.vals i)
        (spread 0 (spread ⟨0, []⟩ (t.buf b) e.1).vals i) (spread 0 (spread ⟨0, []⟩ (t.buf k) e.1).vals i))⟩)))
  | .map1 op dst a => t.mapRows dst (fun xs => tileMap1 op.val (nth 0 xs 0)) a []
  | .curve tile slot dst a => match tileCurveEval t.st.curves c.image tile.val slot.val with
    | some f => t.mapRows dst (fun xs => f (nth 0 xs 0)) a []
    | none => t
  | .sum dst a => t.foldRows dst a sumPairs
  | .max dst a => t.foldRows dst a (fun xs => (maxF32 xs, 0))
  | .min dst a => t.foldRows dst a (fun xs => (minF32 xs, 0))
  | .dropout dst a sequence p8 factor =>
    let seed := t.st.rd (Obj.streamSeed c.stream)
    let u := (t.st.stream c.stream).steps.getD (65536 + sequence) 0
    let rows := t.buf a
    let rs := (List.zip (List.range rows.length) rows).map (fun e => (e.2.at', (List.zip (List.range e.2.vals.length) e.2.vals).map (fun v =>
      let r := dropout seed p8.toNat (2 ^ 40 * sequence + ((u + e.1) * roundUp e.2.vals.length 8 + v.1) % 2 ^ 40) factor v.2
      (r, nanNew r [v.2, factor]))))
    (({ t with st := t.st.addSteps c.stream (65536 + sequence) rows.length }).set dst (rs.map (fun (r : Nat × List (F32 × Nat)) => ⟨r.1, r.2.map (fun (q : F32 × Nat) => q.1)⟩))).nans
      (sumN (rs.flatMap (fun (r : Nat × List (F32 × Nat)) => r.2.map (fun (q : F32 × Nat) => q.2))))
  | .uniform dst n sequence a =>
    let seed := t.st.rd (Obj.streamSeed c.stream)
    let u := (t.st.stream c.stream).steps.getD (65536 + sequence) 0
    ({ t with st := t.st.addSteps c.stream (65536 + sequence) n }).set dst [⟨c.pos, (List.range n).map (fun j =>
      uniform (draw seed ((2 ^ 40 * sequence + 8 * (u + j) % 2 ^ 40) / 8)) a)⟩]
  | .narrow dst src tensor flat => t.narrow c dst src tensor flat
  | .widen dst src =>
    let x := t.tensor src
    t.set dst (x.rows.map (fun r => ⟨r.at', (List.range x.width).map (x.widen r)⟩))
  | .fetch dst tensor rows width place =>
    t.setTensor dst (t.st.fetchTensor c (tensorRule c.image c.pos (t.st.stream c.stream) tensor) rows width place)
  | .store src place => { t with st := t.st.storeTensor c (t.tensor src) place }
  | .writeMap src layer addr => { t with st := t.st.writeMap (t.tensor src) (c.layer layer).outPack addr }
  | .readMap dst layer addr rows =>
    let r := c.layer layer
    let codes := t.st.readMap r.inFormat r.inPack addr (rows * r.cin)
    t.setTensor dst { format := r.inFormat, width := r.cin, zps := [0]
                      rows := (List.range rows).map (fun i => ⟨c.rowAt rows i, (codes.drop (i * r.cin)).take r.cin, []⟩) }
  | .square dst x w xT wT =>
    let a := t.tensor x
    let b := t.tensor w
    let xs := if xT then transpose a.width a.matrix else a.matrix
    let ws := if wT then transpose b.width b.matrix else b.matrix
    let ats := if xT then List.replicate a.width c.pos else a.rows.map (·.at')
    t.products dst ats (productRows (formatInteger a.format) a.scale b.scale xs ws)
  | .shallow dst x tensor n tile offset scales =>
    let a := t.tensor x
    let r := tensorRule c.image c.pos (t.st.stream c.stream) tensor
    let ws := t.st.shallowWeights r (c.areas.getD tile.val (tile.val * planeSize) + offset) (tile.val * tbufSize + scales) a.width n
    t.products dst (a.rows.map (·.at')) (productRows (formatInteger a.format) a.scale r.scale a.matrix ws)
  | .stack dst src layers hop => t.stack c dst src layers hop
  | .scan dst a b sect init =>
    let rows := List.zipWith (fun (p : VRow) (q : VRow) => (q.at', p.vals, q.vals))
      ((List.range (t.buf b).length).map (fun i => spread ⟨0, []⟩ (t.buf a) i)) (t.buf b)
    let k := (((t.buf b).head?).map (fun r => r.vals.length)).getD 0
    t.carryScan c dst sect (scanRows c (scanStart init k) (fun s p => scanStep s p.1 p.2) none
      ((t.st.stream c.stream).scans.find sect) rows)
  | .biquad dst x sect b0 b1 b2 a1 a2 =>
    let rows := (t.buf x).map (fun r => (r.at', r.vals))
    let k := (((t.buf x).head?).map (fun r => r.vals.length)).getD 0
    let q : Biquad := ⟨b0, fsub b1 (fmul a1 b0), fsub b2 (fmul a2 b0), a1, a2⟩
    t.carryScan c dst sect (scanRows c (biquadStart k) (biquadStep q) none ((t.st.stream c.stream).scans.find sect) rows)
  | .grad id x dy =>
    let s := t.st.stream c.stream
    let r := gradLanes (s.grads.getD id []) (t.tensor x) (t.tensor dy)
    ({ t with st := t.st.setStream c.stream { s with grads := s.grads.put id r.1 } }).nans r.2
  | .gradEnd dst id x dy =>
    let s := t.st.stream c.stream
    let lanes := s.grads.getD id []
    let a := t.tensor x
    let b := t.tensor dy
    let rows := chunks b.width (lanes.map (fun l => rescale a.scale b.scale l.fin))
    (({ t with st := t.st.setStream c.stream { s with grads := s.grads.del id } }).set dst (rows.map (fun r => ⟨c.pos, r⟩))).nans
      (sumN (lanes.map AccLane.nanAtFin))
  | .hod tiles source base words => { t with st := t.st.hodChain c (tiles.map (·.val)) source base words }
  | .out src => { t with bench := { t.bench with out := t.bench.out ++ (t.tensor src).rows.flatMap (·.codes) } }
  | .joint act link => { t with st := t.st.actLink c.plan link act }
  | .link .. => t
  | .send .. => t

/-- What a step of a program reads from memory: spaces, addresses and bytes. -/
def TileRun.reads (t : TileRun) (c : TileCtx) : TileOp → List (Nat × Nat × Nat)
  | .fetch _ tensor rows width p =>
    let fmt := (tensorRule c.image c.pos (t.st.stream c.stream) tensor).format
    let w := storedWidth fmt width
    [(p.space.val, placeAt p c p.elems, ceilDiv (rows * w * formatBits fmt) 8),
     (p.space.val, placeAt p c p.scales, if formatScaled fmt then rows * (w / 32) else 0)]
  | .readMap _ layer addr rows =>
    let r := c.layer layer
    let n := rows * r.cin
    [((rangeSpace addr).getD 0, addr, if r.inPack == 0 then ceilDiv (n * formatBits r.inFormat) 8 else ceilDiv n 32 * packBytes (r.inPack == 2))]
  | .shallow _ x tensor n tile offset scales =>
    let fmt := (tensorRule c.image c.pos (t.st.stream c.stream) tensor).format
    let depth := (t.tensor x).width
    [(1, c.areas.getD tile.val (tile.val * planeSize) + offset, 4096 * (ceilDiv n 256 * ceilDiv depth (kLine fmt))),
     (4, tile.val * tbufSize + scales, if formatScaled fmt then n * ceilDiv depth 32 else 0)]
  | .hod _ p _ words => [(p.space.val, placeAt p c p.elems, 512 * words.length)]
  | _ => []

/-- Why a program goes no further: its stage waits at a joint, or a read meets poison. -/
inductive Stuck where
  | wait
  | poison (addr space : Nat)
deriving DecidableEq, Repr

/-- One step of a program, or why it does not run (R370, R381, R461). -/
def TileRun.step (t : TileRun) (c : TileCtx) (o : TileOp) : Except Stuck TileRun :=
  match o with
  | .link dst link format perRow =>
    match t.st.takeLink c.plan c.stream c.chunk link (perRow * c.rows.length) with
    | none => .error .wait
    | some r => .ok (({ t with st := r.2 }).set dst ((List.zip (List.range r.1.length) r.1).map (fun (e : Nat × List Nat) =>
        ⟨c.rowAt r.1.length e.1, widenBytes format.toNat (e.2.flatMap (leBytes 8))⟩)))
  | .send src link => match t.st.sendRows c link (t.tensor src) with
    | none => .error .wait
    | some s => .ok { t with st := s }
  | _ =>
    let q := t.st.readStop (t.reads c o)
    match q.2 with
    | some p => .error (.poison p.1 p.2)
    | none => .ok (({ t with st := q.1 }).op c o)

/-- Steps of a program in order, up to the first that does not run; none when all have. -/
def TileRun.steps (c : TileCtx) : List TileOp → TileRun → TileRun × Option Stuck
  | [], t => (t, none)
  | o :: os, t => match t.step c o with
    | .ok t => TileRun.steps c os { t with bench := { t.bench with next := t.bench.next + 1 } }
    | .error e => match o with
      | .send _ link => match (t.st.linkJoints c.plan link).head? with
        | some key => ({ t with st := t.st.jointWait key c.stream }, some e)
        | none => (t, some e)
      | _ => (t, some e)

/-- A program goes on from where it stands. -/
def State.runProgram (s : State) (c : TileCtx) (ops : List TileOp) (bench : Bench) : TileRun × Option Stuck :=
  TileRun.steps c (ops.drop bench.next) ⟨s, bench⟩

end Sys2Proof.Machine
end

