-- ==== Sys2Proof/Machine/Chunks.lean ====
section
/-! DEFINITION. The end of a chunk: its work, its samples, what it reports (R146, R196-R204, R308, R420, R436, R491). -/

namespace Sys2Proof.Machine

/-! ### What a chunk reports (R146, R199, R420) -/

/-- Frames of a range that were missed: the first, and how many. -/
def missedIn (runs : List (Nat × Nat)) (a n : Nat) : Option (Nat × Nat) :=
  let cut := (runs.map (fun r => (Nat.max r.1 a, Nat.min (r.1 + r.2) (a + n)))).filter (fun r => decide (r.1 < r.2))
  match cut with
  | [] => none
  | r :: rs => some (rs.foldl (fun m x => Nat.min m x.1) r.1, sumN (cut.map (fun x => x.2 - x.1)))

/-- Guard of a tensor in PCT (R198). -/
def State.guardOf (s : State) (im : Bytes) (tensor : Nat) : Nat :=
  match planTensor im tensor with
  | some r => if r.guard == 0xFFFF then s.rd Obj.clipGuard else r.guard
  | none => s.rd Obj.clipGuard

/-- The worst tensor of a chunk among those that exceed their guard: share, tensor, saturated count (R198, R199). -/
def State.worstClipped (s : State) (im : Bytes) (counts : Map Counts) : Option (Nat × Nat × Nat) :=
  let beyond := counts.any (fun e => decide (10000 * e.2.saturated > s.guardOf im e.1 * e.2.elements))
  if !beyond then none
  else
    let best := (counts.filter (fun e => e.2.elements != 0)).foldl (fun (a : Option (Nat × Counts)) e => match a with
      | none => some e
      | some b => if e.2.saturated * b.2.elements > b.2.saturated * e.2.elements then some e else a) none
    best.map (fun e => (10000 * e.2.saturated / e.2.elements, e.1, Nat.min e.2.saturated (2 ^ 32 - 1)))

/-- The final entry of a chunk whose work has finished (R146). -/
def State.chunkFinal (s : State) (n : Nat) (k : Chunk) : Final :=
  let last := k.position + k.frames - 1
  match missedIn (s.stream n).missed k.position k.frames with
  | some m => ⟨St.missed, some m.1, m.2, 0⟩
  | none =>
    if k.spilled > 0 then ⟨St.spilled, some last, k.spilled, 0⟩
    else if k.ignores > 0 then ⟨St.rearm, some last, k.ignores, 0⟩
    else match k.clipped with
      | some c => ⟨St.clipped, some last, c.1 + 2 ^ 16 * c.2.1 + 2 ^ 32 * c.2.2, 0⟩
      | none => if k.short > 0 then ⟨St.short, some last, k.short, 0⟩ else ⟨St.done, some last, 0, 0⟩

/-- Write a finished chunk's final entry, and forget the misses that precede it. -/
def State.endChunk (s : State) (n counter : Nat) (k : Chunk) : State :=
  let f := s.chunkFinal n k
  let s := s.finish n counter f.status f.position f.detail f.aux
  let x := s.stream n
  s.setStream n { x with missed := x.missed.filter (fun r => decide (r.1 + r.2 > k.position + k.frames)) }

/-! ### Lane output: when every frame of a chunk has been played (R415, R420, R421) -/

/-- Whether every frame of a chunk has been played, or can no longer be. -/
def State.playedThrough (s : State) (n last : Nat) : Bool :=
  let covering := s.members.filter (fun m => m.stream == n && m.covers last)
  if covering.isEmpty then decide (last < s.pos)
  else covering.all (fun m =>
    let lag := if s.rd (Obj.groupPolicy m.group) == 1 then s.rd (Obj.groupSlipLag m.group) else 0
    decide (last + lag < s.pos))

/-- End the produced chunks of a ring whose frames have passed. -/
def State.settleChunks (s : State) (n : Nat) : State :=
  ((s.ring n).cmds.filter (fun c => c.final.isNone)).foldl (fun s c => match c.chunk with
    | some k => if k.produced && s.playedThrough n (k.position + k.frames - 1) then s.endChunk n c.counter k else s
    | none => s) s

/-! ### The work of a chunk -/

/-- The chunk whose work finishes: the first released one of its ring that has not. -/
def State.runningChunk (s : State) (n : Nat) : Option (Cmd × Chunk) :=
  ((s.ring n).cmds.filterMap (fun c => match c.chunk with
    | some k => if k.released && !k.produced && c.final.isNone then some (c, k) else none
    | none => none)).head?

/-- Whether a stream's plan decodes tokens (R217). -/
def State.decodes (s : State) (n : Nat) : Bool := Config.planAttr (s.planImage (s.rd (Obj.streamPlan n))) .feedbackMode != 0

/-- Where a chunk's read of its features stops (R364, R366). -/
def featureStop (n : Nat) (d : Bytes) (k : Chunk) (features : HostRead) : Option (Nat × Stop) :=
  hostStop k.map n false (field d 24 8) (field d 32 4) features.missingAt features.poisonAt

/-- Where the write of a chunk's samples to the host stops: `n` bytes of them (R364). -/
def sampleStop (n : Nat) (k : Chunk) (bytes : Nat) (w : ChunkWork) : Option (Nat × Stop) :=
  if k.out == 0 then none else hostStop k.map n true k.out bytes w.missingAt none

/-- Retuned scales after a chunk (R203). -/
def State.retune (s : State) (n : Nat) (im : Bytes) (k : Chunk) : State :=
  let x := s.stream n
  if !x.retune then s
  else
    let last := k.position + k.frames - 1
    let next (r : Retuned) : Option Nat :=
      match k.counts.find r.tensor, planTensor im r.tensor with
      | some c, some t =>
        if f32Abs c.absmax == 0 then none
        else some (retunedScale t.format c.absmax x.headroom (BitVec.ofNat 32 (r.at' k.position))).toNat
      | _, _ => none
    let changed := (x.retuned.filter (fun r => match next r with
      | some v => v != r.at' k.position
      | none => false)).length
    let s := s.setStream n { x with retuned := x.retuned.map (fun r => match next r with
      | some v => { r with hist := r.hist ++ [(last, v)] }
      | none => r) }
    s.bump Obj.retunes changed

/-- Keep the samples of a live stream for its digests, course by course (R491). -/
def State.digestSamples (s : State) (n : Nat) (k : Chunk) (channels : Nat) (samples : List Nat) : State :=
  if s.rd (Obj.streamClass n) != 0 then s
  else
    let l := s.courseLen
    let frames := chunks channels samples
    let x := s.stream n
    s.setStream n { x with digest := (List.zip (List.range frames.length) frames).foldl (fun m e =>
      let c := (k.position + e.1) / l
      m.put c (m.getD c [] ++ e.2.flatMap (leBytes 4))) x.digest }

/-- Work of steps of a stream, in the class it belongs to (R431). -/
def State.spend (s : State) (n steps : Nat) : State :=
  let w := (s.streamStep n).times steps
  let c := s.rd (Obj.streamClass n)
  { s with sched :=
      (if c == 0 then { s.sched with live := s.sched.live.add w }
       else if c == 1 then { s.sched with paced := s.sched.paced.add w }
       else { s.sched with grout := s.sched.grout.add w }) }

/-- Change the chunk of a command. -/
def State.mapChunk (s : State) (n counter : Nat) (f : Chunk → Chunk) : State :=
  s.mapCmd n counter (fun c => { c with chunk := c.chunk.map f })

/-- The samples of a chunk leave: to the host, or towards its lanes (R141, R413, R436). -/
def State.deliver (s : State) (n counter : Nat) (k : Chunk) (channels : Nat) (samples : List Nat) : State :=
  if k.out == 0 then
    let p : Produced := ⟨counter, k.position, chunks channels samples⟩
    State.flushProduced { s with produced := s.produced.put n (s.produced.getD n [] ++ [p]) } n
  else
    let s := if s.host then s.hostWrite k.out (samples.flatMap (leBytes 4)) else s
    let late := Nat.min k.frames (s.pos + 2 - k.position)
    let x := s.stream n
    let s := if s.rd (Obj.streamClass n) == 0 && decide (late > 0) then
      s.setStream n { x with missed := x.missed ++ [(k.position, late)] } else s
    s.renderTo n (k.position + k.frames)

/-- The feature rows of a chunk with the positions they stand for (R141, R218): bytes beyond LENGTH are zero. -/
def State.featureRows (s : State) (n : Nat) (im d : Bytes) (k : Chunk) (features : HostRead) : List (Nat × Bytes) :=
  let w := planRowBytes im
  let bs := padTo (k.tokens * w) (features.bytes.take (field d 32 4))
  (List.range k.tokens).map (fun i => (k.position + i * s.stepFrames n, slice bs (i * w) w))

/-- Reset marks of a chunk, as positions. -/
def Chunk.markPositions (k : Chunk) : List Nat := k.marks.map (k.position + ·)

/-- What the program of a chunk runs under. -/
def State.chunkCtx (s : State) (n counter : Nat) (k : Chunk) (rows : List (Nat × Bytes)) : TileCtx :=
  let plan := s.rd (Obj.streamPlan n)
  { plan := plan, image := s.planImage plan, areas := ((s.plans.find plan).map (·.areas)).getD [], stream := n, chunk := counter
    pos := k.position, frames := k.frames, segment := k.segment, fin := k.fin, marks := k.markPositions, rows := rows }

/-- Whether a brick is still to write back a section of a chunk (R326). -/
def State.owes (s : State) (n counter : Nat) : Bool := (s.stream n).owed.any (fun e => e.2.1 == counter)

/-- The work of a chunk begins: the carried state before it is kept, and its marks join those of its segments (R268, R308). -/
def State.openChunk (s : State) (n counter : Nat) (k : Chunk) : State :=
  let s := s.saveCarried n counter
  let x := s.stream n
  let new := k.markPositions.filter (fun f => !x.marks.contains f)
  s.setStream n { x with marks := x.marks ++ new }

/-- The samples a chunk's program put out, a word for each channel of each frame: words the program puts out beyond them are not
delivered, and words it does not put out are zero. DESIGN CHOICE (assumption 143). -/
def Chunk.samples (k : Chunk) (channels : Nat) (out : List Nat) : List Nat :=
  (List.range (k.frames * channels)).map (nth 0 out)

/-- A chunk's work has finished (R146, R196-R204, R308). -/
def State.finishChunk (s : State) (n : Nat) (c : Cmd) (k : Chunk) (channels : Nat) (samples : List Nat) : State :=
  let plan := s.rd (Obj.streamPlan n)
  let im := s.planImage plan
  let s := s.spend n (ceilDiv k.frames (s.stepFrames n) - k.done)
  let k := (((s.cmd n c.counter).bind (·.chunk)).getD k)
  let s := (s.retune n im k).writeCarried n
  let s := s.setStream n { s.stream n with before := Map.del (s.stream n).before c.counter }
  let clipped := s.worstClipped im k.counts
  let s := if clipped.isSome then (s.bump Obj.chunksClipped).bump (Obj.streamClippedChunks n) else s
  let k := { k with produced := true, clipped := clipped, done := ceilDiv k.frames (s.stepFrames n), bench := {} }
  let s := s.mapChunk n c.counter (fun _ => k)
  let s := s.wr (Obj.streamStreamFlags n) (setBit (s.rd (Obj.streamStreamFlags n)) 0 k.fin)
  let s := s.mapJoints plan (fun j => j.dropStream n (some c.counter))
  let s := s.digestSamples n k channels samples
  let s := s.deliver n c.counter k channels samples
  let s := if k.out == 0 then s.settleChunks n else s.endChunk n c.counter k
  s.retryWaiting n false

/-- The program of a chunk goes on; once it has ended the samples leave, or their write stops at a missing translation. -/
def State.workChunk (s : State) (n : Nat) (c : Cmd) (k : Chunk) (features : HostRead) (w : ChunkWork) : State :=
  let plan := s.rd (Obj.streamPlan n)
  let im := s.planImage plan
  let channels := Nat.max 1 (Config.planAttr im .channels)
  let ctx := s.chunkCtx n c.counter k (s.featureRows n im c.desc k features)
  let r := (s.openChunk n c.counter k).runProgram ctx (((s.plans.find plan).map (·.program)).getD []) k.bench
  let s := r.1.st.mapChunk n c.counter (fun x => { x with bench := r.1.bench })
  match r.2 with
  | some (.poison a space) => s.poisonHalt n c.counter k.position a space
  | some .wait => s
  | none =>
  if s.owes n c.counter then s
  else
    let samples := k.samples channels r.1.bench.out
    match sampleStop n k (4 * samples.length) w with
    | some x => (s.hostWrite k.out ((samples.flatMap (leBytes 4)).take (x.1 - k.out))).stopAt n c.counter k.position 0 x
    | none => s.finishChunk n c k channels samples

/-- Whether the bond map of a stream's plan places a stage on a brick that has faulted (R346). -/
def State.stageStopped (s : State) (n : Nat) : Bool :=
  (planBonds (s.planImage (s.rd (Obj.streamPlan n)))).any (fun b => b.kind == 1 && !(s.brick b.unit).run)

/-- A chunk of which a brick stage has faulted completes DEVICE_FAULT; the stream keeps the state the chunk before it wrote (R322,
R346). -/
def State.faultChunk (s : State) (n counter : Nat) : State :=
  let s := (s.restoreCarried n counter).mapJoints (s.rd (Obj.streamPlan n)) (fun j => j.dropStream n (some counter))
  (s.deviceFault n counter Obj.brickFaults).retryWaiting n false

/-- The carried state that a chunk reads as its work begins (R461): one that starts a segment reads none (R294). -/
def State.chunkReads (s : State) (n : Nat) (k : Chunk) : List (Nat × Nat × Nat) :=
  if k.segment || k.bench.next != 0 || k.moved != (0, 0) then [] else s.carriedAt n

/-- The transfers of a chunk's stages, then its program (R359, R360, R364, R461). -/
def State.runChunk (s : State) (n : Nat) (c : Cmd) (k : Chunk) (features : HostRead) (w : ChunkWork) : State :=
  let plan := s.rd (Obj.streamPlan n)
  let q := s.readStop (s.chunkReads n k)
  match q.2 with
  | some p => q.1.poisonHalt n c.counter k.position p.1 p.2
  | none =>
  let s := q.1
  let r := s.planMoves n c (s.planImage plan) plan k.map k.moved.1 k.moved.2 (w.moves.drop k.moved.1)
  let reached (at' : Nat × Nat) : State := r.1.mapChunk n c.counter (fun x => { x with moved := at' })
  match r.2 with
  | some (.halt st, i) => (reached (i, st.byte)).stopAt n c.counter k.position st.space (st.addr, st.why)
  | some (.wait key byte, i) => (reached (i, byte)).jointWait key n
  | none =>
    let s := (reached (w.moves.length, 0)).bump Obj.rearmsIgnored (w.ignores - k.ignores)
    let s := s.mapChunk n c.counter (fun x => { x with ignores := w.ignores })
    s.workChunk n c { k with moved := (w.moves.length, 0), ignores := w.ignores } features w

/-- CHUNK_DONE (R146, R346): `features` is what the feature read found, `work` what the chunk's work meets. A chunk of which a stage still waits
at a joint goes on at the next. -/
def execChunkDone (ring : RingId) (features : HostRead) (work : ChunkWork) (s : State) : Out :=
  let n := ring.val
  .next (match s.runningChunk n with
    | none => s
    | some (c, k) =>
      if c.phase == .halted || s.waitsPage n c.counter then s
      else if s.stageStopped n then s.faultChunk n c.counter
      else if s.decodes n && decide (k.decoded < k.tokens) then s
      else match featureStop n c.desc k features with
        | some x => s.stopAt n c.counter k.position 0 x
        | none => s.runChunk n c k features work)

end Sys2Proof.Machine
end

