-- ==== Sys2Proof/Machine/Memory.lean ====
section
/-! DEFINITION. Memory as it fails and is kept: retraining of the GDDR7 dies, errors and poison, the patrol scrub, CXL links
(R456-R469). -/

namespace Sys2Proof.Machine

/-! ### Retraining (R456-R459) -/

def State.die (s : State) (d : Nat) : DieRun := s.retrain.dies.getD d {}
def State.setDie (s : State) (d : Nat) (x : DieRun) : State :=
  { s with retrain := { s.retrain with dies := s.retrain.dies.put d x } }

/-- Index of the progress record of retraining. -/
def retrainRecord : Nat := 0x4020

/-- Whether a die may become due: in service, and not given up after three failures. -/
def State.retrainable (s : State) (d : Nat) : Bool := s.dieOn d && !s.rdB (Obj.dieDegraded d)

/-- A die becomes due (R456); in a window it waits for that to end (R457). -/
def State.makeDue (s : State) (d : Nat) : State :=
  let x := s.die d
  if !s.retrainable d || x.due.isSome then s
  else { s.setDie d { x with due := some s.retrain.order } with
           retrain := { (s.setDie d { x with due := some s.retrain.order }).retrain with order := s.retrain.order + 1 } }

/-- Whether a condition of R456 holds. -/
def State.dueFor (s : State) (d : Nat) : DueReason → Bool
  | .interval => decide (s.clk.frames ≥ (s.die d).trainedAt + s.rd Obj.retrainInterval)
  | .temperature =>
    decide ((toSigned 16 (s.rd (Obj.dieTemp d)) - (s.die d).temp).natAbs ≥ s.rd Obj.retrainDelta)
  | .crcRetries => decide ((s.die d).retries > 64)

/-- RETRAIN_DUE (R456). -/
def execRetrainDue (die : Fin 84) (why : DueReason) (s : State) : Out :=
  .next (if (s.die die.val).window.isNone && s.dueFor die.val why then s.makeDue die.val else s)

/-- Insert a die by its order, ties to the lower number. -/
def insertDue (x : Nat × Nat) : List (Nat × Nat) → List (Nat × Nat)
  | [] => [x]
  | y :: ys => if x.1 < y.1 || (x.1 == y.1 && decide (x.2 ≤ y.2)) then x :: y :: ys else y :: insertDue x ys

/-- Dies due, those that have waited longest first; ties to the lower number. -/
def State.dueDies (s : State) : List Nat :=
  (((List.range 84).filterMap (fun d => (s.die d).due.map (fun o => (o, d)))).foldr insertDue []).map (·.2)

/-- Dies in a window. -/
def State.inWindow (s : State) : List Nat := (List.range 84).filter (fun d => (s.die d).window.isSome)

/-- Choose up to `k` dies of different stacks. -/
def pickStacks : Nat → List Nat → List Nat → List Nat
  | 0, _, _ => []
  | _, _, [] => []
  | k + 1, busy, d :: ds => if busy.contains (d / 14) then pickStacks (k + 1) busy ds else d :: pickStacks k (d / 14 :: busy) ds

/-- The windows that start at a boundary (R457): dies of the round in progress, or of the one that begins. -/
def State.windowsAt (s : State) : List Nat :=
  let open' := s.inWindow
  let due := if s.retrain.round then s.dueDies.filter (fun d => (s.die d).inRound) else s.dueDies
  if !(decide (2 ≤ s.rd Obj.clockState) && decide (s.rd Obj.clockState ≤ 4)) then []
  else pickStacks (2 - open'.length) (open'.map (· / 14)) due

/-- A course boundary: a round begins where some die is due and none is retraining, and windows start (R457, R459). -/
def State.startWindows (s : State) : State :=
  let ds := s.windowsAt
  if ds.isEmpty then s
  else
    let due := s.dueDies
    let s :=
      if s.retrain.round then s
      else
        let s := due.foldl (fun s d => s.setDie d { s.die d with inRound := true }) s
        ({ s with retrain := { s.retrain with round := true, failed := false } }).progStart retrainRecord due.length
    ds.foldl (fun s d => s.setDie d { s.die d with due := none, window := some s.pos }) s

/-- End the round when none of its dies is left (R459). -/
def State.endRound (s : State) : State :=
  if s.retrain.round && !s.retrain.dies.any (fun e => e.2.inRound) then
    let t := { s with retrain := { s.retrain with round := false } }
    if s.retrain.failed then t.progFail retrainRecord Abort.hardware else t.progDone retrainRecord
  else s

/-- RETRAIN_WINDOW_END (R457, R459). -/
def execRetrainWindowEnd (die : Fin 84) (ok : Bool) (s : State) : Out :=
  let d := die.val
  .next (match (s.die d).window with
    | none => s
    | some at' =>
      if ok then
        let x : DieRun := { s.die d with window := none, inRound := false, trainedAt := s.clk.frames
                                         temp := toSigned 16 (s.rd (Obj.dieTemp d)), retries := 0 }
        let s := (((s.setDie d x).bump Obj.retrains).bump (Obj.dieRetrains d)).wr (Obj.dieLastTrained d) at'
        let s := s.wr (Obj.dieRetrainFails d) 0
        (s.wr (Obj.progPosition retrainRecord) (s.rd (Obj.progPosition retrainRecord) + 1)).endRound
      else
        let s := s.setDie d { s.die d with window := none, inRound := false }
        let s := (s.bump Obj.retrainFails).bump (Obj.dieRetrainFails d)
        let s := if s.rd (Obj.dieRetrainFails d) ≥ 3 then s.wr (Obj.dieDegraded d) 1 else s.makeDue d
        ({ s with retrain := { s.retrain with failed := true } }).endRound)

/-! ### Errors and poison (R460-R463) -/

/-- Ranges an expander serves (R465). -/
def State.expanderRanges (s : State) (x : Nat) : List (Nat × Nat) :=
  let len := s.rd (Obj.expMapped x)
  if len == 0 then []
  else if s.rdB Obj.cxlInterleave then
    let all := s.mappedExpanders
    let i := (findIdx (· == x) all).getD 0
    (List.range (len / 4096)).map (fun j => (cxlBase + (j * all.length + i) * 4096, 4096))
  else [(s.rd (Obj.expBase x), len)]

/-- Record the last line poisoned. -/
def State.lastPoison (s : State) (a space : Nat) : State := (s.wr Obj.lastPoisonAddr (a / 64 * 64)).wr Obj.lastPoisonSpace space

/-- Poison the line of a device address. -/
def State.poisonLine (s : State) (a space : Nat) : State :=
  ({ s with poison := addPoison (a / 64 * 64) 64 s.poison }).lastPoison a space

/-- An error in a plane line (R460). -/
def State.planeError (s : State) (a : Nat) (correctable : Bool) : State :=
  if rangeSpace a != some 1 || !s.mapped a then s
  else if correctable then s.bump Obj.planeCorrected else (s.poisonLine a 1).bump Obj.planeUncorrected

/-- An error in a GDDR7 line, after `retries` CRC retries of its die (R460). -/
def State.gddr7Error (s : State) (a retries : Nat) (correctable : Bool) : State :=
  match (if s.mapped a then s.dieOf a else none) with
  | none => s
  | some (d, _) =>
    let n := Nat.min retries 4
    let fixed := b2n (correctable && n == 0)
    let s := (s.bump Obj.gddr7CrcRetries n).bump (Obj.dieCorrected d) (n + fixed)
    let s := (s.setDie d { s.die d with retries := (s.die d).retries + n }).bump Obj.gddr7Corrected fixed
    if correctable then s else (s.poisonLine a 2).bump Obj.gddr7Uncorrected

/-- An error in a line of CXL memory (R460): a link replay corrects it, or the expander reports poison. -/
def State.cxlError (s : State) (a : Nat) (correctable : Bool) : State :=
  match s.expanderOf a with
  | none => s
  | some x => if correctable then s else ((s.poisonLine a 3).bump Obj.cxlPoisoned).bump (Obj.expPoisoned x)

/-- An error in a tile buffer line (R460). Tile t's buffer is numbered from t × 8 MiB on (assumption 47); an address in no enabled tile's
buffer names no line. -/
def State.tbufError (s : State) (a : Nat) (correctable : Bool) : State :=
  if !s.tileOn (a / tbufSize) then s
  else if correctable then s.bump Obj.tbufCorrected
  else (({ s with tbufPoison := addPoison (a / 64 * 64) 64 s.tbufPoison }).lastPoison a 4).bump Obj.tbufUncorrected

/-- An error in a brick's local memory (R321); the address is 262,144 × brick + local address. -/
def State.brickError (s : State) (a : Nat) (correctable : Bool) : State :=
  let k := a / 262144
  if !s.brickOn k then s
  else if correctable then s.bump Obj.localEccCorrected
  else
    let b := s.brick k
    let w := a % 262144 / 8
    if b.bad.contains w then s else s.setBrick k { b with bad := b.bad ++ [w] }

/-- MEMORY_ERROR (R460). -/
def execMemoryError (tier : MemTier) (addr retries : Nat) (correctable : Bool) (s : State) : Out :=
  .next (match tier with
    | .tileBuffer => s.tbufError addr correctable
    | .plane => s.planeError addr correctable
    | .gddr7 => s.gddr7Error addr retries correctable
    | .cxl => s.cxlError addr correctable
    | .brickLocal => s.brickError addr correctable)

/-- PATROL_SCRUB (R463): a line read by the scrub; an error it cannot correct is left to the readers. -/
def execPatrolScrub (tier : MemTier) (addr : Nat) (corrected : Bool) (s : State) : Out :=
  .next (if !corrected then s
    else match tier with
      | .plane => s.planeError addr true
      | .gddr7 => if gddr7Base ≤ addr && decide (addr < localBase 0) then s.gddr7Error addr 0 true else s
      | _ => s)

/-! ### CXL links (R466) -/

/-- CXL_LINK_DOWN (R466). -/
def execCxlLinkDown (expander : Fin 8) (s : State) : Out :=
  let x := expander.val
  .next (if s.rd (Obj.expState x) != 1 then s
    else
      let rs := s.expanderRanges x
      let lines := sumN (rs.map (fun r => r.2 / 64))
      let s := { s with poison := rs.foldl (fun ps (r : Nat × Nat) => addPoison r.1 r.2 ps) s.poison }
      let s := (s.bump Obj.cxlPoisoned lines).bump (Obj.expPoisoned x) lines
      let s := match rs.getLast? with
        | some r => s.lastPoison (r.1 + r.2 - 64) 3
        | none => s
      (s.bump (Obj.expLinkDowns x)).wr (Obj.expState x) 2)

/-- CXL_LINK_UP (R466): the lines stay poisoned until written. -/
def execCxlLinkUp (expander : Fin 8) (s : State) : Out :=
  .next (if s.rd (Obj.expState expander.val) == 2 then s.wr (Obj.expState expander.val) 1 else s)

end Sys2Proof.Machine
end

