-- ==== Sys2Proof/Machine/Host.lean ====
section
/-! DEFINITION. The host link: detachment, the link coming up, and the aperture (R117-R123, R130). -/

namespace Sys2Proof.Machine

/-! ### The PCI Express function (R117, R122) -/

/-- Capabilities the function advertises; what R117 marks as absent or not supported has none. -/
inductive PcieCap where
  | powerManagement | pciExpress | aer | deviceSerial | ats | pri | dataLinkFeature | physical16 | physical32 | physical64 | laneMargin
deriving DecidableEq, Repr

/-- A base address register: its number, its size, whether it is prefetchable. Each is 64 bits wide (R122). -/
structure BarInfo where
  bar      : Nat
  size     : Nat
  prefetch : Bool
deriving DecidableEq, Repr

/-- The BARs of the function (R122): the dictionary window, the doorbells, the aperture. -/
def bars : List BarInfo := [⟨0, 16 * 2 ^ 20, false⟩, ⟨2, 256 * 2 ^ 10, false⟩, ⟨4, 16 * GiB, true⟩]

/-- What the function presents in its configuration space. -/
structure PcieFunction where
  vendor       : Nat := 0x1F4B
  device       : Nat := 0x6084
  classCode    : Nat := 0x120000
  revision     : Nat
  subsysVendor : Nat
  subsysId     : Nat
  headerType   : Nat := 0
  multi        : Bool := false
  serial       : Nat
  caps         : List PcieCap := [.powerManagement, .pciExpress, .aer, .deviceSerial, .ats, .pri, .dataLinkFeature, .physical16, .physical32,
    .physical64, .laneMargin]
  noSoftReset  : Bool := true
  pme          : Bool := false
  flr          : Bool := false
  maxPayload   : Nat := 512
  maxRead      : Nat := 4096
  tags10       : Bool := true
  atsUnit      : Nat := 4096
  atsQueue     : Nat := 32
  priCapacity  : Nat := maxRequests
  bars         : List BarInfo := Machine.bars
deriving DecidableEq, Repr

/-- The function as the host finds it: the Revision ID is SILICON_REV, the Subsystem IDs those of reset, and the serial number derives
from the device-unique identity. -/
def State.pcieFunction (s : State) : PcieFunction :=
  { revision := s.rd Obj.siliconRev, subsysVendor := s.subsys.1, subsysId := s.subsys.2
    serial := (Config.pcieSerial (s.rd Obj.deviceSerial)).toNat }

/-! ### Enabling and disabling rings (R119, R120, R130) -/

/-- A commit sets `RING_ENABLE` of a DISABLED ring: its counters are zero and it runs (R130). -/
def State.enableRing (s : State) (n : Nat) : State :=
  (((s.setRing n {}).wr (Obj.streamCmdHead n) 0).wr (Obj.streamCplTail n) 0).setRingState n 1

/-- A commit clears `RING_ENABLE` (R130): a RUNNING or HALTED ring drains, and its halted commands end. -/
def State.disableRing (s : State) (n : Nat) : State :=
  let s := (s.wr (Obj.streamRingEnable n) 0).setRing n { s.ring n with kept := false }
  let s := if s.ringState n == 1 || s.ringState n == 2 then s.setRingState n 3 else s
  if s.ringState n == 5 then s else s.abandonHalted n

/-! ### HOST_DETACH (R119, R120) -/

/-- Whether a chunk that has not produced its samples can run without the host: it serves lanes, it is released, and its
features have been read in full. The manual does not say when features are read: free. -/
def State.chunkRuns (s : State) (n : Nat) (k : Chunk) : Bool × State :=
  if s.hostOutput n || !k.released then (false, s)
  else
    let f := s.freeWord
    (bit f.1 0, f.2)

/-- End the chunks of a ring that still need host memory, the first such and every later one; `POSITION` returns to the first
(R120). -/
def endChunks (n : Nat) : List Cmd → Bool → State → State
  | [], _, s => s
  | c :: cs, ended, s =>
    match c.chunk with
    | none => endChunks n cs ended s
    | some k =>
      if c.final.isSome || k.produced then endChunks n cs ended s
      else
        let r := if ended then (false, s) else s.chunkRuns n k
        if r.1 then endChunks n cs false r.2
        else
          let s := r.2.mapJoints (r.2.rd (Obj.streamPlan n)) (fun j => j.dropStream n (some c.counter))
          let s := if ended then s else
            let s := s.restoreCarried n c.counter
            (s.setStream n { s.stream n with segNext := k.segment }).wr (Obj.streamPosition n) k.position
          endChunks n cs true (s.finish n c.counter St.cancelled (some 0))

/-- End a command that needs host memory: a FEED not yet checked, a MOVE, a LOAD, a CHECKPOINT, a RENDER to the host. -/
def State.endAway (s : State) (n : Nat) (c : Cmd) : State :=
  if c.final.isSome then s
  else if c.op == 10 then
    let f := s.freeWord
    (f.2.endLoad n c (some (f.1 % 2 ^ 32))).finish n c.counter St.cancelled (some 0)
  else if c.op == 9 then
    let s := s.mapCmd n c.counter (fun c => { c with xfer := c.xfer.map (fun x => { x with context := false }) })
    (s.finish n c.counter St.cancelled (some 0)).endIgnored n c.counter ⟨St.cancelled, some 0, 0, 0⟩
  else if c.op == 8 || (c.op == 2 && c.chunk.isNone) || (c.op == 3 && c.phase == .fetched && s.hostOutput n) then
    s.finish n c.counter St.cancelled (some 0)
  else s

/-- A ring at detachment. One in ERROR or FAULT whose `RING_ENABLE` detachment clears stays in that state. -/
def State.detachRing (s : State) (n : Nat) : State :=
  let stays := s.rdB (Obj.streamRingEnable n) && decide (4 ≤ s.ringState n)
  let s := s.wr (Obj.streamRingEnable n) 0
  let s := if s.ringState n == 1 || s.ringState n == 2 then s.setRingState n 3 else s
  let s := s.loseEntries n
  let s := s.setRing n { s.ring n with errEntry := false, kept := (s.ring n).kept || stays, cutoff := some (s.rd (Obj.streamPosition n)) }
  let stuck := (s.ring n).cmds.filter (fun c => c.phase == .halted || s.waitsPage n c.counter)
  let s := stuck.foldl (fun s c => s.abandonCmd n c.counter) s
  let upto := s.rd (Obj.streamPosition n)
  let s := endChunks n (s.ring n).cmds false s
  let s := (s.ring n).cmds.foldl (fun s c => s.endAway n c) s
  let s := { s with members := s.members.map (fun (m : Member) => if m.stream == n then m.endBy upto else m) }
  (s.stream n).renders.foldl (fun s r => s.endRender n r false) s

/-- Host detachment (R119). A ring that is disabled and still has commands to end, in DRAINING, ERROR or FAULT, is treated as the
enabled ones are: none of its entries can be written (assumption 135). -/
def State.detach (s : State) (linkDown : Bool) : State :=
  let on := (s.rings.map (·.1)).filter (fun n => s.rdB (Obj.streamRingEnable n) || s.ringState n != 0)
  let s := on.foldl (fun s n => s.detachRing n) s
  let s := { s.wr Obj.statusEnable 0 with host := false, requests := [] }
  let s := if linkDown then (s.wr Obj.linkRate 0).wr Obj.linkWidth 0 else s
  s.bump Obj.hostDetaches

/-- HOST_DETACH (R119). -/
def execHostDetach (how : Detach) (s : State) : Out :=
  .next (if s.host then s.detach (how != .d3hot) else s)

/-! ### HOST_LINK_UP (R117) -/

/-- The link trains at rate 4, 5 or 6 and a width, or the function returns to D0 (R117). -/
def State.linkUp (s : State) (rate width : Nat) : State :=
  if s.host || !(rate == 4 || rate == 5 || rate == 6) || !(width == 4 || width == 8 || width == 16) then s
  else { ((s.wr Obj.linkRate rate).wr Obj.linkWidth width).wr Obj.linkDegraded (b2n (rate != 6 || width != 16)) with host := true }

/-- HOST_LINK_UP (R117): a leaf in electrical idle answers nothing (R501), and the link waits for verified firmware (R534). -/
def execHostLinkUp (rate width : Nat) (s : State) : Out :=
  .next (if decide (s.rd Obj.phase < 2) || (s.rd Obj.role == 4 && decide (s.pair.leftFor ≥ 64)) then s else s.linkUp rate width)

/-! ### APERTURE_ACCESS (R123, R449) -/

/-- Write the bytes of an access that fall on mapped addresses; the others are discarded (R449). -/
def State.apertureWrite (s : State) (a : Nat) : Bytes → State
  | [] => s
  | b :: bs => State.apertureWrite (if s.mapped a then { s with devMem := s.devMem.write a b } else s) (a + 1) bs

/-- What a read through the aperture returns (R123, R449); a plan's line is repaired first (R462); bytes where it meets a poisoned line are free, which R461 lets no
result take from the line. -/
def State.apertureRead (s : State) (offset width : Nat) : Bytes × State :=
  let a := s.rd Obj.apertureBase + offset
  let s := if s.rdB Obj.apertureEnable then s.repair a width else s
  if !s.rdB Obj.apertureEnable then (List.replicate width 0, s)
  else if (poisonIn s.poison a width).isSome then
    let f := s.freeWord
    (leBytes width f.1, f.2)
  else ((List.range width).map (fun i => if s.mapped (a + i) then s.devMem.read (a + i) else 0), s)

/-- APERTURE_ACCESS (R123): an access of `width` bytes at an offset of BAR4; a read is answered, and a LEFT leaf discards
writes (R501). -/
def execApertureAccess (offset width : Nat) (write : Option Nat) (s : State) : Out :=
  .next (if !s.host || decide (offset + width > 16 * GiB) then s
    else match write with
    | none => let r := s.apertureRead offset width; r.2.send (.aperture r.1)
    | some v =>
      if s.rd Obj.role == 4 then s
      else if !s.rdB Obj.apertureEnable then s.bump Obj.apertureDiscards
      else
        let a := s.rd Obj.apertureBase + offset
        let s := s.apertureWrite a (leBytes width v)
        { s with poison := s.cleaned a width })

end Sys2Proof.Machine
end

