-- ==== Sys2Proof/Machine/Pair.lean ====
section
/-! DEFINITION. The cavity pair: the tie link, heartbeats, takeover and handover, dual-run, checkpoints, leaving
(R470-R506). -/

namespace Sys2Proof.Machine

def State.mapPair (s : State) (f : PairRun → PairRun) : State := { s with pair := f s.pair }

/-! ### The tie link (R473-R477) -/

/-- CRC-64 of ECMA-182 (R475). -/
def crc64 (bs : Bytes) : Nat := crcMsb 64 0x42F0E1EBA9EA3693 0 bs

/-- Flits a message takes (R475). -/
def Sent.flits : Sent → Nat
  | .tie _ _ body => ceilDiv (8 + body.length) 236
  | _ => 0

/-- Flits sent since the link came up that the partner has not acknowledged. -/
def State.unacked (s : State) : Nat := sumN ((s.sent.drop s.pair.txBase).map Sent.flits) - s.pair.acked

/-- The link goes down (R476): messages in flight are lost, and borrowed time ends (R49). -/
def State.tieDrop (s : State) : State :=
  let s := ((s.bump Obj.tieDowns).wr Obj.tieState 0).wr Obj.tieWidth 0
  let s := s.mapPair (fun p => { p with incoming := [], joinData := [] })
  if s.rd Obj.clockState == 3 then (((s.wr Obj.clockState 4).wr Obj.coastedCourses 0).setFlag 1 false).setFlag 0 true else s

/-- Replay from the flit after the last acknowledged one; after 8 replays without acceptance the link goes down (R476). -/
def State.replay (s : State) : State :=
  if s.unacked = 0 then s
  else if s.pair.replays ≥ 8 then s.tieDrop
  else ((s.mapPair (fun p => { p with replays := p.replays + 1 })).bump Obj.tieReplays).send (.tieReplay (s.pair.acked % 4096))

/-- Image bytes that a message of a leave carries (R478, R500). -/
def Sent.leaveBytes : Sent → Nat
  | .tie 4 _ body => if field body 2 1 == 1 then body.length - 16 else 0
  | _ => 0

/-- Image bytes of a leave in the messages that `k` acknowledged flits cover whole. -/
def ackedLeave : List Sent → Nat → Nat
  | [], _ => 0
  | m :: ms, k => if m.flits ≤ k then m.leaveBytes + ackedLeave ms (k - m.flits) else 0

/-- The ACK field of a received flit; a leave's progress counts the bytes the partner has acknowledged (R500). -/
def State.takeAck (s : State) (ack : Nat) : State :=
  let n := (ack + 4096 - (s.pair.acked + 4095) % 4096) % 4096
  if n = 0 || n > s.unacked then s
  else
    let sent := s.sent.drop s.pair.txBase
    let more := ackedLeave sent (s.pair.acked + n) - ackedLeave sent s.pair.acked
    let s := s.mapPair (fun p => { p with acked := p.acked + n, replays := 0 })
    if s.pair.leaving == 3 && more != 0 then s.progAdd 0x1310 more else s

/-- TIE_FLIT (R476): the flit as FEC leaves it, and whether FEC corrected it. -/
def execTieFlit (flit : Bytes) (fecCorrected : Bool) (s : State) : Out :=
  .next (if !s.tieUp || flit.length != 256 then s
    else
      let s := if fecCorrected then s.bump Obj.tieFecCorrected else s
      if field flit 240 8 != crc64 (flit.take 240) then (s.bump Obj.tieCrcErrors).send (.tieNak s.pair.rxSeq)
      else
        let hdr := field flit 0 2
        let seq := bits hdr 11 0
        let kind := bits hdr 13 12
        let s := s.takeAck (bits (field flit 2 2) 11 0)
        if kind == 2 then s.replay
        else if kind != 0 then s
        else
          let ahead := (seq + 4096 - (s.pair.rxSeq + 1) % 4096) % 4096
          if ahead == 0 then (s.mapPair (fun p => { p with rxSeq := seq })).send (.tieAck seq)
          else if ahead < 2048 then s.send (.tieNak s.pair.rxSeq)
          else s.send (.tieAck s.pair.rxSeq))

/-- TIE_REPLAY_TIMEOUT (R476). -/
def execTieReplayTimeout (s : State) : Out := .next (if s.tieUp then s.replay else s)

/-- An attempt to train the tie link, and the width at which it trains (any other value: it fails). The measured latency is
not stated: free (R474). -/
def State.trainTie (s : State) (width : Nat) : State :=
  if s.rd Obj.tieState != 0 || !(width == 8 || width == 4) then s
  else
    let f := s.freeWord
    let s := ((f.2.wr Obj.tieState 2).wr Obj.tieWidth width).wr Obj.tieLatencyNs (f.1 % 65536)
    s.mapPair (fun p => { p with rxSeq := 4095, txBase := s.sent.length, acked := 0, replays := 0 })

/-- TIE_TRAINING (R474). -/
def execTieTraining (width : Nat) (s : State) : Out := .next (if s.rd Obj.phase < 2 then s else s.trainTie width)

/-- TIE_RETRAIN (R477): both halves are retrained; where one fails the link goes on at x4, or goes down when it is at x4
already (R474). -/
def execTieRetrain (ok : Bool) (s : State) : Out :=
  .next (if !s.tieUp then s
    else
      let s := s.bump Obj.tieRetrains
      if ok then s else if s.rd Obj.tieWidth == 8 then s.wr Obj.tieWidth 4 else s.tieDrop)

/-! ### What a leaf sends (R480, R484, R492) -/

/-- Whether a live chunk completed DEVICE_FAULT in the last course (R484). -/
def State.faulted (s : State) : Bool :=
  match s.pair.faultAt with
  | some c => decide (s.course ≤ c + 1)
  | none => false

/-- LEAD_FRAMES (R484). -/
def State.leadFrames (s : State) : Nat := if s.rd Obj.role == 1 then (s.clk.frames - s.pair.leadSince) % 2 ^ 32 else 0

/-- Body of a HEARTBEAT (R484). -/
def State.heartbeatBody (s : State) : Bytes :=
  leBytes 8 (s.pos / 16) ++ leBytes 1 (s.rd Obj.role) ++
  leBytes 1 (b2n s.pair.relinquish + 2 * b2n s.drives + 4 * b2n s.faulted + 8 * b2n (s.rd Obj.clockState == 2)) ++
  leBytes 2 (Nat.min (s.rd Obj.coastedCourses) 65535) ++ leBytes 4 s.leadFrames

/-- Body of a COURSE_SYNC (R480): the position it names, and where a jump came from. -/
def State.courseSyncBody (s : State) (position : Nat) (jump : Option Nat) : Bytes :=
  leBytes 8 position ++ leBytes 8 (jump.getD 0) ++ leBytes 4 (s.rd Obj.rateError) ++ leBytes 4 (s.rd Obj.houseRateHz) ++
  leBytes 2 (Nat.min (s.rd Obj.coastedCourses) 65535) ++ leBytes 1 (s.rd Obj.courseLog2) ++ leBytes 1 (s.rd Obj.clockState) ++
  leBytes 1 (s.rd Obj.positionFlags) ++ leBytes 1 (b2n jump.isSome) ++ leBytes 2 0

/-- Send a COURSE_SYNC to a paired partner. -/
def State.sendCourseSync (s : State) (position : Nat) (jump : Option Nat) : State :=
  if s.rdB Obj.paired then s.tieSend 2 0 (s.courseSyncBody position jump) else s

/-- The watchdog is fed, and with it goes the heartbeat on both paths (R484, R485): nothing in LEFT, nothing once the watchdog
has failed, nothing before pairing begins (R482). -/
def State.beat (s : State) : State :=
  if s.pair.failed then s
  else
    let s := s.mapPair (fun p => { p with fedTick := some (s.pos / 16) })
    if s.rd Obj.role == 4 || decide (s.rd Obj.phase < 5) then s
    else
      let up := !s.pair.hbOut
      ((s.mapPair (fun p => { p with hbOut := up })).send (.heartbeatEdge up)).tieSend 1 0 s.heartbeatBody

/-- What the tick that ends brought from the partner (R484). -/
def State.countBeats (s : State) : State :=
  let p := s.pair
  let got := p.gotMsg || p.gotEdge
  let s :=
    if !s.rdB Obj.paired then s
    else if !got then s.bump Obj.hbMissed
    else if !(p.gotMsg && p.gotEdge) then s.bump Obj.hbPathMissed
    else s
  s.mapPair (fun p => { p with gotMsg := false, gotEdge := false, silent := if got then 0 else p.silent + 1 })

/-! ### Digests (R491, R492) -/

/-- The digest of a stream over a course (R491). -/
def State.streamDigest (s : State) (n c : Nat) : Nat :=
  ofLE ((sha256 (ascii ['F', 'Y', '6', '0', '8', '4', '-', 'D', 'I', 'G', 'E', 'S', 'T'] ++ leBytes 2 n ++
    leBytes 4 (s.rd (Obj.streamGeneration n)) ++ leBytes 8 c ++ (s.stream n).digest.getD c [])).take 8)

/-- Whether a fetched chunk covers frames of a course and has not written its samples. -/
def State.unwritten (s : State) (n c : Nat) : Bool :=
  let l := s.courseLen
  (s.ring n).cmds.any (fun k => match k.chunk with
    | some h => !h.produced && decide (h.position < (c + 1) * l) && decide (c * l < h.position + h.frames)
    | none => false)

/-- The entries of a course (R492). -/
def State.digestEntries (s : State) (c : Nat) : List DigestEntry :=
  (s.streams.filter (fun e => e.2.bound && s.rd (Obj.streamClass e.1) == 0)).map (fun e =>
    let kind := if e.2.digestFault.contains c then 2
      else if s.unwritten e.1 c || (e.2.digest.find c).isNone then 1 else 0
    ⟨e.1, kind, s.rd (Obj.streamGeneration e.1), s.streamDigest e.1 c⟩)

def DigestEntry.bytes (e : DigestEntry) : Bytes :=
  leBytes 2 e.stream ++ leBytes 1 e.kind ++ [0] ++ leBytes 4 e.gen ++ leBytes 8 e.digest

/-- Start to re-synchronise a diverged stream on the following leaf (R493). -/
def State.startResync (s : State) (n c : Nat) : State :=
  if s.rd Obj.role != 2 || s.pair.resyncs.any (fun r => r.stream == n) then s
  else s.mapPair (fun p => { p with resyncs := p.resyncs ++ [⟨n, 2 ^ 64, 0, c⟩] })

/-- Compare the entries of a course (R492). -/
def State.compareDigests (s : State) (c : Nat) (own theirs : List DigestEntry) : State :=
  let s := own.foldl (fun s e =>
    match theirs.find? (fun t => t.stream == e.stream) with
    | none => s.bump Obj.unmatched
    | some t =>
      if e.kind == 0 && t.kind == 0 && (e.gen != t.gen || e.digest != t.digest) then
        (((s.bump Obj.divergences).wr Obj.lastDivergedStream e.stream).wr Obj.lastDivergedCourse c).startResync e.stream c
      else s) s
  s.bump Obj.unmatched ((theirs.filter (fun t => !own.any (fun e => e.stream == t.stream))).length)

/-- Form and send the DIGEST of the course before this one, and compare it with the partner's if that has come (R492). -/
def State.sendDigest (s : State) : State :=
  let c := s.course - 1
  if s.course = 0 || s.pair.digestAt == some c then s
  else
    let es := s.digestEntries c
    let s := { s with streams := s.streams.mapV (fun _ x =>
      { x with digest := x.digest.filter (fun e => decide (e.1 > c)), digestFault := x.digestFault.filter (fun d => decide (d ≥ c)) }) }
    let theirs := s.pair.theirs.find c
    let s := s.mapPair (fun p =>
      { p with digestAt := some c, own := Map.put (p.own.filter (fun e => decide (e.1 + 3 > c))) c es
               theirs := Map.del (p.theirs.filter (fun e => decide (e.1 + 3 > c))) c })
    let s := if s.rdB Obj.paired then
      s.tieSend 3 0 (leBytes 8 c ++ leBytes 2 es.length ++ leBytes 6 0 ++ es.flatMap DigestEntry.bytes) else s
    match theirs with
    | some t => s.compareDigests c es t
    | none => s

/-- Entries of a DIGEST's body. -/
def parseDigest (body : Bytes) : List DigestEntry :=
  (List.range (field body 8 2)).map (fun i =>
    let o := 16 + 16 * i
    ⟨field body o 2, field body (o + 2) 1, field body (o + 4) 4, field body (o + 8) 8⟩)

/-- DIGEST (R492): the partner's entries for a course. -/
def execDigest (body : Bytes) (s : State) : Out :=
  .next (
    let c := field body 0 8
    if !s.tieUp || body.length != 16 + 16 * field body 8 2 then s
    else
      let es := parseDigest body
      let s := s.mapPair (fun p => { p with partnerLive := es.map (·.stream), partnerGens := es.map (fun e => (e.stream, e.gen)) })
      if s.course ≥ c + 3 then s
      else match s.pair.own.find c with
        | some own => s.compareDigests c own es
        | none => s.mapPair (fun p => { p with theirs := p.theirs.put c es }))

/-! ### State images (R493, R495-R498) -/

/-- The position at which a stream's state stands: that of its first chunk that has not written it, or `POSITION`. -/
def State.statePosition (s : State) (n : Nat) : Nat :=
  ((((s.ring n).cmds.filterMap (fun c => match c.chunk with
    | some k => if c.final.isNone && !k.produced then some k.position else none
    | none => none)).head?).getD (s.rd (Obj.streamPosition n)))

/-- The image of a stream's state where it stands (R495). -/
def State.stateImage (s : State) (n : Nat) : Bytes :=
  (s.wr (Obj.streamPosition n) (s.statePosition n)).checkpointImage n

/-- Body of a segment of an image (R478). -/
def segmentBody (n purpose flags offset total : Nat) (data : Bytes) : Bytes :=
  leBytes 2 n ++ leBytes 1 purpose ++ leBytes 1 flags ++ leBytes 4 offset ++ leBytes 8 total ++ data

/-- Push an image: messages of up to 4,096 bytes, the first and the last of them flagged. -/
def State.pushImage (s : State) (kind purpose n : Nat) (image : Bytes) : State :=
  let parts := chunks 4096 image
  (List.zip (List.range parts.length) parts).foldl (fun s e =>
    s.tieSend kind 0 (segmentBody n purpose (b2n (e.1 == 0) + 2 * b2n (e.1 + 1 == parts.length)) (4096 * e.1) image.length e.2)) s

/-- Count the shadows held (R504). -/
def State.countShadows (s : State) : State :=
  (s.wr Obj.shadows s.pair.shadows.length).wr Obj.shadowUsed (sumN (s.pair.shadows.map (fun e => e.2.length)))

/-- Discard the shadow of a stream. -/
def State.dropHeld (s : State) (n : Nat) : State :=
  (s.mapPair (fun p => { p with shadows := p.shadows.del n })).countShadows

/-- Whether a stream can be adopted from an image (R498): it is UNBOUND here, and its plan slot holds no other plan. -/
def State.adoptable (s : State) (n : Nat) (image : Bytes) : Bool :=
  !s.isBound n && (match s.plans.find (field image 24 4) with
    | some p => p.digest == ofBE (slice image 80 32)
    | none => true)

/-- Bind a stream AWAY from an image, its record held in place (R498). -/
def State.adoptStream (s : State) (n : Nat) (image : Bytes) : State :=
  let plan := field image 24 4
  let im := s.planImage plan
  let record := image.drop 64
  let retune := bit (field image 21 1) 2
  let s := ((((s.wr (Obj.streamResidency n) 2).wr (Obj.streamClass n) (field image 22 1)).wr (Obj.streamPlan n) plan).wr
    (Obj.streamLead n) (field image 51 1)).wr (Obj.streamPace n) (field image 52 4)
  let s := ((s.wr (Obj.streamGroup n) 0xFF).wr (Obj.streamArrears n) 0).wr (Obj.planBoundStreams plan)
    (s.rd (Obj.planBoundStreams plan) + 1)
  let s := if s.jointsLive plan then s else ((s.addJoints plan (planJoints im)).map (fun t => t.addColls plan im)).getD s
  let x : Stream := { bound := true, segNext := false, leadFrames := field image 51 1 * s.courseLen, kvWindow := s.bindWindow n im
                      boundAt := s.clk.frames, retune := retune, headroom := s.rd (Obj.streamRetuneHeadroom n) }
  let s := ((s.setStream n x).installRecord n plan record).placeAway n 1 record.length
  let s := s.devWrite (s.rd (Obj.streamStateAddr n)) record
  if Config.planAttr im .attention == 0 then s
  else (s.wr (Obj.streamKvPlacement n) 1).wr (Obj.streamKvBlocksReserved n) (s.bindWindow n im / 256)

/-- Adopt an image, or refuse it (R498). -/
def State.adoptImage (s : State) (n : Nat) (image : Bytes) : State :=
  if s.adoptable n image then (s.adoptStream n image).bump Obj.adopted else s.bump Obj.adoptRefused

/-- Adopt the partner's shadows when it is lost (R498): live streams bound only there, and their shadows, are counted as lost. -/
def State.adoptShadows (s : State) : State :=
  let held := s.pair.shadows
  let live := held.filter (fun e => field e.2 22 1 == 0)
  let gone := s.pair.partnerLive.filter (fun n => !s.isBound n && !live.any (fun e => e.1 == n))
  let s := (s.mapPair (fun p => { p with shadows := [], incoming := [], partnerLive := [], partnerGens := [] })).countShadows
  let s := s.bump Obj.streamsLost (live.length + gone.length)
  (held.filter (fun e => field e.2 22 1 != 0)).foldl (fun s e => s.adoptImage e.1 e.2) s

/-! ### Takeover and loss of the partner (R486-R488) -/

/-- Ticks in a row with no heartbeat, the present one counted at its last frame (R486, R487). -/
def State.silentTicks (s : State) : Nat :=
  s.pair.silent + b2n (s.pos % 16 == 15 && !s.pair.gotMsg && !s.pair.gotEdge)

/-- Frame count of the first frame of the next tick, or of this frame when it is one. -/
def State.tickFrame (s : State) : Nat := if s.pos % 16 = 0 then s.clk.frames else s.clk.frames + (16 - s.pos % 16)

/-- The partner is gone: nothing of it is known. -/
def State.unpair (s : State) : State :=
  let s := (s.wr Obj.paired 0).wr Obj.partnerRole 0xFF
  s.mapPair (fun p => { p with silent := 0, handover := false, resyncs := [], asked := []
                               unheld := p.unheld ++ p.resyncs.map (·.stream) })

/-- Become LEADING. -/
def State.lead (s : State) (at' : Nat) : State :=
  (s.wr Obj.role 1).mapPair (fun p => { p with leadSince := at', released := false, handover := false })

/-- TAKEOVER (R486): decided at the last frame of the second silent tick, it drives the lanes from the next. -/
def execTakeover (s : State) : Out :=
  .next (if s.rd Obj.role == 2 && s.rdB Obj.paired && decide (s.silentTicks ≥ 2) && !s.pair.failed then
    (((s.lead s.tickFrame).bump Obj.takeovers).adoptShadows).unpair
  else s)

/-- PARTNER_LOSS (R488). -/
def execPartnerLoss (s : State) : Out :=
  .next (if s.rd Obj.role == 1 && s.rdB Obj.paired && decide (s.silentTicks ≥ 2) then
    ((s.bump Obj.partnerLosses).adoptShadows).unpair
  else s)

/-! ### Heartbeats received (R482, R484, R486, R488) -/

/-- Two leaves LEADING: d of R488 and whether this leaf releases. -/
def State.loses (s : State) (theirs : Nat) : Bool :=
  let d := (s.leadFrames + 2 ^ 32 - theirs % 2 ^ 32) % 2 ^ 32
  decide (d > 2 ^ 31) || ((d == 0 || d == 2 ^ 31) && s.rd Obj.leafId == 1)

/-- The first JOIN of a leaf: its nonce, its firmware digest, its role, and no report yet, for want of the partner's nonce
(R502, R529). -/
def State.joinHello (s : State) : State :=
  if !s.pair.joinNonce.isEmpty || !s.tieUp then s
  else
    let e := s.entropy16
    let s := e.2.mapPair (fun p => { p with joinNonce := e.1 })
    s.tieSend 9 0 (e.1 ++ leBytes 32 (s.rd Obj.firmwareDigest) ++ leBytes 1 (s.rd Obj.role) ++ leBytes 7 0)

/-- What a heartbeat's role and flags lead to. -/
def State.heardRole (s : State) (role flags lead : Nat) : State :=
  let own := s.rd Obj.role
  let was := s.rd Obj.partnerRole
  let s := (s.wr Obj.partnerRole role).mapPair (fun p => { p with flags := flags })
  if own == 0 then
    (if s.rd Obj.phase == 5 && s.rd Obj.pairFailReason == 0 && decide (role ≤ 1) then s.joinHello else s)
  else if own == 1 && role == 1 then
    if s.pair.relinquish then
      (s.wr Obj.role 2).mapPair (fun p => { p with relinquish := false, released := false })
    else if bit flags 0 then s
    else if s.loses lead then ((s.wr Obj.role 0).wr Obj.pairFailReason 3).wr Obj.paired 0
    else s
  else if own == 2 && bit flags 0 && s.rd Obj.clockState == 2 then s.lead (s.clk.frames + 1)
  else if own == 2 && was == 1 && (role == 2 || role == 3) then (s.lead s.clk.frames).bump Obj.handovers
  else s

/-- HEARTBEAT (R484). -/
def execHeartbeat (body : Bytes) (s : State) : Out :=
  .next (if !s.tieUp || body.length != 16 || s.rd Obj.role == 4 || decide (field body 8 1 > 4) then s
    else
      let mine := field body 0 8 == s.pos / 16
      let s := s.mapPair (fun p => { p with alive := true, gotMsg := p.gotMsg || mine })
      s.heardRole (field body 8 1) (field body 9 1) (field body 12 4))

/-- PAIR_HB_EDGE (R484). -/
def execPairHbEdge (s : State) : Out := .next (s.mapPair (fun p => { p with alive := true, gotEdge := true }))

/-- PAIRING_TIMEOUT (R482): no heartbeat on either path for 2,000 ms of phase 5. -/
def execPairingTimeout (refMs : Nat) (s : State) : Out :=
  .next (if s.rd Obj.role == 0 && s.rd Obj.phase == 5 && !s.pair.alive && s.rd Obj.pairFailReason == 0 && decide (refMs ≥ 2000) then
    s.lead s.clk.frames else s)

/-! ### Handover (R489, R494) -/

/-- A write of 1 to `HANDOVER`: its abort code, 0 for none. -/
def State.requestHandover (s : State) : Nat × State :=
  if s.rd Obj.role != 1 then (Abort.wrongState, s) else (0, s.mapPair (fun p => { p with handover := true }))

/-- Step 1 of a leave (R500). -/
def State.announceLeave (s : State) : State :=
  ((s.wr Obj.role 3).mapPair (fun p => { p with leaving := 2 })).tieSend 8 0 (1 :: List.replicate 7 0)

/-- The switch at a course boundary (R489): the leading leaf on the conditions of the rule, a following leaf that has been told
of the request on the same conditions. -/
def State.handoverSwitch (s : State) : State :=
  let p := s.pair
  if !p.handover || !s.tieUp then s
  else if s.rd Obj.role == 1 then
    if s.rd Obj.partnerRole == 2 && bit p.flags 3 && !bit p.flags 2 then
      let s := ((s.wr Obj.role 2).bump Obj.handovers).mapPair (fun p => { p with handover := false })
      if p.leaving == 1 then s.announceLeave else s
    else s
  else if s.rd Obj.role == 2 then
    if s.rd Obj.partnerRole == 1 && s.rd Obj.clockState == 2 && !s.faulted then
      (s.lead s.clk.frames).bump Obj.handovers
    else s
  else s

/-- LEAVE_MESSAGE (R478, R494, R500). -/
def execLeaveMessage (body : Bytes) (s : State) : Out :=
  .next (if !s.tieUp || body.length != 8 then s
    else
      let reason := field body 0 1
      if reason == 1 then s.wr Obj.partnerRole 3
      else if reason == 2 && s.rd Obj.role == 2 then s.mapPair (fun p => { p with handover := true })
      else s)

/-! ### Re-synchronisation and joining live streams (R493, R503) -/

/-- Ask for the states whose released chunks have settled (R493, steps 1 and 2). -/
def State.askResyncs (s : State) : State :=
  s.pair.resyncs.foldl (fun s r =>
    if r.purpose != 0 || r.frontier != 2 ^ 64 || !s.stateSettled r.stream then s
    else
      let f := s.statePosition r.stream
      let s := s.mapPair (fun p => { p with resyncs := p.resyncs.map (fun q => if q.stream == r.stream then { q with frontier := f } else q) })
      s.tieSend 4 0 (segmentBody r.stream 0 4 0 f [])) s

/-- RESYNC_STATE_TAKE (R493, R503): the first point between chunks at or after the frontier. -/
def execResyncStateTake (ring : RingId) (s : State) : Out :=
  let n := ring.val
  .next (match s.pair.asked.find? (fun r => r.stream == n) with
    | none => s
    | some r =>
      if s.rd Obj.role != 1 || !s.tieUp || !s.isBound n || !s.stateSettled n || s.rd (Obj.streamResidency n) == 3 ||
          decide (s.statePosition n < r.frontier) then s
      else (s.pushImage 4 r.purpose n (s.stateImage n)).mapPair (fun p => { p with asked := p.asked.filter (fun q => q.stream != n) }))

/-- Discard a member joint's samples from a position on. -/
def Joint.cutFrom (j : Joint) (channels x : Nat) : Joint :=
  let recs := j.recs.filterMap (fun r => match r with
    | .packet tag ws e st c sp =>
      let first := ws.headD 0
      if first ≥ x then none
      else if first + tag ≤ x then some r
      else some (.packet (x - first) (ws.take (1 + ceilDiv ((x - first) * channels) 2)) e st c sp)
    | .spacer _ => some r)
  { j with recs := recs, readers := j.readers.map (fun (r : Reader) => if r.idx < recs.length then r else { r with idx := recs.length, word := 0, cur := false }) }

/-- Discard a stream's samples on their way to its lanes, from a position on. -/
def State.cutSamples (s : State) (n x : Nat) : State :=
  let s := (s.members.filter (fun m => m.stream == n)).foldl (fun s m => match s.joints.find m.joint with
    | some j => { s with joints := s.joints.put m.joint (j.cutFrom m.channels x) }
    | none => s) s
  { s with produced := s.produced.put n ((s.produced.getD n []).map (fun p => { p with samples := p.samples.take (x - p.first) })) }

/-- Step 4 of R493: the leading leaf's image has come. -/
def State.installResync (s : State) (n : Nat) (image : Bytes) : State :=
  match s.pair.resyncs.find? (fun r => r.stream == n && r.purpose == 0) with
  | none => s
  | some r =>
    let p := field image (64 + 48) 8
    let s := ((s.ring n).cmds.filter (fun c => c.final.isNone && (match c.chunk with
      | some k => !k.released && decide (k.position + k.frames ≤ p)
      | none => false))).foldl (fun s c => s.finish n c.counter St.cancelled (some ((c.chunk.map (·.position)).getD 0))) s
    let s := s.cutSamples n (r.course * s.courseLen)
    let want := s.rd (Obj.streamPosition n)
    let s := s.installRecord n (s.rd (Obj.streamPlan n)) (image.drop 64)
    let s := (s.setStream n { s.stream n with noise := true }).bump Obj.tableFills
    let left := (s.ring n).cmds.any (fun c => c.final.isNone && c.chunk.isSome)
    let s := if left then s.wr (Obj.streamPosition n) want else s
    (s.mapPair (fun q => { q with resyncs := q.resyncs.filter (fun x => x.stream != n), unheld := q.unheld ++ [n] })).bump Obj.resyncs

/-- A joining leaf installs a live stream as adoption does, if it admits it (R503). -/
def State.installJoin (s : State) (n : Nat) (image : Bytes) : State :=
  let t := s.adoptStream n image
  let s :=
    if s.adoptable n image && t.admitsNow n (t.reservation n) then
      (t.setStream n { t.stream n with admitted := field image 22 1 == 0 }).bump Obj.adopted
    else s.bump Obj.adoptRefused
  let s := s.mapPair (fun p => { p with resyncs := p.resyncs.filter (fun q => q.stream != n) })
  if s.pair.resyncs.any (fun q => q.purpose == 2) then s.progHold 0x1310 true else s.progDone 0x1310

/-- Collect a segment of an image; the whole image at its last one (R478). -/
def State.takeSegment (s : State) (body : Bytes) : Option Bytes × State :=
  let n := field body 0 2
  let flags := field body 3 1
  let off := field body 4 4
  let data := body.drop 16
  let start : Option Incoming := if bit flags 0 then some ⟨field body 8 8, []⟩ else s.pair.incoming.find n
  match start with
  | none => (none, s)
  | some i =>
    if off != i.data.length then (none, s.mapPair (fun p => { p with incoming := p.incoming.del n }))
    else
      let i := { i with data := i.data ++ data }
      if bit flags 1 then
        ((if i.data.length == i.total then some i.data else none), s.mapPair (fun p => { p with incoming := p.incoming.del n }))
      else (none, s.mapPair (fun p => { p with incoming := p.incoming.put n i }))

/-- STATE_PUSH (R493, R498, R503). -/
def execStatePush (body : Bytes) (s : State) : Out :=
  .next (
    let n := field body 0 2
    let purpose := field body 2 1
    if !s.tieUp || decide (body.length < 16) || decide (n ≥ 32768) || decide (purpose > 2) then s
    else if bit (field body 3 1) 2 then
      (if s.rd Obj.role == 1 && s.isBound n && s.rd (Obj.streamClass n) == 0 then
        s.mapPair (fun p => { p with asked := p.asked.filter (fun q => q.stream != n) ++ [⟨n, field body 8 8, purpose, 0⟩] })
      else s)
    else
      let s := if purpose == 2 && s.pair.resyncs.any (fun q => q.purpose == 2) then
        (s.progHold 0x1310 false).progAdd 0x1310 (body.length - 16) else s
      match s.takeSegment body with
      | (none, s) => s
      | (some image, s) =>
        if purpose == 0 then s.installResync n image
        else if purpose == 1 then s.adoptImage n image
        else s.installJoin n image)

/-- A write of 1 to `SYNC_START` (R503): WAITING for the partner's images. Their sizes are not known here: `TOTAL` is free. -/
def State.startSync (s : State) : Nat × State :=
  if s.rd Obj.role != 2 then (Abort.wrongState, s)
  else
    let ns := s.pair.partnerLive
    if ns.isEmpty then (0, ((s.progStart 0x1310 0).wr Obj.operation 2).progDone 0x1310)
    else
      let f := s.freeWord
      let s := ((f.2.progStart 0x1310 f.1).progHold 0x1310 true).wr Obj.operation 2
      let s := s.mapPair (fun p => { p with resyncs := p.resyncs.filter (fun q => q.purpose != 2) ++ ns.map (fun n => ⟨n, 0, 2, 0⟩) })
      (0, ns.foldl (fun s n => s.tieSend 4 0 (segmentBody n 2 4 0 0 [])) s)

/-! ### Checkpoints (R496-R498) -/

/-- CHECKPOINT_MESSAGE (R498): a segment of a shadow, or its end. A shadow with no room is not kept. -/
def execCheckpointMessage (body : Bytes) (s : State) : Out :=
  .next (
    let n := field body 0 2
    if !s.tieUp || decide (body.length < 16) || decide (n ≥ 32768) || field body 2 1 != 3 then s
    else if bit (field body 3 1) 3 then s.dropHeld n
    else match s.takeSegment body with
      | (none, s) => s
      | (some image, s) =>
        let old := (s.pair.shadows.getD n []).length
        if s.rd Obj.shadowUsed - old + image.length > s.rd Obj.shadowBudget || image.length > s.poolFree + old then s
        else ((s.mapPair (fun p => { p with shadows := p.shadows.put n image })).countShadows).bump Obj.checkpointsStored)

/-- Push a stream's image to the partner (R496, R497); whether it can be. -/
def State.pushCheckpoint (s : State) (n : Nat) (image : Bytes) : Bool × State :=
  if s.tieUp && s.rdB Obj.paired then
    (true, (s.pushImage 5 3 n image).setStream n { s.stream n with autoAt := s.statePosition n })
  else (false, s)

/-- Whether every FEED before a command of a ring has written its state (R496). -/
def State.feedsDone (s : State) (n counter : Nat) : Bool :=
  ((s.ring n).cmds.takeWhile (fun c => c.counter != counter)).all (fun c => c.op != 2 || c.final.isSome ||
    (match c.chunk with
      | some k => k.produced
      | none => false))

/-- A CHECKPOINT that has started (R496, R300). -/
def State.runCheckpoint (s : State) (n : Nat) (c : Cmd) : State :=
  if !s.feedsDone n c.counter || s.rd (Obj.streamResidency n) == 3 then s.begin n c.counter .waiting
  else
    let image := s.stateImage n
    let dest := field c.desc 16 8
    let live := s.rd (Obj.streamClass n) == 0
    if dest != 0 && decide (field c.desc 24 4 < image.length) then s.reject n c.counter Chk.checkpointSize 24
    else
      let r := if live then (true, s) else s.pushCheckpoint n image
      let s := r.2
      if dest == 0 then (if r.1 then s.finishDone n c.counter else s.reject n c.counter Chk.partner 0xFF)
      else (s.begin n c.counter).setXfer n c.counter { Transfer.blank 0 with desc := image, map := s.windows, noPartner := !r.1 }

/-- CHECKPOINT (R496). -/
def execCheckpoint (ring : RingId) (s : State) : Out :=
  let n := ring.val
  .next (match s.findCmd n 8 .waiting with
    | some c => s.runCheckpoint n c
    | none => match s.startCmd n 8 with
      | (some c, s) => s.runCheckpoint n c
      | (none, s) => s)

/-- Take the automatic checkpoints asked for whose FEEDs have written their state (R497, R300). -/
def State.takeAutoCheckpoints (s : State) : State :=
  s.streams.foldl (fun s e =>
    let n := e.1
    match e.2.autoGoal with
    | none => s
    | some goal =>
      let at' := s.statePosition n
      if !e.2.bound || s.rd (Obj.streamResidency n) == 3 ||
        (decide (at' < goal) && at' != s.rd (Obj.streamPosition n)) then s
      else
        let s := s.setStream n { s.stream n with autoGoal := none }
        (s.pushCheckpoint n (s.stateImage n)).2) s

/-- Automatic checkpoints at a course boundary (R497). -/
def State.autoCheckpoints (s : State) : State :=
  let k := s.rd Obj.autoCheckpoint
  if k == 0 || s.course % k != 0 then s
  else State.takeAutoCheckpoints ((s.streams.filter (fun e => e.2.bound && s.rd (Obj.streamClass e.1) != 0 &&
      decide (e.2.autoAt < s.rd (Obj.streamPosition e.1)))).foldl
    (fun s e => s.setStream e.1 { s.stream e.1 with autoGoal := some (s.rd (Obj.streamPosition e.1)) }) s)

/-! ### Leaving (R500, R501) -/

/-- A write of 1 to `LEAVE` (R500): its abort code, 0 for none. It is WAITING until the course boundary of step 2. -/
def State.startLeave (s : State) : Nat × State :=
  let own := s.rd Obj.role
  let theirs := s.rd Obj.partnerRole
  if own == 0 || own == 3 || theirs == 0 || theirs == 3 then (Abort.wrongState, s)
  else if !s.tieUp || !s.rdB Obj.paired then (Abort.partnerUnreachable, s)
  else
    let s := ((s.progStart 0x1310 0).progHold 0x1310 true).wr Obj.operation 1
    (0, if own == 1 then s.mapPair (fun p => { p with leaving := 1, handover := true }) else s.announceLeave)

/-- Streams that are not in dual-run (R490). -/
def State.soloStreams (s : State) : List Nat := (s.streams.filter (fun e => e.2.bound && !s.dualRun e.1)).map (·.1)

/-- Step 2 of a leave, at the course boundary after step 1. -/
def State.leaveBoundary (s : State) : State :=
  if s.rd Obj.role == 4 then s.mapPair (fun p => { p with leftFor := p.leftFor + 1 })
  else if s.pair.leaving != 2 then s
  else
    let solo := s.soloStreams
    let s := { s with stopFetch := true }
    let s := solo.foldl (fun s n => s.cancelChunks n (fun c => c.pendingFrom 0)) s
    let s := s.mapPair (fun p => { p with leaving := 3, toPush := solo })
    (s.progHold 0x1310 false).wr (Obj.progTotal 0x1310) (sumN (solo.map (fun n => (s.stateImage n).length)))

/-- LEAVE_PUSH (R500, step 3): a stream whose released chunks have written their state. -/
def execLeavePush (ring : RingId) (s : State) : Out :=
  let n := ring.val
  .next (if s.pair.leaving != 3 || !s.pair.toPush.contains n || !s.tieUp || !s.stateSettled n || s.rd (Obj.streamResidency n) == 3
    then s
    else
      let image := s.stateImage n
      (s.pushImage 4 1 n image).mapPair (fun p => { p with toPush := p.toPush.filter (fun m => m != n) }))

/-- LEFT (R500, steps 4 and 5): every fetched command has ended, or is halted and ends now. -/
def execLeft (s : State) : Out :=
  .next (
    let busy := s.rings.any (fun e => e.2.cmds.any (fun c => c.final.isNone && c.phase != .halted))
    if s.pair.leaving != 3 || !s.pair.toPush.isEmpty || busy then s
    else
      let on := (s.rings.map (·.1)).filter (fun n => s.rdB (Obj.streamRingEnable n))
      let s := on.foldl (fun s n => s.disableRing n) s
      let s := (s.wr Obj.statusEnable 0).wr Obj.role 4
      (s.mapPair (fun p => { p with leaving := 4, leftFor := 0 })).progDone 0x1310)

/-- ELECTRICAL_IDLE (R501): 64 courses after LEFT with the host link up. -/
def execElectricalIdle (s : State) : Out :=
  .next (if s.rd Obj.role == 4 && decide (s.pair.leftFor ≥ 64) && s.host then s.detach true else s)

end Sys2Proof.Machine
end

