-- ==== Sys2Proof/Machine/Security.lean ====
section
/-! DEFINITION. The root of trust: firmware images and their update, fuses, attestation and the identity certificate
(R517-R531). -/

namespace Sys2Proof.Machine

/-! ### The defect log in the flash (R544) -/

/-- Bytes 0 to 15 of a copy's header. -/
def logHead (count seq : Nat) : Bytes := leBytes 4 0x6084444C ++ leBytes 2 1 ++ leBytes 2 count ++ leBytes 8 seq

/-- Entries of the log as bytes. -/
def logEntries (log : List (Unit' × Nat × Nat)) : Bytes :=
  log.flatMap (fun e =>
    leBytes 1 e.1.kind ++ leBytes 1 e.1.stack ++ leBytes 2 e.1.index ++ leBytes 4 e.2.1 ++ leBytes 4 e.2.2 ++ leBytes 20 0)

/-- A valid copy that holds a log. -/
def LogCopy.of (log : List (Unit' × Nat × Nat)) (seq : Nat) : LogCopy :=
  ⟨0x6084444C, log.length, seq, shaNat (logHead log.length seq ++ logEntries log), log⟩

/-- Whether MAGIC, COUNT and DIGEST of a copy agree. -/
def LogCopy.valid (c : LogCopy) : Bool := decide (c.count ≤ 1022) && c == LogCopy.of c.entries c.seq

/-- The copy in use: the valid one with the higher SEQ; `false` names copy 0. -/
def Flash.inUse (f : Flash) : Option (Bool × LogCopy) :=
  if f.copy0.valid && !(f.copy1.valid && decide (f.copy1.seq > f.copy0.seq)) then some (false, f.copy0)
  else if f.copy1.valid then some (true, f.copy1) else none

/-- The log as phase 0 finds it: with no valid copy it is empty. -/
def Flash.readLog (f : Flash) : Flash :=
  match f.inUse with
  | some c => { f with log := c.2.entries, logSeq := c.2.seq }
  | none => { f with log := [], logSeq := 0 }

/-- A change of the log: SEQ rises by 1, and the copy that does not hold the newer valid log is written. -/
def Flash.writeLog (f : Flash) (log : List (Unit' × Nat × Nat)) : Flash :=
  let c := LogCopy.of log (f.logSeq + 1)
  let f := { f with log := log, logSeq := f.logSeq + 1 }
  match f.inUse with
  | some (false, _) => { f with copy1 := c }
  | _ => { f with copy0 := c }

/-! ### Firmware images (R519, R520) -/

/-- Whether an LMS public key has the type codes of R518 for firmware. -/
def lmsTypes (key : Bytes) : Bool := ofBE (slice key 0 4) == 8 && ofBE (slice key 4 4) == 4

def imageSvn (h : Bytes) : Nat := field h 8 2
def imageBytes (h : Bytes) : Nat := field h 12 4
def countersigned (h : Bytes) : Bool := bit (field h 6 2) 0

/-- MAGIC, VERSION, reserved fields and IMAGE_BYTES (R519). -/
def headerOk (h : Bytes) : Bool :=
  h.length == 4096 && field h 0 4 == 0x60844657 && field h 4 2 == 1 && decide (field h 6 2 < 2) && decide (imageSvn h ≤ 64) &&
  field h 10 2 == 0 && decide (1 ≤ imageBytes h) && decide (imageBytes h ≤ 16773120) && field h 24 8 == 0 &&
  allZero (slice h 176 80) && allZero (slice h 3800 296) &&
  (countersigned h || (allZero (slice h 120 56) && allZero (slice h 2028 1772)))

/-- The vendor's signature (R520, step 2). -/
def State.vendorOk (s : State) (h : Bytes) : Bool :=
  lmsTypes (slice h 64 56) && shaNat (slice h 64 56) == s.root.vendorKey &&
  Config.verifies (shaNat (slice h 64 56)) (h.take 256) (slice h 256 1772)

/-- The customer's signature (R520, step 3). -/
def State.customerOk (s : State) (h : Bytes) : Bool :=
  match s.root.customer with
  | none => true
  | some c => countersigned h && lmsTypes (slice h 120 56) && shaNat (slice h 120 56) == c &&
      Config.verifies (shaNat (slice h 120 56)) (h.take 2028) (slice h 2028 1772)

/-- State of a slot as R524 reports it: 0 empty, 1 valid, 2 invalid, 3 below `FUSED_SVN`; it passes R520 exactly when 1. -/
def State.slotState (s : State) (x : SlotImage) : Nat :=
  if x.empty then 0
  else if !headerOk x.head || !s.vendorOk x.head || !s.customerOk x.head then 2
  else if imageSvn x.head < s.rd Obj.fusedSvn then 3
  else if x.bodyDigest != ofBE (slice x.head 32 32) then 2
  else 1

/-- Objects of a slot: 0 slot A, 1 slot B. -/
def slotStateKey (k : Nat) : Nat := if k == 0 then Obj.slotAState else Obj.slotBState
def slotSvnKey (k : Nat) : Nat := if k == 0 then Obj.slotASvn else Obj.slotBSvn

/-! ### Update (R522) -/

/-- What a slot holds from now on; `none` where the model cannot know it. -/
def Flash.setSlot (f : Flash) (k : Nat) (x : Option SlotImage) : Flash :=
  if k == 0 then { f with slotA := x } else { f with slotB := x }

/-- The slot an update writes: the one that is not running. -/
def State.idleSlot (s : State) : Nat := 1 - s.rd Obj.runningSlot % 2

/-- The flash as a reset leaves it: a store not ended is lost, and a slot whose update is cut short holds what got there. -/
def State.flashKept (s : State) : Flash :=
  let f := { s.flash with storing := none }
  if s.root.update.isSome then f.setSlot s.idleSlot none else f

/-- Index of the update's progress record. -/
def updateRecord : Nat := 0x4210

/-- Start an update with a whole image; the caller has found no update running. -/
def State.startUpdate (s : State) (image : Bytes) : State :=
  ({ s with root := { s.root with update := some image } }).progStart updateRecord (2 * image.length)

/-- FW_UPDATE_DONE (R522): the flash took the image, or failed. -/
def execFwUpdateDone (flashOk : Bool) (s : State) : Out :=
  .next (match s.root.update with
    | none => s
    | some image =>
      let slot := s.idleSlot
      let s := { s with root := { s.root with update := none } }
      let head := image.take 4096
      let n := imageBytes head
      let x : SlotImage := ⟨head, shaNat (slice image 4096 n), false⟩
      let st := if image.length < 4096 + n then 2 else s.slotState x
      let s := s.wr (slotSvnKey slot) (imageSvn head)
      let s := { s with flash := s.flash.setSlot slot (if flashOk && decide (4096 + n ≤ image.length) then some x else none) }
      if !flashOk then (s.wr (slotStateKey slot) 2).progFail updateRecord Abort.storeFailed
      else if st == 1 then
        ((({ s with flash := { s.flash with control := slot } }).wr (slotStateKey slot) 1).wr Obj.bootSlot slot).progDone updateRecord
      else ((s.wr (slotStateKey slot) 2).bump Obj.verifyFails).progFail updateRecord
        (if st == 3 then Abort.rangeLow else Abort.consistency))

/-! ### Fuses (R521, R523) -/

/-- Burn fuses: what is burned stays, whatever resets follow. -/
def State.burn (s : State) (f : Fuses → Fuses) : State := { s with root := { s.root with fuses := s.root.fuses.map f } }

/-- A slot whose image is valid and now lies below the fuse counter. -/
def State.lowerSlot (s : State) (k : Nat) : State :=
  if s.rd (slotStateKey k) == 1 && decide (s.rd (slotSvnKey k) < s.rd Obj.fusedSvn) then s.wr (slotStateKey k) 3 else s

/-- A write of v to `SVN_ADVANCE`: its abort code, 0 for none. -/
def State.advanceSvn (s : State) (v : Nat) : Nat × State :=
  if v ≤ s.rd Obj.fusedSvn then (Abort.rangeLow, s)
  else if v > 64 || v > s.rd Obj.runningSvn then (Abort.rangeHigh, s)
  else (0, (((s.burn (fun f => { f with svn := v })).wr Obj.fusedSvn v).lowerSlot 0).lowerSlot 1)

/-- A write of a hash to `CUSTOMER_KEY_FUSE`. -/
def State.fuseCustomer (s : State) (hash : Bytes) : Nat × State :=
  if !countersigned s.root.running || shaNat (slice s.root.running 120 56) != ofBE hash then (Abort.consistency, s)
  else if s.root.customer.isSome then (Abort.wrongState, s)
  else
    let s := s.burn (fun f => { f with customerHash := some (ofBE hash) })
    (0, ({ s with root := { s.root with customer := some (ofBE hash) } }).wr Obj.customerKeyFused 1)

/-! ### Attestation (R525-R528) -/

/-- Leaves of each tree. -/
def treeLeaves : Nat := 32768

/-- Burn the lowest unburned leaf of the top tree for a new bottom tree; attestation is spent when none is left. -/
def State.burnLeaf (s : State) : State :=
  let q := s.rd Obj.topLeavesUsed
  if q ≥ treeLeaves then (s.wr Obj.attestState 2).wr Obj.bottomLeft 0
  else
    let s := s.burn (fun f => { f with topLeavesUsed := q + 1 })
    let s := { s with root := { s.root with topIndex := some q } }
    ((s.wr Obj.topLeavesUsed (q + 1)).wr Obj.attestState 0).wr Obj.bottomLeft 0

/-- BOTTOM_TREE_READY (R525, R526). -/
def execBottomTreeReady (s : State) : Out :=
  .next (if s.rd Obj.attestState == 0 && s.root.topIndex.isSome && s.rd Obj.bottomLeft == 0 then
    (s.wr Obj.attestState 1).wr Obj.bottomLeft treeLeaves
  else s)

/-- Bytes 0 to 95 of a report (R527). -/
def State.reportBody (s : State) (nonce : Bytes) : Bytes :=
  leBytes 4 0x60844154 ++ leBytes 2 1 ++ leBytes 2 0 ++ padTo 32 nonce ++ leBytes 32 (s.rd Obj.firmwareDigest) ++
  leBytes 2 (s.rd Obj.runningSvn) ++ leBytes 1 (s.rd Obj.variant) ++ leBytes 1 (s.rd Obj.leafId) ++
  leBytes 4 (s.root.topIndex.getD 0) ++ leBytes 4 (treeLeaves - s.rd Obj.bottomLeft) ++ leBytes 1 (s.rd Obj.tilesEnabled) ++
  leBytes 1 (s.rd Obj.fusedSvn) ++ leBytes 2 (s.rd Obj.bricksEnabled) ++ leBytes 1 (s.rd Obj.runningSlot) ++ leBytes 7 0

/-- Produce a report over a nonce with one bottom leaf: an abort code, or the report. -/
def State.attest (s : State) (nonce : Bytes) : Except Nat (Bytes × State) :=
  let st := s.rd Obj.attestState
  if st == 0 then .error Abort.busy
  else if st != 1 || s.rd Obj.bottomLeft == 0 then .error Abort.wrongState
  else
    let body := s.reportBody nonce
    let leaf := s.root.topIndex.getD 0 * treeLeaves + (treeLeaves - s.rd Obj.bottomLeft)
    let report := body ++ padTo 5396 (Config.sign leaf body)
    let s := (s.lower Obj.bottomLeft 1).bump Obj.attestations
    .ok (report, if s.rd Obj.bottomLeft == 0 then s.burnLeaf else s)

/-! ### The identity certificate (R530) -/

/-- Entries of a certificate from an offset on: tag, offset of the entry, value. -/
def certEntries (c : Bytes) : Nat → Nat → List (Nat × Nat × Bytes)
  | 0, _ => []
  | f + 1, off =>
    if off + 4 > c.length then []
    else
      let n := field c (off + 2) 2
      (field c off 2, off, slice c (off + 4) n) :: certEntries c f (off + 4 + roundUp n 4)

/-- The certificate of the device. -/
def State.certificate (s : State) : Bytes := padTo 1992 (Config.certificate (s.rd Obj.deviceSerial))

/-- The ATTEST_KEY of a certificate whose signature verifies under the fused vendor key hash (R529). -/
def State.attestKey (s : State) (c : Bytes) : Option Bytes :=
  if field c 0 4 != 0x60844943 || field c 4 2 != 1 || field c 8 4 != c.length then none
  else
    let es := certEntries c 64 16
    match es.find? (fun e => e.1 == 0xFFFF), es.find? (fun e => e.1 == 5) with
    | some sig, some key => if Config.verifies s.root.vendorKey (c.take sig.2.1) sig.2.2 then some key.2.2 else none
    | _, _ => none

end Sys2Proof.Machine
end

