-- ==== Sys2Proof/Machine/Pairing.lean ====
section
/-! DEFINITION. The JOIN exchange and what follows from it (R482, R502, R529, R548). -/

namespace Sys2Proof.Machine

/-- The fixed fields of a JOIN (R478). -/
def State.joinHead (s : State) : Bytes :=
  padTo 16 s.pair.joinNonce ++ leBytes 32 (s.rd Obj.firmwareDigest) ++ leBytes 1 (s.rd Obj.role) ++ leBytes 7 0

/-- Bytes of a report and a certificate together (R529). -/
def joinBytes : Nat := 7484

/-- Answer a partner's nonce with this leaf's own report and certificate, in as many messages as they need (R529); a leaf
whose attestation is not ready, or is spent, cannot. -/
def State.sendReport (s : State) (tag : Nat) (nonce : Bytes) : State :=
  match s.attest (padTo 32 nonce) with
  | .error _ => s
  | .ok (report, s) => (chunks 4104 (report ++ s.certificate)).foldl (fun s part => s.tieSend 9 tag (s.joinHead ++ part)) s

/-- Whether a partner's report and certificate pass (R529). -/
def State.joinPasses (s : State) (data : Bytes) : Bool :=
  let report := data.take 5492
  match s.attestKey (data.drop 5492) with
  | none => false
  | some key =>
    field report 0 4 == 0x60844154 && field report 4 2 == 1 && slice report 8 32 == padTo 32 s.pair.joinNonce &&
    field report 40 32 == s.rd Obj.firmwareDigest && Config.verifies (shaNat key) (report.take 96) (slice report 96 5396)

/-- A pairing fails: a leaf in PAIRING stays there with its cause (R482, R502). -/
def State.pairFail (s : State) (reason : Nat) : State :=
  if s.rd Obj.role == 0 then s.wr Obj.pairFailReason reason else s

/-- Reads of the partner's yield over DICT_REQ at L2 (R548), each with its tag. -/
def yieldReads : List (Nat × Nat × Nat) :=
  [(0x52480001, Obj.short, Obj.partnerShort), (0x52480002, Obj.tilesEnabled, Obj.partnerTiles),
   (0x52480003, Obj.bricksEnabled, Obj.partnerBricks), (0x52480004, Obj.lateNew, Obj.partnerLateNew)]

/-- Body of a DICT_REQ (R478): level, OP, flags, the object, offset, segment length, total, then data. -/
def dictReqBody (level op flags key offset segLength total : Nat) (data : Bytes) : Bytes :=
  leBytes 1 level ++ leBytes 1 op ++ leBytes 1 (key % 256) ++ leBytes 1 flags ++ leBytes 2 (key / 256) ++ leBytes 2 0 ++
  leBytes 4 offset ++ leBytes 4 segLength ++ leBytes 4 total ++ data

/-- Pair with a partner in a role (R482): the roles, and the reads of its yield. -/
def State.pairWith (s : State) (theirs : Nat) : State :=
  let s := ((s.wr Obj.paired 1).wr Obj.firmwareMatch 1).wr Obj.partnerRole theirs
  let s := s.mapPair (fun p => { p with silent := 0, gotMsg := true, gotEdge := true })
  let s :=
    if s.rd Obj.role != 0 then s
    else if theirs == 1 || (theirs == 0 && s.rd Obj.leafId == 1) then s.wr Obj.role 2
    else if theirs == 0 then s.lead s.clk.frames
    else s
  yieldReads.foldl (fun s e => s.tieSend 6 e.1 (dictReqBody 2 1 0 e.2.1 0 0 0 (leBytes 8 0))) s

/-- JOIN (R502): a message of the partner's exchange. -/
def execJoin (tag : BitVec 32) (body : Bytes) (s : State) : Out :=
  .next (if !s.tieUp || decide (body.length < 56) || decide (s.rd Obj.phase < 5) || decide (s.rd Obj.role > 1) ||
      (s.rd Obj.role == 0 && s.rd Obj.pairFailReason != 0) then s
    else
      let nonce := body.take 16
      let s := s.joinHello
      let fresh := s.pair.theirNonce != nonce
      let s := if fresh then
        (s.mapPair (fun p => { p with theirNonce := nonce, joinData := [] })).sendReport tag.toNat nonce else s
      let part := body.drop 56
      if part.isEmpty then s
      else
        let have' := if s.pair.joinTag == tag.toNat then s.pair.joinData else []
        let data := have' ++ part
        if data.length < joinBytes then s.mapPair (fun p => { p with joinTag := tag.toNat, joinData := data })
        else
          let s := s.mapPair (fun p => { p with joinData := [], theirNonce := [] })
          if field body 16 32 != s.rd Obj.firmwareDigest then (s.wr Obj.firmwareMatch 0).pairFail 1
          else if !s.joinPasses data then s.pairFail 2
          else s.pairWith (field body 48 1))

end Sys2Proof.Machine
end

