-- ==== Sys2Proof/Machine/Commit.lean ====
section
/-! DEFINITION. Commits: the consistency checks of every chapter, the effects of a set, and the order in which pending commits
conclude (R66-R80, R513, R514). -/

namespace Sys2Proof.Machine

/-! ### The checks (R72)

A check is whether it fails, its abort code, and the objects it concerns, the one to name first. `s` is the state before the
set, `t` the state with the set's values in the dictionary. -/

structure Check where
  fails : Bool
  objs  : List Nat
  code  : Nat := Abort.consistency
deriving DecidableEq, Repr

/-- Whether a set holds an object of a kind. -/
def holds (set : List (Nat × Nat)) (p : Nat → Bool) : Bool := set.any (fun e => p e.1)

def keyIn (lo hi : Nat) (k : Nat) : Bool := decide (lo ≤ k / 256) && decide (k / 256 < hi)
def isRingKey (k : Nat) : Bool := keyIn 0x8000 0x10000 k && decide (0x20 ≤ k % 256) && decide (k % 256 ≤ 0x25)
def isWindowKey (k : Nat) : Bool := keyIn 0x4110 0x4112 k
def isGroupKey (k : Nat) : Bool := keyIn 0x6040 0x6080 k
def isLaneKey (k : Nat) : Bool := keyIn 0x6000 0x6040 k || keyIn 0x6080 0x60A0 k
def isLayoutKey (k : Nat) : Bool :=
  k == Obj.localShare || k == Obj.gddr7UserBytes || k == Obj.cxlInterleave || k == Obj.cxlUserBytes

/-- A label that LTC can carry in a mode (R35); any label in mode 0. -/
def ltcLabelOk (mode label : Nat) : Bool :=
  let f := label % 256
  let sec := bits label 15 8
  let m := bits label 23 16
  mode == 0 ||
  (decide (f < nth 0 [0, 24, 25, 30, 30] mode) && decide (sec < 60) && decide (m < 60) && decide (bits label 31 24 < 24) &&
   !(mode == 3 && f < 2 && sec == 0 && m % 10 != 0))

/-- Whether a value changes. -/
def changed (s t : State) (k : Nat) : Bool := s.rd k != t.rd k

/-- Checks of clock, status block, aperture and clock cap (R29, R35, R75, R127, R436). -/
def clockChecks (s t : State) (set : List (Nat × Nat)) : List Check :=
  let broken := changed s t Obj.courseLog2 &&
    s.streams.any (fun e => e.2.admitted && decide (e.2.leadFrames < 2 * t.courseLen))
  [⟨broken, [Obj.courseLog2], Abort.leadBroken⟩,
   ⟨holds set (fun k => k == Obj.ltcMode || k == Obj.ltcAnchorTc) && !ltcLabelOk (t.rd Obj.ltcMode) (t.rd Obj.ltcAnchorTc),
    [Obj.ltcAnchorTc, Obj.ltcMode], Abort.consistency⟩,
   ⟨holds set (fun k => k == Obj.statusBase || k == Obj.statusEnable) && t.rdB Obj.statusEnable && t.rd Obj.statusBase % 4096 != 0,
    [Obj.statusBase, Obj.statusEnable], Abort.consistency⟩,
   ⟨t.rd Obj.apertureBase % GiB != 0, [Obj.apertureBase], Abort.consistency⟩,
   ⟨t.rd Obj.clockCapMhz % 25 != 0, [Obj.clockCapMhz], Abort.consistency⟩]

/-- Rings a set names. -/
def ringsNamed (set : List (Nat × Nat)) : List Nat := dedup ((set.filter (fun e => isRingKey e.1)).map (fun e => e.1 / 256 - 0x8000))

/-- Rings that values leave enabled. -/
def State.enabledRings (s : State) : List Nat :=
  (s.dict.filter (fun e => decide (0x800000 ≤ e.1) && e.1 % 256 == 0x24 && e.2 != 0)).map (fun e => e.1 / 256 - 0x8000)

/-- Whether a ring's memory lies in windows (R129, R512). -/
def State.ringCovered (s : State) (n : Nat) : Bool :=
  s.covered 0 (some n) (rightRead + rightWrite) (s.rd (Obj.streamCmdBase n)) (64 * 2 ^ s.rd (Obj.streamCmdLog2 n)) &&
  s.covered 0 (some n) (rightRead + rightWrite) (s.rd (Obj.streamCplBase n)) (32 * 2 ^ s.rd (Obj.streamCplLog2 n))

/-- Checks of a ring a set names (R129, R130). -/
def ringChecks (s t : State) (n : Nat) : List Check :=
  let en := Obj.streamRingEnable n
  let moved := [Obj.streamCmdBase n, Obj.streamCmdLog2 n, Obj.streamCplBase n, Obj.streamCplLog2 n, Obj.streamRingLevel n]
  [⟨t.rd (Obj.streamCmdBase n) % 4096 != 0, [Obj.streamCmdBase n], Abort.consistency⟩,
   ⟨t.rd (Obj.streamCplBase n) % 4096 != 0, [Obj.streamCplBase n], Abort.consistency⟩,
   ⟨decide (t.rd (Obj.streamCplLog2 n) < t.rd (Obj.streamCmdLog2 n)), [Obj.streamCmdLog2 n, Obj.streamCplLog2 n], Abort.consistency⟩,
   ⟨moved.any (changed s t) && s.rdB en && t.rdB en, moved.filter (changed s t), Abort.consistency⟩,
   ⟨!s.rdB en && t.rdB en && s.ringState n != 0, [en], Abort.consistency⟩]

/-- Checks of the arithmetic, table, key/value, state, pair and curve objects (R228, R244, R257-R259, R302, R433, R504). -/
def State.planeUse (s : State) (tile : Nat) : Nat := sumN ((s.plansHeld none).map (fun im => planPlaneBytes im tile + planBed im))

/-- Whether the cache share and the state share fit every plane beside its plans and its joint pool. -/
def State.sharesFit (s : State) : Bool :=
  (List.range 96).all (fun t => !s.tileOn t ||
    decide (s.planeUse t + s.rd Obj.rowCacheBytes / 16 + s.planeShare (s.rd Obj.statePlaneBudget) ≤ 0x7E00000))

def State.blendOk (s : State) (b : Nat) : Bool :=
  decide (s.rd (Obj.blendCount b) ≤ 16) &&
  (List.range 16).all (fun k => decide (k < s.rd (Obj.blendCount b)) ||
    (s.rd (Obj.blendRow b k) == 0 && s.rd (Obj.blendWeight b k) % 2 ^ 31 == 0))

/-- Whether a thermal curve keeps R433. -/
def State.curveOk (s : State) (points : Nat) (temp factor : Nat → Nat) (top : Option Int) : Bool :=
  let n := s.rd points
  let ts := (List.range n).map (fun i => toSigned 16 (s.rd (temp i)))
  let fs := (List.range n).map (fun i => s.rd (factor i))
  (List.range (n - 1)).all (fun i => decide (nth 0 ts i < nth 0 ts (i + 1)) && decide (nth 0 fs (i + 1) ≤ nth 0 fs i)) &&
  (List.range 8).all (fun i => decide (i < n) || (s.rd (temp i) == 0 && s.rd (factor i) == 0)) &&
  (match top with | none => true | some t => decide (nth 0 ts (n - 1) ≤ t))

def dataChecks (s t : State) (set : List (Nat × Nat)) : List Check :=
  let sets (k : Nat) : Bool := holds set (· == k)
  let cache := sets Obj.rowCacheBytes
  let size := t.rd Obj.rowCacheBytes
  let blends := dedup ((set.filter (fun e => keyIn 0x3480 0x3500 e.1)).map (fun e => e.1 / 256 - 0x3480))
  (set.filter (fun e => keyIn 0x8000 0x10000 e.1 && e.1 % 256 == 0x40)).map (fun e => ⟨e.2 % 256 != 0, [e.1], Abort.consistency⟩) ++
  blends.map (fun b => ⟨!t.blendOk b, [Obj.blendCount b] ++ (List.range 16).map (Obj.blendRow b) ++
    (List.range 16).map (Obj.blendWeight b), Abort.consistency⟩) ++
  [⟨cache && (size % 0x1000000 != 0 || decide (size > GiB) || !t.sharesFit || decide (t.cacheActive size < 2 * s.pinnedBytes)),
    [Obj.rowCacheBytes], Abort.consistency⟩,
   ⟨sets Obj.kvGddr7Budget && decide (t.rd Obj.kvGddr7Budget < s.rd Obj.kvGddr7Reserved), [Obj.kvGddr7Budget], Abort.consistency⟩,
   ⟨sets Obj.kvCxlBudget && decide (t.rd Obj.kvCxlBudget < s.rd Obj.kvCxlReserved), [Obj.kvCxlBudget], Abort.consistency⟩,
   ⟨sets Obj.statePlaneBudget &&
      (decide (t.rd Obj.statePlaneBudget < s.rd Obj.statePlaneUsed) ||
        (List.range 96).any (fun p => decide (t.planeShare (t.rd Obj.statePlaneBudget) < s.planeHeld p)) || !t.sharesFit),
    [Obj.statePlaneBudget], Abort.consistency⟩,
   ⟨sets Obj.stateGddr7Budget && decide (t.rd Obj.stateGddr7Budget < s.rd Obj.stateGddr7Used), [Obj.stateGddr7Budget], Abort.consistency⟩,
   ⟨sets Obj.stateCxlBudget && decide (t.rd Obj.stateCxlBudget < s.rd Obj.stateCxlUsed), [Obj.stateCxlBudget], Abort.consistency⟩,
   ⟨sets Obj.shadowBudget && decide (t.rd Obj.shadowBudget < s.rd Obj.shadowUsed), [Obj.shadowBudget], Abort.consistency⟩,
   ⟨holds set (keyIn 0x2201 0x2202) && !t.curveOk Obj.tileCurvePoints Obj.tileCurveTemp Obj.tileCurveFactor (some 950),
    (set.filter (fun e => keyIn 0x2201 0x2202 e.1)).map (·.1), Abort.consistency⟩,
   ⟨holds set (keyIn 0x2202 0x2203) && !t.curveOk Obj.memCurvePoints Obj.memCurveTemp Obj.memCurveFactor none,
    (set.filter (fun e => keyIn 0x2202 0x2203 e.1)).map (·.1), Abort.consistency⟩]

/-- Whether the device's allocations hinder giving a pool the bytes of a new range (R453, R454): none allocated never, more than
the new pool always; otherwise where they lie decides, which the manual leaves to the device: free. -/
def poolHinders (free : Bool) (allocated after : Nat) : Bool := decide (0 < allocated) && (decide (after < allocated) || free)

/-- Bytes of the CXL device pool that are allocated. -/
def State.cxlAllocated (s : State) : Nat :=
  sumN (s.tables.map (fun e => e.2.poolBytes 2)) + sumN (s.loads.map (fun l => l.poolBytes 2)) + s.rd Obj.kvCxlReserved + s.rd Obj.stateCxlUsed

/-- Whether a stack-local window holds data: bytes, or the rows of a loaded table. -/
def State.localData (s : State) : Bool :=
  let loc (a : Nat) : Bool := decide (localBase 0 ≤ a) && decide (a < localBase 6)
  s.devMem.any (fun c => loc c.1) || s.tables.any (fun e => loc e.2.base)

/-- Checks of the memory layout and the overflow region (R378, R451-R454, R465). -/
def layoutChecks (s t : State) (f : Nat) : List Check :=
  let share := changed s t Obj.localShare
  let user := t.rd Obj.gddr7UserBytes
  let after := t.interleavedUnder (t.rd Obj.localShare) - user
  let cxlUser := t.rd Obj.cxlUserBytes
  let base := t.rd Obj.overflowBase
  [⟨share && (s.localData || (decide (t.interleavedUnder (t.rd Obj.localShare) < s.interleavedUnder (s.rd Obj.localShare)) &&
      poolHinders (bit f 0) s.poolAllocated after)), [Obj.localShare], Abort.consistency⟩,
   ⟨user % GiB != 0 || (decide (s.rd Obj.gddr7UserBytes < user) && poolHinders (bit f 1) s.poolAllocated after),
    [Obj.gddr7UserBytes], Abort.consistency⟩,
   ⟨cxlUser % GiB != 0 || (decide (s.rd Obj.cxlUserBytes < cxlUser) &&
      poolHinders (bit f 2) s.cxlAllocated (t.rd Obj.cxlBytes - cxlUser)), [Obj.cxlUserBytes], Abort.consistency⟩,
   ⟨changed s t Obj.cxlInterleave && (s.cxlAllocated != 0 || t.windows.any (fun w => winSpace w == 3)),
    [Obj.cxlInterleave], Abort.consistency⟩,
   ⟨(changed s t Obj.overflowBase || changed s t Obj.overflowBytes) && s.overflowUsed != 0,
    [Obj.overflowBase, Obj.overflowBytes].filter (changed s t), Abort.consistency⟩,
   ⟨base % 4096 != 0 || (base != 0 && (rangeSpace base != some 2 || !t.userRegion base || !t.mapped base ||
      !t.userRegion (base + t.rd Obj.overflowBytes - 1) || !t.mapped (base + t.rd Obj.overflowBytes - 1))),
    [Obj.overflowBase, Obj.overflowBytes], Abort.consistency⟩]

/-- Checks of the lane formats (R398). -/
def formatChecks (t : State) : List Check :=
  (List.range 32).map (fun f =>
    let slot := t.rd (Obj.formatSlotBits f)
    let sample := t.rd (Obj.formatSampleBits f)
    ⟨decide (slot < sample) || (t.rd (Obj.formatFraming f) == 2 && (slot != 32 || sample == 32)),
     [Obj.formatSampleBits f, Obj.formatSlotBits f, Obj.formatFraming f], Abort.consistency⟩)

/-- Words of an input group's joint (R409). -/
def State.captureJoint (s : State) (g : Nat) : Nat := s.rd (Obj.groupJointFrames g) * s.captureWords g

/-- Whether a group captures under the values of a state. -/
def State.captures (s : State) (g : Nat) : Bool := s.rd (Obj.groupDirection g) == 1 && s.rdB (Obj.groupCaptureEnable g)

/-- Words reserved on a tile beside the joints of input groups, and how many joints those are. -/
def State.otherReserved (s : State) (tile : Nat) : Nat × Nat :=
  let mine := (s.groups.filterMap (fun e => e.2.joint))
  let js := s.joints.filter (fun e => e.1 / 64 == tile && !mine.contains e.1)
  (sumN (js.map (fun e => e.2.reserve)), js.length)

/-- Checks of one group (R409). -/
def groupChecks (s t : State) (g : Nat) : List Check :=
  let dir := t.rd (Obj.groupDirection g)
  let slots := t.groupSlots g
  let tile := t.rd (Obj.groupHomeTile g)
  let kin := (List.range 64).filter (fun h => t.rd (Obj.groupDirection h) == 1 && t.rd (Obj.groupHomeTile h) == tile)
  let other := s.otherReserved tile
  let active := s.members.any (fun m => m.group == g)
  let kept := [Obj.groupSlotMask g, Obj.groupDirection g, Obj.groupPolicy g, Obj.groupHomeTile g, Obj.groupJointFrames g,
    Obj.groupInputWord g]
  let fade := t.rd (Obj.groupFadeFrames g)
  [⟨(List.range 64).any (fun h => h != g && t.rd (Obj.groupSlotMask h) &&& t.rd (Obj.groupSlotMask g) != 0),
    [Obj.groupSlotMask g], Abort.consistency⟩,
   ⟨slots.any (fun x => t.rd (Obj.laneDirection (x / 2)) != dir) || (dir == 0 && !slots.isEmpty),
    [Obj.groupSlotMask g, Obj.groupDirection g] ++ slots.map (fun x => Obj.laneDirection (x / 2)), Abort.consistency⟩,
   ⟨((dir == 2 && decide (slots.length > 8)) || dir == 1) && t.rd (Obj.groupPolicy g) != 0,
    [Obj.groupPolicy g, Obj.groupDirection g, Obj.groupSlotMask g], Abort.consistency⟩,
   ⟨!bit (t.rd Obj.loadedMap) (t.rd (Obj.groupFadeCurve g)), [Obj.groupFadeCurve g], Abort.consistency⟩,
   ⟨dir == 1 && slots.any (fun x => t.isAes (x / 2)) && t.rd (Obj.groupInputWord g) != 0,
    [Obj.groupInputWord g, Obj.groupDirection g], Abort.consistency⟩,
   ⟨dir == 1 && decide (t.rd (Obj.groupJointFrames g) < 4 * fade), [Obj.groupJointFrames g, Obj.groupFadeFrames g,
    Obj.groupDirection g], Abort.consistency⟩,
   ⟨dir == 1 && (!t.tileOn tile || decide (other.1 + sumN (kin.map t.captureJoint) > poolWords) || decide (other.2 + kin.length > 64)),
    [Obj.groupHomeTile g, Obj.groupJointFrames g, Obj.groupSlotMask g, Obj.groupDirection g], Abort.consistency⟩,
   ⟨t.rd (Obj.groupCaptureBase g) % 4096 != 0, [Obj.groupCaptureBase g], Abort.consistency⟩,
   ⟨(active || (s.captures g && t.captures g)) && kept.any (changed s t), kept.filter (changed s t), Abort.consistency⟩,
   ⟨changed s t (Obj.groupFadeFrames g) && decide (slots.length > 8) &&
      s.members.any (fun m => m.group == g && decide ((s.stream m.stream).leadFrames < fade + 2)),
    [Obj.groupFadeFrames g], Abort.consistency⟩]

/-- Whether a window's bytes are mapped (R512). -/
def State.windowMapped (s : State) (w : Nat) : Bool :=
  let k := s.rd Obj.localShare
  let lo := winBase w
  let hi := winLimit w
  if winSpace w == 0 then true
  else if winSpace w == 1 then
    decide (hi < 96 * planeSize) && (List.range 96).all (fun t => decide (t < lo / planeSize) || decide (hi / planeSize < t) || s.tileOn t)
  else if winSpace w == 2 then
    (decide (gddr7Base ≤ lo) && decide (hi < gddr7Base + s.interleavedUnder k)) ||
    (List.range 6).any (fun st => decide (localBase st ≤ lo) && decide (hi < localBase st + s.localUnder k st))
  else decide (cxlBase ≤ lo) && decide (hi < cxlBase + s.rd Obj.cxlBytes)

/-- Whether a window keeps off the device pools (R453, R512). -/
def State.windowOffPools (s : State) (w : Nat) : Bool :=
  let n := winLimit w + 1 - winBase w
  if winSpace w == 2 then
    let u := s.rd Obj.gddr7UserBytes
    !overlaps (winBase w) n (gddr7Base + u) (s.interleavedUnder (s.rd Obj.localShare) - u)
  else if winSpace w == 3 then !overlaps (winBase w) n (cxlBase + s.rd Obj.cxlUserBytes) (s.rd Obj.cxlBytes - s.rd Obj.cxlUserBytes)
  else true

/-- Whether a plane window with WRITE overlaps a joint pool or what the device has allocated in a plane (R450, R512). Where in a
plane the device's areas lie is its own: free unless they cannot lie outside the window. -/
def State.windowOnPlane (s : State) (free : Bool) (w : Nat) : Bool :=
  winSpace w == 1 && bit (winRights w) 1 &&
  (List.range 96).any (fun t =>
    let lo := t * planeSize
    let n := winLimit w + 1 - winBase w
    overlaps (winBase w) n (lo + 0x7E00000) 0x200000 ||
    (overlaps (winBase w) n lo 0x7E00000 &&
      (let use := s.planeUse t + s.rd Obj.rowCacheBytes / 16 + s.planeShare (s.rd Obj.statePlaneBudget)
       decide (0 < use) && (decide (s.planeOpen t < use) || free))))

/-- Checks of the protection map (R512). -/
def mapChecks (t : State) (f : Nat) : List Check :=
  let ws := t.dict.filter (fun e => isWindowKey e.1 && winRights e.2 != 0)
  ws.map (fun e => ⟨!winOk e.2 || !t.windowMapped e.2 || !t.windowOffPools e.2 || t.windowOnPlane (bit f 3) e.2,
    [e.1, Obj.localShare, Obj.gddr7UserBytes, Obj.cxlUserBytes, Obj.cxlInterleave], Abort.consistency⟩) ++
  t.enabledRings.map (fun n => ⟨!t.ringCovered n, [Obj.streamRingEnable n, Obj.streamCmdBase n, Obj.streamCplBase n,
    Obj.streamCmdLog2 n, Obj.streamCplLog2 n], Abort.consistency⟩) ++
  ((List.range 64).filter t.captures).map (fun g =>
    ⟨!t.covered (t.rd (Obj.groupCaptureSpace g)) none (rightWrite + rightCapture) (t.rd (Obj.groupCaptureBase g))
        (2 ^ t.rd (Obj.groupCaptureLog2 g) * 4 * (t.groupSlots g).length),
     [Obj.groupCaptureEnable g, Obj.groupCaptureBase g, Obj.groupCaptureLog2 g, Obj.groupCaptureSpace g], Abort.consistency⟩)

/-- All checks that concern a set. -/
def commitChecks (s t : State) (set : List (Nat × Nat)) (f : Nat) : List Check :=
  clockChecks s t set ++ dataChecks s t set ++ layoutChecks s t f ++
  (ringsNamed set).flatMap (ringChecks s t) ++
  (if holds set (fun k => isLaneKey k || isGroupKey k) then
    formatChecks t ++ (List.range 64).flatMap (groupChecks s t) else []) ++
  (if holds set (fun k => isWindowKey k || isRingKey k || isGroupKey k || isLayoutKey k) then mapChecks t f else [])

/-- The object a failed check names: the first of its objects that the set holds, else the lowest of the set. -/
def Check.blame (c : Check) (set : List (Nat × Nat)) : Nat :=
  match c.objs.find? (fun k => set.any (fun e => e.1 == k)) with
  | some k => k
  | none => (set.map (·.1)).foldl Nat.min ((set.map (·.1)).headD 0)

/-- The failed check that comes first: by its code in the order of R94's table, then by its object in ascending order. -/
def firstFailed (set : List (Nat × Nat)) (cs : List Check) : Option (Nat × Nat) :=
  (cs.filter (·.fails)).foldl (fun best c =>
    let x := (c.code, c.blame set)
    match best with
    | none => some x
    | some b => if decide (x.1 < b.1) || (x.1 == b.1 && decide (x.2 < b.2)) then some x else some b) none

/-! ### Effects of a set -/

/-- Values of a set in the dictionary. -/
def State.putSet (s : State) (set : List (Nat × Nat)) : State := set.foldl (fun s e => s.wr e.1 e.2) s

/-- The digest of a record of values (R67). The record's layout is the device's own (assumption 70): each object's
index and subindex in 4 bytes, then its value in 32. -/
def recordDigest (values : Map Nat) : Nat := shaNat (values.flatMap (fun e => leBytes 4 e.1 ++ leBytes 32 e.2))

/-- Place the expanders in service in the CXL range (R465). -/
def State.placeExpanders (s : State) : State :=
  let on := (List.range 8).filter (fun x => s.rd (Obj.expState x) == 1 || s.rd (Obj.expMapped x) != 0)
  let s := (List.range 8).foldl (fun s x => (s.wr (Obj.expMapped x) 0).wr (Obj.expBase x) 0) s
  let top := 2 ^ 44
  if s.rdB Obj.cxlInterleave then
    let caps := on.map (fun x => s.rd (Obj.expCapacity x))
    let least := caps.foldl Nat.min (caps.headD 0)
    let each := Nat.min least (top / Nat.max 1 on.length) / 4096 * 4096
    (on.foldl (fun s x => s.wr (Obj.expMapped x) each) s).wr Obj.cxlBytes (each * on.length)
  else
    let r := on.foldl (fun (q : State × Nat) x =>
      let each := Nat.min (q.1.rd (Obj.expCapacity x) / 0x10000000 * 0x10000000) (top - q.2)
      if each == 0 then q else ((q.1.wr (Obj.expMapped x) each).wr (Obj.expBase x) (cxlBase + q.2), q.2 + each)) (s, 0)
    r.1.wr Obj.cxlBytes r.2

/-- Objects whose change starts a lane afresh, and those its blocks depend on. -/
def State.laneSetup (s : State) (n : Nat) : List Nat :=
  let f := s.rd (Obj.laneFormat n)
  [s.rd (Obj.laneDirection n), s.rd (Obj.formatFraming f), s.rd (Obj.formatSlotBits f), s.rd (Obj.formatSampleBits f),
   s.rd (Obj.formatWsPolarity f)]

def State.laneBlocks (s : State) (n : Nat) : List Nat :=
  [s.rd (Obj.laneBlockAnchor n), s.rd (Obj.laneCsTx0 n), s.rd (Obj.laneCsTx1 n), s.rd (Obj.laneUTx0 n), s.rd (Obj.laneUTx1 n),
   s.rd (Obj.laneCrccAuto n)]

/-- A lane whose objects changed takes its new setting from bit period 0 of the commit frame (R402, R407). -/
def State.restartLane (s : State) (n : Nat) (fresh : Bool) : State :=
  let l := s.lane n
  let s := if fresh then s.setLane n { muted := l.muted && s.rd (Obj.laneDirection n) != 0, cs0 := l.cs0, cs1 := l.cs1, u0 := l.u0, u1 := l.u1 }
    else s
  if s.rd (Obj.laneDirection n) == 0 then (s.wr (Obj.laneState n) 0).wr (Obj.laneDriving n) 0
  else
    let muted := s.rd (Obj.laneMutedFrames n)
    let s := ((s.laneStatus n).wr (Obj.laneMutedFrames n) muted).latchBlock n s.pos
    if s.rd (Obj.laneDirection n) == 1 then s.setLane n { s.lane n with status := s.statusAt n s.pos }
    else s.driveLane n s.pos (s.lane n).words.1 (s.lane n).words.2

/-- Group of a lane: the one whose mask holds a slot of it. -/
def State.groupOf (s : State) (n : Nat) : Nat :=
  ((List.range 64).find? (fun g => bit (s.rd (Obj.groupSlotMask g)) (2 * n) || bit (s.rd (Obj.groupSlotMask g)) (2 * n + 1))).getD 0xFF

/-- Create the joint of an input group whose capture a commit enables (R409, R423). -/
def State.startCapture (s : State) (g : Nat) : State :=
  let tile := s.rd (Obj.groupHomeTile g)
  let w := s.captureJoint g
  match s.freeJoint tile with
  | none => s
  | some k =>
    let j : Joint := { plan := 0, link := 0, port := 0, maxPacket := w, threshold := 0, reserve := w, limit := w, idle := 0
                       group := some g }
    ({ s with joints := s.joints.put (64 * tile + k) j }).setGroup g
      { s.group g with joint := some (64 * tile + k), frames := [], gain := s.rd (Obj.groupFadeFrames g), down := false }

/-- Free the joint of an input group whose capture a commit disables. -/
def State.stopCapture (s : State) (g : Nat) : State :=
  let s := match (s.group g).joint with
    | none => s
    | some key => { s with joints := Map.del s.joints key, requests := s.requests.filter (fun q => q.ring != 32768 + g) }
  s.setGroup g { s.group g with joint := none, frames := [] }

/-- Effects of the lane and group objects. -/
def State.lanesCommitted (s t : State) : State :=
  let u := (List.range 64).foldl (fun u g =>
    let u := u.wr (Obj.groupChannels g) (u.groupSlots g).length
    if s.captures g && !t.captures g then u.stopCapture g else u) t
  let u := (List.range 64).foldl (fun u g => if !s.captures g && t.captures g then u.startCapture g else u) u
  (List.range 64).foldl (fun u n =>
    let u := u.wr (Obj.laneGroup n) (u.groupOf n)
    let fresh := s.laneSetup n != t.laneSetup n
    let u := if s.rd (Obj.laneDirection n) == 0 && t.rd (Obj.laneDirection n) != 0 then u.setLane n (s.takeBlocks n (u.lane n)) else u
    if fresh || s.laneBlocks n != t.laneBlocks n then u.restartLane n fresh else u) u

/-- Effects of a committed set on everything but the protection map. -/
def State.setCommitted (s t : State) (set : List (Nat × Nat)) : State :=
  let t := (ringsNamed set).foldl (fun t n =>
    if !s.rdB (Obj.streamRingEnable n) && t.rdB (Obj.streamRingEnable n) then t.enableRing n
    else if (s.rdB (Obj.streamRingEnable n) || ((s.ring n).kept && holds set (· == Obj.streamRingEnable n))) &&
      !t.rdB (Obj.streamRingEnable n) then t.disableRing n else t) t
  let t := if holds set (· == Obj.rowCacheBytes) then { t with rowCache := [] } else t
  let t := if !s.rdB Obj.statusEnable && t.rdB Obj.statusEnable then { t with statusSeq := 0 } else t
  let t := if changed s t Obj.localShare then t.wr Obj.interleavedBytes (t.interleavedUnder (t.rd Obj.localShare)) else t
  let t := if changed s t Obj.cxlInterleave then t.placeExpanders else t
  if holds set (fun k => isLaneKey k || isGroupKey k) then s.lanesCommitted t else t

/-- Whether the map of windows in force allows the request a command was refused (R514). -/
def State.allowsNow (s : State) (n : Nat) (c : Cmd) (h : Halt) : Bool :=
  mapAllows s.windows h.aux h.detail n h.write &&
  (h.aux == 0 || (s.mapped h.detail && rangeSpace h.detail == some h.aux)) &&
  !(c.op == 9 && h.write && h.aux != 0 && s.hitsTable h.detail 1)

/-- At an epoch, resume the commands whose refused request the new map allows (R514). -/
def State.retryProtected (s : State) : State :=
  s.rings.foldl (fun s e => e.2.cmds.foldl (fun s c =>
    match c.halt with
    | none => s
    | some h =>
      if c.phase == .halted && h.status == St.haltProtect && s.allowsNow e.1 c h then
        let s := s.mapCmd e.1 c.counter (fun c =>
          { c with xfer := c.xfer.map (fun x => { x with map := s.windows }), chunk := c.chunk.map (fun k => { k with map := s.windows }) })
        (s.clearHalt e.1 c.counter).bump Obj.protectResumes
      else s) s) s

/-- New epochs, one for each of `n` commits that applied a window object in this frame (R513). -/
def State.newEpoch (s : State) (n : Nat) : State :=
  (((s.wr Obj.windowsInUse s.windows.length).bump Obj.epoch n).wr Obj.epochPosition s.pos).retryProtected

/-! ### Concluding commits (R72-R76) -/

/-- Conclude a commit of a session: the session and, when a window object applied, that an epoch is due. -/
def State.conclude (s : State) (i : Nat) (p : Pending) : State × Bool :=
  let t := s.putSet p.set
  let f := s.freeWord
  let fault := firstFailed p.set (commitChecks s t p.set f.1)
  let u := match fault with
    | none => ({ s with free := f.2.free }).setCommitted { t with free := f.2.free } p.set
    | some _ => f.2
  let x := u.session i
  let seq := Nat.min (x.commitSeq + 1) (2 ^ 32 - 1)
  let x := { x with pending := none, commitSeq := seq, lastPos := s.pos
                    lastResult := (fault.map (·.1)).getD 0, lastFailed := (fault.map (·.2)).getD 0 }
  (u.setSession i x, fault.isNone && holds p.set isWindowKey)

/-- Where a pending commit stands: due now, or deferred by R75. DESIGN CHOICE (assumption 121): a commit whose named position is no longer
a boundary, because L has grown since, is due at the first boundary reached after it. -/
def State.commitDue (s : State) (p : Pending) : Bool × Option Nat :=
  match p.deferred with
  | some d => (decide (d ≤ s.pos), some d)
  | none =>
    if s.pos < p.position then (false, none)
    else match p.set.find? (fun e => e.1 == Obj.courseLog2) with
      | none => (true, none)
      | some e =>
        if e.2 == s.rd Obj.courseLog2 then (true, none)
        else
          let d := roundUp p.position (Nat.max s.courseLen (2 ^ e.2))
          (decide (d ≤ s.pos), some d)

/-- Whether one pending commit concludes before another: by position reached, by level, by acceptance (R43, R74). -/
def Pending.before (a b : Pending) : Bool :=
  let pa := a.deferred.getD a.position
  let pb := b.deferred.getD b.position
  decide (pa < pb) || (pa == pb && (decide (a.level < b.level) || (a.level == b.level && decide (a.order < b.order))))

/-- The session whose due commit is next. -/
def nextCommit : List (Nat × Pending) → Option (Nat × Pending)
  | [] => none
  | e :: es => match nextCommit es with
    | none => some e
    | some b => if e.2.before b.2 then some e else some b

/-- Note the deferred positions that have become known, and list the sessions whose commits are due. -/
def State.dueCommits (s : State) : State × List (Nat × Pending) :=
  s.sessions.foldl (fun (r : State × List (Nat × Pending)) e =>
    match e.2.pending with
    | none => r
    | some p =>
      let d := s.commitDue p
      let p := { p with deferred := d.2 }
      (r.1.setSession e.1 { e.2 with pending := some p }, if d.1 then r.2 ++ [(e.1, p)] else r.2)) (s, [])

/-- Conclude every due commit, at most as many as the fuel says; how many of them began an epoch. -/
def State.concludeAll : Nat → State → Nat → State × Nat
  | 0, s, e => (s, e)
  | f + 1, s, e =>
    let d := s.dueCommits
    match nextCommit d.2 with
    | none => (d.1, e)
    | some (i, p) =>
      let r := d.1.conclude i p
      State.concludeAll f r.1 (e + b2n r.2)

/-- The commits and the epochs of a course boundary (R45, R513). -/
def State.commitBoundary (s : State) : State :=
  let r := State.concludeAll 77 s 0
  if r.2 > 0 then r.1.newEpoch r.2 else r.1

end Sys2Proof.Machine
end

