-- ==== Sys2Proof/Machine/Boot.lean ====
section
/-! DEFINITION. Reset, bring-up and yield recovery (R532-R549, R556-R570). -/

namespace Sys2Proof.Machine

/-! ### Reset (R535, R560-R562, R570) -/

/-- Everything a reset leaves: every object at its default, and what lies outside the reset's reach: the boot flash, the fuses,
host memory, the model's own record of what was sent, its count of free values, and the commands that wait. -/
def State.restart (s : State) (cause : Nat) (b : Boot) : State :=
  let r : State := { State.reset with
    pending := s.pending, free := s.free, sent := s.sent, hostMem := s.hostMem, flash := s.flashKept, boot := b
    root := { vendorKey := s.root.vendorKey, customer := s.root.customer, fuses := s.root.fuses }, pair := { txBase := s.sent.length } }
  r.wr Obj.lastResetCause cause

/-- A value the device sets at reset: the object's default from then on (R66, R88). -/
def State.fix (s : State) (key v : Nat) : State :=
  { s with rst := (if v == tableDefault key then s.rst.del key else s.rst.put key v), dict := s.dict.del key }

/-- Straps as sampled at the rising edge of RESET_N, and VIO_AUD as measured (R95, R96, R556, R562). -/
def State.sampleStraps (s : State) (x : Straps) : State :=
  let node := x.nodeId.toNat
  let s := (s.fix Obj.leafId (b2n x.leafSel)).fix Obj.nodeId node
  let s := s.fix Obj.macAddr (ofLE [0x02, 0x4D, 0x50, 0x60, 0x84, BitVec.ofNat 8 node])
  let s := s.fix Obj.ipv4Addr (ofLE [169, 254, 96, BitVec.ofNat 8 (100 + node)])
  let s := s.fix Obj.plcaRole (b2n (node == 0))
  s.fix Obj.vioAudMv (if x.vioAudMv < 2550 then 1800 else 3300)

/-- RESET (R535, R562): RESET_N is driven low, and perhaps released; PWR_OK may be low, and VIO may have been lost. -/
def execReset (straps : Straps) (released pwrOk vioLost : Bool) (s : State) : Out :=
  let cause := if vioLost then 0 else if !pwrOk then 3 else if s.boot.held then s.rd Obj.lastResetCause else 1
  let held := !(released && pwrOk)
  let b : Boot := { s.boot with held := held, tripped := false, hot := !held && decide (s.boot.hottest > 1000), stuck := false
                                cxlw := straps.cxlw.toNat, cxle := straps.cxle.toNat, tap := if vioLost then .idcode else s.boot.tap }
  .next ((s.restart cause b).sampleStraps straps)

/-- SUPPLY_FAULT (R560). -/
def execSupplyFault (s : State) : Out := .next (s.restart 3 { s.boot with held := true })

/-- THERMAL_TRIP (R570): a reading of the hottest sensor; it trips from 110.0 °C on. -/
def execThermalTrip (decidegrees : Int) (s : State) : Out :=
  let b := { s.boot with hottest := decidegrees }
  .next (if decidegrees < 1100 then { s with boot := b }
    else s.restart 2 { b with held := true, tripped := true })

/-! ### The bring-up record (R532, R533) -/

def bringUp : Nat := 0x5000

/-- Points of the phases before one. -/
def phasePoints (k : Nat) : Nat := nth 10000 [0, 42, 146, 2641, 8877, 8960] k

/-- End a phase after a time of the internal reference. -/
def State.endPhase (s : State) (k refUs : Nat) : State :=
  let s := s.wr Obj.phaseTimes (setBits (s.rd Obj.phaseTimes) (32 * k + 31) (32 * k) (Nat.min refUs (2 ^ 32 - 1)))
  (s.wr Obj.phase (k + 1)).wr (Obj.progPosition bringUp) (phasePoints (k + 1))

/-- Whether the device is in a phase, out of reset and not failed. -/
def State.inPhase (s : State) (k : Nat) : Bool :=
  s.rd Obj.phase == k && !s.boot.held && !s.boot.hot && s.rd (Obj.progState bringUp) != 3

/-! ### Phase 0 -/

/-- Objects of clock step k from the fuses (R432). -/
def State.fixStep (s : State) (k : Nat) (p : PowerStep) : State :=
  let s := (s.fix (Obj.stepVddMv k) p.vddMv).fix (Obj.stepEArrayPj k) p.eArray.toNat
  let s := (s.fix (Obj.stepEFeedPj k) p.eFeed.toNat).fix (Obj.stepEGddr7Pj k) p.eGddr7.toNat
  (s.fix (Obj.stepEBrickPj k) p.eBrick.toNat).fix (Obj.stepStaticW k) p.staticW

def State.fixSteps (s : State) : Nat → List PowerStep → State
  | _, [] => s
  | k, p :: ps => State.fixSteps (s.fixStep k p) (k + 1) ps

/-- The fuses (R1, R2, R432, R520, R521, R523, R525, R531, R538). -/
def State.readFuses (s : State) (f : Fuses) : State :=
  let watts := if f.variant == 2 then 2000 else if f.variant == 3 then 1400 else 2600
  let mhz := if f.variant == 3 then 1050 else 1250
  let s := ((s.fix Obj.variant f.variant).fix Obj.powerLimitW watts).fix Obj.clockMaxMhz mhz
  let s := ((s.fix Obj.siliconRev f.siliconRev).fix Obj.powerCapW watts).fix Obj.clockCapMhz mhz
  let s := (s.fix Obj.fusedSvn f.svn).fix Obj.customerKeyFused (b2n f.customerHash.isSome)
  let s := (s.fix Obj.topLeavesUsed f.topLeavesUsed).fix Obj.deviceSerial f.serial
  let s := s.fixSteps 0 (f.power.take 31)
  { s with root := { s.root with vendorKey := f.vendorKeyHash, customer := f.customerHash, fuses := some f }
           boot := { s.boot with fuseBad := f.bad } }

/-- The defect log as its objects report it (R544, R551), and the slot CONTROL names (R524). -/
def State.readFlash (s : State) : State :=
  let s := { s with flash := s.flash.readLog }
  ((s.fix Obj.bootSlot s.flash.control).fix Obj.storeCount s.flash.stores).wr Obj.logCount s.flash.log.length

/-- FUSE_READ (R532): phase 0 ends, unless the supplies fail it or its limit has passed. The operand is what the fuses hold when they
are read for the first time; from then on they are State's. -/
def execFuseRead (fuses : Fuses) (suppliesOk : Bool) (refUs : Nat) (s : State) : Out :=
  .next (if !s.inPhase 0 || !suppliesOk || decide (refUs > 200000) then s
    else ((s.readFuses (s.root.fuses.getD fuses)).readFlash).endPhase 0 refUs)

/-! ### Phase 1 (R66, R67, R520, R563) -/

/-- Apply the persistence record, the configuration header taking its Subsystem IDs (R3); or reject it whole, for its digest or for a value that a check of the commit rejects. -/
def State.loadRecord (s : State) : State :=
  match s.flash.record with
  | none => s
  | some rec =>
    let t := s.putSet rec.values
    let f := s.freeWord
    if recordDigest rec.values != rec.digest then s.wr Obj.storeState 4
    else match firstFailed rec.values (commitChecks s t rec.values f.1) with
    | none =>
      let t := { t with free := f.2.free, subsys := (t.rd Obj.subsysVendorId, t.rd Obj.subsysId) }
      t.wr Obj.keyState (b2n (t.rd Obj.keyL0 != 0) + 2 * b2n (t.rd Obj.keyL1 != 0))
    | some _ => f.2.wr Obj.storeState 4

/-- Run the image of a slot: phase 1 ends, the record is applied, and a top leaf is burned for the new bottom tree (R525). -/
def State.runSlot (s : State) (k : Nat) (x : SlotImage) (refUs : Nat) : State :=
  let s := { s with root := { s.root with running := x.head } }
  let s := ((s.wr Obj.runningSlot k).wr Obj.firmwareDigest (ofLE (sha256 (x.head.take 256)))).wr Obj.runningSvn (imageSvn x.head)
  ((s.endPhase 1 refUs).loadRecord).burnLeaf

/-- What each slot holds, for R524. -/
def State.noteSlot (s : State) (k : Nat) (x : SlotImage) : State :=
  (s.wr (slotStateKey k) (s.slotState x)).wr (slotSvnKey k) (if x.empty then 0 else imageSvn x.head)

/-- Verify the slot CONTROL names, then the other; `late` says that the first did not end in its time. A slot that an update wrote
holds that image; of any other the operand says what is in it. -/
def State.verifySlots (s : State) (a b : SlotImage) (late : Bool) (refUs : Nat) : State :=
  let a := s.flash.slotA.getD a
  let b := s.flash.slotB.getD b
  let s := (s.noteSlot 0 a).noteSlot 1 b
  let k := s.flash.control % 2
  let first := if k == 0 then a else b
  let other := if k == 0 then b else a
  if s.slotState first == 1 && !late then s.runSlot k first refUs
  else
    let s := s.bump Obj.verifyFails
    if s.slotState other == 1 then (s.bump Obj.bootFallbacks).runSlot (1 - k) other refUs
    else { s.bump Obj.verifyFails with boot := { s.boot with stuck := true } }

/-- FIRMWARE_VERIFICATION (R520). -/
def execFirmwareVerification (slotA slotB : SlotImage) (refUs : Nat) (s : State) : Out :=
  .next (if !s.inPhase 1 || s.boot.src || s.boot.stuck then s else s.verifySlots slotA slotB false refUs)

/-- BOOT_SRC (R563): high holds phase 1; low releases the root of trust to read and verify the flash. The internal reference
counts no time for the release: the phase's time is free. -/
def execBootSrc (high : Bool) (slotA slotB : SlotImage) (s : State) : Out :=
  .next (if decide (s.rd Obj.phase > 1) then s
    else if high then { s with boot := { s.boot with src := true, stuck := false }, flash := { s.flash with slotA := none, slotB := none } }
    else
      let s := { s with boot := { s.boot with src := false } }
      if !s.inPhase 1 || s.boot.stuck then s
      else
        let f := s.freeWord
        f.2.verifySlots slotA slotB false (f.1 % 2 ^ 32))

/-! ### Phase 2 (R464, R465, R536) -/

/-- Whether the strap of a port gives it a link for an expander (R562). -/
def State.linkPresent (s : State) (x : Nat) : Bool :=
  let split := if x < 4 then s.boot.cxlw else s.boot.cxle
  decide (x % 4 < nth 0 [1, 2, 4, 0] split)

/-- A die that has die-to-die links (R14). -/
inductive Die where
  | stack (n : Nat)
  | north | south | west | east
deriving DecidableEq, Repr

/-- The adjacencies of R14 with the number of die-to-die links of each, in the order of its table. -/
def adjacencies : List (Die × Die × Nat) :=
  [(.stack 0, .stack 1, 4), (.stack 2, .stack 3, 4), (.stack 4, .stack 5, 4),
   (.stack 0, .stack 2, 4), (.stack 2, .stack 4, 4), (.stack 1, .stack 3, 4), (.stack 3, .stack 5, 4),
   (.north, .stack 0, 4), (.north, .stack 1, 4), (.south, .stack 4, 4), (.south, .stack 5, 4)] ++
  [(.west, .stack 0, 2), (.west, .stack 2, 2), (.west, .stack 4, 2), (.east, .stack 1, 2), (.east, .stack 3, 2), (.east, .stack 5, 2)]

/-- The 56 die-to-die links. DESIGN CHOICE (assumption 120): R14 gives the links no numbers; here they are numbered in the
order of its table. -/
def mortarLinks : List (Die × Die) := adjacencies.flatMap (fun a => List.replicate a.2.2 (a.1, a.2.1))

/-- A link of the mortar goes out of service for this boot (R536, R549). -/
def State.mortarDown (s : State) (link : Nat) : State :=
  if s.boot.linksDown.contains link || mortarLinks.length ≤ link then s
  else { s with boot := { s.boot with linksDown := s.boot.linksDown ++ [link] } }.bump Obj.mortarLinksDown

/-- Links of the adjacency of a link that are in service: what its traffic is left with (R536, R549). -/
def State.linksLeft (s : State) (link : Nat) : List Nat :=
  (List.range mortarLinks.length).filter (fun l => mortarLinks[l]? == mortarLinks[link]? && !s.boot.linksDown.contains l)

/-- The outcome of training. -/
def State.trained (s : State) (r : TrainResult) (refUs : Nat) : State :=
  let s := (r.mortarDown.map Fin.val).foldl State.mortarDown s
  let s := r.expanders.foldl (fun s e =>
    let x := e.1.val
    if !s.linkPresent x then s
    else ((s.wr (Obj.expState x) 1).wr (Obj.expWidth x) (e.2.1 % 256)).wr (Obj.expCapacity x) (e.2.2 % 2 ^ 64)) s
  let s := r.expandersDown.foldl (fun s x => if s.linkPresent x.val then s.wr (Obj.expState x.val) 2 else s) s
  ((s.placeExpanders.trainTie r.tieWidth).linkUp r.pcieRate r.pcieWidth).endPhase 2 refUs

/-- TRAINING (R536). -/
def execTraining (r : TrainResult) (refUs : Nat) (s : State) : Out := .next (if s.inPhase 2 then s.trained r refUs else s)

/-! ### Phase 3: curing (R537-R544) -/

/-- Whether a unit exists. -/
def unitOk (u : Unit') : Bool :=
  decide (u.stack < 6) &&
  ((u.kind == 1 && decide (u.index < 17)) || (u.kind == 2 && decide (u.index < 578)) || (u.kind == 3 && decide (u.index < 16)) ||
   (u.kind == 4 && u.index == 0) || (u.kind == 5 && decide (u.index < 84) && u.index / 14 == u.stack))

/-- The map of one stack's logical tiles: the physical tile of each, if any. -/
def tileMapOf (bad : Unit' → Bool) (st : Nat) : List (Option Nat) :=
  let tileBad (p : Nat) : Bool := bad ⟨1, st, p⟩
  let planeBad (i : Nat) : Bool := bad ⟨3, st, i⟩
  let want := (List.range 16).find? (fun i => !planeBad i && tileBad i)
  (List.range 16).map (fun i =>
    if planeBad i then none
    else if !tileBad i then some i
    else if want == some i && !tileBad 16 then some 16 else none)

/-- Which logical bricks of a physical tile are present, and its good spare bricks not in use. -/
def brickMapOf (bad : Unit' → Bool) (st p : Nat) : List Bool × Nat :=
  let brickBad (b : Nat) : Bool := bad ⟨2, st, 34 * p + b⟩
  let need := (List.range 32).filter brickBad
  let spares := b2n (!brickBad 32) + b2n (!brickBad 33)
  let covered := need.take spares
  ((List.range 32).map (fun b => !brickBad b || covered.contains b), spares - covered.length)

/-- A list of bits as a number, bit 0 first. -/
def mapBits (bs : List Bool) : Nat := ofBits bs

/-- Report the unit counts and the yield map (R18, R540-R542, R550). -/
def State.mapUnits (s : State) (bad : Unit' → Bool) : State :=
  let perStack := (List.range 6).map (tileMapOf bad)
  let tiles := perStack.flatMap (fun m => m.map Option.isSome)
  let bricks := (List.range 6).map (fun st => (nth [] perStack st).map (fun p => match p with
    | none => (List.replicate 32 false, 0)
    | some p => brickMapOf bad st p))
  let present := bricks.flatMap (fun m => m.flatMap (·.1))
  let spareBricks := sumN (bricks.map (fun m => sumN (m.map (·.2))))
  let spareTiles := ((List.range 6).filter (fun st => !bad ⟨1, st, 16⟩ && !(nth [] perStack st).contains (some 16))).length
  let planeDie (st : Nat) : Bool := (List.range 16).any (fun i => !bad ⟨3, st, i⟩)
  let gathers := (List.range 6).map (fun st => !bad ⟨4, st, 0⟩)
  let dies := (List.range 84).map (fun d => !bad ⟨5, d / 14, d⟩ && planeDie (d / 14))
  let count (bs : List Bool) : Nat := (bs.filter id).length
  let s := (((s.wr Obj.tilesEnabled (count tiles)).wr Obj.bricksEnabled (count present)).wr Obj.gatherUnits (count gathers)).wr
    Obj.gddr7Dies (count dies)
  let s := ((s.wr Obj.planeBytes (count tiles * planeSize)).wr Obj.tileMap (mapBits tiles)).noteShort
  let s := ((s.wr Obj.brickPresent (mapBits present)).wr Obj.memdieMap (mapBits dies)).wr Obj.gatherMap (mapBits gathers)
  let s := (s.wr Obj.spareTilesLeft spareTiles).wr Obj.spareBricksLeft spareBricks
  let s := (List.range 84).foldl (fun s d => (s.wr (Obj.dieInService d) (b2n (nth false dies d))).wr (Obj.dieDegraded d) 0) s
  (s.wr Obj.gddr7Bytes (count dies * 4 * GiB)).wr Obj.interleavedBytes (s.interleavedUnder (s.rd Obj.localShare))

/-- Append late defects to the log, as many as it takes (R539, R544, R545). -/
def State.logDefects (s : State) (ok : Bool) : List (Unit' × Nat) → State
  | [] => s
  | d :: ds =>
    let s :=
      if s.flash.log.length ≥ 1022 then s.bump Obj.logOverflows
      else if !ok then s
      else
        let e := (d.1, d.2, s.rd Obj.topLeavesUsed)
        ({ s with flash := s.flash.writeLog (s.flash.log ++ [e]) }).wr Obj.logCount (s.flash.log.length + 1)
    State.logDefects s ok ds

/-- Keep the first of each unit. -/
def firstOfUnit : List (Unit' × Nat) → List (Unit' × Nat)
  | [] => []
  | d :: ds => d :: (firstOfUnit ds).filter (fun e => e.1 != d.1)

/-- The outcome of curing. -/
def State.cured (s : State) (r : CureResult) (refUs : Nat) : State :=
  let failed := firstOfUnit (r.failed.filter (fun e => unitOk e.1))
  let known := dedup ((s.boot.fuseBad ++ s.flash.log.map (·.1)).filter unitOk)
  let late := failed.filter (fun e => !known.contains e.1)
  let passed := known.filter (fun u => !failed.any (fun e => e.1 == u))
  let bad (u : Unit') : Bool := known.contains u || failed.any (fun e => e.1 == u)
  let s := s.mapUnits bad
  let s := (s.logDefects r.logWriteOk late).wr Obj.lateNew (Nat.min late.length 65535)
  let s := s.wr Obj.badPassed (Nat.min passed.length 65535)
  let cause := if r.north then 1 else if r.south then 2 else if s.rd Obj.tilesEnabled == 0 then 3 else if s.rd Obj.gddr7Dies == 0 then 4 else 0
  if cause != 0 then (s.wr Obj.failCause cause).progFail bringUp Abort.hardware
  else s.endPhase 3 refUs

/-- CURING (R540). -/
def execCuring (r : CureResult) (refUs : Nat) (s : State) : Out := .next (if s.inPhase 3 then s.cured r refUs else s)

/-! ### Phases 4 to 6 (R546, R547, R532) -/

/-- The outcome of the broadcast: the bricks without a verified image after the third round are fenced. -/
def State.broadcast (s : State) (rounds resent : Nat) (failed : List Nat) (refUs : Nat) : State :=
  let s := (s.wr Obj.bootResentPackets (Nat.min resent (2 ^ 32 - 1))).wr Obj.bootResendRounds (Nat.min rounds 3)
  let gone := (dedup failed).filter s.brickOn
  let s := gone.foldl (fun s k => (s.fenceBrick k).bump Obj.bootFenced) s
  (s.endPhase 4 refUs).wr (Obj.progState bringUp) 5

/-- BRICK_CODE_BROADCAST (R546). -/
def execBrickCodeBroadcast (rounds resent : Nat) (failed : List BrickId) (refUs : Nat) (s : State) : Out :=
  .next (if s.inPhase 4 then s.broadcast rounds resent (if rounds ≥ 3 then failed.map (·.val) else []) refUs else s)

/-- READY (R532, R482): the house clock is locked, and the role is decided or pairing has failed. -/
def execReady (refUs : Nat) (s : State) : Out :=
  .next (if s.inPhase 5 && s.rd Obj.clockState == 2 && (s.rd Obj.role != 0 || s.rd Obj.pairFailReason != 0) then
    (s.endPhase 5 refUs).progDone bringUp
  else s)

/-- PHASE_LIMIT (R532): the phase ends under its failure outcome. Phase 0 stays. In phase 1 the first slot has not ended in its
500 ms, and the second ends within its own, at a time that is free. In phase 4 the bricks not confirmed are named by the test failures of kind 2, by logical number. -/
def execPhaseLimit (r : CureResult) (slotA slotB : SlotImage) (t : TrainResult) (s : State) : Out :=
  .next (
    if s.inPhase 1 then
      (if s.boot.src || s.boot.stuck then s
       else
        let f := s.freeWord
        f.2.verifySlots slotA slotB true (500000 + f.1 % 500001))
    else if s.inPhase 2 then s.trained t 6000000
    else if s.inPhase 3 then s.cured r 12000000
    else if s.inPhase 4 then s.broadcast 3 0 ((r.failed.filter (fun e => e.1.kind == 2)).map (fun e => e.1.index)) 400000
    else s)

/-! ### In service (R549, R568) -/

/-- MORTAR_RETRAIN (R549): a link in service retrains. -/
def execMortarRetrain (r : LinkRetrain) (s : State) : Out :=
  .next (if s.rd Obj.phase < 6 || s.boot.linksDown.contains r.link.val then s
    else
      let s := s.bump Obj.mortarRetrains
      if r.ok then s else s.mortarDown r.link.val)

/-- BOUNDARY_SCAN (R568): the instruction in force; those that drive pins act only while RESET_N is low. -/
def execBoundaryScan (i : TapInstr) (resetLow : Bool) (s : State) : Out :=
  let tap := match i with
    | .extest | .extestPulse | .extestTrain | .clamp | .highz => if resetLow then i else .bypass
    | .bypass | .idcode | .samplePreload => i
  .next { s with boot := { s.boot with tap := tap } }

/-- The 32 bits an IDCODE instruction shifts out (R568). -/
def State.idcode (s : State) : Nat := s.rd Obj.siliconRev * 2 ^ 28 + 0x6084967

end Sys2Proof.Machine
end

