-- ==== Sys2Proof/Machine/Sched.lean ====
section
/-! DEFINITION. The course scheduler: planning a course, its clock, ledger, measurement, admissions and releases
(R204, R299, R426-R446, R559). -/

namespace Sys2Proof.Machine

/-! ### Planning (R427, R437, R440) -/

/-- Steps of a chunk done so far: the tokens of a decoder chunk, else the steps booked. A chunk whose end has not come has a
step left, so that its work is booked again (R437). -/
def State.doneSteps (s : State) (n : Nat) (k : Chunk) : Nat :=
  if s.decodes n then k.decoded else Nat.min (ceilDiv k.frames (s.stepFrames n) - 1) (k.done + k.booked)

/-- Take the steps booked in the course in progress as done, as far as R437 lets them be. -/
def State.progress (s : State) : State :=
  if s.sched.next.isSome then s
  else s.rings.foldl (fun s e => e.2.cmds.foldl (fun s c => match c.chunk with
    | some k =>
      if !k.released || k.produced || c.final.isSome then s
      else
        let d := Nat.max k.done (s.doneSteps e.1 k)
        (s.spend e.1 (d - k.done)).mapChunk e.1 c.counter (fun k => { k with done := d, booked := 0 })
    | none => s) s) s

/-- Raise the core voltage for a step, while the old clock still runs (R440, R558). -/
def State.commandVdd (s : State) (mv : Nat) : State := (s.wr Obj.vddSetMv mv).send (.vdd mv)

/-- Voltage of a clock. -/
def State.vddOf (s : State) (mhz : Nat) : Nat := s.rd (Obj.stepVddMv (stepOf mhz))

/-- Plan the course that starts at a position, from the state as it stands (R427, R437). -/
def State.planAt (s : State) (start : Nat) : State :=
  let s := s.progress
  let p := s.planCourse start (s.framesFrom start) s.windowsAt.length
  let s := s.setPlan p
  let s := { s with sched := { s.sched with plannedAt := s.clk.frames } }
  if s.vddOf p.1.mhz > s.rd Obj.vddSetMv then s.commandVdd (s.vddOf p.1.mhz) else s

/-! ### The clock, the measurement and the ledger at a boundary (R434, R438-R440, R445) -/

/-- The clock of the course that begins (R440). -/
def State.switchClock (s : State) (mhz : Nat) : State :=
  let s := s.wr Obj.lClockMhz mhz
  if s.vddOf mhz < s.rd Obj.vddSetMv then s.commandVdd (s.vddOf mhz) else s

/-- Units of the measured energy in a millijoule. -/
def measureUnits : Nat := 4095 * 1000000

/-- The measurement of the course that ends (R434, R445), and its debt. -/
def State.takeMeasure (s : State) : State :=
  let m := s.sched
  let fresh := { m with measured := 0, live := {}, paced := {}, grout := {}, governed := false, running := true
                        prevAllowance := s.rd Obj.lAllowanceMj }
  if !m.running then { s with sched := fresh }
  else
    let v := stepOf (s.rd Obj.lClockMhz)
    let total := m.measured / measureUnits
    let live := Nat.min total (wholeMj (s.energy v m.live))
    let paced := Nat.min (total - live) (wholeMj (s.energy v m.paced))
    let grout := Nat.min (total - live - paced) (wholeMj (s.energy v m.grout))
    let debt := s.rd Obj.lDebtMj + total - s.rd Obj.lAllowanceMj
    let s := (((s.wr Obj.mCourse (s.rd Obj.lCourse)).wr Obj.mTotalMj (total % 2 ^ 32)).wr Obj.mLiveMj (live % 2 ^ 32)).wr
      Obj.mPacedMj (paced % 2 ^ 32)
    let s := ((s.wr Obj.mGroutMj (grout % 2 ^ 32)).wr Obj.mFixedMj ((total - live - paced - grout) % 2 ^ 32)).wr Obj.lDebtMj
      (Nat.min debt (2 ^ 32 - 1))
    { s with sched := fresh }

/-- The ledger of the course that begins (R445). -/
def State.putLedger (s : State) (p : CoursePlan) : State :=
  let s := ((s.wr Obj.lCourse s.course).wr Obj.lAllowanceMj p.allowance).wr Obj.lFixedMj p.fixed
  let s := ((s.wr Obj.lLiveMj p.live).wr Obj.lPacedMj p.paced).wr Obj.lGroutMj p.grout
  let s := (s.wr Obj.loadPct p.load).wr Obj.thermalPct p.thermal
  let s := if p.slowed then s.bump Obj.coursesPacedSlowed else s
  let s := if p.shed then s.bump Obj.coursesGroutShed else s
  if p.excess then s.bump Obj.liveOver else s

/-- Contracts not booked become arrears, up to 64 courses of contract (R428). -/
def State.takeArrears (s : State) (p : CoursePlan) (frames : Nat) : State :=
  (s.streams.filter (fun e => e.2.bound && s.rd (Obj.streamClass e.1) == 1)).foldl (fun s e =>
    let n := e.1
    let pace := s.rd (Obj.streamPace n)
    let booked := ((p.steps.find? (fun x => x.1 == n)).map (fun x => x.2.2)).getD 0
    let left := s.rd (Obj.streamArrears n) + contract e.2.courses pace frames s.fs - booked
    let cap := if s.fs = 0 then 0 else 64 * pace * s.courseLen / s.fs
    (s.wr (Obj.streamArrears n) (Nat.min left cap)).bump Obj.arrearsForgiven (left - Nat.min left cap)) s

/-- Another boundary has passed since each BIND completed (R428). -/
def State.countCourses (s : State) : State :=
  { s with streams := s.streams.mapV (fun _ x => { x with courses := x.courses + 1 }) }

/-! ### Releases (R204, R299, R414, R427, R429, R437, R444, R493) -/

/-- Whether the scale of a chunk waits for the counts of an earlier one (R204). -/
def State.awaitsScale (s : State) (n counter : Nat) (k : Chunk) : Bool :=
  (s.stream n).retune && ((s.ring n).cmds.takeWhile (fun c => c.counter != counter)).any (fun c => c.final.isNone &&
    (match c.chunk with
      | some e => !e.produced && decide (e.position + e.frames ≤ k.position)
      | none => false))

/-- Whether a command before one on its ring is halted (R131, R152). -/
def State.haltedBefore (s : State) (n counter : Nat) : Bool :=
  ((s.ring n).cmds.takeWhile (fun c => c.counter != counter)).any (fun c => c.phase == .halted)

/-- Start a released chunk: it takes the epoch in force (R513), and its feature read is checked (R514). -/
def State.startChunk (s : State) (n : Nat) (c : Cmd) (k : Chunk) : State :=
  let map := s.windows
  let s := s.mapChunk n c.counter (fun k => { k with released := true, map := map })
  let s := s.begin n c.counter
  let s := if k.agedBooked then s.bump Obj.groutAged else s
  match rangeRefused map 0 n false (field c.desc 24 8) (field c.desc 32 4) with
  | some a => s.protectHalt n c.counter k.position a 0 false
  | none => s

/-- What a course boundary does with one chunk that is not released. -/
def State.releaseChunk (s : State) (n counter : Nat) : State :=
  match s.cmd n counter with
  | none => s
  | some c => match c.chunk with
  | none => s
  | some k =>
    if k.released || k.produced || c.final.isSome || c.phase != .waiting || decide (s.sched.plannedAt ≤ k.fetchedAt) then s
    else if s.rd (Obj.streamResidency n) != 1 then
      if k.held || s.rd (Obj.streamResidency n) == 0 then s
      else ((s.bump (Obj.streamHeldChunks n)).bump Obj.chunksHeld).mapChunk n counter (fun k => { k with held := true })
    else
      let cls := s.rd (Obj.streamClass n)
      let must := cls == 0 && decide (releaseBy s.courseLen k.position (s.stream n).leadFrames ≤ s.pos)
      let wanted := decide (0 < k.booked) || must || k.retuneHeld || s.pair.unheld.contains n
      let waits := (cls == 0 && bit (s.rd (Obj.streamStreamFlags n)) 1) || s.haltedBefore n counter ||
         s.pair.resyncs.any (fun r => r.stream == n && r.purpose == 0)
      if wanted && !waits && !s.awaitsScale n counter k then s.startChunk n c k
      else
        let s := s.mapChunk n counter (fun k => { k with age := k.age + 1 })
        if wanted && !waits && !k.retuneHeld then
          (s.bump Obj.retuneHeld).mapChunk n counter (fun k => { k with retuneHeld := true })
        else s

/-- The releases of a course boundary, in ring order. -/
def State.releaseChunks (s : State) : State :=
  let s := s.rings.foldl (fun s e => e.2.cmds.foldl (fun s c => s.releaseChunk e.1 c.counter) s) s
  { s with pair := { s.pair with unheld := [] } }

/-- Live BINDs eligible at a boundary are tried in order of streams (R442), and streams that waited for a boundary move on
(R297, R301). -/
def State.admitWaiting (s : State) : State :=
  let s := s.rings.foldl (fun s e =>
    match (s.ring e.1).cmds.find? (fun c => c.op == 1 && c.phase == .waiting && decide (c.waited ≥ 1)) with
    | some c => if c.fetchedAt < s.sched.plannedAt then s.admitBind e.1 c else s
    | none => s) s
  s.rings.foldl (fun s e => s.retryWaiting e.1 true) s

/-! ### The commands -/

/-- COURSE_GOVERNED (R435): the energy measured in the course has reached its allowance. -/
def execCourseGoverned (s : State) : Out :=
  .next (if s.sched.governed || !s.sched.running || decide (s.sched.measured < s.rd Obj.lAllowanceMj * measureUnits) then s
    else ({ s with sched := { s.sched with governed := true } }).bump Obj.coursesGoverned)

/-- GROUT_AGED (R429): the grout chunks of a ring whose age has reached 16 are aged. -/
def execGroutAged (ring : RingId) (s : State) : Out :=
  let n := ring.val
  .next (if s.rd (Obj.streamClass n) != 2 then s
    else ((s.ring n).cmds).foldl (fun s c => match c.chunk with
      | some k => if decide (k.age ≥ s.rd Obj.groutAgeMax) && !k.released then
          s.mapChunk n c.counter (fun k => { k with aged := true }) else s
      | none => s) s)

/-- Energy of one microsecond as the inputs show it, in units of 1/4,095 nJ (R559): the six rails in order, then VIO and
VIO_AUD at their nominal voltages with 5 A each. -/
def State.sampleEnergy (s : State) (rails : List RailSample) : Nat :=
  sumN ((List.zip (List.range 6) rails).map (fun e => e.2.code.toNat * s.rd (Obj.isnsFullScaleA e.1) * e.2.mv)) +
    4095 * 5 * (1800 + s.rd Obj.vioAudMv)

/-- ISNS_SAMPLE (R559). -/
def execIsnsSample (rails : List RailSample) (s : State) : Out :=
  .next { s with sched := { s.sched with measured := s.sched.measured + s.sampleEnergy rails } }

end Sys2Proof.Machine
end

