-- ==== Sys2Proof/Machine/Boundary.lean ====
section
/-! DEFINITION. Tick and course boundaries and position jumps: what R45 places at a boundary, the status block, COURSE_SYNC,
heartbeats and digests (R28, R39, R42-R45, R148-R151, R480, R484, R492). -/

namespace Sys2Proof.Machine

/-! ### The last tick of a course (R427, R480) -/

/-- In the first frame of the last tick of a course, plan the course that follows and name its boundary to the partner; `t` is
the position of the tick. -/
def State.lastTick (s : State) (t : Nat) : State :=
  let next := t + 16
  if next % s.courseLen != 0 || (s.sched.next.map (·.start)) == some next then s
  else (s.planAt next).sendCourseSync next none

/-- What a tick boundary at position `t` brings: what the tick that ends brought from the partner, the digest of a course that
has ended, a planned handover, and the heartbeat, whose role is then the new one (R489). -/
def State.tickWork (s : State) (t : Nat) : State :=
  let s := if s.clk.tickAt.isSome then s.countBeats else s
  let s := { s with clk := { s.clk with tickAt := some s.clk.frames } }
  let s := if t % s.courseLen == 0 then s.sendDigest.handoverSwitch else s
  s.takeAutoCheckpoints.askResyncs.beat

/-- TICK_BOUNDARY (R28), with the plan in the first frame of a course's last tick. With L = 16 the plan follows the boundary of
the same frame. -/
def execTickBoundary (s : State) : Out :=
  .next (if !s.counting || s.pos % 16 != 0 || s.clk.tickAt == some s.clk.frames then s
    else
      let s := s.tickWork s.pos
      if s.pos % s.courseLen == 0 && s.clk.boundaryAt != some s.clk.frames then s else s.lastTick s.pos)

/-! ### Sensors (R433, R468) -/

/-- The hottest of a list of readings, ties to the first. -/
def hottestOf : List (Nat × Int) → Option (Nat × Int)
  | [] => none
  | x :: xs => some (xs.foldl (fun a y => if y.2 > a.2 then y else a) x)

/-- New readings of the sensors. -/
def State.readSensors (s : State) (x : Sensors) : State :=
  let tiles := x.tiles.map (fun e => (e.1.val, e.2))
  let dies := x.dies.map (fun e => (e.1.val, e.2))
  let s := dies.foldl (fun s e => s.wrInt (Obj.dieTemp e.1) 16 e.2) s
  let s := match hottestOf tiles with
    | some h => { (s.wrInt Obj.tTileMax 16 h.2).wr Obj.tTileHottest h.1 with sched := { s.sched with tileTemp := h.2 } }
    | none => s
  let s := match hottestOf dies with
    | some h => { (s.wrInt Obj.tMemMax 16 h.2).wr Obj.tMemHottest h.1 with sched := { s.sched with memTemp := h.2 } }
    | none => s
  match hottestOf (tiles ++ dies) with
  | some h => { s with boot := { s.boot with hottest := h.2 } }
  | none => s

/-! ### The status block (R149-R151) -/

/-- A share of an allowance as a PCT. -/
def shareOf (part whole : Nat) : Nat := if whole = 0 then 0 else 10000 * part / whole

/-- The bitmap: bit n for a ring with entries the host has not consumed. -/
def State.statusBitmap (s : State) : Bytes :=
  let open' := (s.rings.filter (fun e => s.rd (Obj.streamCplTail e.1) != e.2.cplHead)).map (·.1)
  (chunks 8 (List.range 32768)).map (fun ns =>
    BitVec.ofNat 8 (ofBits (ns.map (fun n => open'.contains n))))

/-- The header of the block whose number is `seq`. -/
def State.statusHeader (s : State) (seq : Nat) : Bytes :=
  let a := s.rd Obj.lAllowanceMj
  let flags := b2n (s.rdB Obj.short) + 2 * b2n (s.rdB Obj.paired) + 4 * b2n (s.rd Obj.role == 1) + 8 * b2n (s.rdB Obj.linkDegraded)
  let resident := (s.streams.filter (fun e => s.rd (Obj.streamResidency e.1) == 1)).length
  let stopped := (s.rings.filter (fun e => s.ringState e.1 == 2 || decide (s.ringState e.1 ≥ 4))).length
  leBytes 8 seq ++ leBytes 8 s.pos ++ leBytes 8 s.course ++ leBytes 1 (s.rd Obj.clockState) ++
  leBytes 1 (s.rd Obj.positionFlags) ++ leBytes 1 (s.rd Obj.courseLog2) ++ leBytes 1 flags ++
  leBytes 2 (s.rd Obj.lClockMhz) ++ leBytes 2 0 ++ leBytes 4 a ++ leBytes 2 (shareOf (s.rd Obj.lLiveMj) a) ++
  leBytes 2 (shareOf (s.rd Obj.lPacedMj) a) ++ leBytes 2 (shareOf (s.rd Obj.lGroutMj) a) ++
  leBytes 2 (Nat.min 10000 (shareOf (s.rd Obj.mTotalMj) s.sched.prevAllowance)) ++ leBytes 2 resident ++ leBytes 2 stopped ++
  leBytes 4 (Nat.min s.missed (2 ^ 32 - 1)) ++ leBytes 4 0 ++ leBytes 8 seq

/-- Write the status block, the bitmap first; a translation that fails clears `STATUS_ENABLE` instead (R125). -/
def State.putStatus (s : State) (noStatus : Bool) : State :=
  if !s.rdB Obj.statusEnable || !s.host then s
  else if noStatus then s.wr Obj.statusEnable 0
  else
    let seq := s.statusSeq + 1
    let base := s.rd Obj.statusBase
    let s := (s.hostWrite (base + 64) s.statusBitmap).hostWrite base (s.statusHeader seq)
    ({ s with statusSeq := seq, missed := 0 }).wr Obj.statusSeq seq

/-! ### Progress notices (R148) -/

/-- The progress notice of a ring: that of its first host render with NOTICES set. An open-ended render has no STOP − START:
the field and the PCT are 0. A ring in FAULT gets none (R125). -/
def State.progressNotice (s : State) (n : Nat) : State :=
  match (s.stream n).renders.find? (fun r => r.notices) with
  | none => s
  | some r =>
    if (s.ring n).progress == some s.course || !s.host || s.ringState n == 5 then s
    else match s.cmd n r.counter with
    | none => s
    | some c =>
      let s := s.setRing n { s.ring n with progress := some s.course }
      if s.slotFree n 1 then
        let total := if r.stop == 0 then 0 else r.stop - r.start
        s.putEntry n (s.entryOf c true St.done r.frames (total % 2 ^ 48 + 2 ^ 48 * shareOf r.frames total) 0)
      else s.bump Obj.noticesSkipped

/-! ### Anchors (R39, R41) -/

/-- Begin to wait for an LTC anchor; with LTC_MODE 0 it fails at once. Only a leaf that is not FOLLOWING anchors. -/
def State.startAnchor (s : State) : State :=
  if s.rd Obj.role == 2 then s
  else if s.rd Obj.ltcMode == 0 then s.setFlag 5 true
  else { s.setFlag 5 false with clk := { s.clk with anchor := some (s.clk.frames, 0) } }

/-- A requested anchor could not be applied. -/
def State.failAnchor (s : State) : State := { s.setFlag 5 true with clk := { s.clk with anchor := none } }

/-! ### The boundary (R45) -/

/-- The events of a boundary at the present position, in the order of R45. -/
def State.boundaryWork (s : State) (noStatus : Bool) : State :=
  let s := if (s.sched.next.map (·.start)) == some s.pos then s else s.planAt s.pos
  match s.sched.next with
  | none => s
  | some plan =>
    let frames := s.framesFrom s.pos
    let s := { s with clk := { s.clk with boundaryAt := some s.clk.frames } }
    let s := if decide (4 ≤ s.rd Obj.clockState) then s.bump Obj.coastedCourses else s
    let s := s.takeMeasure.switchClock plan.mhz
    let s := s.commitBoundary
    let s := ((s.putLedger plan).takeArrears plan frames).countCourses
    let s := if s.clk.reanchor then State.startAnchor { s with clk := { s.clk with reanchor := false } } else s
    let s := s.handoverSwitch.leaveBoundary
    let s := s.startWindows
    let s := { s with retrain := { s.retrain with dies := s.retrain.dies.mapV (fun _ d => { d with retries := 0 }) } }
    let s := (s.admitWaiting).releaseChunks
    let s := { s with sched := { s.sched with next := none } }
    let s := (s.putStatus noStatus).autoCheckpoints
    s.rings.foldl (fun s e => s.progressNotice e.1) s

/-- COURSE_BOUNDARY (R45), with the sensors' readings. -/
def execCourseBoundary (sensors : Sensors) (s : State) : Out :=
  .next (if !s.counting || s.pos % s.courseLen != 0 || s.clk.boundaryAt == some s.clk.frames then s
    else
      let s := (s.readSensors sensors).boundaryWork sensors.noStatus
      if s.clk.tickAt == some s.clk.frames then s.lastTick s.pos else s)

/-! ### Position jumps (R42-R44, R419, R421) -/

/-- Record a run of missed frames after those recorded. -/
def addMissedRun (lo hi : Nat) (xs : List (Nat × Nat)) : List (Nat × Nat) :=
  match xs.getLast? with
  | some (a, n) => if decide (a ≤ lo) && decide (lo ≤ a + n) then xs.dropLast ++ [(a, Nat.max (a + n) hi - a)] else xs ++ [(lo, hi - lo)]
  | none => [(lo, hi - lo)]

/-- Frames from `a` up to `b` pass unplayed: they are missed for the LOCK members whose renders cover them. -/
def State.missRange (s : State) (a b : Nat) : State :=
  (s.members.filter (fun m => s.rd (Obj.groupPolicy m.group) == 0)).foldl (fun s m =>
    let lo := Nat.max a m.start
    let hi := match m.stops with
      | some e => Nat.min b e
      | none => b
    if hi ≤ lo then s
    else
      let x := s.stream m.stream
      s.setStream m.stream { x with missed := addMissedRun lo hi x.missed }) s

/-- Live chunks whose output lies wholly before a position and has not been delivered complete MISSED_DEADLINE. -/
def State.missChunks (s : State) (a b : Nat) : State :=
  s.rings.foldl (fun s e =>
    if s.rd (Obj.streamClass e.1) != 0 then s
    else e.2.cmds.foldl (fun s c => match c.chunk with
      | some k =>
        if c.final.isNone && decide (a ≤ k.position) && decide (k.position + k.frames ≤ b) then
          s.finish e.1 c.counter St.missed (some k.position) k.frames 0
        else s
      | none => s) s) s

/-- A slip group that is to be re-anchored is so at the jump's boundary (R419). -/
def State.slipAnchored (s : State) : State :=
  (List.range 64).foldl (fun s g =>
    if (s.group g).reanchor then (s.setGroup g { s.group g with reanchor := false }).wr (Obj.groupSlipLag g) 0 else s) s

/-- The lanes play the frame that has begun anew, at another position; a muted frame counts once. -/
def State.replayFrame (s : State) (p : Nat) : State :=
  let lanes := s.activeLanes
  let t := (s.decideFrame p).playFrame p
  lanes.foldl (fun t n => t.wr (Obj.laneMutedFrames n) (s.rd (Obj.laneMutedFrames n))) t

/-- The members discard the samples of skipped positions (R43), and stages that waited for room in a joint write on. -/
def State.discardSkipped (s : State) (p : Nat) : State :=
  let s := s.members.foldl (fun s m =>
    let lag := if s.rd (Obj.groupPolicy m.group) == 1 then s.rd (Obj.groupSlipLag m.group) else 0
    if p < lag then s else s.memberDiscard (s.member m) (p - lag)) s
  s.streams.foldl (fun s e => s.flushProduced e.1) s

/-- The watchdog counts the jump frame as fed: it is a boundary of the short course, and so of a tick (R28, R42). -/
def State.feedJump (s : State) : State :=
  if s.pair.failed then s else s.mapPair (fun p => { p with fedTick := some (s.pos / 16) })

/-- The frame that has begun takes another position (R42): skipped positions pass (R43), the lanes play that position and decide
the next, the partner is told (R480), and the short course is planned and begun. A short course of fewer than 16 frames is
followed in plan by the course after it. -/
def State.jump (s : State) (new : Nat) : State :=
  let from' := s.pos
  if new == from' then s
  else
    let s := ((s.undecide.bump Obj.jumpCount).wr Obj.position new).feedJump
    let s := if from' < new then ((s.missRange from' new).missChunks from' new).slipJump from' new else s
    let s := (((s.slipAnchored.discardSkipped new).replayFrame new).decideFrame (new + 1)).sendCourseSync new (some from')
    let s := (s.planAt new).boundaryWork false
    if s.framesFrom new < 16 then s.planAt (new + s.framesFrom new) else s

end Sys2Proof.Machine
end

