-- ==== Sys2Proof/Machine/BrickJoint.lean ====
section
/-! DEFINITION. Joint, state-port and random instructions of bricks (R323-R327, R342, R343, R372, R379). -/

namespace Sys2Proof.Machine

/-! ### Ports (R323, R350) -/

/-- What a port of a brick is bound to. -/
inductive PortBind where
  | joint (key reader : Nat)
  | gather (group rank : Nat)
  | state
deriving DecidableEq, Repr

/-- Insert a number into an ascending list. -/
def insertAsc (x : Nat) : List Nat → List Nat
  | [] => [x]
  | y :: ys => if x ≤ y then x :: y :: ys else y :: insertAsc x ys

/-- Bricks of a stage on a tile, in logical order: their order is that of the readers of a shared input (R323). -/
def stageBricks (im : Bytes) (stage tile : Nat) : List Nat :=
  (((planBonds im).filter (fun b => b.kind == 1 && b.stage == stage && b.unit / 32 == tile)).map (·.unit)).foldr insertAsc []

/-- Binding of an input port (R350). -/
def State.portIn (s : State) (k port : Nat) : Option PortBind :=
  match s.role k with
  | none => none
  | some r =>
    if port == 7 then (if stageCarries r.image r.bond.stage then some .state else none)
    else match s.portJoint r.plan r.bond.stage (k / 32) port with
      | none => none
      | some key =>
        let i := ((stageBricks r.image r.bond.stage (k / 32)).takeWhile (· != k)).length
        if i < (((s.joints.find key).map (·.readers.length)).getD 0) then some (.joint key i) else none

/-- Binding of an output port (R350). -/
def State.portOut (s : State) (k port : Nat) : Option PortBind :=
  match s.role k with
  | none => none
  | some r =>
    if port == 7 then (if stageCarries r.image r.bond.stage then some .state else none)
    else if port == 0 && Config.gathers r.image r.bond.stage then some (.gather (16 * r.plan + r.bond.stage) r.bond.rank)
    else (s.portJoint r.plan (r.bond.stage + 1) (k / 32) port).map (fun key => .joint key 0)

/-- Legal fields, and a bound port (R329, R342). -/
def onPort (ok : Bool) (c : Field5) (bound : State → Option PortBind) (f : PortBind → BOp) : BOp :=
  legal (ok && decide (c.toNat < 8)) fun s b =>
    match bound s with
    | none => .fault 7
    | some p => f p s b

/-! ### State sections (R309, R326) -/

/-- The words of a stage's section of a stream: its present state, or the plan's initial one. -/
def State.sectionWords (s : State) (im : Bytes) (stream stage : Nat) (init : Bool) : List Nat :=
  let xs := stageSections stage (if init then initialSections im else (s.stream stream).sections)
  (chunks 8 (packSections xs)).map ofLE

/-- Whether a chunk is at work: released, not finished, not ended. -/
def State.atWork (s : State) (stream chunk : Nat) : Bool :=
  match s.cmd stream chunk with
  | some c => c.final.isNone && (match c.chunk with
    | some k => k.released && !k.produced
    | none => false)
  | none => false

/-- Whether a section that continues a segment waits for that of an earlier chunk at work (R309, R326). -/
def State.sectionWaits (s : State) (stream stage chunk : Nat) : Bool :=
  ((s.stream stream).owed.takeWhile (fun e => !(e.1 == stage && e.2.1 == chunk))).any (fun e =>
    e.1 == stage && s.atWork stream e.2.1)

/-- Every brick of the stage owes its section of a chunk from the first step onto the chunk. -/
def State.owe (s : State) (im : Bytes) (stream stage chunk : Nat) : State :=
  let x := s.stream stream
  if x.owed.any (fun e => e.1 == stage && e.2.1 == chunk) then s
  else
    let ks := ((planBonds im).filter (fun b => b.kind == 1 && b.stage == stage)).map (·.unit)
    s.setStream stream { x with owed := x.owed ++ ks.map (fun k => (stage, chunk, k)) }

/-- Write a section back from the words of output port 7; a chunk that has ended leaves no state. -/
def State.writeBack (s : State) (k stream stage chunk : Nat) (ws : List Nat) : State :=
  let x := s.stream stream
  if !s.atWork stream chunk then s else
  let mine := stageSections stage x.sections
  let new := unpackSections (ws.flatMap (leBytes 8)) mine
  let secs := x.sections.map (fun y =>
    match new.find? (fun z => z.stage == y.stage && z.tensor == y.tensor && z.cls == y.cls) with
    | some z => z
    | none => y)
  s.setStream stream { x with sections := secs, owed := x.owed.filter (fun e => e != (stage, chunk, k)) }

/-! ### Reads -/

/-- JSTAT after a read (R344). -/
def jstatOf (r : JRead) : Nat :=
  r.words.length + (if r.ended then 16 else 0) + (match r.spacer with | some n => 32 + 2 ^ 16 * Nat.min n 65535 | none => 0)

/-- Read up to `n` words of an input port and go on with them (R327). -/
def readPort (n : Nat) (p : PortBind) (put : Brick → List Nat → Brick) : BOp := fun s b =>
  match p with
  | .joint key r =>
    match s.joints.find key with
    | none => .fault 7
    | some j =>
      match j.read r n with
      | none => .wait s
      | some (x, j') => .next { s with joints := s.joints.put key j' } (put { b with jstat := jstatOf x } x.words)
  | _ =>
    let ws := b.stateCur.getD []
    let got := ws.take n
    .next s (put { b with stateCur := b.stateCur.map (·.drop n), jstat := jstatOf ⟨got, decide (ws.length ≤ n), none⟩ } got)

/-- JRDV (R327, R342). -/
def execJrdv (k : BrickId) (d a b c : Field5) (s : State) : Out := issue k (.jrdv k d a b c) (onPort (vecOk d && a == 0 && b == 0) c (fun s0 => s0.portIn k.val c.toNat) fun p => readPort 8 p fun q ws => q.setV d (ofElems 64 ws)) s

/-- JRDS (R327, R342). -/
def execJrds (k : BrickId) (d a b c : Field5) (s : State) : Out := issue k (.jrds k d a b c) (onPort (destPairOk d && a == 0 && b == 0) c (fun s0 => s0.portIn k.val c.toNat) fun p => readPort 1 p fun q ws => q.setPair d (nth 0 ws 0)) s

/-! ### Writes -/

/-- Words of a member's part of a collector (R379): 16 entries of 512 bytes. -/
def collectorRoom : Nat := 1024

/-- The rank-th element of a list, or a default, replaced. -/
def State.setColl (s : State) (g : Nat) (x : Collector) : State := { s with colls := s.colls.put g x }

/-- Write words to an output port (R316, R326, R342, R379). -/
def writePort (k : Nat) (port : Nat) (p : PortBind) (ws : Brick → List Nat) : BOp := fun s b =>
  let o := nth {} b.outs port
  let tag := o.tag + 2 ^ 32 * o.step
  let stream := o.tag % 2 ^ 15
  match p with
  | .joint key _ =>
    match s.jointWrite key tag stream b.chunk (ws b) with
    | some s' => .next s' b
    | none => .wait (s.jointWait key stream)
  | .gather g rank =>
    match s.colls.find g with
    | none => .fault 7
    | some x =>
      let used := (((nth none x.opened rank).map (fun e => e.2.2.2.length)).getD 0) +
        sumN ((nth [] x.packets rank).map (fun e => e.2.2.2.length))
      if used + (ws b).length > collectorRoom then .wait s
      else
        let old := (nth none x.opened rank).getD (tag, stream, b.chunk, [])
        .next (s.setColl g { x with opened := setNth x.opened rank (some (old.1, old.2.1, old.2.2.1, old.2.2.2 ++ ws b)) }) b
  | .state =>
    let stage := ((s.role k).map (·.bond.stage)).getD 0
    let out := b.stateOut ++ ws b
    if !bit b.ptag 17 || b.wrote || decide (8 * out.length ≥ s.stateBytes (b.ptag % 2 ^ 15) stage + 8) then .fault 9
    else .next s { b with stateOut := out }

/-- JWRV (R342). -/
def execJwrv (k : BrickId) (d a b c : Field5) (s : State) : Out := issue k (.jwrv k d a b c) (onPort (vecOk a && d == 0 && b == 0) c (fun s0 => s0.portOut k.val c.toNat) fun p => writePort k.val c.toNat p fun q => (List.range 8).map (fun e => elemOf 64 e (q.v a))) s

/-- JWRS (R342). -/
def execJwrs (k : BrickId) (d a b c : Field5) (s : State) : Out := issue k (.jwrs k d a b c) (onPort (pairOk a && d == 0 && b == 0) c (fun s0 => s0.portOut k.val c.toNat) fun p => writePort k.val c.toNat p fun q => [q.pair a]) s

/-- JEND (R326, R342). -/
def execJend (k : BrickId) (d a b c : Field5) (s : State) : Out := issue k (.jend k d a b c) (onPort (d == 0 && a == 0 && b == 0) c (fun s0 => s0.portOut k.val c.toNat) fun p s0 q =>
    match p with
    | .joint key _ =>
      match s0.joints.find key with
      | none => .fault 7
      | some j => .next { s0 with joints := s0.joints.put key j.endPacket } q
    | .gather g rank =>
      match s0.colls.find g with
      | none => .fault 7
      | some x =>
        match nth none x.opened rank with
        | none => .next s0 q
        | some e => .next (s0.setColl g { x with opened := setNth x.opened rank none,
                                                  packets := setNth x.packets rank (nth [] x.packets rank ++ [e]) }) q
    | .state =>
      let stage := ((s0.role k.val).map (·.bond.stage)).getD 0
      let stream := q.ptag % 2 ^ 15
      if !bit q.ptag 17 || q.wrote || q.stateOut.length != ceilDiv (s0.stateBytes stream stage) 8 then .fault 9
      else .next (s0.writeBack k.val stream stage q.chunk q.stateOut) { q with stateOut := [], wrote := true }) s

/-- JTAG (R324, R342). -/
def execJtag (k : BrickId) (d a b c : Field5) (s : State) : Out := issue k (.jtag k d a b c) (onPort (pairOk b && d == 0) c (fun s0 => s0.portOut k.val c.toNat) fun _ s0 q =>
    .next s0 { q with outs := setNth q.outs c.toNat { tag := (q.s a).toNat, step := q.pair b } }) s

/-! ### Stepping -/

/-- Step an input port to its next packet (R324, R326, R342). The packet of a state section has no tag that the manual gives: PTAG and
STEP stay. DESIGN CHOICE (assumption 144). -/
def stepPort (k : Nat) (port : Nat) (p : PortBind) : BOp := fun s b =>
  match p with
  | .joint key r =>
    match s.joints.find key with
    | none => .fault 7
    | some j =>
      match j.next r with
      | none => .wait s
      | some (.spacer _, j') => .next { s with joints := s.joints.put key j' } { b with stepped := true }
      | some (.packet tag _ _ stream chunk _, j') =>
        let s := { s with joints := s.joints.put key j' }
        let b := { b with stepped := true, ptag := tag % 2 ^ 32, step := tag / 2 ^ 32 % 2 ^ 64, tagChunk := chunk }
        if port != 0 then .next s b
        else
          let b := { b with chunk := chunk, wrote := false }
          match s.role k with
          | none => .next s b
          | some ro =>
            let first := bit tag 16
            let seg := bit tag 18
            if (first || seg) && stageCarries ro.image ro.bond.stage then
              let s := if first then s.owe ro.image stream ro.bond.stage chunk else s
              .next s { b with state := b.state ++ [(stream, seg, chunk)] }
            else .next s b
  | _ =>
    match b.state, s.role k with
    | (stream, init, chunk) :: rest, some ro =>
      if !init && s.sectionWaits stream ro.bond.stage chunk then .wait s
      else .next s { b with stepped := true, state := rest, stateMark := none
                            stateCur := some (s.sectionWords ro.image stream ro.bond.stage init) }
    | _, _ => .wait s

/-- Act on the reader of an input port, or on the current section of port 7 (R342, R372). -/
def actPort (p : PortBind) (f : Joint → Nat → Joint) (g : Brick → Brick) : BOp := fun s b =>
  match p with
  | .joint key r =>
    match s.joints.find key with
    | none => .fault 7
    | some j => .next { s with joints := s.joints.put key (f j r) } b
  | _ => .next s (g b)

/-- JNEXT (R324, R326, R342). -/
def execJnext (k : BrickId) (d a b c : Field5) (s : State) : Out := issue k (.jnext k d a b c) (onPort (d == 0 && a == 0 && b == 0) c (fun s0 => s0.portIn k.val c.toNat) fun p => stepPort k.val c.toNat p) s

/-- JDISC (R342, R372). -/
def execJdisc (k : BrickId) (d a b c : Field5) (s : State) : Out := issue k (.jdisc k d a b c) (onPort (d == 0 && a == 0 && b == 0) c (fun s0 => s0.portIn k.val c.toNat) fun p => actPort p Joint.discard fun q => { q with stateCur := q.stateCur.map (fun _ => []), stateMark := none }) s

/-- JMARK (R342, R372). -/
def execJmark (k : BrickId) (d a b c : Field5) (s : State) : Out := issue k (.jmark k d a b c) (onPort (d == 0 && a == 0 && b == 0) c (fun s0 => s0.portIn k.val c.toNat) fun p => actPort p Joint.mark fun q => { q with stateMark := q.stateCur }) s

/-- JREW (R342, R372). -/
def execJrew (k : BrickId) (d a b c : Field5) (s : State) : Out := issue k (.jrew k d a b c) (onPort (d == 0 && a == 0 && b == 0) c (fun s0 => s0.portIn k.val c.toNat) fun p => actPort p Joint.rewind fun q => match q.stateMark with | some ws => { q with stateCur := some ws } | none => q) s

/-- JREL (R342, R372). -/
def execJrel (k : BrickId) (d a b c : Field5) (s : State) : Out := issue k (.jrel k d a b c) (onPort (d == 0 && a == 0 && b == 0) c (fun s0 => s0.portIn k.val c.toNat) fun p => actPort p Joint.release fun q => { q with stateMark := none }) s

/-- DRAW (R207, R343). -/
def execDraw (k : BrickId) (d a b c : Field5) (s : State) : Out := issue k (.draw k d a b c) (legal (destPairOk d && pairOk a && b == 0 && c == 0) fun s0 q =>
    if !q.stepped then .fault 10
    else .next s0 (q.setPair d (Sys2Proof.Machine.draw (s0.rd (Obj.streamSeed (q.ptag % 2 ^ 15))) (q.pair a)))) s

end Sys2Proof.Machine
end

