-- ==== Sys2Proof/Machine/BrickScalar.lean ====
section
/-! DEFINITION. Scalar and control instructions of bricks (R331-R334, R344). -/

namespace Sys2Proof.Machine

/-- ADD (R331). -/
def execAdd (k : BrickId) (d a b c : Field5) (s : State) : Out := issue k (.add k d a b c) (alu2 d a b c fun x y => x + y) s

/-- SUB (R331). -/
def execSub (k : BrickId) (d a b c : Field5) (s : State) : Out := issue k (.sub k d a b c) (alu2 d a b c fun x y => x - y) s

/-- AND (R331). -/
def execAnd (k : BrickId) (d a b c : Field5) (s : State) : Out := issue k (.and k d a b c) (alu2 d a b c fun x y => x &&& y) s

/-- OR (R331). -/
def execOr (k : BrickId) (d a b c : Field5) (s : State) : Out := issue k (.or k d a b c) (alu2 d a b c fun x y => x ||| y) s

/-- XOR (R331). -/
def execXor (k : BrickId) (d a b c : Field5) (s : State) : Out := issue k (.xor k d a b c) (alu2 d a b c fun x y => x ^^^ y) s

/-- SHL (R331). -/
def execShl (k : BrickId) (d a b c : Field5) (s : State) : Out := issue k (.shl k d a b c) (alu2 d a b c fun x y => x <<< (y.toNat % 32)) s

/-- SHR (R331). -/
def execShr (k : BrickId) (d a b c : Field5) (s : State) : Out := issue k (.shr k d a b c) (alu2 d a b c fun x y => x >>> (y.toNat % 32)) s

/-- SRA (R331). -/
def execSra (k : BrickId) (d a b c : Field5) (s : State) : Out := issue k (.sra k d a b c) (alu2 d a b c fun x y => x.sshiftRight (y.toNat % 32)) s

/-- MUL (R331). -/
def execMul (k : BrickId) (d a b c : Field5) (s : State) : Out := issue k (.mul k d a b c) (alu2 d a b c fun x y => x * y) s

/-- MULH (R331). -/
def execMulh (k : BrickId) (d a b c : Field5) (s : State) : Out := issue k (.mulh k d a b c) (alu2 d a b c fun x y => BitVec.ofInt 32 (x.toInt * y.toInt / 4294967296)) s

/-- MULHU (R331). -/
def execMulhu (k : BrickId) (d a b c : Field5) (s : State) : Out := issue k (.mulhu k d a b c) (alu2 d a b c fun x y => BitVec.ofNat 32 (x.toNat * y.toNat / 4294967296)) s

/-- MIN (R331). -/
def execMin (k : BrickId) (d a b c : Field5) (s : State) : Out := issue k (.min k d a b c) (alu2 d a b c fun x y => if x.slt y then x else y) s

/-- MAX (R331). -/
def execMax (k : BrickId) (d a b c : Field5) (s : State) : Out := issue k (.max k d a b c) (alu2 d a b c fun x y => if x.slt y then y else x) s

/-- MINU (R331). -/
def execMinu (k : BrickId) (d a b c : Field5) (s : State) : Out := issue k (.minu k d a b c) (alu2 d a b c fun x y => if x.ult y then x else y) s

/-- MAXU (R331). -/
def execMaxu (k : BrickId) (d a b c : Field5) (s : State) : Out := issue k (.maxu k d a b c) (alu2 d a b c fun x y => if x.ult y then y else x) s

/-- SLT (R331). -/
def execSlt (k : BrickId) (d a b c : Field5) (s : State) : Out := issue k (.slt k d a b c) (alu2 d a b c fun x y => if x.slt y then 1 else 0) s

/-- SLTU (R331). -/
def execSltu (k : BrickId) (d a b c : Field5) (s : State) : Out := issue k (.sltu k d a b c) (alu2 d a b c fun x y => if x.ult y then 1 else 0) s

/-- ROTL (R331). -/
def execRotl (k : BrickId) (d a b c : Field5) (s : State) : Out := issue k (.rotl k d a b c) (alu2 d a b c fun x y => x.rotateLeft (y.toNat % 32)) s

/-- FADD (R319, R331). -/
def execFadd (k : BrickId) (d a b c : Field5) (s : State) : Out := issue k (.fadd k d a b c) (fp2 d a b c Sys2Proof.Machine.fadd) s

/-- FSUB (R319, R331). -/
def execFsub (k : BrickId) (d a b c : Field5) (s : State) : Out := issue k (.fsub k d a b c) (fp2 d a b c Sys2Proof.Machine.fsub) s

/-- FMUL (R319, R331). -/
def execFmul (k : BrickId) (d a b c : Field5) (s : State) : Out := issue k (.fmul k d a b c) (fp2 d a b c Sys2Proof.Machine.fmul) s

/-- FMA (R319, R331): rounds once. -/
def execFma (k : BrickId) (d a b c : Field5) (s : State) : Out := issue k (.fma k d a b c) (fun s0 k =>
    let r := ffma (k.s a) (k.s b) (k.s c)
    .next (s0.nanProduced (nanCount r [k.s a, k.s b, k.s c])) (k.setS d r)) s

/-- FMIN (R319, R331). -/
def execFmin (k : BrickId) (d a b c : Field5) (s : State) : Out := issue k (.fmin k d a b c) (fp2 d a b c Sys2Proof.Machine.fmin) s

/-- FMAX (R319, R331). -/
def execFmax (k : BrickId) (d a b c : Field5) (s : State) : Out := issue k (.fmax k d a b c) (fp2 d a b c Sys2Proof.Machine.fmax) s

/-- FLT (R331). -/
def execFlt (k : BrickId) (d a b c : Field5) (s : State) : Out := issue k (.flt k d a b c) (alu2 d a b c fun x y => if Sys2Proof.Machine.flt x y then 1 else 0) s

/-- FEQ (R331). -/
def execFeq (k : BrickId) (d a b c : Field5) (s : State) : Out := issue k (.feq k d a b c) (alu2 d a b c fun x y => if Sys2Proof.Machine.feq x y then 1 else 0) s

/-- FDIV (R319, R331). -/
def execFdiv (k : BrickId) (d a b c : Field5) (s : State) : Out := issue k (.fdiv k d a b c) (fp2 d a b c Sys2Proof.Machine.fdiv) s

/-- FSQRT (R319, R331). -/
def execFsqrt (k : BrickId) (d a b c : Field5) (s : State) : Out := issue k (.fsqrt k d a b c) (legal (b == 0 && c == 0) fun s0 k =>
    let r := Sys2Proof.Machine.fsqrt (k.s a)
    .next (s0.nanProduced (nanCount r [k.s a])) (k.setS d r)) s

/-- FCVTSI (R331). -/
def execFcvtsi (k : BrickId) (d a b c : Field5) (s : State) : Out := issue k (.fcvtsi k d a b c) (alu1 d a b c fun x => intToF32 x.toInt) s

/-- FCVTIS (R319, R331). -/
def execFcvtis (k : BrickId) (d a b c : Field5) (s : State) : Out := issue k (.fcvtis k d a b c) (alu1 d a b c f32ToInt) s

/-- FFLOOR (R331). -/
def execFfloor (k : BrickId) (d a b c : Field5) (s : State) : Out := issue k (.ffloor k d a b c) (alu1 d a b c Sys2Proof.Machine.ffloor) s

/-- FCURVE (R331, R333). -/
def execFcurve (k : BrickId) (d a b c : Field5) (s : State) : Out := issue k (.fcurve k d a b c) (legal (c == 0) fun s0 q =>
    let r := s0.brickCurve k.val ((q.s b).toNat % 16) (q.s a)
    .next (s0.nanProduced (nanCount r [q.s a])) (q.setS d r)) s

/-- ADDI (R331). -/
def execAddi (k : BrickId) (d a : Field5) (imm : BitVec 16) (s : State) : Out := issue k (.addi k d a imm) (aluImm d a imm (true) fun x y => x + y.signExtend 32) s

/-- ANDI (R331). -/
def execAndi (k : BrickId) (d a : Field5) (imm : BitVec 16) (s : State) : Out := issue k (.andi k d a imm) (aluImm d a imm (true) fun x y => x &&& y.setWidth 32) s

/-- ORI (R331). -/
def execOri (k : BrickId) (d a : Field5) (imm : BitVec 16) (s : State) : Out := issue k (.ori k d a imm) (aluImm d a imm (true) fun x y => x ||| y.setWidth 32) s

/-- XORI (R331). -/
def execXori (k : BrickId) (d a : Field5) (imm : BitVec 16) (s : State) : Out := issue k (.xori k d a imm) (aluImm d a imm (true) fun x y => x ^^^ y.setWidth 32) s

/-- SLTI (R331). -/
def execSlti (k : BrickId) (d a : Field5) (imm : BitVec 16) (s : State) : Out := issue k (.slti k d a imm) (aluImm d a imm (true) fun x y => if x.slt (y.signExtend 32) then 1 else 0) s

/-- LUI (R331). -/
def execLui (k : BrickId) (d a : Field5) (imm : BitVec 16) (s : State) : Out := issue k (.lui k d a imm) (aluImm d a imm (a == 0) fun _ y => y.setWidth 32 <<< 16) s

/-- SHLI (R331). -/
def execShli (k : BrickId) (d a : Field5) (imm : BitVec 16) (s : State) : Out := issue k (.shli k d a imm) (aluImm d a imm (imm.toNat < 32) fun x y => x <<< (y.toNat % 32)) s

/-- SHRI (R331). -/
def execShri (k : BrickId) (d a : Field5) (imm : BitVec 16) (s : State) : Out := issue k (.shri k d a imm) (aluImm d a imm (imm.toNat < 32) fun x y => x >>> (y.toNat % 32)) s

/-- SRAI (R331). -/
def execSrai (k : BrickId) (d a : Field5) (imm : BitVec 16) (s : State) : Out := issue k (.srai k d a imm) (aluImm d a imm (imm.toNat < 32) fun x y => x.sshiftRight (y.toNat % 32)) s

/-- BEQ (R331). -/
def execBeq (k : BrickId) (a b : Field5) (off : BitVec 16) (s : State) : Out := issue k (.beq k a b off) (branch a b off fun x y => x == y) s

/-- BNE (R331). -/
def execBne (k : BrickId) (a b : Field5) (off : BitVec 16) (s : State) : Out := issue k (.bne k a b off) (branch a b off fun x y => x != y) s

/-- BLT (R331). -/
def execBlt (k : BrickId) (a b : Field5) (off : BitVec 16) (s : State) : Out := issue k (.blt k a b off) (branch a b off fun x y => x.slt y) s

/-- BGE (R331). -/
def execBge (k : BrickId) (a b : Field5) (off : BitVec 16) (s : State) : Out := issue k (.bge k a b off) (branch a b off fun x y => !x.slt y) s

/-- BLTU (R331). -/
def execBltu (k : BrickId) (a b : Field5) (off : BitVec 16) (s : State) : Out := issue k (.bltu k a b off) (branch a b off fun x y => x.ult y) s

/-- BGEU (R331). -/
def execBgeu (k : BrickId) (a b : Field5) (off : BitVec 16) (s : State) : Out := issue k (.bgeu k a b off) (branch a b off fun x y => !x.ult y) s

/-- JMP (R331). -/
def execJmp (k : BrickId) (target : BitVec 26) (s : State) : Out := issue k (.jmp k target) (fun s0 q => .goto s0 q target.toNat) s

/-- CALL (R331): s31 takes own index + 1. -/
def execCall (k : BrickId) (target : BitVec 26) (s : State) : Out := issue k (.call k target) (fun s0 q => .goto s0 (q.setS 31 (BitVec.ofNat 32 (q.pc + 1))) target.toNat) s

/-- JR (R331). -/
def execJr (k : BrickId) (d a b c : Field5) (s : State) : Out := issue k (.jr k d a b c) (legal (d == 0 && b == 0 && c == 0) fun s0 q => .goto s0 q (q.s a).toNat) s

/-- LOOP (R332). A count of 0 goes on after the body; a body of 0 or more than 4,095 instructions is illegal (DEDUCED, assumption 33). -/
def execLoop (k : BrickId) (d a : Field5) (imm : BitVec 16) (s : State) : Out := issue k (.loop k d a imm) (legal (d == 0 && imm != 0 && decide (imm.toNat ≤ 4095)) fun s0 q =>
    if q.loops.length ≥ 2 then .fault 5
    else if q.s a = 0 then .next s0 { q with pc := q.pc + imm.toNat }
    else .goto s0 { q with loops := ⟨q.pc + 1, q.pc + imm.toNat, (q.s a).toNat⟩ :: q.loops } (q.pc + 1)) s

/-- HALT (R346): a fault of cause 8. -/
def execHalt (k : BrickId) (target : BitVec 26) (s : State) : Out := issue k (.halt k target) (legal (target == 0) fun _ _ => .fault 8) s

/-- The value of a status register; none for a number not in the table (R344). -/
def csrValue (s : State) (k : Nat) (b : Brick) (n : Nat) : Option Nat :=
  let r := s.role k
  match n with
  | 0 => some ((r.map (fun r => r.bond.rank + 2 ^ 16 * r.bond.stage)).getD 0)
  | 1 => some b.ptag
  | 2 => some (b.step % 2 ^ 32)
  | 3 => some (b.step / 2 ^ 32)
  | 4 => some b.jstat
  | 5 => some b.tnum
  | 6 => some ((r.map (fun r => s.stateBytes (b.ptag % 2 ^ 15) r.bond.stage)).getD 0)
  | _ => none

/-- CSRR (R344). -/
def execCsrr (k : BrickId) (d a : Field5) (imm : BitVec 16) (s : State) : Out := issue k (.csrr k d a imm) (legal (a == 0) fun s0 q =>
    match csrValue s0 k.val q imm.toNat with
    | some v => .next s0 (q.setS d (BitVec.ofNat 32 v))
    | none => .fault 1) s

/-- CSRW (R344): TNUM alone takes a write, of its 16 bits. -/
def execCsrw (k : BrickId) (d a : Field5) (imm : BitVec 16) (s : State) : Out := issue k (.csrw k d a imm) (legal (a == 0 && imm == 5) fun s0 q =>
    .next s0 { q with tnum := (q.s d).toNat % 2 ^ 16 }) s

/-- LW (R334). -/
def execLw (k : BrickId) (d a : Field5) (imm : BitVec 16) (s : State) : Out := issue k (.lw k d a imm) (fun s0 q => load (memAddr (q.s a) imm 4) 4 (fun v q => q.setS d (BitVec.ofNat 32 v)) s0 q) s

/-- SW (R334). -/
def execSw (k : BrickId) (d a : Field5) (imm : BitVec 16) (s : State) : Out := issue k (.sw k d a imm) (fun s0 q => Sys2Proof.Machine.store (memAddr (q.s a) imm 4) 4 (q.s d).toNat s0 q) s

/-- VLD (R334). -/
def execVld (k : BrickId) (d a : Field5) (imm : BitVec 16) (s : State) : Out := issue k (.vld k d a imm) (legal (vecOk d) fun s0 q => load (memAddr (q.s a) imm 64) 64 (fun v q => q.setV d (BitVec.ofNat 512 v)) s0 q) s

/-- VST (R334). -/
def execVst (k : BrickId) (d a : Field5) (imm : BitVec 16) (s : State) : Out := issue k (.vst k d a imm) (legal (vecOk d) fun s0 q => Sys2Proof.Machine.store (memAddr (q.s a) imm 64) 64 (q.v d).toNat s0 q) s

end Sys2Proof.Machine
end

