-- ==== Sys2Proof/Machine/BrickVector.lean ====
section
/-! DEFINITION. Vector and conversion instructions of bricks (R333, R335-R337). -/

namespace Sys2Proof.Machine

/-- VFADD (R335). -/
def execVfadd (k : BrickId) (d a b c : Field5) (s : State) : Out := issue k (.vfadd k d a b c) (vec2 true d a b c fun x y => fadd x y) s

/-- VFSUB (R335). -/
def execVfsub (k : BrickId) (d a b c : Field5) (s : State) : Out := issue k (.vfsub k d a b c) (vec2 true d a b c fun x y => fsub x y) s

/-- VFMUL (R335). -/
def execVfmul (k : BrickId) (d a b c : Field5) (s : State) : Out := issue k (.vfmul k d a b c) (vec2 true d a b c fun x y => fmul x y) s

/-- VFMA (R335). -/
def execVfma (k : BrickId) (d a b c : Field5) (s : State) : Out := issue k (.vfma k d a b c) (vecFma d a (vecOk b && c == 0) fun q => lanesOf (q.v b)) s

/-- VFMAS (R335). -/
def execVfmas (k : BrickId) (d a b c : Field5) (s : State) : Out := issue k (.vfmas k d a b c) (vecFma d a (b == 0) fun q => List.replicate 16 (q.s c)) s

/-- VFMULS (R335). -/
def execVfmuls (k : BrickId) (d a b c : Field5) (s : State) : Out := issue k (.vfmuls k d a b c) (vecS true d a b c fun x y => fmul x y) s

/-- VFMIN (R335). -/
def execVfmin (k : BrickId) (d a b c : Field5) (s : State) : Out := issue k (.vfmin k d a b c) (vec2 true d a b c fun x y => fmin x y) s

/-- VFMAX (R335). -/
def execVfmax (k : BrickId) (d a b c : Field5) (s : State) : Out := issue k (.vfmax k d a b c) (vec2 true d a b c fun x y => fmax x y) s

/-- VFDIV (R335). -/
def execVfdiv (k : BrickId) (d a b c : Field5) (s : State) : Out := issue k (.vfdiv k d a b c) (vec2 true d a b c fun x y => fdiv x y) s

/-- VFSQRT (R335). -/
def execVfsqrt (k : BrickId) (d a b c : Field5) (s : State) : Out := issue k (.vfsqrt k d a b c) (vec1 d a b c fsqrt) s

/-- VCURVE (R333, R335). -/
def execVcurve (k : BrickId) (d a b c : Field5) (s : State) : Out := issue k (.vcurve k d a b c) (legal (vecOk d && vecOk a && b == 0) fun s0 q =>
    let xs := lanesOf (q.v a)
    let r := xs.map (s0.brickCurve k.val ((q.s c).toNat % 16))
    .next (s0.nanProduced (sumN (List.zipWith (fun z x => nanCount z [x]) r xs))) (q.setV d (ofLanes r))) s

/-- VFFLOOR (R335). -/
def execVffloor (k : BrickId) (d a b c : Field5) (s : State) : Out := issue k (.vffloor k d a b c) (vec1 d a b c ffloor) s

/-- A mask of the lanes of v[A] and v[B] that meet a test (R335). -/
def vecMask (d a b c : Field5) (f : F32 → F32 → Bool) : BOp :=
  legal (vecOk a && vecOk b && c == 0) fun s k =>
    .next s (k.setS d (BitVec.ofNat 32 (ofBits (List.zipWith f (lanesOf (k.v a)) (lanesOf (k.v b))))))

/-- VFLT (R335). -/
def execVflt (k : BrickId) (d a b c : Field5) (s : State) : Out := issue k (.vflt k d a b c) (vecMask d a b c flt) s

/-- VFEQ (R335). -/
def execVfeq (k : BrickId) (d a b c : Field5) (s : State) : Out := issue k (.vfeq k d a b c) (vecMask d a b c feq) s

/-- VSEL (R335). -/
def execVsel (k : BrickId) (d a b c : Field5) (s : State) : Out := issue k (.vsel k d a b c) (legal (vecOk d && vecOk a && vecOk b) fun s0 q =>
    let m := (q.s c).toNat
    .next s0 (q.setV d (ofLanes ((List.range 16).map (fun j => BitVec.ofNat 32 (elemOf 32 j (q.v (if bit m j then a else b)))))))) s

/-- VADD (R335). -/
def execVadd (k : BrickId) (d a b c : Field5) (s : State) : Out := issue k (.vadd k d a b c) (vec2 false d a b c fun x y => x + y) s

/-- VSUB (R335). -/
def execVsub (k : BrickId) (d a b c : Field5) (s : State) : Out := issue k (.vsub k d a b c) (vec2 false d a b c fun x y => x - y) s

/-- VAND (R335). -/
def execVand (k : BrickId) (d a b c : Field5) (s : State) : Out := issue k (.vand k d a b c) (vec2 false d a b c fun x y => x &&& y) s

/-- VOR (R335). -/
def execVor (k : BrickId) (d a b c : Field5) (s : State) : Out := issue k (.vor k d a b c) (vec2 false d a b c fun x y => x ||| y) s

/-- VXOR (R335). -/
def execVxor (k : BrickId) (d a b c : Field5) (s : State) : Out := issue k (.vxor k d a b c) (vec2 false d a b c fun x y => x ^^^ y) s

/-- VSHL (R335). -/
def execVshl (k : BrickId) (d a b c : Field5) (s : State) : Out := issue k (.vshl k d a b c) (vecS false d a b c fun x y => x <<< (y.toNat % 32)) s

/-- VSHR (R335). -/
def execVshr (k : BrickId) (d a b c : Field5) (s : State) : Out := issue k (.vshr k d a b c) (vecS false d a b c fun x y => x >>> (y.toNat % 32)) s

/-- VSRA (R335). -/
def execVsra (k : BrickId) (d a b c : Field5) (s : State) : Out := issue k (.vsra k d a b c) (vecS false d a b c fun x y => x.sshiftRight (y.toNat % 32)) s

/-- VMUL (R335). -/
def execVmul (k : BrickId) (d a b c : Field5) (s : State) : Out := issue k (.vmul k d a b c) (vec2 false d a b c fun x y => x * y) s

/-- VBC (R335). -/
def execVbc (k : BrickId) (d a b c : Field5) (s : State) : Out := issue k (.vbc k d a b c) (legal (vecOk d && b == 0 && c == 0) fun s0 q => .next s0 (q.setV d (ofLanes (List.replicate 16 (q.s a))))) s

/-- VGET (R335). -/
def execVget (k : BrickId) (d a b c : Field5) (s : State) : Out := issue k (.vget k d a b c) (legal (vecOk a && b == 0) fun s0 q => .next s0 (q.setS d (BitVec.ofNat 32 (elemOf 32 ((q.s c).toNat % 16) (q.v a))))) s

/-- VPUT (R335). -/
def execVput (k : BrickId) (d a b c : Field5) (s : State) : Out := issue k (.vput k d a b c) (legal (vecOk d && b == 0) fun s0 q => .next s0 (q.setV d (ofLanes (setNth (lanesOf (q.v d)) ((q.s c).toNat % 16) (q.s a))))) s

/-- VPERM (R335). -/
def execVperm (k : BrickId) (d a b c : Field5) (s : State) : Out := issue k (.vperm k d a b c) (legal (vecOk d && vecOk a && vecOk b && c == 0) fun s0 q =>
    let xs := (vecBytes (q.v a)).map (·.toNat)
    .next s0 (q.setV d (ofElems 8 ((vecBytes (q.v b)).map (fun y => if y.toNat ≥ 128 then 0 else nth 0 xs (y.toNat % 64)))))) s

/-- VSUM (R335): one chunk under R178. -/
def execVsum (k : BrickId) (d a b c : Field5) (s : State) : Out := issue k (.vsum k d a b c) (legal (vecOk a && b == 0 && c == 0) fun s0 q =>
    let xs := lanesOf (q.v a)
    let r := chunkSum (xs.map f32v)
    .next (s0.nanProduced (nanCount r xs)) (q.setS d r)) s

/-- VHMAX (R335). -/
def execVhmax (k : BrickId) (d a b c : Field5) (s : State) : Out := issue k (.vhmax k d a b c) (legal (vecOk a && b == 0 && c == 0) fun s0 q => .next s0 (q.setS d (maxF32 (lanesOf (q.v a))))) s

/-- VMOV (R335). -/
def execVmov (k : BrickId) (d a b c : Field5) (s : State) : Out := issue k (.vmov k d a b c) (legal (vecOk d && vecOk a && b == 0 && c == 0) fun s0 q => .next s0 (q.setV d (q.v a))) s

/-- Element width of a format a brick converts; 0 for any other (R336). -/
def brickFormatBits (f : Nat) : Nat :=
  if f == 4 || f == 5 || f == 6 then 8 else if f == 8 || f == 9 then 16 else if f == 0x0A || f == 0x0B then 32 else 0

/-- Whether a part is in range for a format (R336). -/
def partOk (f : BitVec 6) (c : Field5) : Bool :=
  let w := brickFormatBits f.toNat
  decide (w ≠ 0) && decide (c.toNat * w < 32)

/-- Elements 16P to 16P + 15 of a vector register narrowed from lanes, counted to TNUM's tensor and the chunk of the stream
PTAG names (R336, R337). -/
def narrowInto (k : Nat) (f : Nat) (p : Nat) (d a : Field5) (mode : Nat → Mode) (s : State) (b : Brick) : BRes :=
  let w := brickFormatBits f
  let xs := lanesOf (b.v a)
  let ns := List.zipWith (fun j x => narrowElement f 0 (mode j) x) (List.range 16) xs
  let old := (List.range (512 / w)).map (fun e => elemOf w e (b.v d))
  let new := old.take (16 * p) ++ ns.map (·.code) ++ old.drop (16 * p + 16)
  let c := countElements xs ns
  let plan := ((s.role k).map (·.plan)).getD 0
  .next (s.countNarrow plan (b.ptag % 2 ^ 15) b.tagChunk b.tnum c) (b.setV d (ofElems w new))

/-- VCVTW (R336). -/
def execVcvtw (k : BrickId) (d a b c : Field5) (fn : BitVec 6) (s : State) : Out := issue k (.vcvtw k d a b c fn) (legal (vecOk d && vecOk a && b == 0 && partOk fn c) fun s0 q =>
    let w := brickFormatBits fn.toNat
    let r := (List.range 16).map (fun j => ofFv (elementValue fn.toNat (elemOf w (16 * c.toNat + j) (q.v a))))
    .next s0 (q.setV d (ofLanes r))) s

/-- VCVTN (R336, R337). -/
def execVcvtn (k : BrickId) (d a b c : Field5) (fn : BitVec 6) (s : State) : Out := issue k (.vcvtn k d a b c fn) (legal (vecOk d && vecOk a && b == 0 && partOk fn c) (narrowInto k.val fn.toNat c.toNat d a fun _ => .rne)) s

/-- VCVTNS (R183, R209, R336, R337, R343). -/
def execVcvtns (k : BrickId) (d a b c : Field5) (fn : BitVec 6) (s : State) : Out := issue k (.vcvtns k d a b c fn) (legal (vecOk d && vecOk a && pairOk b && partOk fn c && decide (fn.toNat < 0x0A)) fun s0 q =>
    if !q.stepped then .fault 10
    else
      let seed := s0.rd (Obj.streamSeed (q.ptag % 2 ^ 15))
      narrowInto k.val fn.toNat c.toNat d a (fun j => .stoch (randomByte seed (q.pair b + j))) s0 q) s

end Sys2Proof.Machine
end

