-- ==== Sys2Proof/Machine/Dict.lean ====
section
/-! DEFINITION. The object dictionary: what an object reads as, the checks of a write, and what a write does (R54-R92, R94, and the
objects of every chapter). -/

namespace Sys2Proof.Machine

/-! ### Objects (R54-R58, R432) -/

/-- The rows of an index that is present; the indices of clock steps above `CLOCK_MAX_MHZ` are absent (R432). -/
def State.indexRows (s : State) (index : Nat) : Option (List ObjRow) :=
  if decide (0x2210 ≤ index) && decide (index < 0x222F) && decide (500 + 25 * (index - 0x2210) > s.rd Obj.clockMaxMhz) then none
  else objGroup index

/-- The row of an object, or the abort code of its absence (R55). -/
def State.object (s : State) (key : Nat) : Except Nat ObjRow :=
  match s.indexRows (key / 256) with
  | none => .error Abort.noObject
  | some rows => match rows.find? (fun r => decide (r.sub ≤ key % 256 ∧ key % 256 < r.sub + r.n)) with
    | none => .error Abort.noSubindex
    | some r => .ok r

/-- Whether a row's object is larger than 8 bytes (R86). -/
def ObjRow.large (r : ObjRow) : Bool := r.ty == .domain || decide (r.ty.size > 8)

/-- Objects held in the persistence record. -/
def persistentKeys : List Nat :=
  [Obj.subsysVendorId, Obj.subsysId, Obj.ipv4Addr, Obj.ipv4Mask, Obj.udpPort, Obj.plcaNodeCount, Obj.keyL0, Obj.keyL1, Obj.anonWrite,
   Obj.idleTimeout, Obj.localShare, Obj.gddr7UserBytes, Obj.cxlInterleave, Obj.cxlUserBytes, Obj.autoCheckpoint, Obj.shadowBudget] ++
  (List.range 6).map Obj.isnsFullScaleA

/-- Objects whose reads return values of the reading session (R80, R216, R391, R527). -/
def sessionRelative (key : Nat) : Bool :=
  (decide (Obj.sessionId ≤ key) && decide (key ≤ Obj.cancelPending)) || key == Obj.curveSel || key == Obj.curveImage ||
  (decide (Obj.selTile ≤ key) && decide (key ≤ Obj.jCorrected)) || key == Obj.attestNonce || key == Obj.attestReport

/-! ### Sessions (R63, R64) -/

/-- Level of a session. -/
def State.levelOf (s : State) (i : Nat) : Nat :=
  if i == 0 || i == 74 then 0 else if i == 1 || i == 75 then 1
  else if decide (66 ≤ i) && decide (i < 74) then (s.session i).level else 2

/-- Whether a session is a management session that has not authenticated (R100, R115). -/
def State.anonymous (s : State) (i : Nat) : Bool := decide (66 ≤ i) && decide (i < 74) && ((s.session i).mgmt.bind (·.key)).isNone

/-! ### Progress records (R81-R83) -/

/-- Whether an index holds a progress record at subindices 0x01 to 0x06. -/
def progressIndex (index : Nat) : Bool :=
  index == 0x1310 || index == 0x4020 || index == 0x4210 || index == 0x5000 || index == 0x33F0 ||
  (decide (0x3310 ≤ index) && decide (index < 0x3350)) || (decide (0x3410 ≤ index) && decide (index < 0x3450))

/-- PCT of a progress record. -/
def pctOf (position total : Nat) : Nat := Nat.min 10000 (shareOf position total)

/-- SNAPSHOT of a progress record (R83). -/
def snapshotOf (state position total result : Nat) : Nat :=
  state + 2 ^ 16 * pctOf position total + 2 ^ 32 * result + 2 ^ 64 * position + 2 ^ 128 * total

def State.progressView (s : State) (index sub : Nat) : Option Nat :=
  let pos := s.rd (Obj.progPosition index)
  let total := s.rd (Obj.progTotal index)
  if sub == 2 then some (pctOf pos total)
  else if sub == 6 then some (snapshotOf (s.rd (Obj.progState index)) pos total (s.rd (Obj.progResult index)))
  else none

/-! ### What objects read as -/

/-- Stream objects that the device computes (R290, R446). -/
def State.streamView (s : State) (n sub : Nat) : Option Nat :=
  let swap := (s.rd (Obj.streamSwapState n), s.rd (Obj.streamSwapPosition n), s.rd (Obj.streamSwapTotal n), s.rd (Obj.streamSwapResult n))
  let render := (s.rd (Obj.streamRenderState n), s.rd (Obj.streamRenderPosition n), s.rd (Obj.streamRenderTotal n),
    s.rd (Obj.streamRenderResult n))
  if sub == 0x0C then some (s.stateSize n)
  else if sub == 0x0F then some (ofLE (s.entryBytes n))
  else if sub == 0x11 then some (pctOf swap.2.1 swap.2.2.1)
  else if sub == 0x15 then some (snapshotOf swap.1 swap.2.1 swap.2.2.1 swap.2.2.2)
  else if sub == 0x19 then some (pctOf render.2.1 render.2.2.1)
  else if sub == 0x1D then some (snapshotOf render.1 render.2.1 render.2.2.1 render.2.2.2)
  else if sub == 0x1E then some (s.reservedUj n)
  else none

/-- Session-relative objects at 0x2001 (R80). -/
def State.sessionView (s : State) (i sub : Nat) : Option Nat :=
  let x := s.session i
  if sub == 1 then some i
  else if sub == 2 then some (s.levelOf i)
  else if sub == 3 then some x.staged.length
  else if sub == 4 then some ((x.pending.map (fun p => p.deferred.getD p.position)).getD 0)
  else if sub == 5 then some x.commitSeq
  else if sub == 6 then some x.lastResult
  else if sub == 7 then some x.lastFailed
  else if sub == 8 then some x.lastPos
  else none

/-- The joint a session has selected (R391). -/
def State.jointView (s : State) (i sub : Nat) : Option Nat :=
  let x := s.session i
  if sub == 1 then some x.selTile
  else if sub == 2 then some x.selJoint
  else
    let j := s.joints.find (64 * x.selTile + x.selJoint)
    let of (f : Joint → Nat) : Option Nat := some ((j.map f).getD 0)
    if sub == 3 then some (b2n j.isSome)
    else if sub == 4 then of (fun j => j.plan)
    else if sub == 5 then of (fun j => j.link)
    else if sub == 6 then of (fun j => j.held)
    else if sub == 7 then of (fun j => j.reserve)
    else if sub == 8 then of (fun j => j.limit)
    else if sub == 9 then of (fun j => j.recs.length)
    else if sub == 10 then of (fun j => j.corrected)
    else none

/-- Pool objects of a tile (R392). -/
def State.poolView (s : State) (tile sub : Nat) : Option Nat :=
  if sub == 1 then some (s.tileJoints tile).length
  else if sub == 2 then some (s.reservedWords tile)
  else if sub == 3 then some (s.sharedUsed tile)
  else none

/-- Image of a curve slot as it reads back (R216). -/
def State.curveBytes (s : State) (slot : Nat) : Bytes :=
  if decide (240 ≤ slot) && decide (slot < 252) then builtinImage slot
  else padTo 800 ((s.curves.find slot).getD [])

/-- Values of every brick as an octet string, one entry of `f` per brick. -/
def State.brickString (s : State) (f : Brick → Nat) : List Nat := (List.range 3072).map (fun k => f (s.brick k))

/-- SESSION_MAP (R100). -/
def State.mgmtMap (s : State) : Nat :=
  ofLE ((List.range 8).map (fun k =>
    let x := s.session (66 + k)
    BitVec.ofNat 8 (if x.mgmt.isNone then 0 else 3 - Nat.min 2 x.level)))

/-- Rings in RUNNING or HALTED (R127). -/
def State.ringsOn (s : State) : Nat :=
  (s.dict.filter (fun e => decide (0x800000 ≤ e.1) && e.1 % 256 == 0x28 && (e.2 == 1 || e.2 == 2))).length

/-- Device-wide objects that the device computes. -/
def State.deviceView (s : State) (i key : Nat) : Option Nat :=
  if key == Obj.courseIndex then some s.course
  else if key == Obj.sessionMap then some s.mgmtMap
  else if key == Obj.priOutstanding then some s.requests.length
  else if key == Obj.ringsEnabled then some s.ringsOn
  else if key == Obj.curveSel then some (s.session i).curveSel
  else if key == Obj.curveImage then some (ofLE (s.curveBytes (s.session i).curveSel))
  else if key == Obj.kvPlaneBytes then some (sumN (s.plans.map (fun e => planKvPlaneBytes e.2.image)))
  else if key == Obj.rowCacheActive then some (s.cacheActive (s.rd Obj.rowCacheBytes))
  else if key == Obj.residentCount then some s.residentCountNow
  else if key == Obj.brickCodeMap then some (ofLE ((s.brickString (·.code)).map (BitVec.ofNat 8)))
  else if key == Obj.brickRunMap then some (ofBits ((s.brickString (fun b => b2n b.run)).map (· == 1)))
  else if key == Obj.contextsBusy then some s.contextsBusy
  else if key == Obj.overflowUsed then some s.overflowUsed
  else if key == Obj.liveStreams then some (s.streams.filter (fun e => e.2.admitted)).length
  else if key == Obj.liveReservedMj then some s.reservedMj
  else if key == Obj.admissionsWaiting then some s.admissionsWaitingNow
  else if key == Obj.devicePoolFree then some s.poolFree
  else none

/-- The value of an object for a session, little-endian (R10, R60). -/
def State.get (s : State) (i key : Nat) : Nat :=
  let index := key / 256
  let sub := key % 256
  let v :=
    if index == 0x2001 then s.sessionView i sub
    else if index == 0x7001 then s.jointView i sub
    else if decide (0x7010 ≤ index) && decide (index < 0x7070) then s.poolView (index - 0x7010) sub
    else if index ≥ 0x8000 then s.streamView (index - 0x8000) sub
    else if progressIndex index && decide (sub ≤ 6) then s.progressView index sub
    else s.deviceView i key
  v.getD (s.rd key)

/-- The defect log as it reads (R544). -/
def State.logBytes (s : State) : Bytes :=
  let entries := logEntries s.flash.log
  let head := logHead s.flash.log.length s.flash.logSeq
  head ++ beBytes 32 (shaNat (head ++ entries)) ++ leBytes 16 0 ++ entries

/-- Bytes of a DOMAIN object. -/
def State.domain (s : State) (i key : Nat) : Bytes :=
  if key == Obj.attestReport then (s.session i).report
  else if key == Obj.cert then s.certificate
  else if key == Obj.defectLog then s.logBytes
  else []

/-- The whole value of an object as bytes. -/
def State.bytesOf (s : State) (i key : Nat) (r : ObjRow) : Bytes :=
  if r.ty == .domain then s.domain i key else leBytes r.ty.size (s.get i key)

/-! ### Checks (R57, R59-R61, R69, R72, R94) -/

/-- The least of the abort codes whose checks fail: the order of R94. -/
def firstAbort : List (Bool × Nat) → Nat
  | [] => 0
  | (b, c) :: r =>
    let x := firstAbort r
    if b && (x == 0 || decide (c < x)) then c else x

/-- A value as a number of its type. -/
def Ty.value (t : Ty) (v : Nat) : Int :=
  match t with
  | .i16 => toSigned 16 v
  | .i32 => toSigned 32 v
  | .i64 => toSigned 64 v
  | _ => v

/-- Checks of one object's value alone (R57, R60, R72): type, range, enumeration, reserved bits. -/
def State.valueChecks (s : State) (key : Nat) (r : ObjRow) (v : Nat) : List (Bool × Nat) :=
  let x := r.ty.value v
  let typeChecks : List (Bool × Nat) :=
    match r.ty with
    | .bool8 => [(decide (v > 1), Abort.badEnum)]
    | .f32 => [(bits v 30 23 == 255, Abort.rangeHigh)]
    | .pct => [(decide (v > 10000), Abort.rangeHigh)]
    | _ => []
  let rangeChecks : List (Bool × Nat) :=
    match r.rng with
    | .any => []
    | .range lo hi => [(decide (x < lo), Abort.rangeLow), (decide (x > hi), Abort.rangeHigh)]
    | .rangeOr lo hi other => if x == other then [] else [(decide (x < lo), Abort.rangeLow), (decide (x > hi), Abort.rangeHigh)]
    | .upTo lo k => [(decide (x < lo), Abort.rangeLow), (decide (x > s.rd k), Abort.rangeHigh)]
    | .enum cs => [(!cs.contains v, Abort.badEnum)]
  let index := key / 256
  let reserved := (index == 0x4110 || index == 0x4111) &&
    (bits v 15 11 != 0 || bits v 31 16 != 0 || bits v 255 192 != 0)
  typeChecks ++ rangeChecks ++ [(reserved, Abort.reservedBits)]

/-- Whether a set needs a further entry for an object (R69). -/
def newEntry (set : List (Nat × Nat)) (key : Nat) : Bool := !set.any (fun e => e.1 == key)

/-- Stage a value: in its place when the set holds the object, else last (R69). -/
def stageIn (set : List (Nat × Nat)) (key v : Nat) : List (Nat × Nat) :=
  if newEntry set key then set ++ [(key, v)] else set.map (fun e => if e.1 == key then (key, v) else e)

/-- Checks of a write by a session of everything but the value: class, level, authentication (R60, R63, R100). -/
def State.writeChecks (s : State) (i : Nat) (r : ObjRow) : List (Bool × Nat) :=
  [(r.acc == .ro, Abort.notWritable), (decide (s.levelOf i > r.lvl), Abort.level),
   (s.anonymous i && !s.rdB Obj.anonWrite, Abort.notAuthenticated)]

/-- Checks of the value a session writes, the class's own among them. -/
def State.setChecks (s : State) (i key : Nat) (r : ObjRow) (v : Nat) : List (Bool × Nat) :=
  if r.acc == .rwz then [(v != 0, Abort.nonzeroCounter)]
  else s.valueChecks key r v ++
    [(r.acc == .rws && newEntry (s.session i).staged key && decide ((s.session i).staged.length ≥ 256), Abort.stageFull)]

/-! ### Commits (R70, R71, R78, R80, R534) -/

/-- A write of a position to `COMMIT_AT`. -/
def State.acceptCommit (s : State) (i v : Nat) : Nat × State :=
  let l := s.courseLen
  let x := s.session i
  let code := firstAbort
    [(decide (s.rd Obj.phase < 6), Abort.wrongState), (x.pending.isSome, Abort.commitPending),
     (v % l != 0, Abort.notBoundary), (v != 0 && decide (v ≤ s.pos), Abort.positionPassed),
     (decide (v > s.pos + 2 ^ 32), Abort.rangeHigh)]
  if code != 0 then (code, s)
  else
    let at' := if v == 0 then (s.pos / l + 1) * l else v
    let p : Pending := { position := at', deferred := none, set := x.staged, order := s.clk.order, level := s.levelOf i }
    (0, ({ s with clk := { s.clk with order := s.clk.order + 1 } }).setSession i { x with staged := [], pending := some p })

/-- A write of 1 to `CANCEL_PENDING`. -/
def State.cancelCommit (s : State) (i : Nat) : Nat × State :=
  let x := s.session i
  match x.pending with
  | none => (0, s)
  | some p =>
    if p.deferred.getD p.position ≤ s.pos then (Abort.positionPassed, s)
    else (0, s.setSession i { x with pending := none })

/-- A write of 1 to `STORE` (R68). -/
def State.startStore (s : State) (i : Nat) : Nat × State :=
  if s.rd Obj.storeState == 1 then (Abort.busy, s)
  else
    let values : Map Nat := persistentKeys.foldl (fun m k => Map.put m k (s.rd k)) []
    (0, ({ s with flash := { s.flash with storing := some (i, values) } }).wr Obj.storeState 1)

/-! ### Management sessions that close (R78, R100, R102, R112) -/

/-- Close a management session: its staging set goes, its pending commit and what it has concluded stay. -/
def State.closeSession (s : State) (i : Nat) : State :=
  let x := s.session i
  s.setSession i { pending := x.pending, commitSeq := x.commitSeq, lastResult := x.lastResult, lastFailed := x.lastFailed
                   lastPos := x.lastPos }

/-- A new key of a level: sessions authenticated under the old one close (R102). -/
def State.putKey (s : State) (level v : Nat) : State :=
  let s := s.wr (if level == 0 then Obj.keyL0 else Obj.keyL1) v
  let s := s.wr Obj.keyState (setBit (s.rd Obj.keyState) level (v != 0))
  (List.range 8).foldl (fun s k =>
    let x := s.session (66 + k)
    if (x.mgmt.bind (·.key)).isSome && x.level == level then s.closeSession (66 + k) else s) s

/-! ### Writes that act (R60) -/

/-- Clear a watch slot (R201). -/
def State.clearWatch (s : State) (w : Nat) : State :=
  [Obj.watchElements w, Obj.watchSaturated w, Obj.watchFlushed w, Obj.watchBlocks w, Obj.watchBlocksClipped w, Obj.watchWorstBlock w,
   Obj.watchAbsmax w].foldl (fun s k => s.wr k 0) s

/-- Remove entries of the defect log (R545). -/
def State.clearLog (s : State) (k : Nat) (flashOk : Bool) : Nat × State :=
  if k != 0xFFFF && decide (k ≥ s.flash.log.length) then (Abort.rangeHigh, s)
  else if !flashOk then (Abort.storeFailed, s)
  else
    let log := if k == 0xFFFF then [] else s.flash.log.eraseIdx k
    (0, ({ s with flash := s.flash.writeLog log }).wr Obj.logCount log.length)

/-- Write a nonce to `ATTEST_NONCE` (R527). -/
def State.writeNonce (s : State) (i : Nat) (nonce : Bytes) : Nat × State :=
  match s.attest nonce with
  | .error c => (c, s)
  | .ok (report, t) => (0, t.setSession i { t.session i with nonce := some nonce, report := report })

/-- A write of a WO object whose checks have passed: its abort code, 0 for none. `flashOk` says how a flash write ends. -/
def State.action (s : State) (i key v : Nat) (data : Bytes) (flashOk : Bool) : Nat × State :=
  let index := key / 256
  let done (t : State) : Nat × State := (0, t)
  if key == Obj.commitAt then s.acceptCommit i v
  else if key == Obj.discard then done (s.setSession i { s.session i with staged := [] })
  else if key == Obj.cancelPending then s.cancelCommit i
  else if key == Obj.store then s.startStore i
  else if key == Obj.reanchor then done { s with clk := { s.clk with reanchor := true } }
  else if key == Obj.keyL0 then done (s.putKey 0 v)
  else if key == Obj.keyL1 then done (s.putKey 1 v)
  else if key == Obj.forceClose then done (s.closeSession (66 + v))
  else if key == Obj.watchClear (index - 0x3010) then done (s.clearWatch (index - 0x3010))
  else if key == Obj.tableUnload (index - 0x3410) then
    if s.tableInUse (index - 0x3410) then (Abort.busy, s) else done (s.emptyTable (index - 0x3410))
  else if key == Obj.planUnload (index - 0x3310) then
    if s.rd (Obj.planBoundStreams (index - 0x3310)) != 0 then (Abort.busy, s) else done (s.emptyPlan (index - 0x3310))
  else if key == Obj.streamUnbind (index - 0x8000) then
    if s.ringState (index - 0x8000) != 0 then (Abort.wrongState, s) else done (s.unbindStream (index - 0x8000))
  else if key == Obj.groupSlipReanchor (index - 0x6040) then
    done (s.setGroup (index - 0x6040) { s.group (index - 0x6040) with reanchor := true })
  else if key == Obj.retrainNow then done (s.makeDue v)
  else if key == Obj.handover then s.requestHandover
  else if key == Obj.leave then s.startLeave
  else if key == Obj.syncStart then s.startSync
  else if key == Obj.svnAdvance then s.advanceSvn v
  else if key == Obj.fwWrite then done (s.startUpdate data)
  else if key == Obj.customerKeyFuse then s.fuseCustomer data
  else if key == Obj.attestNonce then s.writeNonce i data
  else if key == Obj.logClear then s.clearLog v flashOk
  else done s

/-- A write of an RW object (R60). -/
def State.putRw (s : State) (i key v : Nat) : State :=
  let x := s.session i
  if key == Obj.curveSel then s.setSession i { x with curveSel := v }
  else if key == Obj.selTile then s.setSession i { x with selTile := v }
  else if key == Obj.selJoint then s.setSession i { x with selJoint := v }
  else if key == Obj.bootSlot then ({ s with flash := { s.flash with control := v } }).wr key v
  else s.wr key v

/-- Clear a counter (R60). -/
def State.clearCounter (s : State) (i key : Nat) : State :=
  if key == Obj.jCorrected then
    let x := s.session i
    let k := 64 * x.selTile + x.selJoint
    match s.joints.find k with
    | some j => { s with joints := s.joints.put k { j with corrected := 0 } }
    | none => s
  else s.wr key 0

/-- A write whose checks have passed acts as its class says (R60). -/
def State.put (s : State) (i key : Nat) (r : ObjRow) (v : Nat) (data : Bytes) (flashOk : Bool) : Nat × State :=
  match r.acc with
  | .ro => (Abort.notWritable, s)
  | .rw => (0, s.putRw i key v)
  | .rwz => (0, s.clearCounter i key)
  | .rws => (0, s.setSession i { s.session i with staged := stageIn (s.session i).staged key v })
  | .wo => s.action i key v data flashOk

/-! ### Expedited accesses (R60, R86, R88) -/

/-- DESCRIBE (R88). -/
def State.describe (s : State) (i key : Nat) (r : ObjRow) : Nat :=
  let length := if r.ty == .domain then (s.domain i key).length else r.ty.size
  r.ty.code + 2 ^ 8 * r.acc.code + 2 ^ 11 * Nat.min 3 r.lvl + 2 ^ 13 * b2n (persistentKeys.contains key) +
    2 ^ 14 * b2n (sessionRelative key) + 2 ^ 16 * length

/-- The value READ_STAGED returns (R60). -/
def State.getStaged (s : State) (i key : Nat) (r : ObjRow) : Nat :=
  if r.acc == .rws then ((((s.session i).staged.find? (fun e => e.1 == key)).map (·.2)).getD (s.get i key)) else s.get i key

/-- An expedited access by its operation (1 READ, 2 WRITE, 3 READ_STAGED, 4 DESCRIBE, 5 READ_DEFAULT): abort code, value returned,
state. `v` is what DATA holds; its bytes above the object's size are checked before any access (R86). `faults` are checks of the path
it came by; a WO object's own causes compete with them in the order of R94. -/
def State.expedited (s : State) (i op key v : Nat) (faults : List (Bool × Nat)) (flashOk : Bool) : Nat × Nat × State :=
  match s.object key with
  | .error c => (firstAbort ((true, c) :: faults), 0, s)
  | .ok r =>
    let path := faults ++ [(r.large && (op == 1 || op == 2 || op == 3 || op == 5), Abort.useMailbox),
      (!r.large && decide (v ≥ 2 ^ (8 * r.ty.size)), Abort.sizeMismatch)]
    if op == 2 then
      let x := s.put i key r v (leBytes r.ty.size v) flashOk
      let code := firstAbort (path ++ s.writeChecks i r ++ s.setChecks i key r v ++ [(x.1 != 0, x.1)])
      if code != 0 then (code, 0, s) else (0, 0, x.2)
    else
      let code := firstAbort (path ++ [((op == 1 || op == 3) && r.acc == .wo, Abort.notReadable)])
      if code != 0 then (code, 0, s)
      else
        (0, (if op == 4 then s.describe i key r else if op == 5 then s.resetValue key
          else if op == 3 then s.getStaged i key r else s.get i key), s)

/-! ### Segments (R89-R92) -/

/-- A segment of a read or a write: the object, FIRST, LAST, OFFSET, the bytes asked for or written, TOTAL. -/
structure Segment where
  key    : Nat
  first  : Bool
  last   : Bool
  offset : Nat
  length : Nat
  total  : Nat
  data   : Bytes
deriving DecidableEq, Repr

/-- A read segment (R90): abort code, bytes, state. -/
def State.segRead (s : State) (i : Nat) (g : Segment) (faults : List (Bool × Nat)) : Nat × Bytes × State :=
  match s.object g.key with
  | .error c => (firstAbort ((true, c) :: faults), [], s)
  | .ok r =>
    let x := s.session i
    let held := match x.snapshot with
      | some (k, _) => k == g.key
      | none => false
    let code := firstAbort ((r.acc == .wo, Abort.notReadable) ::
      ((g.first && g.offset != 0) || (!g.first && !held), Abort.segmentSequence) :: faults)
    if code != 0 then (code, [], s)
    else
      let whole := if g.first then s.bytesOf i g.key r else (x.snapshot.map (·.2)).getD []
      (0, slice whole g.offset g.length, s.setSession i { x with snapshot := if g.last then none else some (g.key, whole) })

/-- Greatest length of an object (R57, R522). -/
def ObjRow.most (r : ObjRow) : Nat := if r.ty == .domain then 16777216 else r.ty.size

/-- Whether another session holds a partial write of an object (R91). -/
def State.heldElsewhere (s : State) (i key : Nat) : Bool :=
  s.sessions.any (fun e => e.1 != i && (match e.2.shadow with
    | some w => w.key == key
    | none => false))

/-- A write segment (R91): abort code and state. A segment out of sequence or past its end discards the partial write of its object; any
other failure leaves it (R94). A session holds one partial write: a FIRST for another object takes its place (assumption 129). -/
def State.segWrite (s : State) (i : Nat) (g : Segment) (faults : List (Bool × Nat)) (flashOk : Bool) : Nat × State :=
  match s.object g.key with
  | .error c => (firstAbort ((true, c) :: faults), s)
  | .ok r =>
    let x := s.session i
    let old : Option Shadow := if g.first then some ⟨g.key, g.total, []⟩ else x.shadow.filter (fun w => w.key == g.key)
    let at' := (old.map (fun w => w.data.length)).getD 0
    let total := (old.map (fun w => w.total)).getD 0
    let data := (old.map (fun w => w.data)).getD [] ++ g.data
    let sequence := old.isNone || g.offset != at'
    let tooLong := decide (g.offset + g.length > total) || (g.last && g.offset + g.length != total) || decide (total > r.most)
    let whole := g.last && !sequence && !tooLong
    let v := ofLE data
    let x' := s.setSession i { x with shadow := none }
    let put := if whole then x'.put i g.key r v data flashOk else (0, s)
    let checks := faults ++ s.writeChecks i r ++
      [(r.ty != .domain && g.first && decide (g.total < r.ty.size), Abort.sizeMismatch),
       (g.first && s.heldElsewhere i g.key, Abort.domainBusy),
       (g.first && g.key == Obj.fwWrite && s.rd (Obj.progState updateRecord) == 1, Abort.busy),
       (sequence, Abort.segmentSequence), (!sequence && tooLong, Abort.segmentLength)] ++
      (if whole then (put.1 != 0, put.1) :: s.setChecks i g.key r v else [])
    let code := firstAbort checks
    let discarded := (code == Abort.segmentSequence || code == Abort.segmentLength) && (x.shadow.map (·.key)) == some g.key
    if code != 0 then (code, if discarded then x' else s)
    else if g.last then (0, put.2)
    else (0, s.setSession i { x with shadow := some ⟨g.key, total, data⟩ })

end Sys2Proof.Machine
end

