-- ==== Sys2Proof/Machine/Mgmt.lean ====
section
/-! DEFINITION. The management port: its messages, its sessions and their authentication, ARP, echo and beacons (R95-R116). -/

namespace Sys2Proof.Machine

/-! ### Messages (R104, R105) -/

/-- Whether the port is in service (R98). -/
def State.portOpen (s : State) : Bool := decide (s.rd Obj.phase ≥ 2)

/-- A message: header, body and, under a key, the trailer. -/
def mgmtMessage (type session seq status : Nat) (body : Bytes) (key : Option Bytes) : Bytes :=
  let m := leBytes 2 0x6084 ++ leBytes 1 1 ++ leBytes 1 type ++ leBytes 1 session ++ leBytes 1 (1 + 2 * b2n key.isSome) ++
    leBytes 2 seq ++ leBytes 4 status ++ leBytes 2 body.length ++ leBytes 2 0 ++ body
  match key with
  | some k => m ++ hmacSha256 k m
  | none => m

/-- Whether a request carries a good trailer (R115). -/
def trailerOk (key dg : Bytes) : Bool :=
  bit (field dg 5 1) 1 && decide (dg.length ≥ 48) && hmacSha256 key (dg.take (dg.length - 32)) == dg.drop (dg.length - 32)

/-- Checks of a header (R104). -/
def headerChecks (dg : Bytes) : List (Bool × Nat) :=
  let flags := field dg 5 1
  [(decide (dg.length ≠ 16 + field dg 12 2 + 32 * b2n (bit flags 1)), Abort.sizeMismatch),
   (decide (field dg 12 2 > 1040), Abort.rangeHigh),
   (bits flags 7 2 != 0 || field dg 14 2 != 0 || field dg 8 4 != 0, Abort.reservedBits)]

/-- Key of the object a body names: INDEX, SUB. -/
def bodyKey (body : Bytes) : Nat := 256 * field body 0 2 + field body 2 1

/-! ### STAGE (R107) -/

/-- Check and stage entries into a copy of the staging set: the set, or the abort code and number of the first that fails. -/
def State.stageEntries (s : State) (i : Nat) : List Bytes → Nat → List (Nat × Nat) → Except (Nat × Nat) (List (Nat × Nat))
  | [], _, set => .ok set
  | e :: es, k, set =>
    let key := bodyKey e
    let v := field e 4 8
    match s.object key with
    | .error c => .error (c, k)
    | .ok r =>
      let code := firstAbort ([(r.acc != .rws, Abort.notWritable), (r.large, Abort.useMailbox),
        (!r.large && decide (v ≥ 2 ^ (8 * r.ty.size)), Abort.sizeMismatch), (decide (s.levelOf i > r.lvl), Abort.level),
        (s.anonymous i && !s.rdB Obj.anonWrite, Abort.notAuthenticated), (field e 3 1 != 0, Abort.reservedBits),
        (newEntry set key && decide (set.length ≥ 256), Abort.stageFull)] ++ s.valueChecks key r v)
      if code != 0 then .error (code, k) else s.stageEntries i es (k + 1) (stageIn set key v)

/-- A STAGE body: status, response body, state. -/
def State.stageBody (s : State) (i : Nat) (body : Bytes) : Nat × Bytes × State :=
  let count := field body 0 1
  let answer (k : Nat) : Bytes := leBytes 1 k ++ leBytes 3 0
  let code := firstAbort [(body.length != 4 + 12 * count, Abort.sizeMismatch), (count == 0, Abort.rangeLow),
    (decide (count > 16), Abort.rangeHigh), (field body 1 3 != 0, Abort.reservedBits)]
  if code != 0 then (code, answer 255, s)
  else
    let x := s.session i
    match s.stageEntries i ((List.range count).map (fun k => slice body (4 + 12 * k) 12)) 0 x.staged with
    | .error (c, k) => (c, answer k, s)
    | .ok set => (0, answer 255, s.setSession i { x with staged := set })

/-! ### Accesses (R105, R106, R108) -/

/-- A READ or WRITE body through the expedited operation `op`: status, response body, state. -/
def State.mgmtExpedited (s : State) (i op key v : Nat) (faults : List (Bool × Nat)) (body : Bytes) (flashOk : Bool) :
    Nat × Bytes × State :=
  let r := s.expedited i op key v faults flashOk
  (r.1, if op == 2 then body else body ++ leBytes 8 r.2.1, r.2.2)

/-- The segment a SEG_READ or SEG_WRITE body names. -/
def mgmtSegment (body : Bytes) (write : Bool) : Segment where
  key := bodyKey body
  first := bit (field body 3 1) 1
  last := bit (field body 3 1) 2
  offset := field body 4 4
  length := field body 8 2
  total := if write then field body 12 4 else 0
  data := if write then body.drop 16 else []

/-- Checks of a segment's own fields. -/
def mgmtSegmentChecks (body : Bytes) (write : Bool) : List (Bool × Nat) :=
  let n := field body 8 2
  [(body.length != (if write then 16 + n else 12), Abort.sizeMismatch), (n == 0, Abort.rangeLow),
   (decide (n > 1024), Abort.rangeHigh),
   (bit (field body 3 1) 0 || bits (field body 3 1) 7 3 != 0 || field body 10 2 != 0 ||
     (write && !bit (field body 3 1) 1 && field body 12 4 != 0), Abort.reservedBits)]

/-- A request on an open session that is not OPEN, AUTH or CLOSE: status, response body, state. -/
def State.mgmtRequest (s : State) (i type : Nat) (body : Bytes) (flashOk : Bool) : Nat × Bytes × State :=
  if type == 3 then
    let mode := field body 3 1
    s.mgmtExpedited i (if mode == 0 then 1 else mode + 2) (bodyKey body) 0
      [(body.length != 4, Abort.sizeMismatch), (decide (mode > 3), Abort.badEnum)] body flashOk
  else if type == 4 then
    s.mgmtExpedited i 2 (bodyKey body) (field body 4 8)
      [(body.length != 12, Abort.sizeMismatch), (field body 3 1 != 0, Abort.reservedBits)] body flashOk
  else if type == 5 then s.stageBody i body
  else if type == 6 then s.mgmtExpedited i 2 Obj.commitAt (field body 0 8) [(body.length != 8, Abort.sizeMismatch)] body flashOk
  else if type == 7 then
    let r := s.segRead i (mgmtSegment body false) (mgmtSegmentChecks body false)
    (r.1, body ++ leBytes 2 r.2.1.length ++ leBytes 2 0 ++ r.2.1, r.2.2)
  else if type == 8 then
    let r := s.segWrite i (mgmtSegment body true) (mgmtSegmentChecks body true) flashOk
    (r.1, body.take 12, r.2)
  else (Abort.badEnum, [], s)

/-! ### Authentication (R113, R114) -/

/-- M_c, M_d and K_s of a level for a session. -/
def authCodes (key nd nc mac : Bytes) (session level : Nat) : Bytes × Bytes × Bytes :=
  let sv := leBytes 1 session ++ leBytes 1 level
  (hmacSha256 key (ascii ['F', 'Y', '6', '0', '8', '4', '-', 'A', 'U', 'T', 'H', '-', 'C'] ++ nd ++ nc ++ sv ++ mac),
   hmacSha256 key (ascii ['F', 'Y', '6', '0', '8', '4', '-', 'A', 'U', 'T', 'H', '-', 'D'] ++ nc ++ nd ++ sv ++ mac),
   hmacSha256 key (ascii ['F', 'Y', '6', '0', '8', '4', '-', 'S', 'K', 'E', 'Y'] ++ nd ++ nc ++ sv))

/-- An AUTH body: status, response body, state. Whatever it refuses for its key or its M_c closes the session. -/
def State.authBody (s : State) (i : Nat) (m : Mgmt) (body : Bytes) : Nat × Bytes × State :=
  let level := field body 0 1
  let code := firstAbort [(body.length != 36, Abort.sizeMismatch), (decide (level > 1), Abort.badEnum),
    (field body 1 3 != 0, Abort.reservedBits), (m.authUsed, Abort.wrongState)]
  if code != 0 then (code, [], s)
  else
    let key := leBytes 32 (s.rd (if level == 0 then Obj.keyL0 else Obj.keyL1))
    let (mc, md, ks) := authCodes key m.nd m.nc (leBytes 6 (s.rd Obj.macAddr)) (i - 66) level
    if allZero key || slice body 4 32 != mc then
      (Abort.notAuthenticated, [], (s.bump Obj.authFailures 1).closeSession i)
    else
      let x := s.session i
      (0, md, s.setSession i { x with level := level, staged := [], mgmt := some { m with authUsed := true, key := some ks } })

/-! ### Sessions (R109-R112, R115) -/

/-- Answer a datagram, from the address and port at which it was received (R101). -/
def State.reply (s : State) (d : Datagram) (msg : Bytes) : State :=
  s.send (.datagram d.toIp.toNat d.toPort.toNat d.ip.toNat d.port.toNat msg)

/-- The lowest-numbered closed management session (R109). -/
def State.closedSession (s : State) : Option Nat := (List.range 8).find? (fun k => (s.session (66 + k)).mgmt.isNone)

/-- An OPEN (R109). The answer to one that is refused carries SESSION 0xFF; a repeated one leaves the session's idle time as it is
(assumptions 132, 133). -/
def State.openSession (s : State) (d : Datagram) : State :=
  let dg := d.body
  let seq := field dg 6 2
  let body := slice dg 16 (field dg 12 2)
  let code := firstAbort (headerChecks dg ++ [(body.length != 16, Abort.sizeMismatch), (field dg 4 1 != 255, Abort.badEnum)])
  let again := (List.range 8).findSome? (fun k => (s.session (66 + k)).mgmt.filter (fun m =>
    m.fresh && m.ip == d.ip.toNat && m.port == d.port.toNat && m.nc == body))
  if code != 0 then s.reply d (mgmtMessage 1 255 seq code [] none)
  else match again with
    | some m => s.reply d m.response
    | none => match s.closedSession with
      | none => s.reply d (mgmtMessage 1 255 seq Abort.busy [] none)
      | some k =>
        let (nd, t) := s.entropy16
        let msg := mgmtMessage 1 k seq 0 nd none
        let m : Mgmt := { ip := d.ip.toNat, port := d.port.toNat, seq := seq, nc := body, nd := nd, fresh := true, authUsed := false, key := none
                          idle := t.clk.frames, response := msg }
        (t.setSession (66 + k) { t.session (66 + k) with level := 2, mgmt := some m }).reply d msg

/-- Act on a request in sequence: status, response body, the state after it. -/
def State.mgmtAct (s : State) (i type : Nat) (m : Mgmt) (dg body : Bytes) (flashOk : Bool) : Nat × Bytes × State :=
  let code := firstAbort (headerChecks dg)
  if code != 0 then (code, if type == 5 then [0xFF, 0, 0, 0] else [], s)
  else if type == 2 then s.authBody i m body
  else if type == 9 then
    if body.isEmpty then (0, [], s.closeSession i) else (Abort.sizeMismatch, [], s)
  else s.mgmtRequest i type body flashOk

/-- A request on an open session from its own source, its trailer checked (R110, R115). The answer goes out under the key the
session holds: after a successful AUTH the new one, else the one it held before the request (R102). A repeated request counts as a
valid one for the idle time (assumption 132). -/
def State.mgmtInOrder (s : State) (i : Nat) (m : Mgmt) (d : Datagram) (flashOk : Bool) : State :=
  let dg := d.body
  let seq := field dg 6 2
  let type := field dg 3 1
  if seq == m.seq then
    (s.setSession i { s.session i with mgmt := some { m with idle := s.clk.frames } }).reply d m.response
  else if seq != (m.seq + 1) % 65536 then s.bump Obj.seqDiscards 1
  else
    let m := { m with seq := seq, fresh := false, idle := s.clk.frames }
    let s := s.setSession i { s.session i with mgmt := some m }
    let (code, body, t) := s.mgmtAct i type m dg (slice dg 16 (field dg 12 2)) flashOk
    let key := match m.key with
      | some k => some k
      | none => (t.session i).mgmt.bind (·.key)
    let msg := mgmtMessage type (i - 66) seq code (if code == 0 || type == 5 then body else []) key
    let t := match (t.session i).mgmt with
      | some m' => t.setSession i { t.session i with mgmt := some { m' with response := msg } }
      | none => t
    t.reply d msg

/-- A datagram taken from the receive queue (R104-R115). What is not a request of the protocol is discarded. A SESSION above 7 names
no open session (assumption 131). -/
def State.datagram (s : State) (d : Datagram) (flashOk : Bool) : State :=
  let dg := d.body
  let type := field dg 3 1
  let k := field dg 4 1
  if field dg 0 2 != 0x6084 || field dg 2 1 != 1 then s.bump Obj.rxDropped 1
  else if bit (field dg 5 1) 0 then s
  else if type == 1 then s.openSession d
  else match (if k < 8 then (s.session (66 + k)).mgmt else none) with
    | none =>
      let code := firstAbort ((true, Abort.wrongState) :: headerChecks dg)
      s.reply d (mgmtMessage type k (field dg 6 2) code (if type == 5 then [0xFF, 0, 0, 0] else []) none)
    | some m =>
      if m.ip != d.ip.toNat || m.port != d.port.toNat then s.bump Obj.rxDropped 1
      else match m.key with
        | some key => if trailerOk key dg then s.mgmtInOrder (66 + k) m d flashOk else s.bump Obj.macFailures 1
        | none => s.mgmtInOrder (66 + k) m d flashOk

/-! ### The receive queue (R97, R99) -/

/-- Datagrams the receive queue holds (R99). -/
def rxSize : Nat := 32

/-- Whether a datagram is one the device handles (R97): the port is in service, the datagram is whole and is sent to its address and
port. -/
def State.accepts (s : State) (d : Datagram) : Bool :=
  s.portOpen && !d.fragment && d.toIp.toNat == s.rd Obj.ipv4Addr && d.toPort.toNat == s.rd Obj.udpPort

/-- A datagram arrives: it waits behind those that wait, it is discarded and counted when the queue is full, or it is taken at
once. -/
def State.arrive (s : State) (d : Datagram) (held flashOk : Bool) : State :=
  if !s.accepts d then s
  else if s.rx.length ≥ rxSize then s.bump Obj.rxDropped 1
  else if held || !s.rx.isEmpty then { s with rx := s.rx ++ [d] }
  else s.datagram d flashOk

/-- The device takes the datagram that waits first. -/
def State.takeNext (s : State) (flashOk : Bool) : State :=
  match s.rx with
  | [] => s
  | d :: rest => ({ s with rx := rest }).datagram d flashOk

/-! ### The rest of the port -/

/-- ARP_REQUEST (R97): an answer for the device's own address alone. -/
def execArpRequest (senderMac : BitVec 48) (senderIp targetIp : BitVec 32) (s : State) : Out :=
  .next (if s.portOpen && targetIp.toNat == s.rd Obj.ipv4Addr then s.send (.arp senderMac.toNat senderIp.toNat) else s)

/-- ECHO_REQUEST (R97): fragments are discarded. -/
def execEchoRequest (sourceIp targetIp : BitVec 32) (fragment : Bool) (payload : Bytes) (s : State) : Out :=
  .next (if s.portOpen && !fragment && targetIp.toNat == s.rd Obj.ipv4Addr then s.send (.echo sourceIp.toNat payload) else s)

/-- PLCA_BEACON (R95): a coordinator's beacon, from the end of phase 1 on. -/
def execPlcaBeacon (s : State) : Out :=
  .next (if s.portOpen && s.rd Obj.nodeId == 0 then s.send (.beacon (s.rd Obj.plcaNodeCount)) else s)

/-- IDLE_TIMEOUT (R103): the frames counted since the session's last valid request, and for the time `refNs` of the internal
reference since then in which no frame count ran, one more for each 20.833 µs. -/
def execIdleTimeout (session : Fin 8) (refNs : Nat) (s : State) : Out :=
  let i := 66 + session.val
  .next (match (s.session i).mgmt with
    | none => s
    | some m =>
      let limit := s.rd Obj.idleTimeout
      let due := decide (20833 * (s.clk.frames - m.idle) + refNs ≥ 20833 * limit)
      if due then s.closeSession i else s)

end Sys2Proof.Machine
end

