-- ==== Sys2Proof/Machine/DictExec.lean ====
section
/-! DEFINITION. The paths to the dictionary: the BAR0 window and its mailbox, the partner's requests and the partner's answers, and
the rows that an access belongs to (R60-R92, R478, R479). -/

namespace Sys2Proof.Machine

/-! ### The BAR0 window (R84-R87) -/

/-- Conclude an access of a page: its abort code, and DATA where it returns a value. -/
def State.barDone (s : State) (page tag code : Nat) (data : Option Nat) : State :=
  let x := s.session page
  s.setSession page { x with
    bar0 := { x.bar0 with busy := false, done := true, tag := tag, abort := code, data := data.getD x.bar0.data }, partner := none }

/-- Take the registers of an accepted CMD write (R86). -/
def State.barTake (s : State) (page cmd : Nat) (data mbox : Option Nat) : State :=
  let x := s.session page
  s.setSession page { x with
    bar0 := { x.bar0 with cmd := cmd, data := data.getD x.bar0.data, mbox := mbox.getD x.bar0.mbox, busy := true, done := false
                          overrun := false } }

/-- A CMD write that arrives while an access runs (R86). -/
def State.barOverrun (s : State) (page : Nat) : State :=
  let x := s.session page
  s.setSession page { x with bar0 := { x.bar0 with overrun := true } }

/-- Tag of a CMD. -/
def cmdTag (cmd : Nat) : Nat := bits cmd 47 32

/-- The object CMD names. -/
def cmdKey (cmd : Nat) : Nat := 256 * bits cmd 15 0 + bits cmd 23 16

/-- Reserved bits of CMD (R59, R85). -/
def cmdReserved (cmd : Nat) : Bool := bits cmd 31 29 != 0 || bits cmd 63 48 != 0

/-- Wait for the partner (R87): the DICT_REQs of an access, all under one TAG, and the wait for their answers. -/
def State.askPartner (s : State) (page : Nat) (mailbox write : Bool) (buffer length : Nat) (reqs : List Bytes) : State :=
  let tag := s.waitNext % 2 ^ 30
  let x := s.session page
  let w : PartnerWait := { tag := tag, since := s.clk.frames, mailbox := mailbox, write := write, buffer := buffer, length := length
                           left := reqs.length, moved := 0 }
  let s := ({ s with waitNext := s.waitNext + 1 }).setSession page { x with partner := some w }
  reqs.foldl (fun s b => s.tieSend 6 tag b) s

/-- An expedited access of a page whose CMD write is accepted. -/
def State.barRun (s : State) (page cmd data : Nat) (flashOk : Bool) : State :=
  let op := bits cmd 27 24
  let tag := cmdTag cmd
  let faults := [(decide (op = 0 ∨ op > 5), Abort.badEnum), (cmdReserved cmd, Abort.reservedBits)]
  if bit cmd 28 then
    let code := firstAbort (faults ++ [(!s.tieUp, Abort.partnerUnreachable)])
    if code != 0 then s.barDone page tag code none
    else s.askPartner page false (op == 2) 0 0 [dictReqBody (s.levelOf page) op 0 (cmdKey cmd) 0 0 0 (leBytes 8 data)]
  else
    let r := s.expedited page op (cmdKey cmd) data faults flashOk
    r.2.2.barDone page tag r.1 (if r.1 == 0 && op != 2 then some r.2.1 else none)

/-- A write of CMD in a page, with what DATA holds (R85, R86). -/
def State.barAccess (s : State) (page : Nat) (aligned : Bool) (cmd data : Nat) (flashOk : Bool) : State :=
  if !s.host || !aligned || bits cmd 27 24 == 6 then s
  else if (s.session page).bar0.busy then s.barOverrun page
  else (s.barTake page cmd (some data) none).barRun page cmd data flashOk

/-! ### The registers of BAR0 by offset (R84, R85) -/

/-- The page at an offset of BAR0, which is its session's number; none beyond the last page. -/
def pageAt (offset : Nat) : Option Nat := if offset / 0x1000 < 66 then some (offset / 0x1000) else none

/-- Offsets of the registers of a page. -/
def regCmd : Nat := 0x000
def regData : Nat := 0x008
def regStatus : Nat := 0x010
def regMbox : Nat := 0x018

/-- The STATUS word. -/
def Bar0.status (b : Bar0) : Nat :=
  b2n b.busy + 2 ^ 1 * b2n b.done + 2 ^ 2 * b2n b.overrun + 2 ^ 16 * b.tag + 2 ^ 32 * b.abort

/-- What a register of a page reads as; the rest of the page is reserved and reads as zero. -/
def Bar0.read (b : Bar0) (reg : Nat) : Nat :=
  if reg == regCmd then b.cmd else if reg == regData then b.data else if reg == regStatus then b.status
  else if reg == regMbox then b.mbox else 0

/-- What an aligned 64-bit read at an offset of BAR0 returns. -/
def State.bar0Read (s : State) (offset : Nat) : Nat :=
  match pageAt offset with
  | none => 0
  | some page => (s.session page).bar0.read (offset % 0x1000)

/-- An aligned 64-bit write at an offset of BAR0: CMD starts an access, DATA and MBOX_ADDR take the value, all else ignores it. A CMD
that starts a MAILBOX operation comes with its descriptor, by its own path. -/
def State.bar0Write (s : State) (offset v : Nat) (flashOk : Bool) : State :=
  match pageAt offset with
  | none => s
  | some page =>
    let x := s.session page
    if offset % 0x1000 == regCmd then s.barAccess page true v x.bar0.data flashOk
    else if offset % 0x1000 == regData then s.setSession page { x with bar0 := { x.bar0 with data := v } }
    else if offset % 0x1000 == regMbox then s.setSession page { x with bar0 := { x.bar0 with mbox := v } }
    else s

/-- A read or a write at an offset of BAR0: one that is not an aligned 64-bit access returns zero or is discarded (R85). -/
def State.registerAccess (s : State) (offset : Nat) (aligned : Bool) (value : Option Nat) (flashOk : Bool) : State :=
  let good := aligned && offset % 8 == 0
  if !s.host then s
  else match value with
  | none => s.send (.barRead (if good then s.bar0Read offset else 0))
  | some v => if good then s.bar0Write offset v flashOk else s

/-! ### The mailbox (R89-R92) -/

/-- Flags of a mailbox descriptor. -/
def mboxWrite (d : Bytes) : Bool := bit (field d 3 1) 0
def mboxFirst (d : Bytes) : Bool := bit (field d 3 1) 1
def mboxLast (d : Bytes) : Bool := bit (field d 3 1) 2
def mboxPartner (d : Bytes) : Bool := bit (field d 3 1) 3

/-- The segment a descriptor names, with the data of a write. -/
def mboxSegment (d data : Bytes) : Segment where
  key := 256 * field d 0 2 + field d 2 1
  first := mboxFirst d
  last := mboxLast d
  offset := field d 8 4
  length := field d 4 4
  total := field d 12 4
  data := data

/-- Whether windows admit an L2 page to a range of host memory (R92); L0 and L1 pages need none. -/
def State.mboxAllowed (s : State) (page rights a n : Nat) : Bool :=
  decide (page < 2) || s.covered 0 (some (512 * (page - 2))) rights a n

/-- Checks of a descriptor's own fields and of its buffer. -/
def State.mboxChecks (s : State) (page : Nat) (d : Bytes) (buffer : Option Bytes) : List (Bool × Nat) :=
  let n := field d 4 4
  [(!s.mboxAllowed page (if mboxWrite d then rightRead else rightWrite) (field d 16 8) n, Abort.protection),
   (buffer.isNone, Abort.mailboxFault), (n == 0, Abort.rangeLow), (decide (n > 65536), Abort.rangeHigh),
   (bits (field d 3 1) 7 4 != 0 || field d 24 8 != 0 || (!(mboxWrite d && mboxFirst d) && field d 12 4 != 0), Abort.reservedBits)]

/-- The DICT_REQs of a segment, of 4,096 bytes at most each (R479): FIRST on the first alone, LAST on the last. -/
def partnerSegments (level : Nat) (g : Segment) (write : Bool) : List Bytes :=
  let n := ceilDiv g.length 4096
  (List.range n).map (fun k =>
    let len := Nat.min 4096 (g.length - 4096 * k)
    let first := g.first && k == 0
    let flags := b2n write + 2 * b2n first + 4 * b2n (g.last && k + 1 == n)
    dictReqBody level 6 flags g.key (g.offset + 4096 * k) len (if write && first then g.total else 0)
      (if write then slice g.data (4096 * k) len else []))

/-- A MAILBOX operation whose descriptor has been read. -/
def State.mboxRun (s : State) (page cmd : Nat) (d : Bytes) (buffer : Option Bytes) (faults : List (Bool × Nat)) (flashOk : Bool) :
    State :=
  let tag := cmdTag cmd
  let g := mboxSegment d (padTo (field d 4 4) (buffer.getD []))
  let faults := faults ++ s.mboxChecks page d buffer
  if mboxPartner d then
    let code := firstAbort (faults ++ [(!s.tieUp, Abort.partnerUnreachable)])
    if code != 0 then s.barDone page tag code none
    else s.askPartner page true (mboxWrite d) (field d 16 8) g.length (partnerSegments (s.levelOf page) g (mboxWrite d))
  else if mboxWrite d then
    let r := s.segWrite page g faults flashOk
    r.2.barDone page tag r.1 (if r.1 == 0 then some g.length else none)
  else
    let r := s.segRead page g faults
    if r.1 != 0 then r.2.2.barDone page tag r.1 none
    else (r.2.2.hostWrite (field d 16 8) r.2.1).barDone page tag 0 (some r.2.1.length)

/-- A MAILBOX operation of a page; CMD's PARTNER bit is the descriptor's to give (assumption 128). A descriptor the device can read is
judged with CMD's reserved bits, in the order of R94; memory the device may not or cannot reach ends it (R92); a LEFT leaf issues no request to the
host (R500). -/
def State.mboxAccess (s : State) (page cmd mbox : Nat) (desc buffer : Option Bytes) (flashOk : Bool) : State :=
  if !s.host || bits cmd 27 24 != 6 then s
  else if (s.session page).bar0.busy then s.barOverrun page
  else
    let s := s.barTake page cmd none (some mbox)
    let reserved := (cmdReserved cmd || mbox % 64 != 0, Abort.reservedBits)
    let unread := firstAbort [(!s.mboxAllowed page rightRead mbox 32, Abort.protection),
      (desc.isNone || s.rd Obj.role == 4, Abort.mailboxFault)]
    match desc with
    | some d =>
      if unread != 0 then s.barDone page (cmdTag cmd) unread none else s.mboxRun page cmd (padTo 32 d) buffer [reserved] flashOk
    | none => s.barDone page (cmdTag cmd) unread none

/-! ### The partner's requests (R65, R478, R479) -/

/-- The answer to a DICT_REQ. -/
def State.answerPartner (s : State) (tag code : Nat) (data : Bytes) : State :=
  let d := if code == 0 then data else []
  s.tieSend 7 tag (leBytes 4 code ++ leBytes 4 d.length ++ d)

/-- A DICT_REQ of the partner. -/
def State.partnerAccess (s : State) (tag : Nat) (body : Bytes) (flashOk : Bool) : State :=
  let level := field body 0 1
  let op := field body 1 1
  let flags := field body 3 1
  let key := 256 * field body 4 2 + field body 2 1
  let n := field body 12 4
  let i := 74 + level
  if !s.tieUp || decide (body.length < 20) then s
  else
    let faults := [(decide (level > 2) || decide (op = 0 ∨ op > 6), Abort.badEnum), (field body 6 2 != 0, Abort.reservedBits)]
    if op == 6 then
      let write := bit flags 0
      let g : Segment := { key := key, first := bit flags 1, last := bit flags 2, offset := field body 8 4, length := n
                           total := field body 16 4, data := body.drop 20 }
      let faults := faults ++ [(n == 0, Abort.rangeLow), (decide (n > 4096), Abort.rangeHigh), (bits flags 7 4 != 0, Abort.reservedBits),
        (write && g.data.length != n, Abort.sizeMismatch)]
      if write then
        let r := s.segWrite i g faults flashOk
        r.2.answerPartner tag r.1 []
      else
        let r := s.segRead i g faults
        r.2.2.answerPartner tag r.1 r.2.1
    else
      let r := s.expedited i op key (field body 20 8) faults flashOk
      r.2.2.answerPartner tag r.1 (if op == 2 then [] else leBytes 8 r.2.1)

/-! ### Accesses and the rows they belong to -/

/-- Carry out an access by any path. -/
def State.access (s : State) (p : Path) (flashOk : Bool) : State :=
  match p with
  | .bar0 page aligned cmd data => s.barAccess page.val aligned cmd.toNat data.toNat flashOk
  | .register offset aligned value => s.registerAccess offset.toNat aligned (value.map (·.toNat)) flashOk
  | .bell offset wide => if s.host then s.send (.barRead (s.bellRead offset wide)) else s
  | .mailbox page cmd mbox desc buffer => s.mboxAccess page.val cmd.toNat mbox.toNat desc buffer flashOk
  | .mgmt d held => s.arrive d held flashOk
  | .mgmtNext => s.takeNext flashOk
  | .partner tag body => s.partnerAccess tag.toNat body flashOk

/-- Rows of the command table that are dictionary accesses. -/
inductive Row where
  | read | write | readStaged | describe | readDefault | segRead | segWrite | commitAt | discard | cancelPending | store
  | stage | mgmtOpen | auth | close | forceClose | keyL0 | keyL1 | reanchor | unbind | clear | unload | planUnload | slipReanchor
  | retrainNow | handover | leave | syncStart | fwWrite | bootSlot | svnAdvance | customerKeyFuse | attestNonce | logClear | other
deriving DecidableEq, Repr

/-- The row of a write of an object; WRITE where the object has no row of its own. -/
def writeRow (key : Nat) (plain : Row) : Row :=
  let index := key / 256
  if key == Obj.commitAt then .commitAt
  else if key == Obj.discard then .discard
  else if key == Obj.cancelPending then .cancelPending
  else if key == Obj.store then .store
  else if key == Obj.reanchor then .reanchor
  else if key == Obj.forceClose then .forceClose
  else if key == Obj.keyL0 then .keyL0
  else if key == Obj.keyL1 then .keyL1
  else if decide (0x3010 ≤ index ∧ index < 0x3030) && key == Obj.watchClear (index - 0x3010) then .clear
  else if decide (0x3410 ≤ index ∧ index < 0x3450) && key == Obj.tableUnload (index - 0x3410) then .unload
  else if decide (0x3310 ≤ index ∧ index < 0x3350) && key == Obj.planUnload (index - 0x3310) then .planUnload
  else if decide (0x6040 ≤ index ∧ index < 0x6080) && key == Obj.groupSlipReanchor (index - 0x6040) then .slipReanchor
  else if decide (0x8000 ≤ index) && key == Obj.streamUnbind (index - 0x8000) then .unbind
  else if key == Obj.retrainNow then .retrainNow
  else if key == Obj.handover then .handover
  else if key == Obj.leave then .leave
  else if key == Obj.syncStart then .syncStart
  else if key == Obj.fwWrite then .fwWrite
  else if key == Obj.bootSlot then .bootSlot
  else if key == Obj.svnAdvance then .svnAdvance
  else if key == Obj.customerKeyFuse then .customerKeyFuse
  else if key == Obj.attestNonce then .attestNonce
  else if key == Obj.logClear then .logClear
  else plain

/-- The row of an expedited operation; an operation that is none of the defined is answered by READ's row. -/
def expeditedRow (op key : Nat) : Row :=
  if op == 2 then writeRow key .write else if op == 3 then .readStaged else if op == 4 then .describe
  else if op == 5 then .readDefault else .read

/-- The row of a segment. A write acts on the object at its LAST segment. -/
def segmentRow (write last : Bool) (key : Nat) : Row :=
  if !write then .segRead else if last then writeRow key .segWrite else .segWrite

/-- The row of a management message. -/
def messageRow (dg : Bytes) : Row :=
  let type := field dg 3 1
  let body := dg.drop 16
  if type == 1 then .mgmtOpen
  else if type == 2 then .auth
  else if type == 3 then (if field body 3 1 == 0 then .read else expeditedRow (field body 3 1 + 2) 0)
  else if type == 4 then writeRow (bodyKey body) .write
  else if type == 5 then .stage
  else if type == 6 then .commitAt
  else if type == 7 then .segRead
  else if type == 8 then segmentRow true (bit (field body 3 1) 2) (bodyKey body)
  else if type == 9 then .close
  else .read

/-- The row an access belongs to: that of the message which waits first, for one taken from the receive queue. Accesses to the
partner's dictionary belong to the row of the access alone. -/
def State.rowOf (s : State) (p : Path) : Row :=
  match p with
  | .bar0 _ _ cmd _ =>
    let cmd := cmd.toNat
    if bits cmd 27 24 == 6 then .other
    else if bit cmd 28 then expeditedRow (bits cmd 27 24) 0
    else expeditedRow (bits cmd 27 24) (cmdKey cmd)
  | .register offset aligned value => match value with
    | none => .read
    | some v =>
      if (pageAt offset.toNat).isNone || !aligned || offset.toNat % 0x1000 != regCmd then .write
      else if bits v.toNat 27 24 == 6 then .other
      else expeditedRow (bits v.toNat 27 24) (if bit v.toNat 28 then 0 else cmdKey v.toNat)
  | .bell _ _ => .read
  | .mailbox _ _ _ desc _ => match desc with
    | none => .segRead
    | some d => if mboxPartner d then segmentRow (mboxWrite d) false 0
      else segmentRow (mboxWrite d) (mboxLast d) (mboxSegment d []).key
  | .mgmt d _ => messageRow d.body
  | .mgmtNext => (s.rx.head?.map (fun d => messageRow d.body)).getD .other
  | .partner _ body =>
    let key := 256 * field body 4 2 + field body 2 1
    if field body 1 1 == 6 then segmentRow (bit (field body 3 1) 0) (bit (field body 3 1) 2) key
    else expeditedRow (field body 1 1) key

/-- An access given to a command of a row; nothing happens on an access of another row. -/
def State.accessAs (s : State) (row : Row) (p : Path) (flashOk : Bool) : State :=
  if s.rowOf p == row then s.access p flashOk else s

/-! ### Meanings of the rows -/

/-- READ (R60). -/
def execRead (p : Path) (s : State) : Out := .next (s.accessAs .read p true)

/-- WRITE (R60). -/
def execWrite (p : Path) (s : State) : Out := .next (s.accessAs .write p true)

/-- READ_STAGED (R60). -/
def execReadStaged (p : Path) (s : State) : Out := .next (s.accessAs .readStaged p true)

/-- DESCRIBE (R88). -/
def execDescribe (p : Path) (s : State) : Out := .next (s.accessAs .describe p true)

/-- READ_DEFAULT (R88). -/
def execReadDefault (p : Path) (s : State) : Out := .next (s.accessAs .readDefault p true)

/-- SEG_READ (R90). -/
def execSegRead (p : Path) (s : State) : Out := .next (s.accessAs .segRead p true)

/-- SEG_WRITE (R91). -/
def execSegWrite (p : Path) (s : State) : Out := .next (s.accessAs .segWrite p true)

/-- COMMIT_AT (R70). -/
def execCommitAt (p : Path) (s : State) : Out := .next (s.accessAs .commitAt p true)

/-- DISCARD (R80). -/
def execDiscard (p : Path) (s : State) : Out := .next (s.accessAs .discard p true)

/-- CANCEL_PENDING (R78). -/
def execCancelPending (p : Path) (s : State) : Out := .next (s.accessAs .cancelPending p true)

/-- STORE (R68). -/
def execStore (p : Path) (s : State) : Out := .next (s.accessAs .store p true)

/-- STAGE (R107). -/
def execStage (p : Path) (s : State) : Out := .next (s.accessAs .stage p true)

/-- OPEN (R109). -/
def execMgmtOpen (p : Path) (s : State) : Out := .next (s.accessAs .mgmtOpen p true)

/-- AUTH (R113). -/
def execAuth (p : Path) (s : State) : Out := .next (s.accessAs .auth p true)

/-- CLOSE (R112). -/
def execClose (p : Path) (s : State) : Out := .next (s.accessAs .close p true)

/-- FORCE_CLOSE (R100). -/
def execForceClose (p : Path) (s : State) : Out := .next (s.accessAs .forceClose p true)

/-- KEY_L0 (R102). -/
def execKeyL0 (p : Path) (s : State) : Out := .next (s.accessAs .keyL0 p true)

/-- KEY_L1 (R102). -/
def execKeyL1 (p : Path) (s : State) : Out := .next (s.accessAs .keyL1 p true)

/-- REANCHOR (R39). -/
def execReanchor (p : Path) (s : State) : Out := .next (s.accessAs .reanchor p true)

/-- UNBIND (R293). -/
def execUnbind (p : Path) (s : State) : Out := .next (s.accessAs .unbind p true)

/-- CLEAR (R201). -/
def execClear (p : Path) (s : State) : Out := .next (s.accessAs .clear p true)

/-- UNLOAD (R248). -/
def execUnload (p : Path) (s : State) : Out := .next (s.accessAs .unload p true)

/-- PLAN_UNLOAD (R393). -/
def execPlanUnload (p : Path) (s : State) : Out := .next (s.accessAs .planUnload p true)

/-- SLIP_REANCHOR (R419). -/
def execSlipReanchor (p : Path) (s : State) : Out := .next (s.accessAs .slipReanchor p true)

/-- RETRAIN_NOW (R456). -/
def execRetrainNow (p : Path) (s : State) : Out := .next (s.accessAs .retrainNow p true)

/-- HANDOVER (R489). -/
def execHandover (p : Path) (s : State) : Out := .next (s.accessAs .handover p true)

/-- LEAVE (R500). -/
def execLeave (p : Path) (s : State) : Out := .next (s.accessAs .leave p true)

/-- SYNC_START (R503). -/
def execSyncStart (p : Path) (s : State) : Out := .next (s.accessAs .syncStart p true)

/-- FW_WRITE (R522). -/
def execFwWrite (p : Path) (s : State) : Out := .next (s.accessAs .fwWrite p true)

/-- BOOT_SLOT (R524). -/
def execBootSlot (p : Path) (s : State) : Out := .next (s.accessAs .bootSlot p true)

/-- SVN_ADVANCE (R521). -/
def execSvnAdvance (p : Path) (s : State) : Out := .next (s.accessAs .svnAdvance p true)

/-- CUSTOMER_KEY_FUSE (R523). -/
def execCustomerKeyFuse (p : Path) (s : State) : Out := .next (s.accessAs .customerKeyFuse p true)

/-- ATTEST_NONCE (R527). -/
def execAttestNonce (p : Path) (s : State) : Out := .next (s.accessAs .attestNonce p true)

/-- LOG_CLEAR (R545): `flashOk` says how the write of the log ends. -/
def execLogClear (p : Path) (flashOk : Bool) (s : State) : Out := .next (s.accessAs .logClear p flashOk)

/-! ### Answers of the partner, and stores -/

/-- Where the answer to a yield read goes (R548). -/
def State.takeYield (s : State) (tag : Nat) (body : Bytes) : State :=
  match yieldReads.find? (fun e => e.1 == tag) with
  | some e => if field body 0 4 == 0 then s.wr e.2.2 (field body 8 8 % (maxOf e.2.2 + 1)) else s
  | none => s

/-- One DICT_RESP for an access that waits. -/
def State.takeAnswer (s : State) (page : Nat) (w : PartnerWait) (body : Bytes) : State :=
  let code := field body 0 4
  let data := slice body 8 (field body 4 4)
  let tag := cmdTag (s.session page).bar0.cmd
  if code != 0 then s.barDone page tag code none
  else if !w.mailbox then s.barDone page tag 0 (if w.write then none else some (field body 8 8))
  else
    let s := if !w.write && s.host then s.hostWrite (w.buffer + w.moved) data else s
    let moved := if w.write then w.length else w.moved + data.length
    if w.left ≤ 1 then s.barDone page tag 0 (some moved)
    else s.setSession page { s.session page with partner := some { w with left := w.left - 1, moved := moved } }

/-- DICT_RESP (R87): the answer to a PARTNER access, or to a read of the partner's yield. -/
def execDictResp (tag : BitVec 32) (body : Bytes) (s : State) : Out :=
  let page := (List.range 66).find? (fun i => match (s.session i).partner with
    | some w => w.tag == tag.toNat
    | none => false)
  .next (if !s.tieUp then s
    else match page with
      | some i => match (s.session i).partner with
        | some w => s.takeAnswer i w body
        | none => s
      | none => s.takeYield tag.toNat body)

/-- PARTNER_TIMEOUT (R87): `refUs` is the wait in the internal reference, which counts before lock. -/
def execPartnerTimeout (session : Fin 66) (refUs : Nat) (s : State) : Out :=
  let i := session.val
  .next (match (s.session i).partner with
    | none => s
    | some w =>
      let due := if s.counting then decide (s.clk.frames - w.since ≥ 32) else decide (refUs ≥ 1000)
      if due then s.barDone i (cmdTag (s.session i).bar0.cmd) Abort.timeout none else s)

/-- STORE_DONE (R68): the flash has taken the record, or has failed. -/
def execStoreDone (ok : Bool) (s : State) : Out :=
  .next (match s.flash.storing with
    | none => s
    | some (i, values) =>
      let x := s.session i
      if ok then
        let t := { s with flash := { s.flash with record := some ⟨values, recordDigest values⟩, storing := none, stores := s.flash.stores + 1 } }
        ((t.wr Obj.storeCount (Nat.min t.flash.stores 0xFFFFFFFF)).wr Obj.storeState 2).setSession i { x with lastResult := 0 }
      else
        (({ s with flash := { s.flash with storing := none } }).wr Obj.storeState 3).setSession i
          { x with lastResult := Abort.storeFailed })

end Sys2Proof.Machine
end

