-- ==== Sys2Proof/Machine/Clock.lean ====
section
/-! DEFINITION. The house clock: frames, lock, loss and relock, timecode, the CMARK pulse and COURSE_SYNC (R23-R53, R572). -/

namespace Sys2Proof.Machine

/-! ### Rates (R24) -/

/-- Nominal rates in Hz. -/
def nominalRates : List Nat := [44100, 48000, 88200, 96000, 176400, 192000]

/-- Whether a period in picoseconds lies within ±1,000 ppm of a rate's period. -/
def periodFits (rate periodPs : Nat) : Bool := decide (absDiff (periodPs * rate) (10 ^ 12) ≤ 10 ^ 9)

/-- The nominal rate a period fits. -/
def rateOf (periodPs : Nat) : Option Nat := nominalRates.find? (fun r => periodFits r periodPs)

/-- Deviation from nominal of the rate a period shows, in 0.01 ppm, to the nearest unit. -/
def rateError (rate periodPs : Nat) : Int :=
  let x : Int := periodPs * rate
  if x == 0 then 0 else (((10 ^ 12 : Int) - x) * 2 * 10 ^ 8 + x) / (2 * x)

/-! ### Frames (R27, R395-R425) -/

/-- The position is the leading leaf's from this frame on, when a correction is due here (R30, R31, R49); the first time it is no
correction. -/
def State.takeCorrection (s : State) : State :=
  match s.clk.correct with
  | none => s
  | some (at', p) =>
    if at' != s.clk.frames then s
    else
      let first := s.clk.first
      let s := { s with clk := { s.clk with correct := none, first := false } }
      let t := s.jump p
      if first then t.wr Obj.jumpCount (s.rd Obj.jumpCount) else t

/-- A frame begins at position `new` after one at `prev`: the lanes play and decide, chunks whose frames are decided end, a failed watchdog's drivers are
released (R485), a correction is applied. -/
def State.beginFrame (s : State) (prev new : Nat) (lanes : List (Fin 64 × List Bool)) : State :=
  let s := ({ s with clk := { s.clk with frames := s.clk.frames + 1 } }).wr Obj.position new
  let s := s.lanesFrame prev lanes
  let s := s.rings.foldl (fun s e => s.settleChunks e.1) s
  let s := if s.pair.failed then s.mapPair (fun p => { p with released := true }) else s
  s.takeCorrection

/-- Whether HCLK_WORD stopped in a period: it is as long as the wait for a clock loss (R25, R47). -/
def State.stoppedIn (s : State) (periodPs : Nat) : Bool := s.fs != 0 && decide (4 * 10 ^ 12 ≤ periodPs * s.fs)

/-- What the bit clock showed in the period that ended (R25); a stop of HCLK_WORD is no fault of the bit clock. -/
def State.readBitClock (s : State) (periodPs edges : Nat) : State :=
  let c := s.clk
  if s.stoppedIn periodPs then s
  else if edges == 64 || edges == 128 then
    ({ s with clk := { c with badRatio := 0, goodRatio := c.goodRatio + 1, ratioCounted := false } }).wr Obj.bitRatio edges
  else ({ s with clk := { c with badRatio := c.badRatio + 1, goodRatio := 0 } }).wr Obj.bitRatio 0

/-- CMARK_IN as sampled while `CMARK_ARM` is 1 (R40). -/
def State.sampleCmark (s : State) (level : Bool) : State :=
  if s.rd Obj.cmarkArm != 1 then { s with clk := { s.clk with cmarkPrev := none, cmarkNow := none } }
  else { s with clk := { s.clk with cmarkPrev := s.clk.cmarkNow, cmarkNow := some level } }

/-- Count a period toward lock (R24): a run broken before its end is a failed acquisition. DESIGN CHOICE (assumption 123): a period that fits
another nominal rate than the run's breaks the run as one outside the tolerance does, and begins a run of its own. -/
def State.acquire (s : State) (periodPs : Nat) : State :=
  let c := s.clk
  match rateOf periodPs with
  | some r =>
    if c.acq == 0 || c.acqRate == r then { s with clk := { c with acq := c.acq + 1, acqRate := r } }
    else ({ s with clk := { c with acq := 1, acqRate := r } }).bump Obj.acquireFails
  | none =>
    let t := { s with clk := { c with acq := 0 } }
    if c.acq == 0 then t else t.bump Obj.acquireFails

/-- Judge a period while LOCKED (R572). -/
def State.judgePeriod (s : State) (periodPs : Nat) : State :=
  if periodFits s.fs periodPs then
    ({ s with clk := { s.clk with badPeriods := 0 } }).wrInt Obj.rateError 32 (rateError s.fs periodPs)
  else ({ s with clk := { s.clk with badPeriods := s.clk.badPeriods + 1 } }).bump Obj.periodFaults

/-- The first frame after the first lock (R30): the position is set, and an anchor is begun when `LTC_MODE` asks for one. A
following leaf counts from there until its leading leaf's position comes. -/
def State.firstFrame (s : State) (lanes : List (Fin 64 × List Bool)) : State :=
  let s := s.activeLanes.foldl (fun s n => s.setLane n (s.takeBlocks n (s.lane n))) s
  let s := s.beginFrame 0 0 lanes
  if s.rd Obj.role == 2 then s
  else
    let s := { s with clk := { s.clk with first := s.rd Obj.role == 0 } }
    if s.rd Obj.ltcMode != 0 then s.startAnchor else s

/-- FRAME (R27): a rising edge of HCLK_WORD. While LOCKED it begins a frame; before, and after a loss, it counts toward lock.
Acquisition begins in bring-up phase 5. DESIGN CHOICE (assumption 124): any edge takes NO_CLOCK to ACQUIRING, also one whose period
fits no nominal rate. -/
def execFrame (e : Edge) (s : State) : Out :=
  .next (if s.rd Obj.phase < 5 then s
    else
      let s := (s.readBitClock e.periodPs e.bitEdges).sampleCmark e.cmark
      let st := s.rd Obj.clockState
      if st == 2 then
        let s := s.judgePeriod e.periodPs
        if s.clk.first && s.clk.frames == 0 then s.firstFrame e.lanes else s.beginFrame s.pos (s.pos + 1) e.lanes
      else
        let s := s.acquire e.periodPs
        if st ≤ 1 then s.wr Obj.clockState 1 else s.setFlag 6 (decide (s.clk.acq > 0)))

/-- A frame begins on the internal reference (R49, R51): output lanes shift only on the HCLK_BIT edges that arrive, and a sample that is
not shifted out is lost, under the policy of its group. -/
def State.coastFrame (s : State) (prev new bitEdges : Nat) (lanes : List (Fin 64 × List Bool)) : State :=
  let s := s.beginFrame prev new lanes
  let s := (s.activeLanes.filter (fun n => s.rd (Obj.laneDirection n) == 2)).foldl (fun s n =>
    let l := s.lane n
    s.setLane n { l with out := l.out.take bitEdges }) s
  s.missFrames s.pos (fun slot => decide (bitEdges < s.slotEnd slot))

/-- COASTED_FRAME (R49, R51): a period of the internal reference begins a frame, with the HCLK_BIT edges that arrive in it. -/
def execCoastedFrame (bitEdges : Nat) (lanes : List (Fin 64 × List Bool)) (s : State) : Out :=
  let st := s.rd Obj.clockState
  .next (if st < 3 || st > 5 then s else s.coastFrame s.pos (s.pos + 1) bitEdges lanes)

/-! ### Lock (R24, R30, R39, R53) -/

/-- Lock to the rate acquired. What set the position before this lock no longer counts (R33). Streams bound at another rate are refused
(R7). -/
def State.lockNow (s : State) : State :=
  let old := s.fs
  let s := (s.wr Obj.clockState 2).wr Obj.houseRateHz s.clk.acqRate
  let s := if s.fs == old then s else s.streams.foldl (fun s e => s.refuseRate e.1) s
  ({ s with clk := { s.clk with acq := 0, badPeriods := 0 } }).wr Obj.positionFlags (bits (s.rd Obj.positionFlags) 5 4 * 16)

/-- LOCK_ACQUIRED (R24): the first lock. Bring-up phase 5 then has no more to wait for than the partner (R533). -/
def execLockAcquired (s : State) : Out :=
  .next (if s.rd Obj.clockState == 1 && decide (s.clk.acq ≥ 1024) then
    let s := s.lockNow
    if s.rd Obj.phase == 5 then s.wr (Obj.progPosition bringUp) 10000 else s
  else s)

/-- RELOCK (R53): lock after a loss; positions go on from the last one counted. A leaf that still leads drives its lanes again. -/
def execRelock (s : State) : Out :=
  .next (if decide (3 ≤ s.rd Obj.clockState) && decide (s.clk.acq ≥ 1024) then
    let s := s.lockNow.wr Obj.coastedCourses 0
    let s := { s with clk := { s.clk with coastHalt := false } }
    let s := if s.rd Obj.role == 1 && s.pair.relinquish then
      s.mapPair (fun p => { p with released := p.failed, relinquish := false }) else s
    if s.rd Obj.relockMode == 1 then s.startAnchor else s
  else s)

/-! ### The bit clock and muted lanes (R25, R397) -/

/-- Lanes take up a change of muting in the frame that has begun; a lane counts the frame when it is muted in it. -/
def State.remute (s t : State) : State :=
  s.activeLanes.foldl (fun t n =>
    let was := s.laneMuted n
    let now := t.laneMuted n
    let t := t.restartLane n false
    if was == now then t
    else if now then t.bump (Obj.laneMutedFrames n)
    else t.lower (Obj.laneMutedFrames n) 1) t |>.missMuted s.pos

/-- BIT_CLOCK_FAULT (R25): counted once for each run of frames with an invalid ratio; every lane is muted. -/
def execBitClockFault (s : State) : Out :=
  .next (if s.counting && decide (s.clk.badRatio > 0) && !s.clk.ratioCounted then
    let s := s.bump Obj.bitClockFaults
    s.remute { s with clk := { s.clk with ratioCounted := true, bitMuted := true } }
  else s)

/-- LANE_RESUME (R397): at a course boundary, after the ratio has been valid for 64 frames; a lane that cannot run at the ratio
stays muted. -/
def execLaneResume (s : State) : Out :=
  .next (if s.counting && s.pos % s.courseLen == 0 && decide (s.clk.goodRatio ≥ 64) then
    let t := { s with clk := { s.clk with bitMuted := false } }
    s.remute (s.activeLanes.foldl (fun t n =>
      t.setLane n { t.lane n with muted := (t.lane n).muted && t.isAes n && t.rd Obj.bitRatio != 128 }) t)
  else s)

/-! ### Clock loss (R47-R52, R572) -/

/-- Whether the partner has time to lend to this leaf (R47): it is LOCKED, or it leads and is itself coasting. -/
def State.lends (s : State) : Bool :=
  s.rdB Obj.paired && s.tieUp && (bit s.pair.flags 3 || (s.rd Obj.role == 2 && decide (4 ≤ s.clk.leadState)))

/-- The source of time after a loss (R47). A leading leaf releases its lane drivers in the frame that has begun (R50). -/
def State.chooseTime (s : State) : State :=
  let lends := s.lends
  let s := (s.bump Obj.clockLossCount).wr Obj.coastedCourses 0
  let s := { s with clk := { s.clk with acq := 0, badPeriods := 0 } }
  let s :=
    if lends then (s.wr Obj.clockState 3).setFlag 1 true
    else (s.wr Obj.clockState 4).setFlag 0 true
  if s.rd Obj.role == 1 && s.rdB Obj.paired then
    let s := s.mapPair (fun p => { p with released := true, relinquish := true })
    s.activeLanes.foldl (fun s n => s.restartLane n false) (s.tieSend 1 0 s.heartbeatBody)
  else s

/-- Positions from `a` up to `b` pass with no frame (R48): output lanes consume and discard their samples, which are missed, and input
lanes deliver muted frames for them. The frames received before are admitted in their turn. -/
def State.skipFrames (s : State) (a b : Nat) : State :=
  let s := s.missRange a b
  let s := (List.range (b - a)).foldl (fun s k =>
    let s := (if k == 0 then s else s.decideFrame (a + k)).passMuted (a + k)
    if a + k ≥ 3 then s.admitFrames (a + k - 3) else s) s
  s.decideFrame b

/-- A tick boundary that passed with no frame: its work, and its course's, at the frame that has begun (R43, R48). -/
def State.passedTick (s : State) (t : Nat) : State :=
  let s := s.tickWork t
  let s := if t % s.courseLen != 0 then s
    else
      let s := { s with sched := { s.sched with next := s.sched.next.map (fun (p : CoursePlan) => ({ p with start := s.pos } : CoursePlan)) } }
      s.boundaryWork false
  s.lastTick t

/-- CLOCK_LOSS (R47, R48): no edge for 4 periods. The frame that begins has the position the missing edges would have given. -/
def execClockLoss (s : State) (lost : LostFrame := {}) : Out :=
  .next (if s.rd Obj.clockState != 2 then s
    else if s.clk.frames == 0 then s.chooseTime
    else
      let old := s.pos
      let s := (s.takeBits old lost.lanes).skipFrames (old + 1) (old + 4)
      let s := (({ s with clk := { s.clk with frames := s.clk.frames + 3 } }).wr Obj.position (old + 4)).chooseTime
      let s := s.coastFrame old (old + 4) lost.bitEdges []
      let t := (old / 16 + 1) * 16
      if t < old + 4 then s.passedTick t else s)

/-- PERIOD_FAULT_LOSS (R572): 64 periods out of tolerance. No position is skipped. -/
def execPeriodFaultLoss (s : State) : Out :=
  .next (if s.rd Obj.clockState == 2 && decide (s.clk.badPeriods ≥ 64) then s.chooseTime else s)

/-- Whether the coast count that governs this leaf has reached 64 (R52): its own, or that of the leading leaf it follows, whose
COURSE_SYNC carried the count before the boundary it named. -/
def State.coastOver (s : State) : Bool :=
  (s.rd Obj.clockState == 4 && decide (s.rd Obj.coastedCourses ≥ 64)) ||
  (s.rd Obj.clockState == 3 && s.rd Obj.role == 2 && !s.clk.coastHalt && s.pos % s.courseLen == 0 &&
    decide (s.clk.leadState ≥ 4) && decide (s.clk.leadCoast ≥ 63))

/-- COAST_EXPIRED (R52): live chunks end, live streams halt, output lanes play zero. A following leaf stays BORROWED. -/
def execCoastExpired (s : State) : Out :=
  .next (if !s.coastOver then s
    else
      let s := if s.rd Obj.clockState == 4 then s.wr Obj.clockState 5 else s
      let live := (s.rings.map (·.1)).filter (fun n => s.rd (Obj.streamClass n) == 0 && (s.stream n).bound)
      let s := live.foldl (fun s n =>
        let s := s.wr (Obj.streamStreamFlags n) (setBit (s.rd (Obj.streamStreamFlags n)) 1 true)
        (s.ring n).cmds.foldl (fun s c => match c.chunk with
          | some k => s.finish n c.counter St.missed (some k.position) k.frames 0
          | none => s) s) s
      s.remute { s with clk := { s.clk with coastHalt := true } })

/-! ### Timecode (R35-R39, R41) -/

/-- Frame number of a label (R37). -/
def labelFrame (mode label : Nat) : Nat :=
  let h := bits label 31 24
  let m := bits label 23 16
  let sec := 3600 * h + 60 * m + bits label 15 8
  let f := label % 256
  if mode == 3 then
    let tm := 60 * h + m
    sec * 30 + f - 2 * (tm - tm / 10)
  else sec * nth 0 [0, 24, 25, 30, 30] mode + f

/-- Frames in a day (R37). -/
def labelDay (mode : Nat) : Nat := nth 1 [1, 2073600, 2160000, 2589408, 2592000] mode

/-- The frame rate as num and den (R38). -/
def labelRate (mode : Nat) : Nat × Nat := nth (1, 1) [(1, 1), (24, 1), (25, 1), (30000, 1001), (30, 1)] mode

/-- The position at which the frame of a label begins (R38); it may be negative. -/
def State.labelPosition (s : State) (label : Nat) : Int :=
  let mode := s.rd Obj.ltcMode
  let d := labelDay mode
  let n := labelFrame mode label
  let a := labelFrame mode (s.rd Obj.ltcAnchorTc)
  let k0 := (n + d - a % d) % d
  let k : Int := if 2 * k0 ≥ d then (k0 : Int) - d else k0
  let r := labelRate mode
  (s.rd Obj.ltcAnchorPos : Int) + (k * s.fs * r.2) / r.1

/-- Whether a number of LTC frame periods have passed since a frame count. -/
def State.ltcPast (s : State) (since periods : Nat) : Bool :=
  let r := labelRate (s.rd Obj.ltcMode)
  decide ((s.clk.frames - since) * r.1 > periods * s.fs * r.2)

/-- Whether a CMARK pulse falls on the present frame (R40). -/
def State.cmarkDue (s : State) : Bool :=
  s.rd Obj.clockState == 2 && s.rd Obj.role != 2 && s.rd Obj.cmarkArm == 1 && s.clk.cmarkPrev == some false &&
    s.clk.cmarkNow == some true

/-- Apply an anchor at the frame of a label that began `ago` frames before this one (R38, R39, R41); a following leaf has none. -/
def State.anchorAt (s : State) (p : Int) (ago : Nat) : State :=
  if s.rd Obj.role == 2 then { s with clk := { s.clk with anchor := none } }
  else if p < 0 || s.cmarkDue || s.clk.cmarkAt == some s.clk.frames then s.failAnchor
  else ({ s with clk := { s.clk with anchor := none } }.jump (p.toNat + ago)).setFlag 2 true

/-- LTC_FRAME (R36): a label, whether its sync word is intact, whether it follows the frame before with no gap, and how many frames
ago it began. Before the first lock there is no counted position, and so no phase error and no anchor. DESIGN CHOICE (assumption 125): a
phase error beyond the I32 range wraps. -/
def execLtcFrame (label : BitVec 32) (syncIntact contiguous : Bool) (startAgo : Nat) (s : State) : Out :=
  .next (
      let mode := s.rd Obj.ltcMode
      let v := label.toNat
      let intact := syncIntact && mode != 0 && ltcLabelOk mode v
      let follows := match s.clk.ltcPrev with
        | some x => labelFrame mode v == (labelFrame mode x + 1) % labelDay mode
        | none => false
      let valid := intact && contiguous && follows
      let s := { s with clk := { s.clk with ltcPrev := if intact then some v else none } }
      if !valid then { s with clk := { s.clk with anchor := s.clk.anchor.map (fun a => (a.1, 0)) } }
      else
        let p := s.labelPosition v
        let s := (s.wr Obj.ltcLast v).setFlag 4 true
        let s := { s with clk := { s.clk with ltcAt := s.clk.frames } }
        if !s.counting then s
        else
        let s := s.wrInt Obj.ltcPhaseErr 32 (p - ((s.pos : Int) - startAgo))
        match s.clk.anchor with
        | none => s
        | some (since, n) =>
          if n + 1 < 2 then { s with clk := { s.clk with anchor := some (since, n + 1) } } else s.anchorAt p startAgo)

/-- LTC_VALID_LAPSE (R36). -/
def execLtcValidLapse (s : State) : Out :=
  .next (if bit (s.rd Obj.positionFlags) 4 && (s.rd Obj.ltcMode == 0 || !s.counting || s.ltcPast s.clk.ltcAt 2) then s.setFlag 4 false else s)

/-- ANCHOR_FAILED (R39): 64 LTC frame periods have passed with no two consecutive valid frames. -/
def execAnchorFailed (s : State) : Out :=
  .next (match s.clk.anchor with
    | some (since, _) => if s.rd Obj.ltcMode == 0 || s.ltcPast since 64 then s.failAnchor else s
    | none => s)

/-- CMARK_PULSE (R40). -/
def execCmarkPulse (s : State) : Out :=
  .next (if !s.cmarkDue then s
    else
      let s := s.wr Obj.cmarkArm 0
      let s := { s with clk := { s.clk with cmarkPrev := none, cmarkNow := none, cmarkAt := some s.clk.frames } }
      (s.jump (s.rd Obj.cmarkPos)).setFlag 3 true)

/-! ### COURSE_SYNC (R30, R31, R49, R480) -/

/-- Take the partner's position at a frame to come. -/
def State.correctAt (s : State) (ahead position : Nat) : State :=
  { s with clk := { s.clk with correct := some (s.clk.frames + ahead, position) } }

/-- COURSE_SYNC (R31): positions of the partner. The leading leaf never adjusts its own to a following leaf's; a leaf that borrows
time takes them whatever its role. -/
def execCourseSync (body : Bytes) (s : State) : Out :=
  .next (if !s.tieUp || !s.rdB Obj.paired || body.length != 32 then s
    else
      let position := field body 0 8
      let jumps := bit (field body 29 1) 0
      let s := { s with clk := { s.clk with leadCoast := field body 24 2, leadState := field body 27 1 } }
      let s := if s.rd Obj.clockState == 3 && decide (s.clk.leadState ≤ 3) && s.clk.coastHalt then
        s.remute { s with clk := { s.clk with coastHalt := false } } else s
      if !s.counting || !(s.rd Obj.role == 2 || s.rd Obj.clockState == 3) then s
      else if !jumps then
        if s.pos + 16 == position && !s.clk.first then s else s.correctAt 16 position
      else
        let s := if s.pos == field body 8 8 then
          ({ s with clk := { s.clk with first := false, correct := none } }).jump position else s
        if s.pos == position then s
        else
          let l := 2 ^ field body 26 1
          let ahead := l - position % l
          s.correctAt ahead (position + ahead))

/-- WATCHDOG_FAIL (R485): a tick passes without a feed; the output lanes are zero from here on. -/
def execWatchdogFail (s : State) : Out :=
  .next (
    let tick := s.pos / 16
    let fed := match s.pair.fedTick with
      | some t => decide (t = tick) || (decide (t + 1 = tick) && s.pos % 16 != 15)
      | none => true
    if !s.counting || fed then s
    else
      let t := s.mapPair (fun p => { p with failed := true })
      t.activeLanes.foldl (fun t n => t.restartLane n false) t)

end Sys2Proof.Machine
end

