-- ==== Sys2Proof/Machine/Decoder.lean ====
section
/-! DEFINITION. Decoding one token: batches, key/value blocks, attention, sampling and feedback (R217-R239). -/

namespace Sys2Proof.Machine

/-! ### Key/value pages (R225, R227, R230) -/

/-- Offset of a key element: dimension and position in the block (R225). -/
def keyOffset (d p : Nat) : Nat := 4096 * (d / 16) + 256 * (d % 16) + p
/-- Offset of a value element. -/
def valueOffset (p d : Nat) : Nat := 16384 + 4096 * (p / 64) + 64 * (p % 64) + d

/-- Dimension of a head. -/
def headDim : Nat := 64

/-- Blocks a stream may hold. -/
def State.kvBlocks (s : State) (n : Nat) : Nat := s.rd (Obj.streamKvBlocksReserved n)

/-- Begin the block of an attention position: the oldest is retired when the window is full, and the new one takes its place;
otherwise the device chooses where it lies. Its pages hold zero as it begins (R225, R230, R232, R461). -/
def State.beginBlock (s : State) (n a : Nat) (im : Bytes) : State :=
  let x := s.stream n
  let full := decide (s.kvBlocks n ≤ x.kv.length)
  let choice := s.chooseBlock n x.kv.length
  let place := if full then (x.kv.head?.map (·.place)).getD 0 else choice.1
  let b : KvBlock := { first := a, used := 0, place := place
                       pages := (Config.planKvPairs im).map (fun p => ⟨p.1, p.2, Config.kvTile im p.1 p.2, []⟩) }
  let kv := (if full then x.kv.drop 1 else x.kv) ++ [b]
  let s := if full then s else choice.2
  let s := (s.blockAt (s.rd (Obj.streamPlan n)) b).foldl (fun s (r : Nat × Nat × Nat) => { s with poison := s.cleaned r.2.1 r.2.2 }) s
  (s.setStream n { x with kv := kv }).wr (Obj.streamKvBlocksHeld n) kv.length

/-- Codes of the elements of a head put into a page at the offsets of their dimensions. -/
def putElems (off : Nat → Nat) (m : Memory) (codes : List Nat) : Memory :=
  (List.zip (List.range headDim) codes).foldl (fun m e => m.write (off e.1) (BitVec.ofNat 8 e.2)) m

/-- Write a position's key and value into the page of the current block (R225, R227). -/
def KvBlock.put (b : KvBlock) (layer head p : Nat) (key value : List Nat) : KvBlock :=
  { b with used := Nat.max b.used (p + 1)
           pages := b.pages.map (fun g => if g.layer == layer && g.head == head then
             { g with mem := putElems (fun d => valueOffset p d) (putElems (fun d => keyOffset d p) g.mem key) value } else g) }

/-- Write a key and a value, narrowed as tensors of the plan and counted (R226, R227). -/
def TileRun.writeKv (t : TileRun) (c : TileCtx) (a layer head keyTensor valueTensor : Nat) (key value : List F32) : TileRun :=
  let x := t.st.stream c.stream
  let seed := t.st.rd (Obj.streamSeed c.stream)
  let u := t.st.rd (Obj.streamTokenIndex c.stream)
  let narrow (tensor : Nat) (vs : List F32) : Narrowed :=
    let r := tensorRule c.image c.pos x tensor
    r.narrow r.format seed (u * roundUp vs.length 8) 0 vs
  let ks := narrow keyTensor key
  let vs := narrow valueTensor value
  let kv := match x.kv.getLast? with
    | none => []
    | some b => x.kv.dropLast ++ [b.put layer head (a % 256) ks.codes vs.codes]
  let s := t.st.setStream c.stream { x with kv := kv }
  { t with st := (s.countNarrow c.plan c.stream c.chunk keyTensor ks.counts).countNarrow c.plan c.stream c.chunk valueTensor vs.counts }

/-! ### Attention (R234-R236) -/

/-- The page of a block for a layer and a head. -/
def KvBlock.page (b : KvBlock) (layer head : Nat) : Memory :=
  ((b.pages.find? (fun p => p.layer == layer && p.head == head)).map (·.mem)).getD []

/-- The elements of each held position of a layer and a head, oldest first, at the offsets given. -/
def heldRows (blocks : List KvBlock) (fmt layer head : Nat) (off : (position dim : Nat) → Nat) : List (List Fv) :=
  blocks.flatMap (fun b => (List.range b.used).map (fun p => (List.range headDim).map (fun d =>
    elementValue fmt ((b.page layer head).read (off p d)).toNat)))

/-- The rules and the scale under which attention runs: query, key, weight and value tensors, the score scale, the exponential. -/
structure AttnRule where
  query  : Rule
  key    : Rule
  weight : Rule
  value  : Rule
  scale  : F32
  exp    : F32 → F32

/-- Attention of one query over the held positions (R234): the output row, the counts of the query and of the weights, the NaNs that
arise. A block is a chunk of 256 positions, so the held positions in order reduce in the chunks of R178. -/
def attendRow (r : AttnRule) (seed u : Nat) (keys values : List (List Fv)) (q : List F32) : List F32 × Counts × Counts × Nat :=
  let qn := r.query.narrow r.query.format seed (u * roundUp q.length 8) 0 q
  let qs := qn.codes.map (elementValue r.query.format)
  let scores := keys.map (fun k =>
    let d := reducePairs (List.zip qs k)
    let v := fmul (rescale r.query.scale r.key.scale d.1) r.scale
    (v, d.2 + nanNew v [d.1]))
  let m := maxF32 (scores.map (·.1))
  let es := scores.map (fun e =>
    let x := fsub e.1 m
    (r.exp x, nanNew x [e.1, m] + nanNew (r.exp x) [x]))
  let pn := r.weight.narrow r.weight.format seed (u * roundUp keys.length 8) 0 (es.map (·.1))
  let ps := pn.codes.map (elementValue r.weight.format)
  let one : Fv := .fin false 1 0
  let den := reducePairs (ps.map (fun p => (p, one)))
  let inv := frecip (fmul r.weight.scale den.1)
  let outs := (List.range headDim).map (fun d =>
    let o := reducePairs (List.zipWith (fun p v => (p, nth (.fin false 0 0) v d)) ps values)
    let v := rescale r.weight.scale r.value.scale o.1
    (fmul v inv, o.2 + nanNew (fmul v inv) [v, inv]))
  (outs.map (·.1), qn.counts, pn.counts,
   sumN (scores.map (·.2)) + sumN (es.map (·.2)) + den.2 + nanNew inv [den.1] + sumN (outs.map (·.2)))

/-- Attention of the queries in a buffer over a layer's head (R234, R235). -/
def TileRun.attend (t : TileRun) (c : TileCtx) (dst layer head keyTensor valueTensor queryTensor weightTensor q : Nat) (scale : F32)
    (tile slot : Nat) : TileRun :=
  let x := t.st.stream c.stream
  let rule := tensorRule c.image c.pos x
  let r : AttnRule := ⟨rule queryTensor, rule keyTensor, rule weightTensor, rule valueTensor, scale,
    (tileCurveEval t.st.curves c.image tile slot).getD (fun _ => nan32)⟩
  let keys := heldRows x.kv r.key.format layer head (fun p d => keyOffset d p)
  let values := heldRows x.kv r.value.format layer head (fun p d => valueOffset p d)
  let seed := t.st.rd (Obj.streamSeed c.stream)
  let u := t.st.rd (Obj.streamTokenIndex c.stream)
  let rows := t.buf q
  let outs := rows.map (fun row => attendRow r seed u keys values row.vals)
  let st := t.st.setStream c.stream { x with attn := x.attn ++ outs.map (·.1) }
  let st := st.countNarrow c.plan c.stream c.chunk queryTensor (outs.foldl (fun (a : Counts) o => a.add o.2.1) {})
  let st := st.countNarrow c.plan c.stream c.chunk weightTensor (outs.foldl (fun (a : Counts) o => a.add o.2.2.1) {})
  (({ t with st := st }).set dst (List.zipWith (fun (row : VRow) (o : List F32 × Counts × Counts × Nat) => ⟨row.at', o.1⟩) rows outs)).nans
    (sumN (outs.map (fun (o : List F32 × Counts × Counts × Nat) => o.2.2.2)))

/-! ### The program of a token (R217, R238) -/

/-- A token under way: its program's bench, the token chosen in TOKEN mode, the frame of the output head. -/
structure TokenRun where
  run   : TileRun
  token : Option Nat := none
  frame : Bytes := []

/-- The token of the logits in a buffer (R212, R238): forced, or sampled with the token's draw. -/
def TokenRun.sample (t : TokenRun) (c : TileCtx) (row : Bytes) (k : Nat) (invTemp topP : F32) (tile slot sequence logits : Nat) : TokenRun :=
  if bit (field row 0 1) 0 then { t with token := some (field row 4 4) }
  else
    let s := t.run.st
    let u := s.rd (Obj.streamTokenIndex c.stream)
    let d := draw (s.rd (Obj.streamSeed c.stream)) ((2 ^ 40 * sequence + 8 * u % 2 ^ 40) / 8)
    let exp := (tileCurveEval s.curves c.image tile slot).getD (fun _ => nan32)
    let r := Machine.sample exp k invTemp topP ((t.run.buf logits).flatMap (·.vals)) d
    { t with token := some r.1, run := { t.run with st := if r.2 then s.bump Obj.samplerNonfinite else s } }

/-- The output head's frame, narrowed as a tensor of the plan and counted (R197, R217). -/
def TokenRun.takeFrame (t : TokenRun) (c : TileCtx) (src tensor : Nat) : TokenRun :=
  let s := t.run.st
  let r := tensorRule c.image c.pos (s.stream c.stream) tensor
  let vs := (t.run.buf src).flatMap (·.vals)
  let n := r.narrow r.format (s.rd (Obj.streamSeed c.stream)) (s.rd (Obj.streamTokenIndex c.stream) * roundUp vs.length 8) 0 vs
  { t with frame := packElems r.format n.codes, run := { t.run with st := s.countNarrow c.plan c.stream c.chunk tensor n.counts } }

/-- One step of a token's program, or why it does not run. -/
def TokenRun.op (t : TokenRun) (c : TileCtx) (a : Nat) (row : Bytes) : TokenOp → Except Stuck TokenRun
  | .tile op => match t.run.step c op with
    | .ok r => .ok { t with run := r }
    | .error e => .error e
  | .kv layer head keyTensor valueTensor key value =>
    .ok { t with run := t.run.writeKv c a layer head keyTensor valueTensor ((t.run.buf key).flatMap (·.vals))
                           ((t.run.buf value).flatMap (·.vals)) }
  | .attend dst layer head kt vt qt wt q scale tile slot =>
    .ok { t with run := t.run.attend c dst layer head kt vt qt wt q scale tile.val slot.val }
  | .sample k invTemp topP tile slot sequence logits => .ok (t.sample c row k invTemp topP tile.val slot.val sequence logits)
  | .frame src tensor => .ok (t.takeFrame c src tensor)

/-- A token's program in order. -/
def TokenRun.ops (c : TileCtx) (a : Nat) (row : Bytes) : List TokenOp → TokenRun → Except Stuck TokenRun
  | [], t => .ok t
  | o :: os, t => match t.op c a row o with
    | .ok t => TokenRun.ops c a row os t
    | .error e => .error e

/-! ### Feedback (R217-R219, R238, R239, R255) -/

/-- The codebook table of a plan and the row of a token in it (R239). -/
def State.codebookRow (s : State) (im : Bytes) (token : Nat) : Option (Nat × Table × Nat) :=
  let slot := Config.planAttr im .codebook
  if slot == 0 then none else (s.tables.find (slot - 1)).map (fun t => (slot - 1, t, token))

/-- The poison that a token's codebook lookup meets (R255). -/
def State.codebookPoison (s : State) (im : Bytes) (token : Nat) : Option (Nat × Nat) :=
  (s.codebookRow im token).bind (fun r => s.rowPoison (stackOfStage im 0) r.1 r.2.2)

/-- Look a token's row up in the codebook table, for the first group, and count its narrowing (R239, R252). -/
def State.lookCodebook (s : State) (n plan chunk : Nat) (im : Bytes) (token : Nat) : State :=
  match s.codebookRow im token with
  | none => s
  | some r =>
    let s := s.fetchBatch (stackOfStage im 0) [(r.1, r.2.2)]
    let q := s.lookup r.2.1 [(r.2.2, 0x3F800000#32)] (Config.planAttr im .codebookFormat)
    let s := s.countNarrow plan n chunk (Config.planAttr im .codebookTensor) q.2
    s.setStream n { s.stream n with codeRow := q.1 }

/-- What a token feeds back (R217, R218): in TOKEN mode the token; in FRAME mode the output head's frame, or the one a forced row
carries. -/
def fedBackBytes (im row frame : Bytes) (token : Nat) : Bytes :=
  if Config.planAttr im .feedbackMode == 1 then leBytes 4 token
  else if bit (field row 0 1) 0 then padTo frame.length (row.drop (Config.planAttr im .frameOffset))
  else frame

/-! ### TOKEN_START -/

/-- Whether the i-th token of a chunk begins a segment (R308): the first of a segment, or the one a reset mark applies to. -/
def tokenBegins (k : Chunk) (step i : Nat) : Bool := (k.segment && i == 0) || k.marks.any (fun f => ceilDiv f step == i)

/-- A segment begins: blocks retire and the attention position is 0 (R220, R231, R308). -/
def State.beginTokens (s : State) (n : Nat) : State :=
  let x := s.stream n
  ((s.setStream n { x with kv := [], feedback := [], codeRow := [] }).wr (Obj.streamKvBlocksHeld n) 0).wr (Obj.streamAttnPosition n) 0

/-- The token index wraps: a reset of everything the stream carries (R220, R308). -/
def State.wrapTokens (s : State) (n : Nat) (im : Bytes) : State :=
  let x := s.stream n
  (s.setStream n { x with sections := initialSections im, scans := [], delays := [], grads := [] }).beginTokens n

/-- The tag of a token's packet: stream, place in the chunk, segment start and END, with its step (R324). -/
def tokenTag (n u : Nat) (k : Chunk) (begins : Bool) : Nat :=
  n + 2 ^ 16 * b2n (k.decoded == 0) + 2 ^ 17 * b2n (k.decoded + 1 == k.tokens) + 2 ^ 18 * b2n begins + 2 ^ 19 * b2n k.fin + 2 ^ 32 * u

/-- A packet of bytes for every joint of a link of a plan; none where one of them has no room. A link without a joint takes it, and so
does an empty packet. -/
def State.pushBytes (s : State) (n plan chunk link tag : Nat) (bs : Bytes) : Option State :=
  if bs.isEmpty then some s else State.pushPackets n chunk (s.linkJoints plan link) [(tag, (chunks 8 bs).map ofLE)] s

/-- What the first group's joint holds of a chunk is taken with the token it came for (R239). -/
def State.drainLink (s : State) (plan stream chunk link : Nat) : State :=
  match s.takeLink plan stream chunk link 1 with
  | some r => if r.1.isEmpty then s else r.2
  | none => s

/-- What the program of a chunk's next token runs under. -/
def State.tokenCtx (s : State) (n counter : Nat) (k : Chunk) (row : Bytes) (begins : Bool) : TileCtx :=
  let step := s.stepFrames n
  let at' := k.position + k.decoded * step
  { s.chunkCtx n counter k [(at', row)] with
    pos := at', frames := step, segment := begins, fin := k.fin && k.decoded + 1 == k.tokens, marks := if begins then [at'] else [] }

/-- The state of a stream before a token's program: its segment begun, the packet of its feature row and codebook row in the first
group's joint, its block begun (R220, R230, R231, R239); the attention position. -/
def State.enterToken (s : State) (n : Nat) (c : Cmd) (k : Chunk) (row : Bytes) (begins : Bool) : Option (State × Nat) :=
  let plan := s.rd (Obj.streamPlan n)
  let im := s.planImage plan
  let u := s.rd (Obj.streamTokenIndex n)
  let s := s.openChunk n c.counter k
  let s := if u == 0 then s.wrapTokens n im else if begins then s.beginTokens n else s
  let a := s.rd (Obj.streamAttnPosition n)
  (s.pushBytes n plan c.counter 0 (tokenTag n u k begins) (row ++ (s.stream n).codeRow)).map (fun s =>
    let s := s.setStream n { s.stream n with attn := [], codeRow := [] }
    (if Config.planAttr im .attention != 0 && a % 256 == 0 then s.beginBlock n a im else s, a))

/-- The end of a token whose program has run (R218-R220, R236, R239): what it feeds back, its codebook lookup, its counts. -/
def State.leaveToken (s : State) (n : Nat) (c : Cmd) (k : Chunk) (a : Nat) (row frame : Bytes) (token : Nat) : State :=
  let plan := s.rd (Obj.streamPlan n)
  let im := s.planImage plan
  let u := s.rd (Obj.streamTokenIndex n)
  let s := s.drainLink plan n c.counter 0
  let s := if Config.planAttr im .attention != 0 && s.rd (Obj.streamKvPlacement n) == 2 then s.bump Obj.spreadTokens else s
  let s := if Config.planAttr im .feedbackMode == 1 then s.lookCodebook n plan c.counter im token else s
  let s := s.setStream n { s.stream n with feedback := fedBackBytes im row frame token }
  let s := (s.wr (Obj.streamTokenIndex n) (if u + 1 ≥ 2 ^ 48 then 0 else u + 1)).wr (Obj.streamAttnPosition n) ((a + 1) % 2 ^ 64)
  let time := s.freeWord
  let s := time.2.wr (Obj.streamLastTokenNs n) (time.1 % 2 ^ 32)
  s.mapChunk n c.counter (fun x => { x with decoded := k.decoded + 1 })

/-- Decode one token (R218-R239), all of it or nothing: it waits where a joint has no room, and poison in what it reads halts the
stream; a token that begins a segment reads no earlier state (R461). -/
def State.decodeToken (s : State) (n : Nat) (c : Cmd) (k : Chunk) (begins : Bool) (row : Bytes) : State :=
  let q := s.readStop (if begins then [] else s.carriedAt n)
  match q.2 with
  | some p => q.1.poisonHalt n c.counter (k.position + k.decoded * s.stepFrames n) p.1 p.2
  | none =>
  let s := q.1
  let plan := s.rd (Obj.streamPlan n)
  let im := s.planImage plan
  let u := s.rd (Obj.streamTokenIndex n)
  let waitAt (link : Nat) : State := match (s.linkJoints plan link).head? with
    | some key => s.jointWait key n
    | none => s
  match s.enterToken n c k row begins with
  | none => waitAt 0
  | some e =>
    let ctx := e.1.tokenCtx n c.counter k row begins
    match TokenRun.ops ctx e.2 row (((s.plans.find plan).map (·.tokens)).getD []) ⟨⟨e.1, {}⟩, none, []⟩ with
    | .error .wait => s
    | .error (.poison x space) => s.poisonHalt n c.counter (k.position + k.decoded * s.stepFrames n) x space
    | .ok r =>
      let choice := match r.token with
        | some t => (t, r.run.st)
        | none => let f := r.run.st.freeWord; (f.1 % 2 ^ 32, f.2)
      match choice.2.pushBytes n plan c.counter 1 (tokenTag n u k begins) r.frame with
      | none => waitAt 1
      | some t =>
        match (if Config.planAttr im .feedbackMode == 1 then t.codebookPoison im choice.1 else none) with
        | some p => s.poisonHalt n c.counter (k.position + k.decoded * s.stepFrames n) p.1 p.2
        | none => t.leaveToken n c k e.2 row r.frame choice.1

/-! ### Batches (R223, R224) -/

/-- The chunk whose next token a stream decodes (R219): the first released one with tokens left, those before it having none. -/
def State.tokenChunk (s : State) (n : Nat) : Option (Cmd × Chunk) :=
  ((s.ring n).cmds.filterMap (fun c => match c.chunk with
    | some k => if c.final.isNone && decide (k.decoded < k.tokens) then some (c, k) else none
    | none => none)).head?.filter (fun e => e.2.released)

/-- Whether a stream's next token is ready for the first group of its plan (R219, R223, R224, R435). -/
def State.tokenReady (s : State) (n : Nat) : Bool :=
  s.decodes n && s.rd (Obj.streamResidency n) == 1 && s.ringState n != 2 &&
  (match s.tokenChunk n with
    | some e => s.issues n e.2 && e.1.phase != .halted && !s.waitsPage n e.1.counter
    | none => false)

/-- The streams of a new batch of a plan: up to 16 whose next token is ready, live before paced before grout, then by number (R223). -/
def State.formBatch (s : State) (plan : Nat) : List Nat :=
  let ready := (s.streams.map (·.1)).filter (fun n => s.rd (Obj.streamPlan n) == plan && s.tokenReady n)
  ([0, 1, 2].flatMap (fun cls => ready.filter (fun n => s.rd (Obj.streamClass n) == cls))).take 16

/-- The batch whose rows enter the first group: the one under way without the streams that have left it, or a new one (R223, R224). -/
def State.batchOf (s : State) (plan : Nat) : List Nat :=
  let left := (s.rows.getD plan []).filter (fun n => s.rd (Obj.streamPlan n) == plan && s.tokenReady n)
  if left.isEmpty then s.formBatch plan else left

/-- TOKEN_START (R219, R223): the next token of a stream, if it is a row of the batch. `features` is what the read of the row found. -/
def execTokenStart (ring : RingId) (features : HostRead) (s : State) : Out :=
  let n := ring.val
  .next (match s.tokenChunk n with
    | none => s
    | some (c, k) =>
      let plan := s.rd (Obj.streamPlan n)
      let im := s.planImage plan
      let batch := s.batchOf plan
      if !s.tokenReady n || !batch.contains n then s
      else match featureStop n c.desc k features with
        | some x => s.stopAt n c.counter (k.position + k.decoded * s.stepFrames n) 0 x
        | none =>
          let row := (nth (0, []) (s.featureRows n im c.desc k features) k.decoded).2
          let begins := s.rd (Obj.streamTokenIndex n) == 0 || tokenBegins k (s.stepFrames n) k.decoded
          ({ s with rows := s.rows.put plan (batch.filter (· != n)) }).decodeToken n c k begins row)

end Sys2Proof.Machine
end

