-- ==== Sys2Proof/Machine/JointExec.lean ====
section
/-! DEFINITION. Joints and collectors as the device works them: packets begun, idle timeouts, ECC errors, spills, gathered
packets (R370, R371, R374, R377-R381). -/

namespace Sys2Proof.Machine

/-- Key of a joint. -/
def jointKey (tile : TileId) (joint : Fin 64) : Nat := 64 * tile.val + joint.val

/-- PACKET_START (R370, R381): the tile or gather stage that consumes a joint steps to its next packet. A brick steps by its own
JNEXT (R342). -/
def execPacketStart (tile : TileId) (joint : Fin 64) (s : State) : Out :=
  let k := jointKey tile joint
  .next (match s.joints.find k with
    | none => s
    | some j =>
      if j.group.isSome || stageUnitKind (s.planImage j.plan) j.link == 1 then s
      else match j.next 0 with
        | some (_, j') => { s with joints := s.joints.put k j' }
        | none => s)

/-- Frames that a packet's words hold: two samples a word (R371). -/
def State.packetFrames (s : State) (plan words : Nat) : Nat :=
  2 * words / Nat.max 1 (Config.planAttr (s.planImage plan) .channels)

/-- JOINT_IDLE_TIMEOUT (R371). -/
def execJointIdleTimeout (tile : TileId) (joint : Fin 64) (s : State) : Out :=
  let k := jointKey tile joint
  .next (match s.joints.find k with
    | none => s
    | some j =>
      match j.recs.getLast? with
      | some (.packet _ (w :: ws) false st c _) =>
        if j.idle == 0 || decide (s.clk.frames < j.written + j.idle) then s
        else
          let s := (s.setJoint k j.timeOut).bump Obj.shortPackets
          s.mapChunk st c (fun x => { x with short := s.packetFrames j.plan (w :: ws).length })
      | _ => s)

/-- JOINT_ECC_ERROR (R374): an error in the word at the first reader's place. The stream keeps the carried state of the chunk before. -/
def execJointEccError (tile : TileId) (joint : Fin 64) (correctable : Bool) (s : State) : Out :=
  let k := jointKey tile joint
  .next (match s.joints.find k with
    | none => s
    | some j =>
      if correctable then
        ({ s with joints := s.joints.put k { j with corrected := Nat.min (j.corrected + 1) (2 ^ 32 - 1) } }).bump Obj.jointEccCorrected
      else match j.recs[(j.reader 0).idx]? with
        | some (.packet _ _ _ st c _) =>
          let at' := (j.reader 0).idx
          let j' := Joint.settle { j with readers := j.readers.map (fun r =>
            if r.idx == at' then { r with mark := none, cur := true, drop := true } else r) }
          let s := ({ s with joints := s.joints.put k j' }).bump Obj.jointEccUncorrected
          (s.restoreCarried st c).deviceFault st c Obj.jointEccUncorrected
        | _ => s)

/-! ### Spills (R377, R378) -/

/-- Streams whose packets lie in joints. -/
def State.streamsIn (s : State) (keys : List Nat) : List Nat :=
  dedup (keys.flatMap (fun k => ((s.joints.find k).map (fun j => j.recs.filterMap (fun r => match r with
    | .packet _ _ _ st _ _ => some st
    | .spacer _ => none))).getD []))

/-- The younger of streams: the later BIND, then the higher number (R377). -/
def State.youngest (s : State) : List Nat → Option Nat
  | [] => none
  | n :: ns => some (ns.foldl (fun a b =>
      let x := (s.stream a).boundAt
      let y := (s.stream b).boundAt
      if y > x || (y == x && decide (b > a)) then b else a) n)

/-- Command counters of a stream's packets in joints. -/
def State.chunksIn (s : State) (keys : List Nat) (n : Nat) : List Nat :=
  dedup (keys.flatMap (fun k => ((s.joints.find k).map (fun j => j.recs.filterMap (fun r => match r with
    | .packet _ _ _ st c _ => if st == n then some c else none
    | .spacer _ => none))).getD []))

/-- Move the words of a stream's chunk of a joint to the overflow region. -/
def Joint.spill (j : Joint) (n chunk : Nat) : Joint :=
  { j with recs := j.recs.map (fun r => match r with
      | .packet t ws e st c sp => .packet t ws e st c (sp || (st == n && c == chunk))
      | .spacer x => .spacer x) }

/-- Whether joints make a pool-wait cycle present for four courses (R377): a producer waits at each, since then. -/
def State.waitCycle (s : State) (keys : List Nat) : Bool :=
  !keys.isEmpty && s.pos % s.courseLen == 0 && keys.all (fun k => match s.joints.find k with
    | some j => j.waiter.isSome && decide (j.waitSince + 4 * s.courseLen ≤ s.clk.frames)
    | none => false)

/-- The words of a stream's chunk leave joints for the overflow region. -/
def State.spillChunk (s : State) (keys : List Nat) (n chunk : Nat) : State :=
  keys.foldl (fun s k => match s.joints.find k with
    | some j => { s with joints := s.joints.put k { j.spill n chunk with waiter := none } }
    | none => s) s

/-- Bytes a chunk's words in joints would take in the overflow region. -/
def State.spillBytes (s : State) (keys : List Nat) (n chunk : Nat) : Nat := (s.spillChunk keys n chunk).overflowUsed - s.overflowUsed

/-- Spill a stream's words out of joints, each chunk charged with its own, or discard them for want of room (R377, R378). -/
def State.spillStream (s : State) (keys : List Nat) (n : Nat) : State :=
  let cs := s.chunksIn keys n
  let bytes := sumN (cs.map (s.spillBytes keys n))
  if s.overflowUsed + bytes ≤ s.rd Obj.overflowBytes then
    cs.foldl (fun s c =>
      let own := s.spillBytes keys n c
      (s.spillChunk keys n c).mapChunk n c (fun k => { k with spilled := k.spilled + own }))
      ((s.bump Obj.spills).bump Obj.spilledBytes bytes)
  else
    let s := s.bump Obj.overflowFull
    let s := keys.foldl (fun (t : State) k => match t.joints.find k with
      | some j => { t with joints := t.joints.put k { j.dropStream n none with waiter := none } }
      | none => t) s
    cs.foldl (fun s c => (s.restoreCarried n c).deviceFault n c Obj.overflowFull) s

/-- SPILL (R377): the joints of a pool-wait cycle. -/
def execSpill (cycle : List (TileId × Fin 64)) (s : State) : Out :=
  let keys := dedup (cycle.map (fun e => jointKey e.1 e.2))
  .next (if !s.waitCycle keys then s
    else
      let s := s.bump Obj.poolWaitCycles
      match s.youngest (s.streamsIn keys) with
      | none => s
      | some n => s.spillStream keys n)

/-! ### Collectors (R379) -/

/-- Take the first whole packet of every member; none while one has none. -/
def Collector.take (x : Collector) : Option ((Nat × Nat × Nat × List Nat) × Collector) :=
  match x.packets.map List.head? with
  | some p :: rest =>
    if rest.all Option.isSome then
      some ((p.1, p.2.1, p.2.2.1, p.2.2.2 ++ (rest.filterMap id).flatMap (fun q => q.2.2.2)),
        { x with packets := x.packets.map (fun l => l.drop 1) })
    else none
  | _ => none

/-- COLLECTOR_EMIT (R379): `group` is 16 × plan slot + stage. The packet waits for room in the target joint. -/
def execCollectorEmit (group : Nat) (s : State) : Out :=
  .next (match s.colls.find group with
    | none => s
    | some x =>
      match x.take with
      | none => s
      | some (p, x') =>
        match s.joints.find x.target with
        | none => s
        | some j =>
          if j.openLast then s
          else match s.jointWrite x.target p.1 p.2.1 p.2.2.1 p.2.2.2 with
            | none => s.jointWait x.target p.2.1
            | some s =>
              let s := match s.joints.find x.target with
                | some j => { s with joints := s.joints.put x.target j.endPacket }
                | none => s
              { s with colls := s.colls.put group x' })

end Sys2Proof.Machine
end

