-- ==== Sys2Proof/Machine/Dispatch.lean ====
section
/-! DEFINITION. The one match over the commands: each row of the table calls its meaning. -/

namespace Sys2Proof.Machine

def exec (i : Instr) (s : State) : Host.Outcome State Fault Refusal :=
  match i with
  | .frame e => Sys2Proof.Machine.execFrame e s
  | .tickBoundary => Sys2Proof.Machine.execTickBoundary s
  | .courseBoundary sensors => Sys2Proof.Machine.execCourseBoundary sensors s
  | .lockAcquired => Sys2Proof.Machine.execLockAcquired s
  | .bitClockFault => Sys2Proof.Machine.execBitClockFault s
  | .laneResume => Sys2Proof.Machine.execLaneResume s
  | .periodFaultLoss => Sys2Proof.Machine.execPeriodFaultLoss s
  | .clockLoss lost => Sys2Proof.Machine.execClockLoss s lost
  | .coastExpired => Sys2Proof.Machine.execCoastExpired s
  | .relock => Sys2Proof.Machine.execRelock s
  | .ltcFrame label syncIntact contiguous startAgo => Sys2Proof.Machine.execLtcFrame label syncIntact contiguous startAgo s
  | .ltcValidLapse => Sys2Proof.Machine.execLtcValidLapse s
  | .anchorFailed => Sys2Proof.Machine.execAnchorFailed s
  | .reanchor p => Sys2Proof.Machine.execReanchor p s
  | .cmarkPulse => Sys2Proof.Machine.execCmarkPulse s
  | .courseSync body => Sys2Proof.Machine.execCourseSync body s
  | .read p => Sys2Proof.Machine.execRead p s
  | .write p => Sys2Proof.Machine.execWrite p s
  | .readStaged p => Sys2Proof.Machine.execReadStaged p s
  | .describe p => Sys2Proof.Machine.execDescribe p s
  | .readDefault p => Sys2Proof.Machine.execReadDefault p s
  | .segRead p => Sys2Proof.Machine.execSegRead p s
  | .segWrite p => Sys2Proof.Machine.execSegWrite p s
  | .dictResp tag body => Sys2Proof.Machine.execDictResp tag body s
  | .partnerTimeout session refUs => Sys2Proof.Machine.execPartnerTimeout session refUs s
  | .commitAt p => Sys2Proof.Machine.execCommitAt p s
  | .discard p => Sys2Proof.Machine.execDiscard p s
  | .cancelPending p => Sys2Proof.Machine.execCancelPending p s
  | .store p => Sys2Proof.Machine.execStore p s
  | .storeDone ok => Sys2Proof.Machine.execStoreDone ok s
  | .stage p => Sys2Proof.Machine.execStage p s
  | .mgmtOpen p => Sys2Proof.Machine.execMgmtOpen p s
  | .auth p => Sys2Proof.Machine.execAuth p s
  | .close p => Sys2Proof.Machine.execClose p s
  | .arpRequest senderMac senderIp targetIp => Sys2Proof.Machine.execArpRequest senderMac senderIp targetIp s
  | .echoRequest sourceIp targetIp fragment payload => Sys2Proof.Machine.execEchoRequest sourceIp targetIp fragment payload s
  | .plcaBeacon => Sys2Proof.Machine.execPlcaBeacon s
  | .idleTimeout session refNs => Sys2Proof.Machine.execIdleTimeout session refNs s
  | .forceClose p => Sys2Proof.Machine.execForceClose p s
  | .keyL0 p => Sys2Proof.Machine.execKeyL0 p s
  | .keyL1 p => Sys2Proof.Machine.execKeyL1 p s
  | .hostDetach how => Sys2Proof.Machine.execHostDetach how s
  | .hostLinkUp rate width => Sys2Proof.Machine.execHostLinkUp rate width s
  | .cmdTail offset wide w => Sys2Proof.Machine.execCmdTail offset wide w s
  | .cplHead offset wide w => Sys2Proof.Machine.execCplHead offset wide w s
  | .resume offset wide w => Sys2Proof.Machine.execResume offset wide w s
  | .abandon offset wide w => Sys2Proof.Machine.execAbandon offset wide w s
  | .commandFetch ring descriptor => Sys2Proof.Machine.execCommandFetch ring descriptor s
  | .ringDrained ring => Sys2Proof.Machine.execRingDrained ring s
  | .bind ring => Sys2Proof.Machine.execBind ring s
  | .admissionTimeout ring => Sys2Proof.Machine.execAdmissionTimeout ring s
  | .feed ring => Sys2Proof.Machine.execFeed ring s
  | .render ring => Sys2Proof.Machine.execRender ring s
  | .flush ring => Sys2Proof.Machine.execFlush ring s
  | .flushDone ring => Sys2Proof.Machine.execFlushDone ring s
  | .cancel ring => Sys2Proof.Machine.execCancel ring s
  | .park ring => Sys2Proof.Machine.execPark ring s
  | .wake ring => Sys2Proof.Machine.execWake ring s
  | .wakeSlotTaken ring => Sys2Proof.Machine.execWakeSlotTaken ring s
  | .moveOutDone ring => Sys2Proof.Machine.execMoveOutDone ring s
  | .moveInDone ring => Sys2Proof.Machine.execMoveInDone ring s
  | .checkpoint ring => Sys2Proof.Machine.execCheckpoint ring s
  | .move ring descriptor => Sys2Proof.Machine.execMove ring descriptor s
  | .moverStart ring descriptor => Sys2Proof.Machine.execMoverStart ring descriptor s
  | .rearmRun ring descriptor => Sys2Proof.Machine.execRearmRun ring descriptor s
  | .transferDone ring data => Sys2Proof.Machine.execTransferDone ring data s
  | .loadPlan ring image => Sys2Proof.Machine.execLoadPlan ring image s
  | .loadTable ring image => Sys2Proof.Machine.execLoadTable ring image s
  | .loadCurve ring image => Sys2Proof.Machine.execLoadCurve ring image s
  | .loadBrickCode ring image => Sys2Proof.Machine.execLoadBrickCode ring image s
  | .loadDone ring rounds resent failed => Sys2Proof.Machine.execLoadDone ring rounds resent failed s
  | .fence ring => Sys2Proof.Machine.execFence ring s
  | .note ring => Sys2Proof.Machine.execNote ring s
  | .priResponse request code => Sys2Proof.Machine.execPriResponse request code s
  | .priTimeout request => Sys2Proof.Machine.execPriTimeout request s
  | .chunkDone ring features work => Sys2Proof.Machine.execChunkDone ring features work s
  | .unbind p => Sys2Proof.Machine.execUnbind p s
  | .clear p => Sys2Proof.Machine.execClear p s
  | .tokenStart ring features => Sys2Proof.Machine.execTokenStart ring features s
  | .gatherLookup ring stage lookups => Sys2Proof.Machine.execGatherLookup ring stage lookups s
  | .rowFetchDone batch => Sys2Proof.Machine.execRowFetchDone batch s
  | .unload p => Sys2Proof.Machine.execUnload p s
  | .planUnload p => Sys2Proof.Machine.execPlanUnload p s
  | .packetStart tile joint => Sys2Proof.Machine.execPacketStart tile joint s
  | .jointIdleTimeout tile joint => Sys2Proof.Machine.execJointIdleTimeout tile joint s
  | .jointEccError tile joint correctable => Sys2Proof.Machine.execJointEccError tile joint correctable s
  | .spill cycle => Sys2Proof.Machine.execSpill cycle s
  | .add k d a b c => Sys2Proof.Machine.execAdd k d a b c s
  | .sub k d a b c => Sys2Proof.Machine.execSub k d a b c s
  | .and k d a b c => Sys2Proof.Machine.execAnd k d a b c s
  | .or k d a b c => Sys2Proof.Machine.execOr k d a b c s
  | .xor k d a b c => Sys2Proof.Machine.execXor k d a b c s
  | .shl k d a b c => Sys2Proof.Machine.execShl k d a b c s
  | .shr k d a b c => Sys2Proof.Machine.execShr k d a b c s
  | .sra k d a b c => Sys2Proof.Machine.execSra k d a b c s
  | .mul k d a b c => Sys2Proof.Machine.execMul k d a b c s
  | .mulh k d a b c => Sys2Proof.Machine.execMulh k d a b c s
  | .mulhu k d a b c => Sys2Proof.Machine.execMulhu k d a b c s
  | .min k d a b c => Sys2Proof.Machine.execMin k d a b c s
  | .max k d a b c => Sys2Proof.Machine.execMax k d a b c s
  | .minu k d a b c => Sys2Proof.Machine.execMinu k d a b c s
  | .maxu k d a b c => Sys2Proof.Machine.execMaxu k d a b c s
  | .slt k d a b c => Sys2Proof.Machine.execSlt k d a b c s
  | .sltu k d a b c => Sys2Proof.Machine.execSltu k d a b c s
  | .rotl k d a b c => Sys2Proof.Machine.execRotl k d a b c s
  | .fadd k d a b c => Sys2Proof.Machine.execFadd k d a b c s
  | .fsub k d a b c => Sys2Proof.Machine.execFsub k d a b c s
  | .fmul k d a b c => Sys2Proof.Machine.execFmul k d a b c s
  | .fma k d a b c => Sys2Proof.Machine.execFma k d a b c s
  | .fmin k d a b c => Sys2Proof.Machine.execFmin k d a b c s
  | .fmax k d a b c => Sys2Proof.Machine.execFmax k d a b c s
  | .flt k d a b c => Sys2Proof.Machine.execFlt k d a b c s
  | .feq k d a b c => Sys2Proof.Machine.execFeq k d a b c s
  | .fdiv k d a b c => Sys2Proof.Machine.execFdiv k d a b c s
  | .fsqrt k d a b c => Sys2Proof.Machine.execFsqrt k d a b c s
  | .fcvtsi k d a b c => Sys2Proof.Machine.execFcvtsi k d a b c s
  | .fcvtis k d a b c => Sys2Proof.Machine.execFcvtis k d a b c s
  | .ffloor k d a b c => Sys2Proof.Machine.execFfloor k d a b c s
  | .fcurve k d a b c => Sys2Proof.Machine.execFcurve k d a b c s
  | .addi k d a imm => Sys2Proof.Machine.execAddi k d a imm s
  | .andi k d a imm => Sys2Proof.Machine.execAndi k d a imm s
  | .ori k d a imm => Sys2Proof.Machine.execOri k d a imm s
  | .xori k d a imm => Sys2Proof.Machine.execXori k d a imm s
  | .slti k d a imm => Sys2Proof.Machine.execSlti k d a imm s
  | .lui k d a imm => Sys2Proof.Machine.execLui k d a imm s
  | .shli k d a imm => Sys2Proof.Machine.execShli k d a imm s
  | .shri k d a imm => Sys2Proof.Machine.execShri k d a imm s
  | .srai k d a imm => Sys2Proof.Machine.execSrai k d a imm s
  | .beq k a b off => Sys2Proof.Machine.execBeq k a b off s
  | .bne k a b off => Sys2Proof.Machine.execBne k a b off s
  | .blt k a b off => Sys2Proof.Machine.execBlt k a b off s
  | .bge k a b off => Sys2Proof.Machine.execBge k a b off s
  | .bltu k a b off => Sys2Proof.Machine.execBltu k a b off s
  | .bgeu k a b off => Sys2Proof.Machine.execBgeu k a b off s
  | .jmp k target => Sys2Proof.Machine.execJmp k target s
  | .call k target => Sys2Proof.Machine.execCall k target s
  | .jr k d a b c => Sys2Proof.Machine.execJr k d a b c s
  | .loop k d a imm => Sys2Proof.Machine.execLoop k d a imm s
  | .halt k target => Sys2Proof.Machine.execHalt k target s
  | .csrr k d a imm => Sys2Proof.Machine.execCsrr k d a imm s
  | .csrw k d a imm => Sys2Proof.Machine.execCsrw k d a imm s
  | .lw k d a imm => Sys2Proof.Machine.execLw k d a imm s
  | .sw k d a imm => Sys2Proof.Machine.execSw k d a imm s
  | .vld k d a imm => Sys2Proof.Machine.execVld k d a imm s
  | .vst k d a imm => Sys2Proof.Machine.execVst k d a imm s
  | .vfadd k d a b c => Sys2Proof.Machine.execVfadd k d a b c s
  | .vfsub k d a b c => Sys2Proof.Machine.execVfsub k d a b c s
  | .vfmul k d a b c => Sys2Proof.Machine.execVfmul k d a b c s
  | .vfma k d a b c => Sys2Proof.Machine.execVfma k d a b c s
  | .vfmas k d a b c => Sys2Proof.Machine.execVfmas k d a b c s
  | .vfmuls k d a b c => Sys2Proof.Machine.execVfmuls k d a b c s
  | .vfmin k d a b c => Sys2Proof.Machine.execVfmin k d a b c s
  | .vfmax k d a b c => Sys2Proof.Machine.execVfmax k d a b c s
  | .vfdiv k d a b c => Sys2Proof.Machine.execVfdiv k d a b c s
  | .vfsqrt k d a b c => Sys2Proof.Machine.execVfsqrt k d a b c s
  | .vcurve k d a b c => Sys2Proof.Machine.execVcurve k d a b c s
  | .vffloor k d a b c => Sys2Proof.Machine.execVffloor k d a b c s
  | .vflt k d a b c => Sys2Proof.Machine.execVflt k d a b c s
  | .vfeq k d a b c => Sys2Proof.Machine.execVfeq k d a b c s
  | .vsel k d a b c => Sys2Proof.Machine.execVsel k d a b c s
  | .vadd k d a b c => Sys2Proof.Machine.execVadd k d a b c s
  | .vsub k d a b c => Sys2Proof.Machine.execVsub k d a b c s
  | .vand k d a b c => Sys2Proof.Machine.execVand k d a b c s
  | .vor k d a b c => Sys2Proof.Machine.execVor k d a b c s
  | .vxor k d a b c => Sys2Proof.Machine.execVxor k d a b c s
  | .vshl k d a b c => Sys2Proof.Machine.execVshl k d a b c s
  | .vshr k d a b c => Sys2Proof.Machine.execVshr k d a b c s
  | .vsra k d a b c => Sys2Proof.Machine.execVsra k d a b c s
  | .vmul k d a b c => Sys2Proof.Machine.execVmul k d a b c s
  | .vbc k d a b c => Sys2Proof.Machine.execVbc k d a b c s
  | .vget k d a b c => Sys2Proof.Machine.execVget k d a b c s
  | .vput k d a b c => Sys2Proof.Machine.execVput k d a b c s
  | .vperm k d a b c => Sys2Proof.Machine.execVperm k d a b c s
  | .vsum k d a b c => Sys2Proof.Machine.execVsum k d a b c s
  | .vhmax k d a b c => Sys2Proof.Machine.execVhmax k d a b c s
  | .vmov k d a b c => Sys2Proof.Machine.execVmov k d a b c s
  | .vcvtw k d a b c fn => Sys2Proof.Machine.execVcvtw k d a b c fn s
  | .vcvtn k d a b c fn => Sys2Proof.Machine.execVcvtn k d a b c fn s
  | .vcvtns k d a b c fn => Sys2Proof.Machine.execVcvtns k d a b c fn s
  | .mv k d a b c fn => Sys2Proof.Machine.execMv k d a b c fn s
  | .azero k d a b c => Sys2Proof.Machine.execAzero k d a b c s
  | .afin k d a b c => Sys2Proof.Machine.execAfin k d a b c s
  | .aadd k d a b c => Sys2Proof.Machine.execAadd k d a b c s
  | .asumv k d a b c => Sys2Proof.Machine.execAsumv k d a b c s
  | .acmp k d a b c => Sys2Proof.Machine.execAcmp k d a b c s
  | .azeroi k d a b c => Sys2Proof.Machine.execAzeroi k d a b c s
  | .jrdv k d a b c => Sys2Proof.Machine.execJrdv k d a b c s
  | .jrds k d a b c => Sys2Proof.Machine.execJrds k d a b c s
  | .jwrv k d a b c => Sys2Proof.Machine.execJwrv k d a b c s
  | .jwrs k d a b c => Sys2Proof.Machine.execJwrs k d a b c s
  | .jend k d a b c => Sys2Proof.Machine.execJend k d a b c s
  | .jtag k d a b c => Sys2Proof.Machine.execJtag k d a b c s
  | .jnext k d a b c => Sys2Proof.Machine.execJnext k d a b c s
  | .jdisc k d a b c => Sys2Proof.Machine.execJdisc k d a b c s
  | .jmark k d a b c => Sys2Proof.Machine.execJmark k d a b c s
  | .jrew k d a b c => Sys2Proof.Machine.execJrew k d a b c s
  | .jrel k d a b c => Sys2Proof.Machine.execJrel k d a b c s
  | .draw k d a b c => Sys2Proof.Machine.execDraw k d a b c s
  | .collectorEmit group => Sys2Proof.Machine.execCollectorEmit group s
  | .slipReanchor p => Sys2Proof.Machine.execSlipReanchor p s
  | .aes3Subframe lane sub => Sys2Proof.Machine.execAes3Subframe lane sub s
  | .aes3Lock lane => Sys2Proof.Machine.execAes3Lock lane s
  | .foreignRelock lane => Sys2Proof.Machine.execForeignRelock lane s
  | .captureWrite group translated => Sys2Proof.Machine.execCaptureWrite group translated s
  | .courseGoverned => Sys2Proof.Machine.execCourseGoverned s
  | .groutAged ring => Sys2Proof.Machine.execGroutAged ring s
  | .isnsSample rails => Sys2Proof.Machine.execIsnsSample rails s
  | .retrainNow p => Sys2Proof.Machine.execRetrainNow p s
  | .retrainDue die why => Sys2Proof.Machine.execRetrainDue die why s
  | .retrainWindowEnd die ok => Sys2Proof.Machine.execRetrainWindowEnd die ok s
  | .memoryError tier addr retries correctable => Sys2Proof.Machine.execMemoryError tier addr retries correctable s
  | .patrolScrub tier addr corrected => Sys2Proof.Machine.execPatrolScrub tier addr corrected s
  | .cxlLinkDown expander => Sys2Proof.Machine.execCxlLinkDown expander s
  | .cxlLinkUp expander => Sys2Proof.Machine.execCxlLinkUp expander s
  | .tieFlit flit fecCorrected => Sys2Proof.Machine.execTieFlit flit fecCorrected s
  | .tieReplayTimeout => Sys2Proof.Machine.execTieReplayTimeout s
  | .tieTraining width => Sys2Proof.Machine.execTieTraining width s
  | .tieRetrain ok => Sys2Proof.Machine.execTieRetrain ok s
  | .heartbeat body => Sys2Proof.Machine.execHeartbeat body s
  | .pairHbEdge => Sys2Proof.Machine.execPairHbEdge s
  | .watchdogFail => Sys2Proof.Machine.execWatchdogFail s
  | .takeover => Sys2Proof.Machine.execTakeover s
  | .partnerLoss => Sys2Proof.Machine.execPartnerLoss s
  | .handover p => Sys2Proof.Machine.execHandover p s
  | .digest body => Sys2Proof.Machine.execDigest body s
  | .resyncStateTake ring => Sys2Proof.Machine.execResyncStateTake ring s
  | .statePush body => Sys2Proof.Machine.execStatePush body s
  | .checkpointMessage body => Sys2Proof.Machine.execCheckpointMessage body s
  | .leave p => Sys2Proof.Machine.execLeave p s
  | .leaveMessage body => Sys2Proof.Machine.execLeaveMessage body s
  | .leavePush ring => Sys2Proof.Machine.execLeavePush ring s
  | .left => Sys2Proof.Machine.execLeft s
  | .electricalIdle => Sys2Proof.Machine.execElectricalIdle s
  | .join tag body => Sys2Proof.Machine.execJoin tag body s
  | .pairingTimeout refMs => Sys2Proof.Machine.execPairingTimeout refMs s
  | .syncStart p => Sys2Proof.Machine.execSyncStart p s
  | .fwWrite p => Sys2Proof.Machine.execFwWrite p s
  | .fwUpdateDone flashOk => Sys2Proof.Machine.execFwUpdateDone flashOk s
  | .bootSlot p => Sys2Proof.Machine.execBootSlot p s
  | .svnAdvance p => Sys2Proof.Machine.execSvnAdvance p s
  | .customerKeyFuse p => Sys2Proof.Machine.execCustomerKeyFuse p s
  | .attestNonce p => Sys2Proof.Machine.execAttestNonce p s
  | .bottomTreeReady => Sys2Proof.Machine.execBottomTreeReady s
  | .logClear p flashOk => Sys2Proof.Machine.execLogClear p flashOk s
  | .reset straps released pwrOk vioLost => Sys2Proof.Machine.execReset straps released pwrOk vioLost s
  | .fuseRead fuses suppliesOk refUs => Sys2Proof.Machine.execFuseRead fuses suppliesOk refUs s
  | .firmwareVerification slotA slotB refUs => Sys2Proof.Machine.execFirmwareVerification slotA slotB refUs s
  | .training r refUs => Sys2Proof.Machine.execTraining r refUs s
  | .curing r refUs => Sys2Proof.Machine.execCuring r refUs s
  | .brickCodeBroadcast rounds resent failed refUs => Sys2Proof.Machine.execBrickCodeBroadcast rounds resent failed refUs s
  | .ready refUs => Sys2Proof.Machine.execReady refUs s
  | .phaseLimit r slotA slotB t => Sys2Proof.Machine.execPhaseLimit r slotA slotB t s
  | .mortarRetrain r => Sys2Proof.Machine.execMortarRetrain r s
  | .supplyFault => Sys2Proof.Machine.execSupplyFault s
  | .thermalTrip decidegrees => Sys2Proof.Machine.execThermalTrip decidegrees s
  | .coastedFrame bitEdges lanes => Sys2Proof.Machine.execCoastedFrame bitEdges lanes s
  | .apertureAccess offset width write => Sys2Proof.Machine.execApertureAccess offset width write s
  | .priEnable => Sys2Proof.Machine.execPriEnable s
  | .bootSrc high slotA slotB => Sys2Proof.Machine.execBootSrc high slotA slotB s
  | .boundaryScan instr resetLow => Sys2Proof.Machine.execBoundaryScan instr resetLow s

end Sys2Proof.Machine
end

