-- ==== Sys2Proof/Safety.lean ====
section
/-! DEFINITION. What counts as a sound state, and the conditions under which a brick issues an instruction and the device takes up a
dictionary access: the terms statements are made in. -/

namespace Sys2Proof.Machine

/-! ### Memory -/

/-- The memories of the machine are in canonical form: host memory, device memory, the tile buffers and the local memory of every
brick. -/
def State.memOk (s : State) : Bool := s.hostMem.wf && s.devMem.wf && s.tbuf.wf && s.bricks.all (fun e => e.2.mem.wf)

/-! ### Bricks (R315, R316, R329) -/

/-- An instruction of the REG layout. -/
abbrev RegForm := BrickId → Field5 → Field5 → Field5 → Field5 → Instr

/-- The next command of a brick is this instruction: the brick runs, its instruction index lies in local memory, in a word without
an uncorrectable error, and that word is the instruction's. -/
structure Ready (s : State) (k : BrickId) (i : Instr) : Prop where
  run    : (s.brick k.val).run = true
  inside : 4 * (s.brick k.val).pc + 4 ≤ 262144
  sound  : (s.brick k.val).bad.contains (4 * (s.brick k.val).pc / 8) = false
  word   : brickEncode i = some (s.brick k.val).fetch
  known  : brickDecode k (s.brick k.val).fetch = some i

/-- The machine after an instruction that completes and is no taken branch: brick `k` has the contents `b` and goes on as R332
says. -/
def State.goOn (s : State) (k : BrickId) (b : Brick) : State :=
  s.setBrick k.val { b with pc := (loopNext b.pc b.loops).1, loops := (loopNext b.pc b.loops).2 }

/-- The machine after a taken branch of brick `k` to instruction `t` (R332). -/
def State.branchTo (s : State) (k : BrickId) (b : Brick) (t : Nat) : State :=
  s.setBrick k.val { b with pc := t, loops := loopBranch t b.loops }

/-! ### Dictionary accesses (R84-R92) -/

/-- The device takes up a write of CMD in a BAR0 page that names an operation and an object of this leaf: the host is attached, no
access of the page runs, and CMD is in form. -/
structure WindowOpen (s : State) (page : Fin 66) (op key : Nat) (cmd : BitVec 64) : Prop where
  host  : s.host = true
  idle  : (s.session page.val).bar0.busy = false
  op    : bits cmd.toNat 27 24 = op
  key   : cmdKey cmd.toNat = key
  clean : cmdReserved cmd.toNat = false
  here  : bit cmd.toNat 28 = false

/-- The machine once the registers of an accepted CMD write have been taken (R86). -/
def State.taken (s : State) (page : Fin 66) (cmd data : BitVec 64) : State := s.barTake page.val cmd.toNat (some data.toNat) none

/-- The machine once an access of a page has ended without an error, with the value it returns, if it returns one. -/
def State.answered (s : State) (page : Fin 66) (cmd : BitVec 64) (value : Option Nat) : State :=
  s.barDone page.val (cmdTag cmd.toNat) 0 value

/-- Every check of a write of a small object passes: the class, the session's level, its authentication, the value's type, range,
enumeration and reserved bits, and room in the staging set. -/
structure Admitted (s : State) (page : Fin 66) (key : Nat) (r : ObjRow) (v : Nat) : Prop where
  row    : s.object key = .ok r
  small  : r.large = false
  fits   : v < 2 ^ (8 * r.ty.size)
  right  : ∀ e ∈ s.writeChecks page.val r, e.1 = false
  value  : ∀ e ∈ s.setChecks page.val key r v, e.1 = false

/-- The device takes up a mailbox operation on an object of this leaf: the host is attached and the leaf has not left, no access
of the page runs, the descriptor and the buffer could be read, and every check of the descriptor passes. -/
structure MailboxOpen (s : State) (page : Fin 66) (key : Nat) (write : Bool) (cmd mbox : BitVec 64) (desc buffer : Bytes) : Prop where
  host   : s.host = true
  role   : s.rd Obj.role ≠ 4
  idle   : (s.session page.val).bar0.busy = false
  op     : bits cmd.toNat 27 24 = 6
  clean  : cmdReserved cmd.toNat = false
  base   : mbox.toNat % 64 = 0
  mine   : s.mboxAllowed page.val rightRead mbox.toNat 32 = true
  size   : desc.length = 32
  here   : mboxPartner desc = false
  dir    : mboxWrite desc = write
  key    : 256 * field desc 0 2 + field desc 2 1 = key
  whole  : buffer.length = field desc 4 4
  checks : ∀ e ∈ s.mboxChecks page.val desc (some buffer), e.1 = false

/-- The machine once a mailbox operation's CMD and MBOX have been taken. -/
def State.mailed (s : State) (page : Fin 66) (cmd mbox : BitVec 64) : State := s.barTake page.val cmd.toNat none (some mbox.toNat)

/-- The device takes up a datagram of the management port that is a request of a type on a session (R97, R99, R104, R110, R115): the
port is in service and the datagram is sent to it whole, no other waits before it, the header passes, the session is open and the
request comes from its source, next in sequence, with a good trailer once the session is authenticated. -/
structure RequestOpen (s : State) (type : Nat) (k : Fin 8) (m : Mgmt) (d : Datagram) : Prop where
  service : s.accepts d = true
  queue   : s.rx = []
  magic   : field d.body 0 2 = 0x6084
  version : field d.body 2 1 = 1
  type    : field d.body 3 1 = type
  session : field d.body 4 1 = k.val
  request : bit (field d.body 5 1) 0 = false
  header  : firstAbort (headerChecks d.body) = 0
  held    : (s.session (66 + k.val)).mgmt = some m
  source  : m.ip = d.ip.toNat ∧ m.port = d.port.toNat
  next    : field d.body 6 2 = (m.seq + 1) % 65536
  trailer : ∀ key, m.key = some key → trailerOk key d.body = true

/-! ### Commands of rings -/

/-- A fetched command starts: the machine in which it has started. -/
def Starts (s : State) (n op : Nat) (c : Cmd) (t : State) : Prop := s.startCmd n op = (some c, t)

/-- A command begins its work: a fetched one starts, or one of the ring that was halted and is resumed runs again. -/
def Begins (s : State) (n op : Nat) (c : Cmd) (t : State) : Prop := s.startAgain n op = (some c, t)

end Sys2Proof.Machine
end

