-- ==== Sys2Proof/Certificates/Slice0/Obligations.lean ====
section
/-! DEFINITION. The statements for the provers, family by family. -/

open Sys2Proof Sys2Proof.Machine

/-! ## Steps, reset and the queue -/

/-- A step takes the command at the front of the queue and runs it on the machine with the rest of the queue, whatever the command
and the machine.

With an empty queue a step changes nothing: the model's choice (assumption 2). -/
def Obligations.StepRunsFront : Prop :=
  (∀ (s : State) (c : Instr) (rest : List Instr),
    step { s with pending := c :: rest } = exec c { s with pending := rest }) ∧
  (∀ s : State, s.pending = [] → step s = .next s)

/-- What reset leaves where R66, R532 and R533 say so: bring-up phase 0 running with its 10,000 points ahead, the clock FREE, the role
PAIRING, no position, nothing bound, fetched, open or sent, and memories in canonical form. -/
def Obligations.ResetState : Prop :=
  let s := State.reset
  s.pending = [] ∧ s.rd Obj.phase = 0 ∧ s.rd (Obj.progState bringUp) = 1 ∧ s.rd (Obj.progTotal bringUp) = 10000 ∧
  s.rd (Obj.progPosition bringUp) = 0 ∧ s.rd Obj.clockState = 0 ∧ s.rd Obj.position = 0 ∧ s.rd Obj.courseLog2 = 8 ∧
  s.rd Obj.role = 0 ∧ s.rd Obj.paired = 0 ∧ s.host = false ∧ s.rings = [] ∧ s.streams = [] ∧ s.sessions = [] ∧ s.bricks = [] ∧
  s.joints = [] ∧ s.sent = [] ∧ s.memOk = true

/-- Every step keeps the memories in canonical form: host memory, device memory and the local memory of every brick. -/
def Obligations.StepKeepsMemory : Prop :=
  ∀ s t : State, s.memOk = true → step s = .next t → t.memOk = true

/-! ## Bricks -/

/-- Decoding the word of a brick instruction gives the instruction back: no operand bit of R328 is dropped, for any of the
instructions and any operands. -/
def Obligations.BrickDecodeOfEncode : Prop :=
  ∀ (i : Instr) (k : BrickId), brickOf i = some k → ∃ w, brickEncode i = some w ∧ brickDecode k w = some i

/-- Words written out from the encodings of R328 decode to the instructions they stand for. -/
def Obligations.BrickWords : Prop :=
  ∀ k : BrickId,
    brickDecode k 0b000000_00011_00001_00010_00000_000000#32 = some (.add k 3 1 2 0) ∧
    brickDecode k 0b000000_00100_00101_00110_00111_100011#32 = some (.fma k 4 5 6 7) ∧
    brickDecode k 0b000001_00001_00010_1111111111111110#32 = some (.addi k 1 2 0xFFFE) ∧
    brickDecode k 0b001010_00111_00010_0000000000000011#32 = some (.lw k 7 2 3) ∧
    brickDecode k 0b010000_00001_00010_1111111111111101#32 = some (.beq k 1 2 0xFFFD) ∧
    brickDecode k 0b010110_00000000000000000100000001#32 = some (.jmp k 257) ∧
    brickDecode k 0b011010_00000000000000000000000000#32 = some (.halt k 0) ∧
    brickDecode k 0b100000_00001_00010_00011_00000_000000#32 = some (.vfadd k 1 2 3 0) ∧
    brickDecode k 0b100010_00001_00010_00000_00001_000100#32 = some (.vcvtn k 1 2 0 1 4) ∧
    brickDecode k 0b100100_00001_00010_00011_00000_101000#32 = some (.mv k 1 2 3 0 0x28) ∧
    brickDecode k 0b100101_00010_00001_00000_00000_000001#32 = some (.afin k 2 1 0 0) ∧
    brickDecode k 0b101000_00000_00000_00000_00010_000110#32 = some (.jnext k 0 0 0 2) ∧
    brickDecode k 0b101010_00010_00100_00000_00000_000000#32 = some (.draw k 2 4 0 0) ∧
    brickDecode k 0b110000_00001_00000_0000000000000101#32 = some (.csrr k 1 0 5) ∧
    brickDecode k 0b111111_00000_00000_0000000000000000#32 = none

/-- The integer instructions of R331 with two source registers: the result goes to s[D], execution goes on, and everything else is
as it was.

The immediate instructions of R331: SHLI, SHRI and SRAI with an immediate from 0 to 31, LUI with A zero.

The FP32 instructions of R331: the result goes to s[D], and a NaN from operands none of which is one is counted (R171). -/
def Obligations.BrickScalarResults : Prop :=
  (∀ e ∈ ([(Instr.add, fun x y => x + y), (Instr.sub, fun x y => x - y), (Instr.and, fun x y => x &&& y),
      (Instr.or, fun x y => x ||| y), (Instr.xor, fun x y => x ^^^ y), (Instr.shl, fun x y => x <<< (y.toNat % 32)),
      (Instr.shr, fun x y => x >>> (y.toNat % 32)), (Instr.sra, fun x y => x.sshiftRight (y.toNat % 32)),
      (Instr.mul, fun x y => x * y), (Instr.mulh, fun x y => BitVec.ofInt 32 (x.toInt * y.toInt / 2 ^ 32)),
      (Instr.mulhu, fun x y => BitVec.ofNat 32 (x.toNat * y.toNat / 2 ^ 32)),
      (Instr.min, fun x y => if x.toInt < y.toInt then x else y), (Instr.max, fun x y => if x.toInt < y.toInt then y else x),
      (Instr.minu, fun x y => if x.toNat < y.toNat then x else y), (Instr.maxu, fun x y => if x.toNat < y.toNat then y else x),
      (Instr.slt, fun x y => if x.toInt < y.toInt then 1 else 0), (Instr.sltu, fun x y => if x.toNat < y.toNat then 1 else 0),
      (Instr.rotl, fun x y => x.rotateLeft (y.toNat % 32)),
      (Instr.flt, fun x y => if flt x y then 1 else 0), (Instr.feq, fun x y => if feq x y then 1 else 0)] :
      List (RegForm × (BitVec 32 → BitVec 32 → BitVec 32))),
  ∀ (s : State) (k : BrickId) (d a b : Field5), Ready s k (e.1 k d a b 0) →
    exec (e.1 k d a b 0) s =
      .next (s.goOn k ((s.brick k.val).setS d (e.2 ((s.brick k.val).s a) ((s.brick k.val).s b))))) ∧
  (∀ e ∈ ([(Instr.addi, fun _ _ => true, fun x y => x + y.signExtend 32), (Instr.andi, fun _ _ => true, fun x y => x &&& y.setWidth 32),
      (Instr.ori, fun _ _ => true, fun x y => x ||| y.setWidth 32), (Instr.xori, fun _ _ => true, fun x y => x ^^^ y.setWidth 32),
      (Instr.slti, fun _ _ => true, fun x y => if x.toInt < y.toInt then 1 else 0),
      (Instr.lui, fun a _ => a == 0, fun _ y => BitVec.ofNat 32 (y.toNat * 65536)),
      (Instr.shli, fun _ y => decide (y.toNat < 32), fun x y => x <<< y.toNat),
      (Instr.shri, fun _ y => decide (y.toNat < 32), fun x y => x >>> y.toNat),
      (Instr.srai, fun _ y => decide (y.toNat < 32), fun x y => x.sshiftRight y.toNat)] :
      List ((BrickId → Field5 → Field5 → BitVec 16 → Instr) × (Field5 → BitVec 16 → Bool) × (BitVec 32 → BitVec 16 → BitVec 32))),
  ∀ (s : State) (k : BrickId) (d a : Field5) (imm : BitVec 16), Ready s k (e.1 k d a imm) →
    (e.2.1 a imm = true → exec (e.1 k d a imm) s = .next (s.goOn k ((s.brick k.val).setS d (e.2.2 ((s.brick k.val).s a) imm)))) ∧
    (e.2.1 a imm = false → exec (e.1 k d a imm) s = .next (s.brickFault k.val 1))) ∧
  ((∀ e ∈ ([(Instr.fadd, Machine.fadd), (Instr.fsub, Machine.fsub), (Instr.fmul, Machine.fmul), (Instr.fmin, Machine.fmin),
      (Instr.fmax, Machine.fmax), (Instr.fdiv, Machine.fdiv)] : List (RegForm × (F32 → F32 → F32))),
    ∀ (s : State) (k : BrickId) (d a b : Field5), Ready s k (e.1 k d a b 0) →
      let x := (s.brick k.val).s a
      let y := (s.brick k.val).s b
      exec (e.1 k d a b 0) s =
        .next ((s.nanProduced (nanCount (e.2 x y) [x, y])).goOn k ((s.brick k.val).setS d (e.2 x y)))) ∧
  (∀ (s : State) (k : BrickId) (d a b c : Field5), Ready s k (.fma k d a b c) →
      let r := ffma ((s.brick k.val).s a) ((s.brick k.val).s b) ((s.brick k.val).s c)
      exec (.fma k d a b c) s =
        .next ((s.nanProduced (nanCount r [(s.brick k.val).s a, (s.brick k.val).s b, (s.brick k.val).s c])).goOn k
          ((s.brick k.val).setS d r))) ∧
  (∀ (s : State) (k : BrickId) (d a : Field5), Ready s k (.fsqrt k d a 0 0) →
      let x := (s.brick k.val).s a
      exec (.fsqrt k d a 0 0) s = .next ((s.nanProduced (nanCount (fsqrt x) [x])).goOn k ((s.brick k.val).setS d (fsqrt x)))) ∧
  (∀ (s : State) (k : BrickId) (d a b : Field5), Ready s k (.fcurve k d a b 0) →
      let x := (s.brick k.val).s a
      let r := s.brickCurve k.val (((s.brick k.val).s b).toNat % 16) x
      exec (.fcurve k d a b 0) s = .next ((s.nanProduced (nanCount r [x])).goOn k ((s.brick k.val).setS d r))) ∧
  (∀ e ∈ ([(Instr.fcvtsi, fun x => intToF32 x.toInt), (Instr.fcvtis, f32ToInt), (Instr.ffloor, ffloor)] :
      List (RegForm × (BitVec 32 → BitVec 32))),
    ∀ (s : State) (k : BrickId) (d a : Field5), Ready s k (e.1 k d a 0 0) →
      exec (e.1 k d a 0 0) s = .next (s.goOn k ((s.brick k.val).setS d (e.2 ((s.brick k.val).s a))))))

/-- The branches of R331: taken to own index + sext(OFF) when the condition holds, else on to the next instruction.

JMP, CALL, JR, LOOP and HALT (R331, R332, R346).

The innermost loop of R332 at its last instruction: a further run of the body, or on past the loop with the next one out.

CSRR reads each of the seven status registers of R344, and no other; CSRW writes TNUM. -/
def Obligations.BrickControl : Prop :=
  (∀ e ∈ ([(Instr.beq, fun x y => decide (x = y)), (Instr.bne, fun x y => decide (x ≠ y)), (Instr.blt, fun x y => decide (x.toInt < y.toInt)),
      (Instr.bge, fun x y => decide (y.toInt ≤ x.toInt)), (Instr.bltu, fun x y => decide (x.toNat < y.toNat)),
      (Instr.bgeu, fun x y => decide (y.toNat ≤ x.toNat))] :
      List ((BrickId → Field5 → Field5 → BitVec 16 → Instr) × (BitVec 32 → BitVec 32 → Bool))),
  ∀ (s : State) (k : BrickId) (a b : Field5) (off : BitVec 16), Ready s k (e.1 k a b off) →
    let q := s.brick k.val
    exec (e.1 k a b off) s =
      .next (if e.2 (q.s a) (q.s b) then s.branchTo k q (ofSigned 32 ((q.pc : Int) + off.toInt)) else s.goOn k q)) ∧
  (∀ (s : State) (k : BrickId) (a : Field5) (target : BitVec 26) (imm : BitVec 16),
    let q := s.brick k.val
    (Ready s k (.jmp k target) → exec (.jmp k target) s = .next (s.branchTo k q target.toNat)) ∧
    (Ready s k (.call k target) →
      exec (.call k target) s = .next (s.branchTo k (q.setS 31 (BitVec.ofNat 32 (q.pc + 1))) target.toNat)) ∧
    (Ready s k (.jr k 0 a 0 0) → exec (.jr k 0 a 0 0) s = .next (s.branchTo k q (q.s a).toNat)) ∧
    (Ready s k (.loop k 0 a imm) → 1 ≤ imm.toNat → imm.toNat ≤ 4095 → q.loops.length < 2 →
      ((q.s a).toNat = 0 → exec (.loop k 0 a imm) s = .next (s.goOn k { q with pc := q.pc + imm.toNat })) ∧
      ((q.s a).toNat ≠ 0 → exec (.loop k 0 a imm) s =
        .next (s.setBrick k.val { q with pc := q.pc + 1
                                         loops := ⟨q.pc + 1, q.pc + imm.toNat, (q.s a).toNat⟩ :: q.loops }))) ∧
    (Ready s k (.loop k 0 a imm) → 1 ≤ imm.toNat → imm.toNat ≤ 4095 → 2 ≤ q.loops.length →
      exec (.loop k 0 a imm) s = .next (s.brickFault k.val 5)) ∧
    (Ready s k (.halt k 0) → exec (.halt k 0) s = .next (s.brickFault k.val 8))) ∧
  (∀ (first last left : Nat) (ls : List LoopFrame),
    (2 ≤ left → loopNext last (⟨first, last, left⟩ :: ls) = (first, ⟨first, last, left - 1⟩ :: ls)) ∧
    (left ≤ 1 → loopNext last (⟨first, last, left⟩ :: ls) = loopNext last ls) ∧
    (∀ pc, pc ≠ last → loopNext pc (⟨first, last, left⟩ :: ls) = (pc + 1, ⟨first, last, left⟩ :: ls)) ∧
    (∀ pc, loopNext pc [] = (pc + 1, []))) ∧
  (∀ (s : State) (k : BrickId) (d : Field5) (imm : BitVec 16),
    let q := s.brick k.val
    (Ready s k (.csrr k d 0 imm) → imm.toNat ≤ 6 →
      ∃ v, csrValue s k.val q imm.toNat = some v ∧ exec (.csrr k d 0 imm) s = .next (s.goOn k (q.setS d (BitVec.ofNat 32 v)))) ∧
    (Ready s k (.csrr k d 0 imm) → 6 < imm.toNat → exec (.csrr k d 0 imm) s = .next (s.brickFault k.val 1)) ∧
    (Ready s k (.csrw k d 0 5) → exec (.csrw k d 0 5) s = .next (s.goOn k { q with tnum := (q.s d).toNat % 65536 })) ∧
    (Ready s k (.csrw k d 0 imm) → imm.toNat ≠ 5 → exec (.csrw k d 0 imm) s = .next (s.brickFault k.val 1)))

/-- LW, SW, VLD and VST (R334): an access that faults stops the brick; any other moves the bytes at s[A] + sext(IMM) × size between
the register and local memory.

The fault of an access of `n` bytes of local memory (R320, R321, R334, R346): BOUNDS for an address out of range or not
aligned, PROTECTED for a store into the code, ECC for a load from a bad word, checked in this order. -/
def Obligations.BrickLoadsAndStores : Prop :=
  (∀ (s : State) (k : BrickId) (d a : Field5) (imm : BitVec 16),
    let q := s.brick k.val
    let w := memAddr (q.s a) imm 4
    let v := memAddr (q.s a) imm 64
    (w = (((q.s a).toNat : Int) + imm.toInt * 4) % 2 ^ 32 ∧ v = (((q.s a).toNat : Int) + imm.toInt * 64) % 2 ^ 32) ∧
    (∀ e ∈ ([(Instr.lw, 0x0A), (Instr.sw, 0x0B), (Instr.vld, 0x0C), (Instr.vst, 0x0D)] :
      List ((BrickId → Field5 → Field5 → BitVec 16 → Instr) × BitVec 6)),
      brickEncode (e.1 k d a imm) = some (e.2 ++ d ++ a ++ imm)) ∧
    (Ready s k (.lw k d a imm) →
      (∀ c, q.accessFault w 4 false = some c → exec (.lw k d a imm) s = .next (s.brickFault k.val c)) ∧
      (q.accessFault w 4 false = none →
        exec (.lw k d a imm) s = .next (s.goOn k (q.setS d (BitVec.ofNat 32 (ofLE (q.mem.readBytes w 4))))))) ∧
    (Ready s k (.sw k d a imm) →
      (∀ c, q.accessFault w 4 true = some c → exec (.sw k d a imm) s = .next (s.brickFault k.val c)) ∧
      (q.accessFault w 4 true = none →
        exec (.sw k d a imm) s = .next (s.goOn k { q with
          mem := q.mem.writeBytes w (leBytes 4 (q.s d).toNat)
          bad := q.bad.filter (fun x => !(w ≤ 8 * x && 8 * x + 8 ≤ w + 4)) }))) ∧
    (Ready s k (.vld k d a imm) → d.toNat < 16 →
      (∀ c, q.accessFault v 64 false = some c → exec (.vld k d a imm) s = .next (s.brickFault k.val c)) ∧
      (q.accessFault v 64 false = none →
        exec (.vld k d a imm) s = .next (s.goOn k (q.setV d (BitVec.ofNat 512 (ofLE (q.mem.readBytes v 64))))))) ∧
    (Ready s k (.vst k d a imm) → d.toNat < 16 →
      (∀ c, q.accessFault v 64 true = some c → exec (.vst k d a imm) s = .next (s.brickFault k.val c)) ∧
      (q.accessFault v 64 true = none →
        exec (.vst k d a imm) s = .next (s.goOn k { q with
          mem := q.mem.writeBytes v (leBytes 64 (q.v d).toNat)
          bad := q.bad.filter (fun x => !(v ≤ 8 * x && 8 * x + 8 ≤ v + 64)) })))) ∧
  (∀ (b : Brick) (addr n : Nat), 0 < n →
    (262144 < addr + n ∨ addr % n ≠ 0 → ∀ store, b.accessFault addr n store = some 2) ∧
    (addr + n ≤ 262144 → addr % n = 0 →
      (b.accessFault addr n true = if addr < b.codeBytes then some 3 else none) ∧
      (b.accessFault addr n false = none ↔ ∀ w ∈ b.bad, ¬ (addr / 8 ≤ w ∧ w ≤ (addr + n - 1) / 8))))

/-- The frame of a store of `n` bytes in local memory: the bytes stored read back, and every other byte of the brick's memory reads
as before (SW with n = 4, VST with n = 64), at the address the instruction computes. -/
def Obligations.BrickStoreFrame : Prop :=
  ∀ (s : State) (k : BrickId) (d a : Field5) (imm : BitVec 16), (s.brick k.val).mem.wf = true →
    ∀ t, ((Ready s k (.sw k d a imm) ∧ (s.brick k.val).accessFault (memAddr ((s.brick k.val).s a) imm 4) 4 true = none ∧
        exec (.sw k d a imm) s = .next t) →
      (t.brick k.val).mem.readBytes (memAddr ((s.brick k.val).s a) imm 4) 4 = leBytes 4 ((s.brick k.val).s d).toNat ∧
      (∀ x, x < memAddr ((s.brick k.val).s a) imm 4 ∨ memAddr ((s.brick k.val).s a) imm 4 + 4 ≤ x →
        (t.brick k.val).mem.read x = (s.brick k.val).mem.read x) ∧ (t.brick k.val).mem.wf = true) ∧
    ((Ready s k (.vst k d a imm) ∧ d.toNat < 16 ∧
        (s.brick k.val).accessFault (memAddr ((s.brick k.val).s a) imm 64) 64 true = none ∧ exec (.vst k d a imm) s = .next t) →
      (t.brick k.val).mem.readBytes (memAddr ((s.brick k.val).s a) imm 64) 64 = leBytes 64 ((s.brick k.val).v d).toNat ∧
      (∀ x, x < memAddr ((s.brick k.val).s a) imm 64 ∨ memAddr ((s.brick k.val).s a) imm 64 + 64 ≤ x →
        (t.brick k.val).mem.read x = (s.brick k.val).mem.read x) ∧ (t.brick k.val).mem.wf = true)

/-- The lane instructions of R335 on two vector registers: lane by lane into v[D]; NaNs of the FP32 ones are counted (R171).

The instructions of R335 with a scalar operand s[C], and those on one vector register.

VFMA and VFMAS (R335): each lane is a fused multiply-add into v[D], rounded once.

The instructions of R335 that compare, select, move and reduce lanes; and the encoding of every instruction of R335. -/
def Obligations.BrickLaneResults : Prop :=
  (∀ e ∈ ([(Instr.vfadd, true, Machine.fadd), (Instr.vfsub, true, Machine.fsub), (Instr.vfmul, true, Machine.fmul),
      (Instr.vfmin, true, Machine.fmin), (Instr.vfmax, true, Machine.fmax), (Instr.vfdiv, true, Machine.fdiv),
      (Instr.vadd, false, fun x y => x + y), (Instr.vsub, false, fun x y => x - y), (Instr.vand, false, fun x y => x &&& y),
      (Instr.vor, false, fun x y => x ||| y), (Instr.vxor, false, fun x y => x ^^^ y), (Instr.vmul, false, fun x y => x * y)] :
      List (RegForm × Bool × (BitVec 32 → BitVec 32 → BitVec 32))),
  ∀ (s : State) (k : BrickId) (d a b : Field5), Ready s k (e.1 k d a b 0) →
    let xs := lanesOf ((s.brick k.val).v a)
    let ys := lanesOf ((s.brick k.val).v b)
    let r := List.zipWith e.2.2 xs ys
    let n := if e.2.1 then sumN (List.zipWith (fun z p => nanCount z [p.1, p.2]) r (List.zip xs ys)) else 0
    (d.toNat < 16 → a.toNat < 16 → b.toNat < 16 →
      exec (e.1 k d a b 0) s = .next ((s.nanProduced n).goOn k ((s.brick k.val).setV d (ofLanes r)))) ∧
    ((16 ≤ d.toNat ∨ 16 ≤ a.toNat ∨ 16 ≤ b.toNat) → exec (e.1 k d a b 0) s = .next (s.brickFault k.val 1))) ∧
  ((∀ e ∈ ([(Instr.vfmuls, true, Machine.fmul), (Instr.vshl, false, fun x y => x <<< (y.toNat % 32)),
      (Instr.vshr, false, fun x y => x >>> (y.toNat % 32)), (Instr.vsra, false, fun x y => x.sshiftRight (y.toNat % 32))] :
      List (RegForm × Bool × (BitVec 32 → BitVec 32 → BitVec 32))),
    ∀ (s : State) (k : BrickId) (d a c : Field5), Ready s k (e.1 k d a 0 c) → d.toNat < 16 → a.toNat < 16 →
      let xs := lanesOf ((s.brick k.val).v a)
      let y := (s.brick k.val).s c
      let r := xs.map (fun x => e.2.2 x y)
      let n := if e.2.1 then sumN (List.zipWith (fun z x => nanCount z [x, y]) r xs) else 0
      exec (e.1 k d a 0 c) s = .next ((s.nanProduced n).goOn k ((s.brick k.val).setV d (ofLanes r)))) ∧
  (∀ e ∈ ([(Instr.vfsqrt, Machine.fsqrt), (Instr.vffloor, Machine.ffloor)] : List (RegForm × (F32 → F32))),
    ∀ (s : State) (k : BrickId) (d a : Field5), Ready s k (e.1 k d a 0 0) → d.toNat < 16 → a.toNat < 16 →
      let xs := lanesOf ((s.brick k.val).v a)
      let r := xs.map e.2
      exec (e.1 k d a 0 0) s = .next ((s.nanProduced (sumN (List.zipWith (fun z x => nanCount z [x]) r xs))).goOn k
        ((s.brick k.val).setV d (ofLanes r)))) ∧
  (∀ (s : State) (k : BrickId) (d a c : Field5), Ready s k (.vcurve k d a 0 c) → d.toNat < 16 → a.toNat < 16 →
      let xs := lanesOf ((s.brick k.val).v a)
      let r := xs.map (s.brickCurve k.val (((s.brick k.val).s c).toNat % 16))
      exec (.vcurve k d a 0 c) s = .next ((s.nanProduced (sumN (List.zipWith (fun z x => nanCount z [x]) r xs))).goOn k
        ((s.brick k.val).setV d (ofLanes r))))) ∧
  (∀ (s : State) (k : BrickId) (d a b c : Field5), d.toNat < 16 → a.toNat < 16 →
    let q := s.brick k.val
    let out (ys : List F32) : List F32 :=
      List.zipWith (fun p z => ffma p.1 p.2 z) (List.zip (lanesOf (q.v a)) ys) (lanesOf (q.v d))
    let made (ys : List F32) : Nat :=
      sumN (List.zipWith (fun r p => nanCount r [p.1.1, p.1.2, p.2]) (out ys)
        (List.zip (List.zip (lanesOf (q.v a)) ys) (lanesOf (q.v d))))
    (Ready s k (.vfma k d a b 0) → b.toNat < 16 →
      exec (.vfma k d a b 0) s = .next ((s.nanProduced (made (lanesOf (q.v b)))).goOn k (q.setV d (ofLanes (out (lanesOf (q.v b))))))) ∧
    (Ready s k (.vfmas k d a 0 c) →
      exec (.vfmas k d a 0 c) s = .next ((s.nanProduced (made (List.replicate 16 (q.s c)))).goOn k
        (q.setV d (ofLanes (out (List.replicate 16 (q.s c)))))))) ∧
  (∀ (s : State) (k : BrickId) (d a b c : Field5),
    let q := s.brick k.val
    (∀ e ∈ ([(Instr.vfadd, 0x00), (Instr.vfsub, 0x01), (Instr.vfmul, 0x02), (Instr.vfma, 0x03), (Instr.vfmas, 0x04), (Instr.vfmuls, 0x05),
      (Instr.vfmin, 0x06), (Instr.vfmax, 0x07), (Instr.vfdiv, 0x08), (Instr.vfsqrt, 0x09), (Instr.vcurve, 0x0A), (Instr.vffloor, 0x0B),
      (Instr.vflt, 0x0C), (Instr.vfeq, 0x0D), (Instr.vsel, 0x0E), (Instr.vadd, 0x10), (Instr.vsub, 0x11), (Instr.vand, 0x12),
      (Instr.vor, 0x13), (Instr.vxor, 0x14), (Instr.vshl, 0x15), (Instr.vshr, 0x16), (Instr.vsra, 0x17), (Instr.vmul, 0x18),
      (Instr.vbc, 0x20), (Instr.vget, 0x21), (Instr.vput, 0x22), (Instr.vperm, 0x23), (Instr.vsum, 0x24), (Instr.vhmax, 0x25),
      (Instr.vmov, 0x26)] : List (RegForm × BitVec 6)),
      brickEncode (e.1 k d a b c) = some (0x20#6 ++ d ++ a ++ b ++ c ++ e.2)) ∧
    (∀ e ∈ ([(Instr.vflt, Machine.flt), (Instr.vfeq, Machine.feq)] : List (RegForm × (F32 → F32 → Bool))),
      Ready s k (e.1 k d a b 0) → a.toNat < 16 → b.toNat < 16 →
      exec (e.1 k d a b 0) s =
        .next (s.goOn k (q.setS d (BitVec.ofNat 32 (ofBits (List.zipWith e.2 (lanesOf (q.v a)) (lanesOf (q.v b)))))))) ∧
    (Ready s k (.vsel k d a b c) → d.toNat < 16 → a.toNat < 16 → b.toNat < 16 →
      exec (.vsel k d a b c) s = .next (s.goOn k (q.setV d (ofLanes ((List.range 16).map (fun j =>
        BitVec.ofNat 32 (elemOf 32 j (q.v (if bit (q.s c).toNat j then a else b)))))))) ) ∧
    (Ready s k (.vbc k d a 0 0) → d.toNat < 16 →
      exec (.vbc k d a 0 0) s = .next (s.goOn k (q.setV d (ofLanes (List.replicate 16 (q.s a)))))) ∧
    (Ready s k (.vget k d a 0 c) → a.toNat < 16 →
      exec (.vget k d a 0 c) s = .next (s.goOn k (q.setS d (BitVec.ofNat 32 (elemOf 32 ((q.s c).toNat % 16) (q.v a)))))) ∧
    (Ready s k (.vput k d a 0 c) → d.toNat < 16 →
      exec (.vput k d a 0 c) s =
        .next (s.goOn k (q.setV d (ofLanes ((lanesOf (q.v d)).set ((q.s c).toNat % 16) (q.s a)))))) ∧
    (Ready s k (.vperm k d a b 0) → d.toNat < 16 → a.toNat < 16 → b.toNat < 16 →
      exec (.vperm k d a b 0) s = .next (s.goOn k (q.setV d (ofElems 8 ((vecBytes (q.v b)).map (fun y =>
        if 128 ≤ y.toNat then 0 else nth 0 ((vecBytes (q.v a)).map (·.toNat)) (y.toNat % 64))))))) ∧
    (Ready s k (.vsum k d a 0 0) → a.toNat < 16 →
      let r := chunkSum ((lanesOf (q.v a)).map f32v)
      exec (.vsum k d a 0 0) s = .next ((s.nanProduced (nanCount r (lanesOf (q.v a)))).goOn k (q.setS d r))) ∧
    (Ready s k (.vhmax k d a 0 0) → a.toNat < 16 →
      exec (.vhmax k d a 0 0) s = .next (s.goOn k (q.setS d (maxF32 (lanesOf (q.v a)))))) ∧
    (Ready s k (.vmov k d a 0 0) → d.toNat < 16 → a.toNat < 16 →
      exec (.vmov k d a 0 0) s = .next (s.goOn k (q.setV d (q.v a)))))

/-- Widening and narrowing of lanes (R336, R337): VCVTW widens elements 16P to 16P + 15; VCVTN and VCVTNS narrow the lanes into them,
keep the others, and count the narrowing; VCVTNS before the first JNEXT faults (R343). -/
def Obligations.BrickConversions : Prop :=
  ∀ (s : State) (k : BrickId) (d a b c : Field5) (fn : BitVec 6), d.toNat < 16 → a.toNat < 16 → partOk fn c = true →
    let q := s.brick k.val
    let w := brickFormatBits fn.toNat
    let old := (List.range (512 / w)).map (fun e => elemOf w e (q.v d))
    let into (mode : Nat → Mode) : List Narrow :=
      List.zipWith (fun j x => narrowElement fn.toNat 0 (mode j) x) (List.range 16) (lanesOf (q.v a))
    let out (mode : Nat → Mode) : State :=
      (s.countNarrow (((s.role k.val).map (·.plan)).getD 0) (q.ptag % 2 ^ 15) q.tagChunk q.tnum
        (countElements (lanesOf (q.v a)) (into mode))).goOn k
        (q.setV d (ofElems w (old.take (16 * c.toNat) ++ (into mode).map (·.code) ++ old.drop (16 * c.toNat + 16))))
    (Ready s k (.vcvtw k d a 0 c fn) →
      exec (.vcvtw k d a 0 c fn) s = .next (s.goOn k (q.setV d (ofLanes ((List.range 16).map (fun j =>
        ofFv (elementValue fn.toNat (elemOf w (16 * c.toNat + j) (q.v a))))))))) ∧
    (Ready s k (.vcvtn k d a 0 c fn) → exec (.vcvtn k d a 0 c fn) s = .next (out (fun _ => .rne))) ∧
    (Ready s k (.vcvtns k d a b c fn) → b.toNat % 2 = 0 → fn.toNat < 0x0A →
      (q.stepped = true → exec (.vcvtns k d a b c fn) s =
        .next (out (fun j => .stoch (randomByte (s.rd (Obj.streamSeed (q.ptag % 2 ^ 15))) (q.pair b + j))))) ∧
      (q.stepped = false → exec (.vcvtns k d a b c fn) s = .next (s.brickFault k.val 10)))

/-- The accumulator instructions of R341; NaNs that chunks closed on the way bring forth are counted (R171). The result of ACMP where a NaN takes
part is free (assumption 4). -/
def Obligations.BrickAccumulators : Prop :=
  ∀ (s : State) (k : BrickId) (d a b : Field5),
    let q := s.brick k.val
    (∀ e ∈ ([(Instr.azero, 0), (Instr.afin, 1), (Instr.aadd, 2), (Instr.asumv, 3), (Instr.acmp, 4), (Instr.azeroi, 5)] :
      List (RegForm × BitVec 6)), ∀ c : Field5, brickEncode (e.1 k d a b c) = some (0x25#6 ++ d ++ a ++ b ++ c ++ e.2)) ∧
    (Ready s k (.azero k d 0 0 0) → d.toNat < 4 → exec (.azero k d 0 0 0) s = .next (s.goOn k (q.setAcc d {}))) ∧
    (Ready s k (.azeroi k d 0 0 0) → d.toNat < 4 → exec (.azeroi k d 0 0 0) s = .next (s.goOn k (q.setAcc d { int := true }))) ∧
    (Ready s k (.afin k d a 0 0) → d.toNat < 16 → a.toNat < 4 →
      ((q.acc a).int = true → exec (.afin k d a 0 0) s = .next ((s.nanProduced 0).goOn k
        ((q.setV d (ofLanes ((q.acc a).lanes.map (fun l => BitVec.ofInt 32 l.sum.val)))).setAcc a { int := true }))) ∧
      ((q.acc a).int = false → exec (.afin k d a 0 0) s =
        .next ((s.nanProduced (sumN ((q.acc a).lanes.map AccLane.nanAtFin))).goOn k
          ((q.setV d (ofLanes ((q.acc a).lanes.map AccLane.fin))).setAcc a {})))) ∧
    (Ready s k (.aadd k d a 0 0) → d.toNat < 4 → a.toNat < 16 →
      ((q.acc d).int = false → exec (.aadd k d a 0 0) s = .next ((s.nanProduced (sumN
          (List.zipWith (fun l x => (l.takeAll [f32v x]).2) (q.acc d).lanes (lanesOf (q.v a))))).goOn k (q.setAcc d { q.acc d with
        lanes := List.zipWith (fun l x => l.take (f32v x)) (q.acc d).lanes (lanesOf (q.v a)) }))) ∧
      ((q.acc d).int = true → exec (.aadd k d a 0 0) s = .next (s.brickFault k.val 6))) ∧
    (Ready s k (.asumv k d a 0 0) → d.toNat < 4 → a.toNat < 16 →
      ((q.acc d).int = false → exec (.asumv k d a 0 0) s = .next ((s.nanProduced
          ((nth ({} : AccLane) (q.acc d).lanes 0).takeAll ((lanesOf (q.v a)).map f32v)).2).goOn k (q.setAcc d { q.acc d with
        lanes := (q.acc d).lanes.set 0 ((lanesOf (q.v a)).foldl (fun l x => l.take (f32v x)) (nth ({} : AccLane) (q.acc d).lanes 0)) }))) ∧
      ((q.acc d).int = true → exec (.asumv k d a 0 0) s = .next (s.brickFault k.val 6))) ∧
    (Ready s k (.acmp k d a b 0) → a.toNat < 4 →
      let l := nth ({} : AccLane) (q.acc a).lanes 0
      ((q.acc a).int = true ∨ l.stack ≠ [] → exec (.acmp k d a b 0) s = .next (s.brickFault k.val 6)) ∧
      ((q.acc a).int = false → l.stack = [] →
        (∀ r, compareSum l.sum (q.s b) = some r → exec (.acmp k d a b 0) s = .next (s.goOn k (q.setS d r))) ∧
        (compareSum l.sum (q.s b) = none → exec (.acmp k d a b 0) s = .next (s.goOn k (q.setS d (Config.acmpNan (q.s b)))))))

/-- MV (R340): the E products of each lane of a group enter its accumulator lane, in the float formats as exact products taken in
order, in I8 as integers; POST advances s[A] by the bytes read. A wrong mode of the accumulator, an address out of range or not
aligned, a bad word, and in I8 more than 32,768 products of a lane, fault. -/
def Obligations.BrickMv : Prop :=
  ∀ (s : State) (k : BrickId) (d a b c : Field5) (fn : BitVec 6), Ready s k (.mv k d a b c fn) →
    let q := s.brick k.val
    let f := fn.toNat % 32
    let e := mvElements f
    let w := brickWidth e
    let bytes := 2 * w * e
    let addr := (q.s a).toNat
    let inside := addr % 64 = 0 ∧ addr + bytes ≤ 262144
    let clean := ∀ y ∈ q.bad, ¬ (addr / 8 ≤ y ∧ y ≤ (addr + bytes - 1) / 8)
    let wt (j i : Nat) : Nat := field (q.mem.readBytes addr bytes) ((j * e + i) * w / 8) (w / 8)
    let x (i : Nat) : Nat := elemOf w (e * c.toNat + i) (q.v b)
    let prod (j i : Nat) : Fv := fvMul (elementValue f (wt j i)) (elementValue f (x i))
    let made := sumN ((List.range 16).map (fun j => ((List.range e).filter (fun i =>
      prod j i == .nan && elementValue f (wt j i) != .nan && elementValue f (x i) != .nan)).length))
    let closed := sumN ((List.zip (List.range 16) (q.acc d).lanes).map (fun p => (p.2.takeAll ((List.range e).map (prod p.1))).2))
    let post := if 32 ≤ fn.toNat then q.setS a (q.s a + BitVec.ofNat 32 bytes) else q
    let put (ls : List AccLane) : Brick := post.setAcc d { q.acc d with lanes := ls }
    (d.toNat < 4 → b.toNat < 16 → e ≠ 0 → c.toNat < (if e = 1 then 16 else 4) →
      ((q.acc d).int ≠ (f == 6) → exec (.mv k d a b c fn) s = .next (s.brickFault k.val 6)) ∧
      ((q.acc d).int = (f == 6) → ¬ inside → exec (.mv k d a b c fn) s = .next (s.brickFault k.val 2)) ∧
      ((q.acc d).int = (f == 6) → inside → ¬ clean → exec (.mv k d a b c fn) s = .next (s.brickFault k.val 4)) ∧
      ((q.acc d).int = false → f ≠ 6 → inside → clean → exec (.mv k d a b c fn) s = .next ((s.nanProduced (made + closed)).goOn k
        (put ((List.zip (List.range 16) (q.acc d).lanes).map
          (fun p => (List.range e).foldl (fun l i => l.take (prod p.1 i)) p.2))))) ∧
      ((q.acc d).int = true → f = 6 → inside → clean →
        let ints (j : Nat) : List Int := (List.range e).map (fun i => intValue 6 (wt j i) * intValue 6 (x i))
        (∀ ls, mapLanes (fun j l => l.takeInt (ints j)) (q.acc d).lanes = some ls →
          exec (.mv k d a b c fn) s = .next (s.goOn k (put ls))) ∧
        (mapLanes (fun j l => l.takeInt (ints j)) (q.acc d).lanes = none →
          exec (.mv k d a b c fn) s = .next (s.brickFault k.val 6)))) ∧
    (4 ≤ d.toNat ∨ 16 ≤ b.toNat ∨ e = 0 ∨ (if e = 1 then 16 else 4) ≤ c.toNat →
      exec (.mv k d a b c fn) s = .next (s.brickFault k.val 1))

/-- JRDV and JRDS on a joint (R327, R342, R344): the words read, JSTAT, and the joint after the read; a brick waits where the joint
has nothing to read, and faults on a port that is not bound.

JWRV, JWRS, JEND and JTAG on a joint (R342): words enter the open packet or the brick waits for space; JEND ends the packet;
JTAG sets the tag and step of the port's next packet.

JNEXT on a joint (R324, R342): the reader steps to the next record, whose tag and step PTAG and STEP take; a spacer leaves them.

JDISC, JMARK, JREW and JREL act on the joint's reader as R372 says of DISCARD, MARK, REWIND and RELEASE.

DRAW (R343): a number from the stream's seed and the index in s[A], s[A + 1]; before the first JNEXT it faults. -/
def Obligations.BrickJoints : Prop :=
  (∀ (s : State) (k : BrickId) (d c : Field5), c.toNat < 8 →
    let q := s.brick k.val
    (Ready s k (.jrdv k d 0 0 c) → d.toNat < 16 →
      (s.portIn k.val c.toNat = none → exec (.jrdv k d 0 0 c) s = .next (s.brickFault k.val 7)) ∧
      (∀ key r j, s.portIn k.val c.toNat = some (.joint key r) → s.joints.find key = some j →
        (j.read r 8 = none → exec (.jrdv k d 0 0 c) s = .next s) ∧
        (∀ x j', j.read r 8 = some (x, j') → exec (.jrdv k d 0 0 c) s =
          .next (({ s with joints := s.joints.put key j' }).goOn k
            (({ q with jstat := jstatOf x } : Brick).setV d (ofElems 64 x.words)))))) ∧
    (Ready s k (.jrds k d 0 0 c) → d.toNat % 2 = 0 → d ≠ 0 →
      (s.portIn k.val c.toNat = none → exec (.jrds k d 0 0 c) s = .next (s.brickFault k.val 7)) ∧
      (∀ key r j, s.portIn k.val c.toNat = some (.joint key r) → s.joints.find key = some j →
        (j.read r 1 = none → exec (.jrds k d 0 0 c) s = .next s) ∧
        (∀ x j', j.read r 1 = some (x, j') → exec (.jrds k d 0 0 c) s =
          .next (({ s with joints := s.joints.put key j' }).goOn k
            (({ q with jstat := jstatOf x } : Brick).setPair d (nth 0 x.words 0))))))) ∧
  (∀ (s : State) (k : BrickId) (a b c : Field5), c.toNat < 8 →
    let q := s.brick k.val
    let o := nth {} q.outs c.toNat
    let tag := o.tag + 2 ^ 32 * o.step
    (∀ key r, s.portOut k.val c.toNat = some (.joint key r) →
      (Ready s k (.jwrv k 0 a 0 c) → a.toNat < 16 → exec (.jwrv k 0 a 0 c) s = .next
        (match s.jointWrite key tag (o.tag % 2 ^ 15) q.chunk ((List.range 8).map (fun e => elemOf 64 e (q.v a))) with
          | some t => t.goOn k q
          | none => s.jointWait key (o.tag % 2 ^ 15))) ∧
      (Ready s k (.jwrs k 0 a 0 c) → a.toNat % 2 = 0 → exec (.jwrs k 0 a 0 c) s = .next
        (match s.jointWrite key tag (o.tag % 2 ^ 15) q.chunk [q.pair a] with
          | some t => t.goOn k q
          | none => s.jointWait key (o.tag % 2 ^ 15))) ∧
      (Ready s k (.jend k 0 0 0 c) → ∀ j, s.joints.find key = some j →
        exec (.jend k 0 0 0 c) s = .next (({ s with joints := s.joints.put key j.endPacket }).goOn k q))) ∧
    (∀ p, s.portOut k.val c.toNat = some p → Ready s k (.jtag k 0 a b c) → b.toNat % 2 = 0 →
      exec (.jtag k 0 a b c) s = .next (s.goOn k { q with outs := q.outs.set c.toNat { tag := (q.s a).toNat, step := q.pair b } }))) ∧
  (∀ (s : State) (k : BrickId) (c : Field5), c.toNat < 8 → Ready s k (.jnext k 0 0 0 c) →
    ∀ key r j, s.portIn k.val c.toNat = some (.joint key r) → s.joints.find key = some j →
    let q := s.brick k.val
    (j.next r = none → exec (.jnext k 0 0 0 c) s = .next s) ∧
    (∀ n j', j.next r = some (.spacer n, j') → exec (.jnext k 0 0 0 c) s =
      .next (({ s with joints := s.joints.put key j' }).goOn k { q with stepped := true })) ∧
    (∀ tag ws ended stream chunk sp j', j.next r = some (.packet tag ws ended stream chunk sp, j') →
      ∃ t, exec (.jnext k 0 0 0 c) s = .next t ∧ t.joints = s.joints.put key j' ∧
        (t.brick k.val).ptag = tag % 2 ^ 32 ∧ (t.brick k.val).step = tag / 2 ^ 32 % 2 ^ 64 ∧ (t.brick k.val).stepped = true ∧
        (t.brick k.val).regs = q.regs ∧ (t.brick k.val).vecs = q.vecs ∧ (t.brick k.val).accs = q.accs ∧
        (t.brick k.val).mem = q.mem ∧ t.dict = s.dict ∧ t.hostMem = s.hostMem ∧ t.devMem = s.devMem)) ∧
  (∀ e ∈ ([(Instr.jdisc, Joint.discard), (Instr.jmark, Joint.mark), (Instr.jrew, Joint.rewind), (Instr.jrel, Joint.release)] :
      List (RegForm × (Joint → Nat → Joint))),
  ∀ (s : State) (k : BrickId) (c : Field5), c.toNat < 8 → Ready s k (e.1 k 0 0 0 c) →
    (s.portIn k.val c.toNat = none → exec (e.1 k 0 0 0 c) s = .next (s.brickFault k.val 7)) ∧
    (∀ key r j, s.portIn k.val c.toNat = some (.joint key r) → s.joints.find key = some j →
      exec (e.1 k 0 0 0 c) s = .next (({ s with joints := s.joints.put key (e.2 j r) }).goOn k (s.brick k.val)))) ∧
  (∀ (s : State) (k : BrickId) (d a : Field5), Ready s k (.draw k d a 0 0) → d.toNat % 2 = 0 → d ≠ 0 → a.toNat % 2 = 0 →
    let q := s.brick k.val
    (q.stepped = true → exec (.draw k d a 0 0) s =
      .next (s.goOn k (q.setPair d (Machine.draw (s.rd (Obj.streamSeed (q.ptag % 2 ^ 15))) (q.pair a))))) ∧
    (q.stepped = false → exec (.draw k d a 0 0) s = .next (s.brickFault k.val 10)))

/-- A brick that is not running issues nothing; a running one whose index lies past local memory, in a word with an error, or on an
unassigned word faults with BOUNDS, ECC or ILLEGAL (R315, R329, R346), whatever instruction is asked of it.

Unused fields must be zero (R329): an instruction of the REG layout with one that is not faults with ILLEGAL.

What a fault of a brick leaves (R346, R352): the brick stops at the instruction with its registers and memory, the record names
it, and the counters of faults and of its cause go up by one, stopping at their greatest value. -/
def Obligations.BrickFaults : Prop :=
  (∀ (i : Instr) (k : BrickId) (s : State), brickOf i = some k →
    let q := s.brick k.val
    (q.run = false → exec i s = .next s) ∧
    (q.run = true → 262144 < 4 * q.pc + 4 → exec i s = .next (s.brickFault k.val 2)) ∧
    (q.run = true → 4 * q.pc + 4 ≤ 262144 → 4 * q.pc / 8 ∈ q.bad → exec i s = .next (s.brickFault k.val 4)) ∧
    (q.run = true → 4 * q.pc + 4 ≤ 262144 → 4 * q.pc / 8 ∉ q.bad → brickDecode k q.fetch = none →
      exec i s = .next (s.brickFault k.val 1))) ∧
  (∀ (s : State) (k : BrickId) (d a b c : Field5),
    (∀ e ∈ ([Instr.add, Instr.sub, Instr.and, Instr.or, Instr.xor, Instr.shl, Instr.shr, Instr.sra, Instr.mul, Instr.mulh,
        Instr.mulhu, Instr.min, Instr.max, Instr.minu, Instr.maxu, Instr.slt, Instr.sltu, Instr.rotl, Instr.fadd, Instr.fsub,
        Instr.fmul, Instr.fmin, Instr.fmax, Instr.flt, Instr.feq, Instr.fdiv, Instr.fcurve, Instr.vfadd, Instr.vfsub,
        Instr.vfmul, Instr.vfma, Instr.vfmin, Instr.vfmax, Instr.vfdiv, Instr.vflt, Instr.vfeq, Instr.vadd, Instr.vsub,
        Instr.vand, Instr.vor, Instr.vxor, Instr.vmul, Instr.vperm, Instr.acmp] : List RegForm),
      Ready s k (e k d a b c) → c ≠ 0 → exec (e k d a b c) s = .next (s.brickFault k.val 1)) ∧
    (∀ e ∈ ([Instr.vfmas, Instr.vfmuls, Instr.vcurve, Instr.vshl, Instr.vshr, Instr.vsra, Instr.vget, Instr.vput] :
        List RegForm),
      Ready s k (e k d a b c) → b ≠ 0 → exec (e k d a b c) s = .next (s.brickFault k.val 1)) ∧
    (∀ e ∈ ([Instr.fsqrt, Instr.fcvtsi, Instr.fcvtis, Instr.ffloor, Instr.vfsqrt, Instr.vffloor, Instr.vbc, Instr.vsum,
        Instr.vhmax, Instr.vmov, Instr.afin, Instr.aadd, Instr.asumv, Instr.draw] : List RegForm),
      Ready s k (e k d a b c) → b ≠ 0 ∨ c ≠ 0 → exec (e k d a b c) s = .next (s.brickFault k.val 1)) ∧
    (∀ e ∈ ([Instr.azero, Instr.azeroi] : List RegForm),
      Ready s k (e k d a b c) → a ≠ 0 ∨ b ≠ 0 ∨ c ≠ 0 → exec (e k d a b c) s = .next (s.brickFault k.val 1)) ∧
    (Ready s k (.jr k d a b c) → d ≠ 0 ∨ b ≠ 0 ∨ c ≠ 0 → exec (.jr k d a b c) s = .next (s.brickFault k.val 1)) ∧
    (∀ target, Ready s k (.halt k target) → target ≠ 0 → exec (.halt k target) s = .next (s.brickFault k.val 1))) ∧
  (∀ (s : State) (k cause : Nat),
    let t := s.brickFault k cause
    let counts (key : Nat) (counted : Prop) [Decidable counted] : Prop :=
      t.rd key = if counted then Nat.min (s.rd key + 1) (2 ^ 32 - 1) else s.rd key
    t.brick k = { s.brick k with run := false } ∧ (∀ j, j ≠ k → t.brick j = s.brick j) ∧
    t.rd Obj.lastFaultBrick = k ∧ t.rd Obj.lastFaultPc = (s.brick k).pc % 2 ^ 32 ∧ t.rd Obj.lastFaultCause = cause ∧
    counts Obj.brickFaults True ∧ counts Obj.illegalCount (cause = 1 ∨ cause = 5 ∨ cause = 6) ∧
    counts Obj.boundsCount (cause = 2 ∨ cause = 3) ∧ counts Obj.localEccUncorrected (cause = 4) ∧
    t.hostMem = s.hostMem ∧ t.devMem = s.devMem ∧ t.joints = s.joints ∧ t.rings = s.rings)

/-- Scalar registers (R314): s0 reads as zero and discards writes; any other register reads what was last written, and a write
leaves every other register as it was. -/
def Obligations.BrickScalarRegisters : Prop :=
  ∀ (b : Brick) (f g : Field5) (v : BitVec 32), b.regs.length = 32 →
    b.s 0 = 0 ∧ b.setS 0 v = b ∧ (f ≠ 0 → (b.setS f v).s f = v) ∧ (f ≠ g → (b.setS f v).s g = b.s g)

/-! ## The dictionary -/

/-- READ, READ_STAGED, DESCRIBE and READ_DEFAULT through a BAR0 page (R60, R86, R88): DATA takes the value, the staged value where the
session has staged one, the object's description, its reset value. Bytes of DATA above the object's size that are not zero refuse the
access; an object of more than 8 bytes, or a WO one, is not read so.

WRITE through a BAR0 page (R60, R69, R86): an RW object takes the value, an RWS one is staged in its place or last, an RWZ one
becomes zero; a read-only object refuses it and nothing but the page's registers changes. -/
def Obligations.DictionaryAccesses : Prop :=
  (∀ (s : State) (page : Fin 66) (key : Nat) (cmd data : BitVec 64) (r : ObjRow),
    let t := s.taken page cmd data
    let p := Path.bar0 page true cmd data
    let refused (code : Nat) : Out := .next (t.barDone page.val (cmdTag cmd.toNat) code none)
    let fits : Prop := r.large = false → data.toNat < 2 ^ (8 * r.ty.size)
    t.object key = .ok r →
    (fits → WindowOpen s page 1 key cmd → r.large = false → r.acc ≠ .wo →
      exec (.read p) s = .next (t.answered page cmd (some (t.get page.val key)))) ∧
    (fits → WindowOpen s page 3 key cmd → r.large = false → r.acc ≠ .wo →
      exec (.readStaged p) s = .next (t.answered page cmd (some (t.getStaged page.val key r)))) ∧
    (fits → WindowOpen s page 4 key cmd →
      exec (.describe p) s = .next (t.answered page cmd (some (t.describe page.val key r)))) ∧
    (fits → WindowOpen s page 5 key cmd → r.large = false →
      exec (.readDefault p) s = .next (t.answered page cmd (some (t.resetValue key)))) ∧
    (¬fits → r.acc ≠ .wo → WindowOpen s page 1 key cmd → exec (.read p) s = refused Abort.sizeMismatch) ∧
    (WindowOpen s page 1 key cmd → r.large = true → r.acc ≠ .wo → exec (.read p) s = refused Abort.useMailbox) ∧
    (WindowOpen s page 1 key cmd → r.large = false → r.acc = .wo → exec (.read p) s = refused Abort.notReadable)) ∧
  (∀ (s : State) (page : Fin 66) (key : Nat) (cmd data : BitVec 64) (r : ObjRow),
    let t := s.taken page cmd data
    let p := Path.bar0 page true cmd data
    let x := t.session page.val
    WindowOpen s page 2 key cmd → writeRow key .write = .write →
    (Admitted t page key r data.toNat →
      (r.acc = .rw → exec (.write p) s = .next ((t.putRw page.val key data.toNat).answered page cmd none)) ∧
      (r.acc = .rws → exec (.write p) s =
        .next ((t.setSession page.val { x with staged :=
          if (∃ e ∈ x.staged, e.1 = key) then x.staged.map (fun e => if e.1 = key then (key, data.toNat) else e)
          else x.staged ++ [(key, data.toNat)] }).answered page cmd none)) ∧
      (r.acc = .rwz → key ≠ Obj.jCorrected → data.toNat = 0 ∧ exec (.write p) s = .next ((t.wr key 0).answered page cmd none))) ∧
    (t.object key = .ok r → r.large = false → data.toNat < 2 ^ (8 * r.ty.size) → r.acc = .ro → s.levelOf page.val ≤ r.lvl →
      (∀ e ∈ t.setChecks page.val key r data.toNat, e.1 = false) →
      exec (.write p) s = .next (t.barDone page.val (cmdTag cmd.toNat) Abort.notWritable none)))

/-- COMMIT_AT through a BAR0 page (R70, R71, R75): once the device is READY, a position that is zero or lies ahead on a course boundary,
at most 2^32 away, is accepted where the session has none pending: the staged set becomes the pending commit, for that boundary,
or the next one, and the staging set is empty. Any other is refused and changes nothing else. -/
def Obligations.CommitAccepted : Prop :=
  ∀ (s : State) (page : Fin 66) (cmd data : BitVec 64), WindowOpen s page 2 Obj.commitAt cmd →
    let t := s.taken page cmd data
    let p := Path.bar0 page true cmd data
    let x := t.session page.val
    let v := data.toNat
    let l := 2 ^ s.rd Obj.courseLog2
    let pos := s.rd Obj.position
    let refused (code : Nat) : Out := .next (t.barDone page.val (cmdTag cmd.toNat) code none)
    (6 ≤ s.rd Obj.phase → x.pending = none → v % l = 0 → (v = 0 ∨ pos < v) → v ≤ pos + 2 ^ 32 →
      exec (.commitAt p) s = .next
        ((({ t with clk := { t.clk with order := t.clk.order + 1 } }).setSession page.val
          { x with staged := []
                   pending := some { position := if v = 0 then (pos / l + 1) * l else v
                                     deferred := none
                                     set := x.staged
                                     order := s.clk.order
                                     level := s.levelOf page.val } }).answered page cmd none)) ∧
    (s.rd Obj.phase < 6 → x.pending = none → v % l = 0 → (v = 0 ∨ pos < v) → v ≤ pos + 2 ^ 32 →
      exec (.commitAt p) s = refused Abort.wrongState) ∧
    (6 ≤ s.rd Obj.phase → x.pending.isSome = true → v % l = 0 → (v = 0 ∨ pos < v) → v ≤ pos + 2 ^ 32 →
      exec (.commitAt p) s = refused Abort.commitPending) ∧
    (6 ≤ s.rd Obj.phase → x.pending = none → v % l ≠ 0 → pos < v → v ≤ pos + 2 ^ 32 →
      exec (.commitAt p) s = refused Abort.notBoundary) ∧
    (6 ≤ s.rd Obj.phase → x.pending = none → v % l = 0 → v ≠ 0 → v ≤ pos → exec (.commitAt p) s = refused Abort.positionPassed) ∧
    (6 ≤ s.rd Obj.phase → x.pending = none → v % l = 0 → pos + 2 ^ 32 < v → exec (.commitAt p) s = refused Abort.rangeHigh)

/-- The other actions of a session and of the device through a BAR0 page: DISCARD and CANCEL_PENDING (R78, R80), STORE (R68), REANCHOR
(R39), FORCE_CLOSE (R100), RETRAIN_NOW (R456), HANDOVER (R489), BOOT_SLOT (R524) and SVN_ADVANCE (R521), each at its level, with the
value and the state it asks for.

The actions on numbered units through a BAR0 page: CLEAR of a watch slot (R201), UNLOAD of a table slot (R248), PLAN_UNLOAD (R393),
UNBIND of a stream (R293) and SLIP_REANCHOR of a group (R419). A slot in use and a stream whose ring is not DISABLED refuse. -/
def Obligations.DictionaryActions : Prop :=
  (∀ e ∈ ([
      (Instr.discard, Obj.discard, 2, fun _ _ v => v = 1, fun t i _ => t.setSession i { t.session i with staged := [] }),
      (Instr.cancelPending, Obj.cancelPending, 2,
        fun t i v => v = 1 ∧ ∃ p, (t.session i).pending = some p ∧ t.rd Obj.position < p.deferred.getD p.position,
        fun t i _ => t.setSession i { t.session i with pending := none }),
      (Instr.cancelPending, Obj.cancelPending, 2, fun t i v => v = 1 ∧ (t.session i).pending = none, fun t _ _ => t),
      (Instr.store, Obj.store, 1, fun t _ v => v = 1 ∧ t.rd Obj.storeState ≠ 1,
        fun t i _ => ({ t with flash := { t.flash with
          storing := some (i, persistentKeys.foldl (fun m k => Map.put m k (t.rd k)) []) } }).wr Obj.storeState 1),
      (Instr.reanchor, Obj.reanchor, 1, fun _ _ v => v = 1, fun t _ _ => { t with clk := { t.clk with reanchor := true } }),
      (Instr.forceClose, Obj.forceClose, 0, fun _ _ v => v ≤ 7, fun t _ v => t.closeSession (66 + v)),
      (Instr.retrainNow, Obj.retrainNow, 1, fun _ _ v => v ≤ 83, fun t _ v => t.makeDue v),
      (Instr.handover, Obj.handover, 1, fun t _ v => v = 1 ∧ t.rd Obj.role = 1,
        fun t _ _ => t.mapPair (fun q => { q with handover := true })),
      (Instr.bootSlot, Obj.bootSlot, 0, fun _ _ v => v ≤ 1,
        fun t _ v => ({ t with flash := { t.flash with control := v } }).wr Obj.bootSlot v),
      (Instr.svnAdvance, Obj.svnAdvance, 0, fun t _ v => t.rd Obj.fusedSvn < v ∧ v ≤ 64 ∧ v ≤ t.rd Obj.runningSvn,
        fun t _ v => (((t.burn (fun f => { f with svn := v })).wr Obj.fusedSvn v).lowerSlot 0).lowerSlot 1)] :
      List ((Path → Instr) × Nat × Nat × (State → Nat → Nat → Prop) × (State → Nat → Nat → State))),
  ∀ (s : State) (page : Fin 66) (cmd data : BitVec 64), WindowOpen s page 2 e.2.1 cmd → s.levelOf page.val ≤ e.2.2.1 →
    let t := s.taken page cmd data
    e.2.2.2.1 t page.val data.toNat →
    exec (e.1 (.bar0 page true cmd data)) s = .next ((e.2.2.2.2 t page.val data.toNat).answered page cmd none)) ∧
  (∀ (s : State) (page : Fin 66) (cmd data : BitVec 64) (n : Nat), data = 1 →
    let t := s.taken page cmd data
    let p := Path.bar0 page true cmd data
    let refused (code : Nat) : Out := .next (t.barDone page.val (cmdTag cmd.toNat) code none)
    (n < 16 → WindowOpen s page 2 (Obj.watchClear n) cmd → ∃ u : State, exec (.clear p) s = .next (u.answered page cmd none) ∧
      (∀ k ∈ [Obj.watchElements n, Obj.watchSaturated n, Obj.watchFlushed n, Obj.watchBlocks n, Obj.watchBlocksClipped n,
        Obj.watchWorstBlock n, Obj.watchAbsmax n], u.rd k = 0) ∧ u.sessions = t.sessions ∧ u.rings = s.rings ∧ u.hostMem = s.hostMem) ∧
    (n < 64 → WindowOpen s page 2 (Obj.tableUnload n) cmd → page.val < 2 →
      (t.tableInUse n = false → exec (.unload p) s = .next ((t.emptyTable n).answered page cmd none)) ∧
      (t.tableInUse n = true → exec (.unload p) s = refused Abort.busy)) ∧
    (n < 64 → WindowOpen s page 2 (Obj.planUnload n) cmd → page.val < 2 →
      (s.rd (Obj.planBoundStreams n) = 0 → exec (.planUnload p) s = .next ((t.emptyPlan n).answered page cmd none)) ∧
      (s.rd (Obj.planBoundStreams n) ≠ 0 → exec (.planUnload p) s = refused Abort.busy)) ∧
    (n < 32768 → WindowOpen s page 2 (Obj.streamUnbind n) cmd →
      (s.rd (Obj.streamRingState n) = 0 → exec (.unbind p) s = .next ((t.unbindStream n).answered page cmd none)) ∧
      (s.rd (Obj.streamRingState n) ≠ 0 → exec (.unbind p) s = refused Abort.wrongState)) ∧
    (n < 64 → WindowOpen s page 2 (Obj.groupSlipReanchor n) cmd → page.val < 2 →
      exec (.slipReanchor p) s = .next ((t.setGroup n { t.group n with reanchor := true }).answered page cmd none)))

/-- SEG_READ by the mailbox of a page (R89, R90): the first segment takes the snapshot, later ones read it, the bytes go to the
buffer in host memory, DATA takes their number, and the last segment lets the snapshot go. A segment that has no snapshot to read
is out of sequence.

SEG_WRITE by the mailbox of a page (R89, R91): segments in sequence gather, the last one writes the whole value as its class
says, and a segment out of sequence discards what has been gathered for its object. -/
def Obligations.Segments : Prop :=
  (∀ (s : State) (page : Fin 66) (key : Nat) (cmd mbox : BitVec 64) (desc buffer : Bytes) (r : ObjRow),
    MailboxOpen s page key false cmd mbox desc buffer →
    let t := s.mailed page cmd mbox
    let x := t.session page.val
    let p := Path.mailbox page cmd mbox (some desc) (some buffer)
    let part (whole : Bytes) : Bytes := (whole.drop (field desc 8 4)).take (field desc 4 4)
    let answer (whole : Bytes) : Out := .next
      (((t.setSession page.val { x with snapshot := if mboxLast desc then none else some (key, whole) }).hostWrite
        (field desc 16 8) (part whole)).answered page cmd (some (part whole).length))
    t.object key = .ok r → r.acc ≠ .wo →
    (mboxFirst desc = true → field desc 8 4 = 0 → exec (.segRead p) s = answer (t.bytesOf page.val key r)) ∧
    (mboxFirst desc = false → ∀ whole, x.snapshot = some (key, whole) → exec (.segRead p) s = answer whole) ∧
    (mboxFirst desc = false → (∀ whole, x.snapshot ≠ some (key, whole)) →
      exec (.segRead p) s = .next (t.barDone page.val (cmdTag cmd.toNat) Abort.segmentSequence none))) ∧
  (∀ (s : State) (page : Fin 66) (key : Nat) (cmd mbox : BitVec 64) (desc buffer : Bytes) (r : ObjRow),
    MailboxOpen s page key true cmd mbox desc buffer →
    let t := s.mailed page cmd mbox
    let x := t.session page.val
    let p := Path.mailbox page cmd mbox (some desc) (some buffer)
    let n := field desc 4 4
    let before : Option Shadow := if mboxFirst desc then some ⟨key, field desc 12 4, []⟩ else x.shadow
    let shadowed (w : Option Shadow) : State := t.setSession page.val { x with shadow := w }
    t.object key = .ok r → (∀ e ∈ t.writeChecks page.val r, e.1 = false) → t.heldElsewhere page.val key = false →
    (mboxFirst desc = true → r.ty = .domain ∨ r.ty.size ≤ field desc 12 4) →
    (key = Obj.fwWrite → t.rd (Obj.progState updateRecord) ≠ 1) →
    (∀ w, before = some w → w.key = key → field desc 8 4 = w.data.length → w.data.length + n ≤ w.total → w.total ≤ r.most →
      (mboxLast desc = false →
        exec (.segWrite p) s = .next ((shadowed (some ⟨key, w.total, w.data ++ buffer⟩)).answered page cmd (some n))) ∧
      (mboxLast desc = true → w.data.length + n = w.total → writeRow key .segWrite = .segWrite →
        (∀ e ∈ t.setChecks page.val key r (ofLE (w.data ++ buffer)), e.1 = false) →
        ∀ u, (shadowed none).put page.val key r (ofLE (w.data ++ buffer)) (w.data ++ buffer) true = (0, u) →
          exec (.segWrite p) s = .next (u.answered page cmd (some n)))) ∧
    (mboxFirst desc = false → mboxLast desc = false → (∀ w, x.shadow = some w → w.key ≠ key ∨ field desc 8 4 ≠ w.data.length) →
      exec (.segWrite p) s = .next ((if x.shadow.map (·.key) = some key then shadowed none else t).barDone page.val
        (cmdTag cmd.toNat) Abort.segmentSequence none)))

/-- Keys, updates, fuses and reports by one mailbox segment: KEY_L0 and KEY_L1 (R102), FW_WRITE (R522), CUSTOMER_KEY_FUSE (R523) and
ATTEST_NONCE (R527), whose report names the machine as R527 lays it out. -/
def Obligations.SecurityActions : Prop :=
  ∀ (s : State) (page : Fin 66) (key : Nat) (cmd mbox : BitVec 64) (desc buffer : Bytes),
    MailboxOpen s page key true cmd mbox desc buffer → mboxFirst desc = true → mboxLast desc = true → field desc 8 4 = 0 →
    field desc 12 4 = buffer.length → s.heldElsewhere page.val key = false →
    let t := s.mailed page cmd mbox
    let t := t.setSession page.val { t.session page.val with shadow := none }
    let p := Path.mailbox page cmd mbox (some desc) (some buffer)
    let answer (u : State) : Out := .next (u.answered page cmd (some buffer.length))
    (key = Obj.keyL0 → buffer.length = 32 → page.val = 0 → exec (.keyL0 p) s = answer (t.putKey 0 (ofLE buffer))) ∧
    (key = Obj.keyL1 → buffer.length = 32 → page.val < 2 → exec (.keyL1 p) s = answer (t.putKey 1 (ofLE buffer))) ∧
    (key = Obj.fwWrite → page.val = 0 → s.rd (Obj.progState updateRecord) ≠ 1 → exec (.fwWrite p) s = answer
      (({ t with root := { t.root with update := some buffer } }).progStart updateRecord (2 * buffer.length))) ∧
    (key = Obj.customerKeyFuse → buffer.length = 32 → page.val = 0 → countersigned s.root.running = true →
      shaNat (slice s.root.running 120 56) = ofBE buffer → s.root.customer = none → exec (.customerKeyFuse p) s = answer
        (({ t with root := { t.root with customer := some (ofBE buffer), fuses := t.root.fuses.map (fun (f : Fuses) =>
          { f with customerHash := some (ofBE buffer) }) } }).wr Obj.customerKeyFused 1)) ∧
    (key = Obj.attestNonce → buffer.length = 32 → s.rd Obj.attestState = 1 → s.rd Obj.bottomLeft ≠ 0 →
      ∃ report u, t.attest buffer = .ok (report, u) ∧ report.take 96 = t.reportBody buffer ∧
        u.rd Obj.attestations = Nat.min (s.rd Obj.attestations + 1) (maxOf Obj.attestations) ∧
        u.rd Obj.bottomLeft = s.rd Obj.bottomLeft - 1 ∧ exec (.attestNonce p) s = answer
          (u.setSession page.val { u.session page.val with nonce := some buffer, report := report }))

/-- What the partner's answers and its silence do to an access that waits (R87), and how a store ends (R68): DICT_RESP,
PARTNER_TIMEOUT, STORE_DONE. -/
def Obligations.AccessEnds : Prop :=
  (∀ (s : State) (page : Fin 66) (w : PartnerWait) (tag : BitVec 32) (body : Bytes), s.tieUp = true →
    (s.session page.val).partner = some w → w.tag = tag.toNat →
    (∀ j, j < page.val → ∀ v, (s.session j).partner = some v → v.tag ≠ tag.toNat) →
    let code := field body 0 4
    let id := cmdTag (s.session page.val).bar0.cmd
    let data := (body.drop 8).take (field body 4 4)
    let moved := if w.write then w.length else w.moved + data.length
    (code ≠ 0 → exec (.dictResp tag body) s = .next (s.barDone page.val id code none)) ∧
    (code = 0 → w.mailbox = false →
      exec (.dictResp tag body) s = .next (s.barDone page.val id 0 (if w.write then none else some (field body 8 8)))) ∧
    (code = 0 → w.mailbox = true → s.host = true →
      let t := if w.write then s else s.hostWrite (w.buffer + w.moved) data
      (w.left ≤ 1 → exec (.dictResp tag body) s = .next (t.barDone page.val id 0 (some moved))) ∧
      (2 ≤ w.left → exec (.dictResp tag body) s = .next (t.setSession page.val
        { t.session page.val with partner := some { w with left := w.left - 1, moved := moved } })))) ∧
  (∀ (s : State) (page : Fin 66) (us : Nat) (w : PartnerWait), (s.session page.val).partner = some w →
    ((s.counting = true ∧ 32 ≤ s.clk.frames - w.since) ∨ (s.counting = false ∧ 1000 ≤ us) →
      exec (.partnerTimeout page us) s =
        .next (s.barDone page.val (cmdTag (s.session page.val).bar0.cmd) Abort.timeout none)) ∧
    (s.counting = true ∧ s.clk.frames - w.since < 32 → exec (.partnerTimeout page us) s = .next s)) ∧
  (∀ (s : State) (i : Nat) (values : Map Nat), s.flash.storing = some (i, values) →
    (∃ t, exec (.storeDone true) s = .next t ∧ t.flash.record = some ⟨values, recordDigest values⟩ ∧ t.flash.storing = none ∧
      t.rd Obj.storeState = 2 ∧ (t.session i).lastResult = 0 ∧ t.flash.stores = s.flash.stores + 1 ∧ t.rings = s.rings ∧ t.hostMem = s.hostMem) ∧
    (∃ t, exec (.storeDone false) s = .next t ∧ t.flash.record = s.flash.record ∧ t.flash.storing = none ∧
      t.rd Obj.storeState = 3 ∧ (t.session i).lastResult = Abort.storeFailed ∧ t.rings = s.rings ∧ t.hostMem = s.hostMem))

/-! ## The management port -/

/-- OPEN (R104, R109, R110): the lowest-numbered closed session opens at L2 for its source, and the answer carries a nonce of the
entropy source; with all eight open the answer is BUSY, with SESSION 0xFF (the
model's choice, assumption 133); an OPEN that a fresh session accepted is answered again. -/
def Obligations.ManagementOpen : Prop :=
  ∀ (s : State) (d : Datagram), s.accepts d = true → s.rx = [] →
    let dg := d.body
    field dg 0 2 = 0x6084 → field dg 2 1 = 1 → field dg 3 1 = 1 → field dg 4 1 = 255 →
    bit (field dg 5 1) 0 = false → (∀ e ∈ headerChecks dg, e.1 = false) → field dg 12 2 = 16 → dg.length = 32 →
    let p := Path.mgmt d false
    let nc := (dg.drop 16).take 16
    let seq := field dg 6 2
    let repeated (k : Nat) (m : Mgmt) : Prop := k < 8 ∧ (s.session (66 + k)).mgmt = some m ∧
      m.fresh = true ∧ m.ip = d.ip.toNat ∧ m.port = d.port.toNat ∧ m.nc = nc
    ((∀ k m, ¬ repeated k m) → ∀ k, k < 8 → (s.session (66 + k)).mgmt = none → (∀ j, j < k → (s.session (66 + j)).mgmt ≠ none) →
      ∃ t m, exec (.mgmtOpen p) s = .next t ∧ (t.session (66 + k)).mgmt = some m ∧ (t.session (66 + k)).level = 2 ∧
        m.ip = d.ip.toNat ∧ m.port = d.port.toNat ∧ m.seq = seq ∧ m.nc = nc ∧ m.nd = s.entropy16.1 ∧ m.fresh = true ∧ m.key = none ∧
        t.sent = s.sent ++ [.datagram d.toIp.toNat d.toPort.toNat d.ip.toNat d.port.toNat (mgmtMessage 1 k seq 0 m.nd none)] ∧
        (∀ j, j ≠ 66 + k → t.session j = s.session j) ∧ t.dict = s.dict ∧ t.hostMem = s.hostMem) ∧
    ((∀ k m, ¬ repeated k m) → (∀ j, j < 8 → (s.session (66 + j)).mgmt ≠ none) →
      exec (.mgmtOpen p) s = .next (s.send (.datagram d.toIp.toNat d.toPort.toNat d.ip.toNat d.port.toNat (mgmtMessage 1 255 seq Abort.busy [] none)))) ∧
    (∀ k m, repeated k m → (∀ j n, repeated j n → n.response = m.response) →
      exec (.mgmtOpen p) s = .next (s.send (.datagram d.toIp.toNat d.toPort.toNat d.ip.toNat d.port.toNat m.response)))

/-- AUTH, STAGE and CLOSE on an open session (R105, R107, R110, R112-R115): AUTH with the right code raises the level, empties the
staging set and signs from then on, with a wrong one, or under a key of zeros, it closes the session and counts; STAGE stages all its
entries or none; CLOSE closes. Every answer names the session, the sequence number and the status.

Requests the port does not carry out (R110, R111, R115): a repeated sequence number brings the stored answer again and restarts
the idle time (the model's choice, assumption 132), any other number than the next is discarded and counted, as are a source that is not the session's and a bad trailer. -/
def Obligations.ManagementRequests : Prop :=
  (∀ (s : State) (d : Datagram) (k : Fin 8) (m : Mgmt) (type : Nat), RequestOpen s type k m d →
    let dg := d.body
    let i := 66 + k.val
    let p := Path.mgmt d false
    let seq := field dg 6 2
    let body := (dg.drop 16).take (field dg 12 2)
    let m' : Mgmt := { m with seq := seq, fresh := false, idle := s.clk.frames }
    let s' := s.setSession i { s.session i with mgmt := some m' }
    let level := field body 0 1
    let key := leBytes 32 (s.rd (if level = 0 then Obj.keyL0 else Obj.keyL1))
    let codes := authCodes key m.nd m.nc (leBytes 6 (s.rd Obj.macAddr)) k.val level
    let sends (t : State) (status : Nat) (answer : Bytes) (signed : Option Bytes) : Prop :=
      t.sent = s.sent ++ [.datagram d.toIp.toNat d.toPort.toNat d.ip.toNat d.port.toNat (mgmtMessage type k.val seq status answer signed)]
    let others (t : State) : Prop := (∀ j, j ≠ i → t.session j = s.session j) ∧ t.rings = s.rings ∧ t.hostMem = s.hostMem
    (type = 2 → body.length = 36 → level ≤ 1 → field body 1 3 = 0 → m.authUsed = false →
      (allZero key = false → (body.drop 4).take 32 = codes.1 →
        ∃ t n, exec (.auth p) s = .next t ∧ (t.session i).level = level ∧ (t.session i).staged = [] ∧
          (t.session i).mgmt = some n ∧ n.key = some codes.2.2 ∧ n.authUsed = true ∧ n.seq = seq ∧
          sends t 0 codes.2.1 (some (m.key.getD codes.2.2)) ∧ t.dict = s.dict ∧ others t) ∧
      (allZero key = true ∨ (body.drop 4).take 32 ≠ codes.1 →
        ∃ t, exec (.auth p) s = .next t ∧ (t.session i).mgmt = none ∧ (t.session i).level = 2 ∧
          t.rd Obj.authFailures = Nat.min (s.rd Obj.authFailures + 1) (maxOf Obj.authFailures) ∧
          sends t Abort.notAuthenticated [] m.key ∧ others t)) ∧
    (type = 5 → body.length = 4 + 12 * field body 0 1 → 1 ≤ field body 0 1 → field body 0 1 ≤ 16 → field body 1 3 = 0 →
      let entries := (List.range (field body 0 1)).map (fun e => (body.drop (4 + 12 * e)).take 12)
      (∀ set, s'.stageEntries i entries 0 (s.session i).staged = .ok set →
        ∃ t, exec (.stage p) s = .next t ∧ (t.session i).staged = set ∧ sends t 0 [0xFF, 0, 0, 0] m.key ∧ t.dict = s.dict ∧ others t) ∧
      (∀ code e, s'.stageEntries i entries 0 (s.session i).staged = .error (code, e) → code ≠ 0 →
        ∃ t, exec (.stage p) s = .next t ∧ (t.session i).staged = (s.session i).staged ∧
          sends t code (leBytes 1 e ++ leBytes 3 0) m.key ∧ t.dict = s.dict ∧ others t)) ∧
    (type = 9 → body = [] →
      ∃ t, exec (.close p) s = .next t ∧ (t.session i).mgmt = none ∧ (t.session i).staged = [] ∧ (t.session i).level = 2 ∧
        (t.session i).pending = (s.session i).pending ∧ sends t 0 [] m.key ∧ t.dict = s.dict ∧ others t)) ∧
  (∀ (s : State) (d : Datagram) (k : Fin 8) (m : Mgmt), s.accepts d = true → s.rx = [] →
    let dg := d.body
    field dg 0 2 = 0x6084 → field dg 2 1 = 1 → field dg 3 1 = 5 → field dg 4 1 = k.val →
    bit (field dg 5 1) 0 = false → (s.session (66 + k.val)).mgmt = some m →
    let p := Path.mgmt d false
    let mine := m.ip = d.ip.toNat ∧ m.port = d.port.toNat
    let good := ∀ key, m.key = some key → trailerOk key dg = true
    (¬ mine → exec (.stage p) s = .next (s.bump Obj.rxDropped)) ∧
    (mine → ¬ good → exec (.stage p) s = .next (s.bump Obj.macFailures)) ∧
    (mine → good → field dg 6 2 ≠ m.seq → field dg 6 2 ≠ (m.seq + 1) % 65536 → exec (.stage p) s = .next (s.bump Obj.seqDiscards)) ∧
    (mine → good → field dg 6 2 = m.seq → exec (.stage p) s =
      .next ((s.setSession (66 + k.val) { s.session (66 + k.val) with mgmt := some { m with idle := s.clk.frames } }).send
        (.datagram d.toIp.toNat d.toPort.toNat d.ip.toNat d.port.toNat m.response))))

/-- ARP_REQUEST and ECHO_REQUEST for the device's own address, PLCA_BEACON of a coordinator (R95, R97), IDLE_TIMEOUT (R103): the
port answers from bring-up phase 2 on, a session without a request for the whole of IDLE_TIMEOUT closes, and the receive queue holds
32 datagrams (R99). -/
def Obligations.PortServices : Prop :=
  (∀ (s : State) (mac : BitVec 48) (src dst : BitVec 32), s.portOpen = true →
    (dst.toNat = s.rd Obj.ipv4Addr → exec (.arpRequest mac src dst) s = .next (s.send (.arp mac.toNat src.toNat))) ∧
    (dst.toNat ≠ s.rd Obj.ipv4Addr → exec (.arpRequest mac src dst) s = .next s)) ∧
  (∀ (s : State) (src dst : BitVec 32) (payload : Bytes), s.portOpen = true → dst.toNat = s.rd Obj.ipv4Addr →
    exec (.echoRequest src dst false payload) s = .next (s.send (.echo src.toNat payload)) ∧
    exec (.echoRequest src dst true payload) s = .next s) ∧
  (∀ s : State, s.portOpen = true → s.rd Obj.nodeId = 0 →
    exec .plcaBeacon s = .next (s.send (.beacon (s.rd Obj.plcaNodeCount)))) ∧
  (∀ (s : State) (k : Fin 8) (ns : Nat) (m : Mgmt), (s.session (66 + k.val)).mgmt = some m →
    let due : Prop := 20833 * s.rd Obj.idleTimeout ≤ 20833 * (s.clk.frames - m.idle) + ns
    (due → exec (.idleTimeout k ns) s = .next (s.closeSession (66 + k.val))) ∧ (¬ due → exec (.idleTimeout k ns) s = .next s)) ∧
  (∀ (s : State) (d : Datagram), field d.body 3 1 = 5 →
    (s.accepts d = true → 32 ≤ s.rx.length → ∀ held, exec (.stage (.mgmt d held)) s = .next (s.bump Obj.rxDropped)) ∧
    (s.accepts d = true → s.rx.length < 32 → exec (.stage (.mgmt d true)) s = .next { s with rx := s.rx ++ [d] }) ∧
    (s.accepts d = false → ∀ held, exec (.stage (.mgmt d held)) s = .next s) ∧
    (∀ rest, s.rx = d :: rest → exec (.stage .mgmtNext) s = .next (({ s with rx := rest }).datagram d true)))

/-! ## The host link and the rings -/

/-- HOST_LINK_UP attaches the host at a rate and width of R117 and marks a degraded link; HOST_DETACH (R119, R120) ends what every
ring that is enabled or still draining had fetched, clears STATUS_ENABLE, forgets the page requests and counts; PRI_ENABLE lets page requests go out again
(R126). -/
def Obligations.HostLink : Prop :=
  (∀ (s : State) (rate width : Nat), s.host = false → 2 ≤ s.rd Obj.phase → s.rd Obj.role ≠ 4 → rate ∈ [4, 5, 6] → width ∈ [4, 8, 16] →
    ∃ t, exec (.hostLinkUp rate width) s = .next t ∧ t.host = true ∧ t.rd Obj.linkRate = rate ∧ t.rd Obj.linkWidth = width ∧
      (t.rd Obj.linkDegraded = 0 ↔ rate = 6 ∧ width = 16) ∧ t.rings = s.rings ∧ t.sessions = s.sessions ∧ t.hostMem = s.hostMem ∧
      (∀ k, k ≠ Obj.linkRate → k ≠ Obj.linkWidth → k ≠ Obj.linkDegraded → t.rd k = s.rd k)) ∧
  (∀ (s : State) (how : Detach), s.host = true →
    let ended := ((s.rings.map (·.1)).filter (fun n => s.rdB (Obj.streamRingEnable n) || s.ringState n != 0)).foldl (fun s n => s.detachRing n) s
    ∃ t, exec (.hostDetach how) s = .next t ∧ t.host = false ∧ t.requests = [] ∧ t.rd Obj.statusEnable = 0 ∧
      t.rd Obj.hostDetaches = Nat.min (ended.rd Obj.hostDetaches + 1) (maxOf Obj.hostDetaches) ∧
      (how ≠ .d3hot → t.rd Obj.linkRate = 0 ∧ t.rd Obj.linkWidth = 0) ∧ t.rings = ended.rings ∧ t.streams = ended.streams ∧
      t.hostMem = ended.hostMem ∧ t.joints = ended.joints) ∧
  (∀ s : State, exec .priEnable s = .next { s with priHeld := false })

/-- APERTURE_ACCESS (R123, R449, R501): a write while the aperture is on puts its bytes at APERTURE_BASE + offset where the address
is mapped and leaves every other byte of device memory as it was; while it is off the write is counted and discarded; a LEFT leaf
discards it. A read is answered with the bytes there, with zeros where nothing is mapped or the aperture is off, and changes nothing. -/
def Obligations.ApertureAccesses : Prop :=
  ∀ (s : State) (offset width : Nat), s.host = true → offset + width ≤ 16 * GiB →
    let base := s.rd Obj.apertureBase + offset
    (∀ v : Nat, s.rd Obj.role ≠ 4 → s.devMem.wf = true → s.rd Obj.apertureEnable ≠ 0 →
      ∃ t, exec (.apertureAccess offset width (some v)) s = .next t ∧ t.devMem.wf = true ∧
      (∀ i, i < width → s.mapped (base + i) = true → t.devMem.read (base + i) = BitVec.ofNat 8 (v / 2 ^ (8 * i))) ∧
      (∀ i, i < width → s.mapped (base + i) = false → t.devMem.read (base + i) = s.devMem.read (base + i)) ∧
      (∀ a, a < base ∨ base + width ≤ a → t.devMem.read a = s.devMem.read a) ∧
      t.dict = s.dict ∧ t.rings = s.rings ∧ t.hostMem = s.hostMem) ∧
    (∀ v : Nat, s.rd Obj.role ≠ 4 → s.rd Obj.apertureEnable = 0 →
      exec (.apertureAccess offset width (some v)) s = .next (s.bump Obj.apertureDiscards)) ∧
    (∀ v : Nat, s.rd Obj.role = 4 → exec (.apertureAccess offset width (some v)) s = .next s) ∧
    (s.rd Obj.apertureEnable = 0 →
      exec (.apertureAccess offset width none) s = .next { s with sent := s.sent ++ [.aperture (List.replicate width 0)] }) ∧
    (s.rd Obj.apertureEnable ≠ 0 → poisonIn s.poison base width = none → ∃ bytes,
      exec (.apertureAccess offset width none) s = .next { s with sent := s.sent ++ [.aperture bytes] } ∧ bytes.length = width ∧
      ∀ i, i < width → bytes[i]? = some (if s.mapped (base + i) then s.devMem.read (base + i) else 0))

/-- The doorbell rows CMD_TAIL, CPL_HEAD, RESUME and ABANDON (R132-R134): a write the ring takes sets the tail and head it carries
as valid, in a RUNNING ring nothing more; in a HALTED one ABANDON ends the halted command, else RESUME resumes it; a write that is not
a whole aligned word, has a reserved bit set or meets a ring that is not running is counted and discarded; an index out of range is
counted and moves the ring to ERROR. A read returns CMD_HEAD, CPL_TAIL and RING_STATE, zero if it is not a whole aligned word. -/
def Obligations.Doorbells : Prop :=
  ∀ e ∈ ([(Instr.cmdTail, 48), (Instr.cplHead, 49), (Instr.resume, 50), (Instr.abandon, 51)] :
    List ((BitVec 18 → Bool → BitVec 64 → Instr) × Nat)),
  ∀ (s : State) (n : RingId) (w : BitVec 64), s.host = true → s.rd Obj.role ≠ 4 → bit w.toNat e.2 = true →
    let bell (k : Nat) : BitVec 18 := BitVec.ofNat 18 (8 * n.val + k)
    let state := s.rd (Obj.streamRingState n.val)
    let tail := w.toNat % 2 ^ 24
    let head := w.toNat / 2 ^ 24 % 2 ^ 24
    let r := s.ring n.val
    let past := (bit w.toNat 48 = true ∧ 2 ^ s.rd (Obj.streamCmdLog2 n.val) < dist24 tail (s.rd (Obj.streamCmdHead n.val))) ∨
      (bit w.toNat 49 = true ∧ dist24 (s.rd (Obj.streamCplTail n.val)) r.cplHead < dist24 head r.cplHead)
    let taken := s.setRing n.val { r with cmdTail := if bit w.toNat 48 then tail else r.cmdTail
                                          cplHead := if bit w.toNat 49 then head else r.cplHead }
    (∀ wide k, k < 8 → wide = false ∨ k ≠ 0 ∨ 2 ^ 52 ≤ w.toNat ∨ (state ≠ 1 ∧ state ≠ 2) →
      exec (e.1 (bell k) wide w) s = .next (s.bump Obj.doorbellDiscards)) ∧
    (∀ wide k, k < 8 → wide = false ∨ k ≠ 0 → exec (.read (.bell (bell k) wide)) s = .next (s.send (.barRead 0))) ∧
    exec (.read (.bell (bell 0) true)) s = .next (s.send (.barRead (s.rd (Obj.streamCmdHead n.val) % 2 ^ 24 +
      2 ^ 24 * (s.rd (Obj.streamCplTail n.val) % 2 ^ 24) + 2 ^ 48 * state))) ∧
    (w.toNat < 2 ^ 52 → state = 1 → ¬ past → exec (e.1 (bell 0) true w) s = .next taken) ∧
    (w.toNat < 2 ^ 52 → state = 2 → ¬ past → bit w.toNat 51 = true → ∀ c, r.halted = some c →
      exec (e.1 (bell 0) true w) s = .next (taken.abandonCmd n.val c)) ∧
    (w.toNat < 2 ^ 52 → state = 2 → ¬ past → bit w.toNat 51 = false → bit w.toNat 50 = true →
      exec (e.1 (bell 0) true w) s = .next (taken.resumeRing n.val)) ∧
    (w.toNat < 2 ^ 52 → state = 1 ∨ state = 2 → past → exec (e.1 (bell 0) true w) s =
      .next (((((s.bump (Obj.streamRingErrors n.val)).wr (Obj.streamRingState n.val) 4).setRing n.val
        { r with errEntry := true }).abandonHalted n.val).drain n.val))

/-- COMMAND_FETCH and RING_DRAINED (R125, R130, R136): a ring that may fetch takes the descriptor at CMD_HEAD and advances it modulo
2^24, the command joining those fetched unless a check of R138 refuses it; a BIND whose plan slot was not
loaded when it is fetched is refused (R155); a failed translation of the ring's memory puts the ring in FAULT without
fetching; a disabled ring with no command left is DISABLED, but one that host detachment met in ERROR or FAULT stays (R120). -/
def Obligations.Fetching : Prop :=
  ∀ (s : State) (n : RingId),
    let c := s.rd (Obj.streamCmdHead n.val)
    (s.fetches n.val = true → ∀ d : Bytes, d.length = 64 →
      let there := field d 0 1 != 1 || s.planLoaded (field d 16 4)
      let u := (s.wr (Obj.streamCmdHead n.val) ((c + 1) % 2 ^ 24)).setRing n.val { s.ring n.val with
        cmds := (s.ring n.val).cmds ++ [{ counter := c, desc := d, fetchedAt := s.clk.frames, planThere := there }] }
      (∀ f, u.headCheck n.val d = some f → exec (.commandFetch n (some d)) s = .next (u.finish n.val c f.1 none f.2.1 f.2.2)) ∧
      (u.headCheck n.val d = none → (u.ring n.val).bindBefore c = false → u.tailCheck n.val d = none → field d 0 1 ≠ 2 →
        (field d 0 1 = 1 → s.planLoaded (field d 16 4) = true) → exec (.commandFetch n (some d)) s = .next u) ∧
      ((∀ x ∈ (s.ring n.val).cmds, x.counter ≠ c) → u.headCheck n.val d = none → (u.ring n.val).bindBefore c = false →
        u.tailCheck n.val d = none → field d 0 1 = 1 → s.planLoaded (field d 16 4) = false →
        exec (.commandFetch n (some d)) s = .next (u.finish n.val c St.check none Chk.planAbsent 16)) ∧
      (∀ f, u.headCheck n.val d = none → (u.ring n.val).bindBefore c = false → u.tailCheck n.val d = some f →
        exec (.commandFetch n (some d)) s = .next (u.finish n.val c f.1 none f.2.1 f.2.2)) ∧
      (u.headCheck n.val d = none → (u.ring n.val).bindBefore c = false → u.tailCheck n.val d = none → field d 0 1 = 2 →
        u.feedCheck n.val d = none → exec (.commandFetch n (some d)) s = .next (u.acceptFeed n.val c d))) ∧
    (s.usesRing n.val = true → (∀ x ∈ (s.ring n.val).cmds, x.phase ≠ .halted) → exec (.commandFetch n none) s =
      .next (((s.bump (Obj.streamRingErrors n.val)).wr (Obj.streamRingState n.val) 5).setRing n.val
        { s.ring n.val with cmds := (s.ring n.val).cmds.map (fun x => { x with lost := true }), errEntry := false })) ∧
    (s.fetches n.val = false → ∀ d, exec (.commandFetch n (some d)) s = .next s) ∧
    (s.usesRing n.val = false → exec (.commandFetch n none) s = .next s) ∧
    (3 ≤ s.rd (Obj.streamRingState n.val) → s.rd (Obj.streamRingEnable n.val) = 0 → (s.ring n.val).cmds = [] →
      (s.ring n.val).errEntry = false → (s.ring n.val).kept = false →
      exec (.ringDrained n) s = .next (s.wr (Obj.streamRingState n.val) 0)) ∧
    ((s.ring n.val).kept = true → exec (.ringDrained n) s = .next s) ∧
    ((s.ring n.val).cmds ≠ [] → exec (.ringDrained n) s = .next s)

/-- The final entry of the first command of a ring (R144, R145, R154): 32 bytes at CPL_BASE in the slot of CPL_TAIL, with the
command's opcode, index and tag, the status, COASTED, AUX, the position and the detail, and PHASE as R145 gives; CPL_TAIL advances
modulo 2^24, the command leaves the ring, and every other byte of host memory reads as before. -/
def Obligations.FinalEntry : Prop :=
  ∀ (s : State) (n : Nat) (c : Cmd) (rest : List Cmd) (status detail aux : Nat) (position : Option Nat),
    (s.ring n).cmds = c :: rest → c.final = none → c.lost = false → (s.ring n).errEntry = false → s.hostMem.wf = true → s.host = true →
    (∀ x ∈ rest, x.counter ≠ c.counter ∧ x.final = none) → status ≠ St.missed →
    let tail := s.rd (Obj.streamCplTail n)
    let log := s.rd (Obj.streamCplLog2 n)
    let slot := s.rd (Obj.streamCplBase n) + 32 * (tail % 2 ^ log)
    let entry := leBytes 1 (field c.desc 0 1) ++ leBytes 1 status ++
      leBytes 1 ((if tail / 2 ^ log % 2 = 0 then 1 else 0) + (if bit (s.rd Obj.positionFlags) 0 then 4 else 0)) ++ leBytes 1 aux ++
      leBytes 4 (c.counter % 2 ^ 24) ++ leBytes 8 (field c.desc 8 8) ++ leBytes 8 (position.getD (s.rd Obj.position)) ++
      leBytes 8 detail
    let t := s.finish n c.counter status position detail aux
    t.hostMem.readBytes slot 32 = entry ∧ (∀ a, a < slot ∨ slot + 32 ≤ a → t.hostMem.read a = s.hostMem.read a) ∧
    t.hostMem.wf = true ∧ t.rd (Obj.streamCplTail n) = (tail + 1) % 2 ^ 24 ∧ (t.ring n).cmds = rest ∧
    (∀ m, m ≠ n → t.ring m = s.ring m) ∧ (∀ k, k ≠ Obj.streamCplTail n → t.rd k = s.rd k) ∧
    t.streams = s.streams ∧ t.sessions = s.sessions ∧ t.devMem = s.devMem ∧ t.joints = s.joints ∧ t.bricks = s.bricks

/-- Which command of a ring starts (R131, R152, R153): the first not started, when it is of the opcode asked for, the ring is not
HALTED, and, for a FENCE, it stands first of all; it is then active.

FENCE and NOTE (R139, R153), CANCEL (R157): a started FENCE or NOTE ends DONE; CANCEL ends CANCELLED, each with its position, the
chunks fetched before it that are not released and lie at or after its POSITION, and then itself DONE.

Page requests (R126): a response Success ends one; Invalid Request, and no response in time, halts its command, with AUX 1 and
0xFE; any other code halts every command that waits and withholds further requests; a response to none outstanding is ignored. -/
def Obligations.RingCommands : Prop :=
  (∀ (s : State) (n op : Nat) (before after : List Cmd) (c : Cmd),
    (s.ring n).cmds = before ++ c :: after → (∀ x ∈ before, x.phase ≠ .fetched) → c.phase = .fetched → field c.desc 0 1 = op →
    s.rd (Obj.streamRingState n) ≠ 2 → c.unchecked = false → (op = 11 → before = []) →
    (∀ x ∈ before ++ after, x.counter ≠ c.counter) →
    Starts s n op c (s.setRing n { s.ring n with cmds := before ++ { c with phase := .active } :: after })) ∧
  (∀ (s : State) (n : RingId) (c : Cmd) (t : State),
    (Starts s n.val 11 c t → exec (.fence n) s = .next (t.finish n.val c.counter St.done)) ∧
    (Starts s n.val 12 c t → exec (.note n) s = .next (t.finish n.val c.counter St.done)) ∧
    (Starts s n.val 5 c t →
      let before := ((t.ring n.val).cmds.takeWhile (fun x => x.counter ≠ c.counter)).map (·.counter)
      let hit := (t.ring n.val).cmds.filter (fun x => before.contains x.counter && x.final.isNone && (match x.chunk with
        | some k => !k.released && decide (field c.desc 16 8 ≤ k.position)
        | none => false))
      let u := hit.foldl (fun u x => u.finish n.val x.counter St.cancelled (some ((x.chunk.map (·.position)).getD 0))) t
      exec (.cancel n) s = .next (u.finish n.val c.counter St.done))) ∧
  (∀ (s : State) (id : Nat) (code : BitVec 4),
    let counted := s.bump Obj.priFailures
    ((∃ q ∈ s.requests, q.id = id) →
      (code = 0 → exec (.priResponse id code) s = .next { s with requests := s.requests.filter (fun q => q.id ≠ id) }) ∧
      (code = 1 → exec (.priResponse id code) s = .next (counted.failRequests (fun q => q.id == id) 1)) ∧
      (code ≠ 0 → code ≠ 1 →
        exec (.priResponse id code) s = .next (({ counted with priHeld := true }).failRequests (fun _ => true) code.toNat)) ∧
      exec (.priTimeout id) s = .next (counted.failRequests (fun q => q.id == id) 0xFE)) ∧
    ((∀ q ∈ s.requests, q.id ≠ id) → exec (.priResponse id code) s = .next s ∧ exec (.priTimeout id) s = .next s))

/-! ## Streams -/

/-- BIND (R140, R291, R292, R301, R442, R443): a paced or grout stream is bound at once, its generation one higher and its position
zero; a live one waits for its admission; any waits while its state moves or a released chunk of its ring runs; a refusal leaves the
machine as it was but for its entry and its counter, and a poisoned voice row halts it (R255). ADMISSION_TIMEOUT refuses a live BIND that has waited ADMIT_WAIT_MAX boundaries. -/
def Obligations.StreamBinds : Prop :=
  ∀ (s : State) (n : RingId) (c : Cmd) (t : State),
    (Begins s n.val 1 c t →
      let waiting := t.begin n.val c.counter .waiting
      (t.rd (Obj.streamResidency n.val) = 3 ∨ t.runningBefore n.val c.counter = true → exec (.bind n) s = .next waiting) ∧
      (t.rd (Obj.streamResidency n.val) ≠ 3 → t.runningBefore n.val c.counter = false →
        (∀ r, t.bindTry n.val c.counter c.desc = .error r → exec (.bind n) s = .next
          ((match r.2 with | some k => t.bump k | none => t).finish n.val c.counter r.1.1 none r.1.2.1 r.1.2.2)) ∧
        (∀ u, t.bindTry n.val c.counter c.desc = .ok u → t.voicePoison c.desc ≠ none → exec (.bind n) s = .next (t.bindPoisoned n.val c)) ∧
        (∀ u, t.bindTry n.val c.counter c.desc = .ok u → t.voicePoison c.desc = none → field c.desc 24 1 ≠ 0 →
          exec (.bind n) s = .next (((u.dropShadow n.val).cancelBefore n.val c.counter).bindDone n.val c.counter)) ∧
        (∀ u, t.bindTry n.val c.counter c.desc = .ok u → t.voicePoison c.desc = none → field c.desc 24 1 = 0 → u.neverFits (u.reservation n.val) = false →
          exec (.bind n) s = .next (waiting.mapCmd n.val c.counter (fun k => { k with waited := Nat.max 1 k.waited }))) ∧
        (∀ u, t.bindTry n.val c.counter c.desc = .ok u → t.voicePoison c.desc = none → field c.desc 24 1 = 0 → u.neverFits (u.reservation n.val) = true →
          exec (.bind n) s = .next
            ((t.bump Obj.admissionRefusedEnergy).finish n.val c.counter St.check none Chk.admission 0xFF)))) ∧
    (∀ u, u = s.bindDone n.val c.counter →
      u.rd (Obj.streamGeneration n.val) = (s.rd (Obj.streamGeneration n.val) + 1) % 2 ^ 32 ∧
      u.rd (Obj.streamPosition n.val) = 0 ∧ (u.stream n.val).noise = true ∧ (u.stream n.val).boundAt = s.clk.frames ∧
      (u.stream n.val).sections = (s.stream n.val).sections) ∧
    (∀ w, (s.ring n.val).cmds.find? (fun x => x.op == 1 && x.phase == .waiting && decide (x.waited ≥ 1)) = some w →
      (1 + s.rd Obj.admitWaitMax ≤ w.waited → exec (.admissionTimeout n) s =
        .next ((s.bump Obj.admissionRefusedEnergy).finish n.val w.counter St.check none Chk.admission 0xFF)) ∧
      (w.waited < 1 + s.rd Obj.admitWaitMax → exec (.admissionTimeout n) s = .next s))

/-- FEED waits for its release (R141). RENDER (R142, R411-R413) that its checks refuse ends so; one to lanes makes its stream a member
of its group with a joint of its own on the home tile; one to the host begins a render. FLUSH (R574) ends the open packets of its
stream and is done when they have been taken. -/
def Obligations.StreamWork : Prop :=
  ∀ (s : State) (n : RingId) (c : Cmd) (t : State),
    let d := c.desc
    let g := t.rd (Obj.streamGroup n.val)
    let tile := t.rd (Obj.groupHomeTile g)
    let words := t.memberWords (t.rd (Obj.streamLead n.val)) (field d 25 1)
    let shown := t.wr (Obj.streamStreamFlags n.val) (setBit (t.rd (Obj.streamStreamFlags n.val)) 1 false)
    let hits := t.flushPackets n.val (field d 16 8)
    (Starts s n.val 2 c t →
      exec (.feed n) s = .next (t.mapCmd n.val c.counter (fun x => { x with phase := .waiting, unchecked := false }))) ∧
    (Starts s n.val 3 c t → ∀ r, t.renderCheck n.val d = some r →
      exec (.render n) s = .next (t.finish n.val c.counter r.1 none r.2.1 r.2.2)) ∧
    (Starts s n.val 3 c t → t.renderCheck n.val d = none → g = 255 →
      exec (.render n) s = .next (shown.renderHost n.val c.counter d)) ∧
    (Starts s n.val 3 c t → t.renderCheck n.val d = none → g < 64 →
      (∀ k, t.freeJoint tile = some k → t.tileOn tile = true → t.reservedWords tile + words ≤ poolWords →
        ∃ u m, exec (.render n) s = .next u ∧ u.members.getLast? = some m ∧ m.stream = n.val ∧ m.counter = c.counter ∧ m.group = g ∧
          m.first = field d 24 1 ∧ m.channels = field d 25 1 ∧ m.start = field d 16 8 ∧ ((t.ring n.val).cutoff = none → m.stop = field d 32 8) ∧
          m.joint = 64 * tile + k ∧ m.started = false ∧
          (∀ x ∈ t.members, x.stream = n.val → { x with stop := if x.stop = 0 then m.start else Nat.min x.stop m.start } ∈ u.members) ∧
          (∃ j, u.joints.find (64 * tile + k) = some j ∧ j.reserve = words ∧ j.limit = words ∧ j.recs = []) ∧
          u.rings = t.rings ∧ u.hostMem = t.hostMem) ∧
      (t.freeJoint tile = none → exec (.render n) s = .next (shown.finish n.val c.counter St.check none Chk.admission 0xFF))) ∧
    (Starts s n.val 4 c t →
      (hits = [] → exec (.flush n) s = .next (t.finish n.val c.counter St.done)) ∧
      (hits ≠ [] → exec (.flush n) s = .next
        (({ t with joints := t.joints.mapV (fun k j => if hits.any (fun h => h.1 == k) then j.endPacket else j) }).mapCmd
          n.val c.counter (fun x => { x with flush := hits })))) ∧
    (∀ w, (s.ring n.val).cmds.find? (fun x => x.op == 4 && x.phase == .active) = some w →
      ((∀ h ∈ w.flush, ∀ j, s.joints.find h.1 = some j → j.taken h.2 = true) →
        exec (.flushDone n) s = .next (s.finish n.val w.counter St.done)) ∧
      ((∃ h ∈ w.flush, ∃ j, s.joints.find h.1 = some j ∧ j.taken h.2 = false) → exec (.flushDone n) s = .next s))

/-- PARK, WAKE and the moves they begin (R295-R297, R300): by the residency the command finds, a move out begins, waits, or is not
needed, and the same for a move in; a WAKE without a slot waits and is counted once; WAKE_SLOT_TAKEN lets the WAKE that has waited
longest begin; poison in what a move is to read halts its command instead (R461); MOVE_OUT_DONE and MOVE_IN_DONE end the moves. -/
def Obligations.StreamMoves : Prop :=
  ∀ (s : State) (n : RingId) (c : Cmd) (t : State),
    let residency := t.rd (Obj.streamResidency n.val)
    let poison := (t.readStop (t.moveReads n.val)).2
    (Begins s n.val 6 c t →
      (residency = 1 → t.pinned n.val = false → t.stateSettled n.val = true → poison = none →
        (∀ u, t.moveOut n.val (field c.desc 16 1) = some u → exec (.park n) s = .next (u.begin n.val c.counter .waiting)) ∧
        (t.moveOut n.val (field c.desc 16 1) = none →
          exec (.park n) s = .next ((t.finish n.val c.counter St.check none Chk.noRoom 16).swapBack n.val))) ∧
      (residency = 1 → t.pinned n.val = false → t.stateSettled n.val = true → ∀ p, poison = some p →
        exec (.park n) s = .next (t.poisonHalt n.val c.counter c.saved p.1 p.2)) ∧
      (residency = 1 → t.pinned n.val = true ∨ t.stateSettled n.val = false →
        exec (.park n) s = .next (t.parkWait n.val c.counter) ∧ (t.parkWait n.val c.counter).rd (Obj.streamSwapState n.val) = 5) ∧
      (residency = 2 → exec (.park n) s = .next (t.finish n.val c.counter St.done)) ∧
      (residency = 3 → ∀ m, (t.stream n.val).move = some m →
        (m.dir ≠ 2 → exec (.park n) s = .next (t.begin n.val c.counter .waiting)) ∧
        (m.dir = 2 → exec (.park n) s = .next ((t.setStream n.val { t.stream n.val with
          move := some { m with thenOut := true, tier := field c.desc 16 1 } }).begin n.val c.counter .waiting)))) ∧
    (Begins s n.val 7 c t →
      (residency = 1 → (∀ x ∈ (t.ring n.val).cmds, x.phase = .waiting → x.op ≠ 6) →
        exec (.wake n) s = .next ((t.swapBack n.val).finish n.val c.counter St.done)) ∧
      (residency = 1 → ∀ p, (t.ring n.val).cmds.filter (fun x => x.op == 6 && x.phase == .waiting) = [p] →
        exec (.wake n) s = .next (((t.finish n.val p.counter St.cancelled (some 0)).swapBack n.val).finish n.val c.counter St.done)) ∧
      (residency = 2 → ∀ p, poison = some p →
        exec (.wake n) s = .next (t.poisonHalt n.val c.counter c.saved p.1 p.2)) ∧
      (residency = 2 → poison = none → ∀ u, t.moveIn n.val = some u → exec (.wake n) s = .next (u.begin n.val c.counter .waiting)) ∧
      (residency = 2 → poison = none → t.moveIn n.val = none → (t.stream n.val).wakeOrder = none →
        exec (.wake n) s = .next (((({ t.setStream n.val { t.stream n.val with wakeOrder := some t.waitNext } with
          waitNext := t.waitNext + 1 }).wr (Obj.streamSwapState n.val) 5).bump Obj.wakeWaits).begin n.val c.counter .waiting)) ∧
      (residency = 3 → ∀ m, (t.stream n.val).move = some m → m.dir = 1 →
        exec (.wake n) s = .next ((t.setStream n.val { t.stream n.val with move := some { m with dir := 3 } }).begin
          n.val c.counter .waiting))) ∧
    (Begins s n.val 7 c t → residency = 3 → ∀ m, (t.stream n.val).move = some m → m.dir ≠ 1 →
      exec (.wake n) s = .next (t.begin n.val c.counter .waiting)) ∧
    (∀ want u, s.moveOut n.val want = some u →
      u.rd (Obj.streamResidency n.val) = 3 ∧ u.rd (Obj.streamSwapState n.val) = 1 ∧
      u.rd (Obj.streamSwapTotal n.val) = s.recordSize n.val ∧ (∃ tier addr, s.recordTier want (s.recordSize n.val) = some tier ∧
        (u.stream n.val).move = some ⟨1, false, tier, addr⟩) ∧ u.rings = s.rings ∧ u.hostMem = s.hostMem) ∧
    (∀ o, (s.stream n.val).wakeOrder = some o → (∀ e ∈ s.streams, ∀ p, e.2.wakeOrder = some p → o ≤ p) →
      (s.readStop (s.moveReads n.val)).2 = none →
      (∀ u, s.moveIn n.val = some u → exec (.wakeSlotTaken n) s = .next u ∧ u.rd (Obj.streamResidency n.val) = 3 ∧
        (u.stream n.val).wakeOrder = none ∧ u.rd (Obj.streamSwapState n.val) = 1) ∧
      (s.moveIn n.val = none → exec (.wakeSlotTaken n) s = .next s)) ∧
    (∀ m, (s.stream n.val).move = some m →
      (m.dir = 1 ∨ m.dir = 3 → exec (.moveOutDone n) s = .next ((s.movedOut n.val m).retryWaiting n.val false)) ∧
      (m.dir = 2 → exec (.moveInDone n) s = .next ((s.movedIn n.val m).retryWaiting n.val false)))

/-! ## Movers, loads, chunks and gather units -/

/-- MOVE, MOVER_START and REARM_RUN (R353, R354, R359, R363, R368): a MOVE of a descriptor that no other names reads a snapshot of it
and runs, in a host context or on the short path, or waits for a context; a first MOVE of a running descriptor is pending, a further
one is ignored and counted; a descriptor that breaks its rules refuses the MOVE.

TRANSFER_DONE (R361, R364, R366): the oldest running transfer of the ring copies its bytes from where it stood and ends its MOVE, or
copies as far as it may and stops there; lines of a plan are repaired from its shadow before they are read (R462). -/
def Obligations.Transfers : Prop :=
  ((∀ (s : State) (n : RingId) (c : Cmd) (t : State) (read : HostRead), Starts s n.val 9 c t →
    (∀ x ∈ (s.ring n.val).cmds, ¬ (x.op = 9 ∧ x.phase = .active ∧ x.xfer = none ∧ x.final = none)) →
    let others := t.movesNaming (field c.desc 16 8)
    (others = [] → exec (.move n read) s = .next (t.startDesc n.val c read)) ∧
    (others ≠ [] → (∀ e ∈ others, (e.2.xfer.map (·.rearm)).getD false = false) → exec (.move n read) s =
      .next ((t.mapCmd n.val c.counter (fun x => { x with xfer := some { Transfer.blank 0 with rearm := true } })).bump Obj.rearms)) ∧
    (∀ p, others.find? (fun e => (e.2.xfer.map (·.rearm)).getD false) = some p → exec (.move n read) s =
      .next (((t.mapCmd n.val c.counter (fun x =>
        { x with xfer := some { Transfer.blank 0 with ignored := some (p.1, p.2.counter) } })).bump Obj.rearmsIgnored).mapCmd p.1 p.2.counter
        (fun k => { k with xfer := k.xfer.map (fun x => { x with ignores := x.ignores + 1 }) })))) ∧
  (∀ (s : State) (n : RingId) (c : Cmd) (o : Nat) (read : HostRead),
    (s.ring n.val).cmds.find? (fun x => x.waitsContext.isSome) = some c → c.waitsContext = some o →
    s.waitsPage n.val c.counter = false →
    ((∀ e ∈ s.rings, ∀ k ∈ e.2.cmds, ∀ p, k.waitsContext = some p → o ≤ p) →
      exec (.moverStart n read) s = .next (s.startDesc n.val c read)) ∧
    ((∃ e ∈ s.rings, ∃ k ∈ e.2.cmds, ∃ p, k.waitsContext = some p ∧ p < o) → exec (.moverStart n read) s = .next s)) ∧
  (∀ (s : State) (n : RingId) (c : Cmd) (read : HostRead),
    (s.ring n.val).cmds.find? (fun x => x.op == 9 && x.phase == .active && x.final.isNone &&
      ((x.xfer.map (·.rearm)).getD false)) = some c → s.waitsPage n.val c.counter = false →
    ((∀ e ∈ s.movesNaming (field c.desc 16 8), e.1 = n.val ∧ e.2.counter = c.counter) →
      exec (.rearmRun n read) s = .next (s.startDesc n.val c read)) ∧
    ((∃ e ∈ s.movesNaming (field c.desc 16 8), ¬ (e.1 = n.val ∧ e.2.counter = c.counter)) → exec (.rearmRun n read) s = .next s)) ∧
  (∀ (s : State) (n : Nat) (c : Cmd) (read : HostRead), c.xfer = none →
    hostStop s.windows n false (field c.desc 16 8) (field c.desc 24 4) read.missingAt read.poisonAt = none →
    let d := padTo (field c.desc 24 4) read.bytes
    let runs (s : State) (context : Bool) : State :=
      s.mapCmd n c.counter (fun x => { x with xfer := some { Transfer.blank 0 with desc := d, context := context, map := s.windows } })
    (descShort d = false → s.contextsBusy < 256 → descFault d false = none → tierFault d = none →
      s.startDesc n c read = runs s true) ∧
    (descShort d = true → s.shortInFlight < 4096 → descFault d false = none → tierFault d = none →
      s.startDesc n c read = runs (s.bump Obj.shortPathMoves) false) ∧
    (descShort d = false → 256 ≤ s.contextsBusy →
      let waits := s.mapCmd n c.counter (fun x => { x with xfer := some { Transfer.blank 0 with order := s.waitNext } })
      s.startDesc n c read = { waits with waitNext := s.waitNext + 1 }) ∧
    (∀ aux, descShort d = false → s.contextsBusy < 256 → descFault d false = some aux → s.startDesc n c read =
      (s.finish n c.counter St.check none Chk.descriptor aux).endIgnored n c.counter ⟨St.check, none, Chk.descriptor, aux⟩))) ∧
  (∀ (s : State) (n : RingId) (c : Cmd) (x : Transfer) (data : HostRead),
    (s.ring n.val).cmds.find? (fun c => (c.op == 9 || c.op == 8) && c.phase == .active && c.final.isNone &&
      ((c.xfer.map (fun x => !x.desc.isEmpty)).getD false) && !s.waitsPage n.val c.counter) = some c → c.xfer = some x → c.op = 9 →
    let r := s.repairSource x.desc
    (r.moveStop x.map n.val x.desc x.next data = none →
      let t := ((r.copy x.desc x.clash data x.next (descLength x.desc) 0 0 0).countMerges (descLength x.desc)).spreadClash
        n.val c.counter x.desc
      let f : Final := if 0 < x.ignores then ⟨St.rearm, none, x.ignores, 0⟩ else ⟨St.done, none, 0, 0⟩
      exec (.transferDone n data) s =
        .next (((t.mapCmd n.val c.counter (fun k => { k with xfer := some { x with next := descLength x.desc, context := false } })).finish
          n.val c.counter f.status f.position f.detail f.aux).endIgnored n.val c.counter f)) ∧
    (∀ st, r.moveStop x.map n.val x.desc x.next data = some st →
      exec (.transferDone n data) s =
        .next (((r.copy x.desc x.clash data x.next st.byte 0 0 0).mapCmd n.val c.counter
          (fun k => { k with xfer := some { x with next := st.byte } })).stopAt n.val c.counter st.byte st.space (st.addr, st.why))))

/-- What a transfer between host and device memory writes (R355, R361): with one run on each side, the bytes of the source from
`lo` up to `hi`, in order, at the same places of the destination, and every other byte of both memories reads as before. -/
def Obligations.TransferCopies : Prop :=
  ∀ (s : State) (d : Bytes) (data : HostRead) (lo hi n a b plan stream chunk : Nat), lo ≤ hi → hi ≤ n →
    sideRuns d false = [(b, n)] → sideRuns d true = [(a, n)] → s.hostMem.wf = true → s.devMem.wf = true →
    let t := s.copy d [] data lo hi plan stream chunk
    (s.host = true → descSpace d true = 0 → descSpace d false ∈ [1, 2, 3] →
      t.hostMem.readBytes (a + lo) (hi - lo) = s.devMem.readBytes (b + lo) (hi - lo) ∧
      (∀ y, y < a + lo ∨ a + hi ≤ y → t.hostMem.read y = s.hostMem.read y) ∧ t.devMem = s.devMem ∧ t.dict = s.dict ∧
      t.rings = s.rings) ∧
    (descSpace d true ∈ [1, 2, 3] → descSpace d false = 0 → hi ≤ data.bytes.length →
      t.devMem.readBytes (a + lo) (hi - lo) = (data.bytes.drop lo).take (hi - lo) ∧
      (∀ y, y < a + lo ∨ a + hi ≤ y → t.devMem.read y = s.devMem.read y) ∧ t.hostMem = s.hostMem ∧ t.dict = s.dict ∧
      t.rings = s.rings)

/-- The four kinds of LOAD (R214, R247, R348, R389): the LOAD whose turn it is, its image readable and its checks passed, begins its
run; one that breaks a rule ends REJECTED_CHECK with that rule's code; an image that cannot be read stops it.

LOAD_DONE (R213, R247, R349, R389): what the LOAD at the head of its ring brought comes into force: a curve, or a plan with its
digest and its progress record DONE; a brick that received code runs from ENTRY, with its registers zero; one that failed is fenced. -/
def Obligations.Loads : Prop :=
  (∀ (s : State) (n : RingId) (c : Cmd) (t : State) (image : HostRead),
    let slot := field c.desc 18 2
    let len := field c.desc 32 8
    let im := padTo len image.bytes
    let first := field c.desc 40 2
    let count := field c.desc 42 2
    let stop := imageStop n.val c (t.imageMap n.val c.counter) image
    let refused (code aux : Nat) : Out := .next (t.finish n.val c.counter St.check none code aux)
    let begun (head : Bytes) : State := (t.startRun n.val c head []).imageRead n.val c.counter im
    (s.loadTurn n.val 0 = (some c, t) →
      (t.rd (Obj.planBoundStreams slot) ≠ 0 → exec (.loadPlan n image) s = refused Chk.planInUse 0xFF) ∧
      (t.rd (Obj.planBoundStreams slot) = 0 → stop = none → t.planCheck slot im len = none →
        exec (.loadPlan n image) s = .next (t.startRun n.val c [] im)) ∧
      (∀ code aux, t.rd (Obj.planBoundStreams slot) = 0 → stop = none → t.planCheck slot im len = some (code, aux, none) →
        exec (.loadPlan n image) s = refused code aux) ∧
      (∀ x, t.rd (Obj.planBoundStreams slot) = 0 → stop = some x → exec (.loadPlan n image) s = .next (t.stopImage n.val c x))) ∧
    (s.loadTurn n.val 1 = (some c, t) → t.loadRunning n.val c.counter = false →
      (t.tableInUse slot = true → exec (.loadTable n image) s = refused Chk.tableInUse 0xFF) ∧
      (t.tableInUse slot = false → 64 ≤ len → stop = none → tableHeaderOk (im.take 64) len = false →
        exec (.loadTable n image) s = refused Chk.reservedField 0xFF) ∧
      (t.tableInUse slot = false → 64 ≤ len → stop = none → tableHeaderOk (im.take 64) len = true →
        t.tableRoom slot (im.take 64) = false → exec (.loadTable n image) s = refused Chk.admission 0xFF) ∧
      (t.tableInUse slot = false → 64 ≤ len → stop = none → tableHeaderOk (im.take 64) len = true →
        t.tableRoom slot (im.take 64) = true → exec (.loadTable n image) s = .next (begun (im.take 64)))) ∧
    (s.loadTurn n.val 2 = (some c, t) →
      (len ≠ 800 → exec (.loadCurve n image) s = refused Chk.curve 32) ∧
      (len = 800 → stop = none → (curveFault im).isSome = true → exec (.loadCurve n image) s = refused Chk.curve 0xFF) ∧
      (len = 800 → stop = none → curveFault im = none → exec (.loadCurve n image) s = .next (t.startRun n.val c [] im))) ∧
    (s.loadTurn n.val 3 = (some c, t) → t.loadRunning n.val c.counter = false →
      (t.targetsOk first count = false → exec (.loadBrickCode n image) s = refused Chk.absentUnit 40) ∧
      (t.targetsOk first count = true → len < 64 ∨ 196608 < len → exec (.loadBrickCode n image) s = refused Chk.brickCode 32) ∧
      (t.targetsOk first count = true → 64 ≤ len → len ≤ 196608 → stop = none → len = brickImageLength im →
        (∀ o, brickImageFault im = some o → exec (.loadBrickCode n image) s =
          .next ((t.wr Obj.brickErrorOffset o).finish n.val c.counter St.check none Chk.brickCode 0xFF)) ∧
        (brickImageFault im = none → t.targetsBound first count = true →
          exec (.loadBrickCode n image) s = refused Chk.bricksInUse 40) ∧
        (brickImageFault im = none → t.targetsBound first count = false → exec (.loadBrickCode n image) s = .next (begun []))))) ∧
  ((∀ (s : State) (n : RingId) (c : Cmd) (rest : List Cmd) (l : Load) (rounds resent : Nat) (failed : List BrickId),
    (s.ring n.val).cmds = c :: rest → c.op = 10 → c.phase = .active →
    s.loads.find? (fun l => l.ring == n.val && l.counter == c.counter && !l.image.isEmpty) = some l →
    exec (.loadDone n rounds resent failed) s = .next (s.endRun n.val l rounds resent (failed.map (·.val))) ∧
    (l.kind = 2 → l.slot < 240 → ∃ t, exec (.loadDone n rounds resent failed) s = .next t ∧
      t.curves.find l.slot = some l.image ∧ bit (t.rd Obj.loadedMap) l.slot = true ∧ (∀ x, x ≠ l.slot → t.curves.find x = s.curves.find x)) ∧
    (l.kind = 0 → l.slot < 64 → failed = [] → ∃ t, exec (.loadDone n rounds resent failed) s = .next t ∧
      (∃ p, t.plans.find l.slot = some p ∧ p.image = l.image ∧ p.digest = ofBE (sha256 l.image)) ∧
      t.rd (Obj.planLoaded l.slot) = 1 ∧ t.rd (Obj.planRateHz l.slot) = Nat.min (planRate l.image) (maxOf (Obj.planRateHz l.slot)) ∧
      t.rd (Obj.progState (0x3310 + l.slot)) = 2)) ∧
  (∀ (slot : Nat) (im : Bytes), let b := freshBrick slot im
    b.run = true ∧ b.code = slot ∧ b.pc = field im 12 4 ∧ b.codeBytes = field im 8 4 ∧ b.regs = List.replicate 32 0 ∧ b.loops = [] ∧
    b.stepped = false))

/-- CHUNK_DONE and TOKEN_START (R146, R219, R223, R346, R461): the running chunk of a ring, neither halted nor waiting for a page nor short of
tokens, runs, stops at the feature byte that stops it, halts at poison in its carried state, or ends DEVICE_FAULT where a brick of
its plan has faulted; a decoder's next token, in the batch of its plan, is decoded from its feature row. A chunk's final entry has
the status R146 puts first. -/
def Obligations.ChunkEnds : Prop :=
  (∀ (s : State) (n : RingId) (c : Cmd) (k : Chunk) (features : HostRead) (work : ChunkWork),
    s.runningChunk n.val = some (c, k) → c.phase ≠ .halted → s.waitsPage n.val c.counter = false →
    (s.stageStopped n.val = true → exec (.chunkDone n features work) s = .next (s.faultChunk n.val c.counter)) ∧
    (s.stageStopped n.val = false → (s.decodes n.val = true → k.tokens ≤ k.decoded) →
      (∀ x, featureStop n.val c.desc k features = some x →
        exec (.chunkDone n features work) s = .next (s.stopAt n.val c.counter k.position 0 x)) ∧
      (featureStop n.val c.desc k features = none →
        exec (.chunkDone n features work) s = .next (s.runChunk n.val c k features work) ∧
        (∀ p, (s.readStop (s.chunkReads n.val k)).2 = some p → s.runChunk n.val c k features work =
          (s.readStop (s.chunkReads n.val k)).1.poisonHalt n.val c.counter k.position p.1 p.2)))) ∧
  (∀ (s : State) (n : RingId) (c : Cmd) (k : Chunk) (features : HostRead), s.tokenChunk n.val = some (c, k) →
    let plan := s.rd (Obj.streamPlan n.val)
    let batch := s.batchOf plan
    let begins := s.rd (Obj.streamTokenIndex n.val) == 0 || tokenBegins k (s.stepFrames n.val) k.decoded
    let rows := s.featureRows n.val (s.planImage plan) c.desc k features
    (s.tokenReady n.val = true → n.val ∈ batch →
      (∀ x, featureStop n.val c.desc k features = some x → exec (.tokenStart n features) s =
        .next (s.stopAt n.val c.counter (k.position + k.decoded * s.stepFrames n.val) 0 x)) ∧
      (featureStop n.val c.desc k features = none → ∀ row, (rows[k.decoded]?).map (·.2) = some row →
        exec (.tokenStart n features) s = .next
          (({ s with rows := s.rows.put plan (batch.filter (· != n.val)) }).decodeToken n.val c k begins row))) ∧
    (s.tokenReady n.val = false ∨ n.val ∉ batch → exec (.tokenStart n features) s = .next s)) ∧
  (∀ (s : State) (n : Nat) (k : Chunk),
    let last := k.position + k.frames - 1
    let f := s.chunkFinal n k
    (∀ m, missedIn (s.stream n).missed k.position k.frames = some m → f = ⟨St.missed, some m.1, m.2, 0⟩) ∧
    (missedIn (s.stream n).missed k.position k.frames = none →
      (0 < k.spilled → f = ⟨St.spilled, some last, k.spilled, 0⟩) ∧
      (k.spilled = 0 → 0 < k.ignores → f = ⟨St.rearm, some last, k.ignores, 0⟩) ∧
      (k.spilled = 0 → k.ignores = 0 → ∀ x, k.clipped = some x →
        f = ⟨St.clipped, some last, x.1 + 2 ^ 16 * x.2.1 + 2 ^ 32 * x.2.2, 0⟩) ∧
      (k.spilled = 0 → k.ignores = 0 → k.clipped = none → 0 < k.short → f = ⟨St.short, some last, k.short, 0⟩) ∧
      (k.spilled = 0 → k.ignores = 0 → k.clipped = none → k.short = 0 → f = ⟨St.done, some last, 0, 0⟩)))

/-- GATHER_LOOKUP and ROW_FETCH_DONE (R245, R250-R255): a batch of a stage of the running chunk, served by the unit of the stack that holds
the stage, makes its output rows, counts its tensors and waits for its rows; when those of the oldest batch have arrived its rows go into
the stage's joints in the order of the lookups, or the poison one of them met halts the command; a later batch waits for an earlier one.
A lookup of one pair of weight one in its own format copies the row, and an index past the table's rows reads zeros. -/
def Obligations.GatherBatches : Prop :=
  (∀ (s : State) (n : RingId) (stage : Fin 8) (lookups : List Lookup) (c : Cmd), s.activeChunk n.val = some c →
    let im := ((s.plans.find (s.rd (Obj.streamPlan n.val))).map (·.image)).getD []
    stage.val < planStages im → s.gatherOn (stackOfStage im stage.val) = true →
    1 ≤ lookups.length → lookups.length ≤ 256 →
    (∀ l ∈ lookups, (s.tables.find l.slot.val).isSome = true ∧ 1 ≤ l.pairs.length ∧ l.pairs.length ≤ 16 ∧
      outputFormat l.outFormat.toNat = true) →
    let rows := lookups.map (fun l => ((s.tables.find l.slot.val).map (fun t => (s.lookup t l.pairs l.outFormat.toNat).1)).getD [])
    ∃ t b, exec (.gatherLookup n stage lookups) s = .next t ∧ t.batches.find s.batchNext = some b ∧ b.ring = n.val ∧
      b.counter = c.counter ∧ b.stage = stage.val ∧ b.rows = rows ∧ b.arrived = false ∧ t.batchNext = s.batchNext + 1 ∧
      (∀ k, k ≠ s.batchNext → t.batches.find k = s.batches.find k)) ∧
  (∀ (s : State) (batch : Nat) (b : Batch), s.batches.wf = true → s.batches.find batch = some b →
    let u := { s with batches := s.batches.put batch { b with arrived := true } }
    let v := { u with batches := u.batches.del batch }
    let mine := s.batches.filter (fun e => e.2.ring == b.ring)
    let keys := s.linkJoints (s.rd (Obj.streamPlan b.ring)) b.stage
    (∀ c, s.cmd b.ring b.counter = some c → c.final = none → mine = [(batch, b)] →
      (b.poison = none →
        (∀ t, State.pushPackets b.ring b.counter keys (b.rows.map (fun r => (b.ring, (chunks 8 r).map ofLE))) u = some t →
          exec (.rowFetchDone batch) s = .next { t with batches := t.batches.del batch }) ∧
        (State.pushPackets b.ring b.counter keys (b.rows.map (fun r => (b.ring, (chunks 8 r).map ofLE))) u = none →
          ∀ key rest, keys = key :: rest → exec (.rowFetchDone batch) s = .next (u.jointWait key b.ring))) ∧
      (∀ p, b.poison = some p → exec (.rowFetchDone batch) s = .next (v.poisonHalt b.ring b.counter c.saved p.1 p.2))) ∧
    (∀ j x rest c, mine = (j, x) :: rest → j ≠ batch → x.arrived = false → s.cmd x.ring x.counter = some c → c.final = none →
      exec (.rowFetchDone batch) s = .next u)) ∧
  (∀ (s : State) (t : Table) (r out : Nat), out = tableFormatOf t.header → out ≠ 6 →
    s.lookup t [(r, 0x3F800000)] out = (s.tableRow t r, {}) ∧
    (tableRowCount t.header ≤ r → s.tableRow t r = List.replicate (tableRowLen t.header) 0))

/-! ## The house clock -/

/-- FRAME before a lock and after a loss (R24, R53): a qualifying period counts toward lock, one of another nominal rate begins a new
count and one of none ends it, a broken count being a failed acquisition; the state before the first lock is ACQUIRING and after a
loss stays, with REACQUIRING as the count stands; no frame begins.

Which periods qualify for a nominal rate (R24): those within 1,000 ppm of its period, and no period for two rates.

LOCK_ACQUIRED and RELOCK (R7, R24, R53, R33): after 1,024 qualifying periods in a row the clock is LOCKED at the rate they showed,
keeping only LTC_VALID and ANCHOR_FAILED of the position flags; a first lock ends the wait of bring-up phase 5, a re-lock
clears the coast count and, under REANCHOR with timecode, begins to wait for an anchor; with fewer periods nothing changes. At a rate
other than before every FEED and RENDER fetched of a stream whose plan is of another rate has ended. -/
def Obligations.Acquisition : Prop :=
  (∀ (s : State) (e : Edge), 5 ≤ s.rd Obj.phase → s.rd Obj.clockState ≠ 2 →
    ∃ t, exec (.frame e) s = .next t ∧ t.rd Obj.position = s.rd Obj.position ∧ t.clk.frames = s.clk.frames ∧ t.lanes = s.lanes ∧
      t.rings = s.rings ∧ t.sent = s.sent ∧
      (∀ r, rateOf e.periodPs = some r → s.clk.acq = 0 ∨ s.clk.acqRate = r →
        t.clk.acq = s.clk.acq + 1 ∧ t.clk.acqRate = r ∧ t.rd Obj.acquireFails = s.rd Obj.acquireFails) ∧
      (∀ r, rateOf e.periodPs = some r → s.clk.acq ≠ 0 → s.clk.acqRate ≠ r →
        t.clk.acq = 1 ∧ t.clk.acqRate = r ∧ t.rd Obj.acquireFails = Nat.min (s.rd Obj.acquireFails + 1) (maxOf Obj.acquireFails)) ∧
      (rateOf e.periodPs = none → t.clk.acq = 0 ∧ t.rd Obj.acquireFails =
        if s.clk.acq = 0 then s.rd Obj.acquireFails else Nat.min (s.rd Obj.acquireFails + 1) (maxOf Obj.acquireFails)) ∧
      (s.rd Obj.clockState ≤ 1 → t.rd Obj.clockState = 1) ∧
      (3 ≤ s.rd Obj.clockState → t.rd Obj.clockState = s.rd Obj.clockState ∧
        bit (t.rd Obj.positionFlags) 6 = decide (0 < t.clk.acq))) ∧
  (∀ p r : Nat, rateOf p = some r ↔
    (r ∈ [44100, 48000, 88200, 96000, 176400, 192000] ∧ 999 * 10 ^ 9 ≤ p * r ∧ p * r ≤ 1001 * 10 ^ 9)) ∧
  (∀ s : State,
    let locked (t : State) : Prop := t.rd Obj.clockState = 2 ∧ t.rd Obj.houseRateHz = s.clk.acqRate ∧ t.clk.acq = 0 ∧
      t.clk.badPeriods = 0 ∧ t.rd Obj.position = s.rd Obj.position ∧
      (s.rd Obj.houseRateHz = s.clk.acqRate → t.rings = s.rings ∧ t.streams = s.streams) ∧
      (s.rd Obj.houseRateHz ≠ s.clk.acqRate → ∀ n, (s.streams.find n).isSome = true → (s.stream n).bound = true →
        s.rd (Obj.planRateHz (s.rd (Obj.streamPlan n))) ≠ s.clk.acqRate →
        ∀ c ∈ (t.ring n).cmds, c.op = 2 ∨ c.op = 3 → c.final.isSome = true)
    (s.rd Obj.clockState = 1 → 1024 ≤ s.clk.acq → ∃ t, exec .lockAcquired s = .next t ∧ locked t ∧
      t.rd Obj.positionFlags = 16 * bits (s.rd Obj.positionFlags) 5 4 ∧
      (s.rd Obj.phase = 5 → t.rd (Obj.progPosition bringUp) = 10000)) ∧
    (3 ≤ s.rd Obj.clockState → 1024 ≤ s.clk.acq → ∃ t, exec .relock s = .next t ∧ locked t ∧ t.rd Obj.coastedCourses = 0 ∧
      t.clk.coastHalt = false ∧
      (s.rd Obj.relockMode ≠ 1 → t.rd Obj.positionFlags = 16 * bits (s.rd Obj.positionFlags) 5 4 ∧ t.clk.anchor = s.clk.anchor) ∧
      (s.rd Obj.relockMode = 1 → s.rd Obj.role ≠ 2 → s.rd Obj.ltcMode ≠ 0 → t.clk.anchor = some (s.clk.frames, 0)) ∧
      (s.rd Obj.relockMode = 1 → s.rd Obj.role ≠ 2 → s.rd Obj.ltcMode = 0 → bit (t.rd Obj.positionFlags) 5 = true)) ∧
    (s.clk.acq < 1024 → exec .lockAcquired s = .next s ∧ exec .relock s = .next s))

/-- FRAME while LOCKED, COASTED_FRAME after a loss (R25, R27, R51, R572): the bit clock and the period of the frame that ended are
judged, and the frame that begins has the next position; before a first position is set it is 0. While LOCKED no frame is
coasted, and after the loss output lanes shift on the edges that arrive. -/
def Obligations.Frames : Prop :=
  (∀ (s : State) (e : Edge), 5 ≤ s.rd Obj.phase → s.rd Obj.clockState = 2 →
    let u := ((s.readBitClock e.periodPs e.bitEdges).sampleCmark e.cmark).judgePeriod e.periodPs
    (¬ (s.clk.first = true ∧ s.clk.frames = 0) → exec (.frame e) s = .next (u.beginFrame (s.rd Obj.position) (s.rd Obj.position + 1) e.lanes)) ∧
    (s.clk.first = true → s.clk.frames = 0 → exec (.frame e) s = .next (u.firstFrame e.lanes)) ∧
    (s.stoppedIn e.periodPs = true → u.rd Obj.bitRatio = s.rd Obj.bitRatio ∧ u.clk.badRatio = s.clk.badRatio) ∧
    (s.stoppedIn e.periodPs = true ↔ s.rd Obj.houseRateHz ≠ 0 ∧ 4 * 10 ^ 12 ≤ e.periodPs * s.rd Obj.houseRateHz) ∧
    (∀ n ∈ [64, 128], e.bitEdges = n → s.stoppedIn e.periodPs = false → u.rd Obj.bitRatio = n ∧ u.clk.badRatio = 0 ∧ u.clk.goodRatio = s.clk.goodRatio + 1) ∧
    (e.bitEdges ≠ 64 → e.bitEdges ≠ 128 → s.stoppedIn e.periodPs = false → u.rd Obj.bitRatio = 0 ∧ u.clk.badRatio = s.clk.badRatio + 1 ∧ u.clk.goodRatio = 0) ∧
    (periodFits (s.rd Obj.houseRateHz) e.periodPs = true → u.clk.badPeriods = 0 ∧ u.rd Obj.periodFaults = s.rd Obj.periodFaults ∧
      u.rd Obj.rateError = ofSigned 32 (rateError (s.rd Obj.houseRateHz) e.periodPs)) ∧
    (periodFits (s.rd Obj.houseRateHz) e.periodPs = false → u.clk.badPeriods = s.clk.badPeriods + 1 ∧
      u.rd Obj.periodFaults = Nat.min (s.rd Obj.periodFaults + 1) (maxOf Obj.periodFaults))) ∧
  (∀ (s : State) (n : Nat) (lanes : List (Fin 64 × List Bool)),
    let u := s.beginFrame (s.rd Obj.position) (s.rd Obj.position + 1) lanes
    (s.rd Obj.clockState < 3 → exec (.coastedFrame n lanes) s = .next s) ∧
    (s.rd Obj.clockState ∈ [3, 4, 5] → ∃ t, exec (.coastedFrame n lanes) s = .next t ∧ t.dict = u.dict ∧ t.rings = u.rings ∧
      t.joints = u.joints ∧ t.sent = u.sent ∧
      ∀ k, k < 64 → (t.lane k).out = if u.rd (Obj.laneDirection k) = 2 then (u.lane k).out.take n else (u.lane k).out))

/-- TICK_BOUNDARY and COURSE_BOUNDARY (R28, R45): at a position that is a multiple of 16, or of L, their work is done, once in a frame;
elsewhere, and while no frames are counted, nothing. The work of a course boundary follows its plan, switches the clock, applies the
commits due, accounts, and releases the chunks planned, in this order. -/
def Obligations.Boundaries : Prop :=
  (∀ s : State, 2 ≤ s.rd Obj.clockState → s.rd Obj.position % 16 = 0 → s.clk.tickAt ≠ some s.clk.frames →
    let u := s.tickWork (s.rd Obj.position)
    exec .tickBoundary s =
      .next (if u.pos % u.courseLen = 0 ∧ u.clk.boundaryAt ≠ some u.clk.frames then u else u.lastTick u.pos) ∧
    ∃ t, exec .tickBoundary s = .next t ∧ t.clk.tickAt = some s.clk.frames ∧ t.rd Obj.position = s.rd Obj.position ∧
      (s.pair.failed = false → t.pair.fedTick = some (s.rd Obj.position / 16))) ∧
  (∀ (s : State) (x : Sensors), 2 ≤ s.rd Obj.clockState → s.rd Obj.position % 2 ^ s.rd Obj.courseLog2 = 0 →
    s.clk.boundaryAt ≠ some s.clk.frames →
    let u := (s.readSensors x).boundaryWork x.noStatus
    exec (.courseBoundary x) s = .next (if u.clk.tickAt = some u.clk.frames then u.lastTick u.pos else u) ∧
    ∃ t, exec (.courseBoundary x) s = .next t ∧ t.clk.boundaryAt = some s.clk.frames ∧
      (s.clk.tickAt ≠ some s.clk.frames → t.sched.next = none)) ∧
  (∀ (s : State) (x : Sensors), s.rd Obj.clockState < 2 →
    exec .tickBoundary s = .next s ∧ exec (.courseBoundary x) s = .next s) ∧
  (∀ s : State, s.rd Obj.position % 16 ≠ 0 → exec .tickBoundary s = .next s) ∧
  (∀ (s : State) (x : Sensors), s.rd Obj.position % 2 ^ s.rd Obj.courseLog2 ≠ 0 → exec (.courseBoundary x) s = .next s)

/-- CLOCK_LOSS, PERIOD_FAULT_LOSS (R47, R48, R572): a loss is counted; the leaf borrows from a partner it can reach that is LOCKED, or
leads it and is itself coasting, and coasts otherwise. After 4 periods with no edge the frame that begins is the fourth from the last; 64 periods out of
tolerance skip none. Before a loss is due nothing changes.

BIT_CLOCK_FAULT, LANE_RESUME (R25, R397): a run of frames with an invalid ratio is counted once and mutes every lane; at a course
boundary after 64 valid frames the lanes resume, but for an AES3 lane that cannot run at the ratio.

COAST_EXPIRED (R52): at the 64th coasted boundary a coasting leaf enters COAST_EXPIRED, every live stream that is bound is halted and
the output lanes play zero; before it nothing changes. A following leaf of a coasting leader does the same and stays BORROWED. -/
def Obligations.ClockLosses : Prop :=
  (∀ s : State,
    let reach := s.rd Obj.paired ≠ 0 ∧ s.tieUp = true
    let borrows := reach ∧ (bit s.pair.flags 3 = true ∨ (s.rd Obj.role = 2 ∧ 4 ≤ s.clk.leadState))
    let p := s.rd Obj.position
    (s.rd Obj.clockState = 2 → 64 ≤ s.clk.badPeriods → ∃ t, exec .periodFaultLoss s = .next t ∧ t = s.chooseTime ∧
      t.rd Obj.clockLossCount = Nat.min (s.rd Obj.clockLossCount + 1) (maxOf Obj.clockLossCount) ∧ t.rd Obj.coastedCourses = 0 ∧
      t.rd Obj.position = p ∧ t.clk.badPeriods = 0 ∧ t.clk.acq = 0 ∧
      (borrows → t.rd Obj.clockState = 3 ∧ bit (t.rd Obj.positionFlags) 1 = true) ∧
      (¬ borrows → t.rd Obj.clockState = 4 ∧ bit (t.rd Obj.positionFlags) 0 = true) ∧
      (s.rd Obj.role = 1 → s.rd Obj.paired ≠ 0 → t.pair.released = true ∧ t.pair.relinquish = true) ∧
      (s.rd Obj.role ≠ 1 → t.sent = s.sent)) ∧
    (s.rd Obj.clockState = 2 → s.clk.badPeriods < 64 → exec .periodFaultLoss s = .next s) ∧
    (s.rd Obj.clockState = 2 → s.clk.frames = 0 → ∀ lost, exec (.clockLoss lost) s = .next s.chooseTime) ∧
    (s.rd Obj.clockState = 2 → 0 < s.clk.frames →
      ∀ lost : LostFrame,
      let u := (s.takeBits p lost.lanes).skipFrames (p + 1) (p + 4)
      let v := (({ u with clk := { u.clk with frames := u.clk.frames + 3 } }).wr Obj.position (p + 4)).chooseTime
      let w := v.coastFrame p (p + 4) lost.bitEdges []
      exec (.clockLoss lost) s = .next (if (p / 16 + 1) * 16 < p + 4 then w.passedTick ((p / 16 + 1) * 16) else w)) ∧
    (s.rd Obj.clockState ≠ 2 → (∀ lost, exec (.clockLoss lost) s = .next s) ∧ exec .periodFaultLoss s = .next s)) ∧
  (∀ s : State, 2 ≤ s.rd Obj.clockState →
    (0 < s.clk.badRatio → s.clk.ratioCounted = false →
      let b := s.bump Obj.bitClockFaults
      exec .bitClockFault s = .next (b.remute { b with clk := { s.clk with ratioCounted := true, bitMuted := true } }) ∧
      ∃ t, exec .bitClockFault s = .next t ∧ t.clk = { s.clk with ratioCounted := true, bitMuted := true } ∧
        t.rd Obj.bitClockFaults = Nat.min (s.rd Obj.bitClockFaults + 1) (maxOf Obj.bitClockFaults) ∧ (∀ k, t.laneMuted k = true) ∧
        t.rings = s.rings ∧ t.joints = s.joints) ∧
    (s.clk.badRatio = 0 ∨ s.clk.ratioCounted = true → exec .bitClockFault s = .next s) ∧
    (s.rd Obj.position % 2 ^ s.rd Obj.courseLog2 = 0 → 64 ≤ s.clk.goodRatio → ∃ t, exec .laneResume s = .next t ∧
      t.clk = { s.clk with bitMuted := false } ∧ t.rings = s.rings ∧ t.joints = s.joints ∧ t.hostMem = s.hostMem ∧
      ∀ k, k < 64 → s.rd (Obj.laneDirection k) ≠ 0 →
        (t.lane k).muted = (s.isAes k && (s.rd Obj.bitRatio == 64 || ((s.lane k).muted && s.rd Obj.bitRatio != 128)))) ∧
    (s.rd Obj.position % 2 ^ s.rd Obj.courseLog2 ≠ 0 ∨ s.clk.goodRatio < 64 → exec .laneResume s = .next s)) ∧
  (∀ s : State,
    (s.coastOver = true → ∃ t, exec .coastExpired s = .next t ∧ t.clk.coastHalt = true ∧
      (s.rd Obj.clockState = 4 → t.rd Obj.clockState = 5) ∧ (s.rd Obj.clockState ≠ 4 → t.rd Obj.clockState = s.rd Obj.clockState) ∧
      (∀ n, n < 32768 → (s.rings.find n).isSome = true → s.rd (Obj.streamClass n) = 0 → (s.stream n).bound = true →
        bit (t.rd (Obj.streamStreamFlags n)) 1 = true)) ∧
    (s.coastOver = false → exec .coastExpired s = .next s) ∧
    (s.coastOver = true ↔
      (s.rd Obj.clockState = 4 ∧ 64 ≤ s.rd Obj.coastedCourses) ∨
      (s.rd Obj.clockState = 3 ∧ s.rd Obj.role = 2 ∧ s.clk.coastHalt = false ∧ s.rd Obj.position % 2 ^ s.rd Obj.courseLog2 = 0 ∧
        4 ≤ s.clk.leadState ∧ 63 ≤ s.clk.leadCoast)))

/-- R37: the frame number N of a label at 24, 25 and 30 frames a second and at 29.97 drop-frame, and the frames in a day of each. -/
def Obligations.LabelFrames : Prop :=
  (∀ h m sec f : Nat, h < 24 → m < 60 → sec < 60 → f < 30 →
    let label := h * 2 ^ 24 + m * 2 ^ 16 + sec * 2 ^ 8 + f
    let tm := 60 * h + m
    (∀ mode ∈ [(1, 24), (2, 25), (4, 30)], labelFrame mode.1 label = (3600 * h + 60 * m + sec) * mode.2 + f) ∧
    labelFrame 3 label = (3600 * h + 60 * m + sec) * 30 + f - 2 * (tm - tm / 10)) ∧
  labelDay 1 = 2073600 ∧ labelDay 2 = 2160000 ∧ labelDay 4 = 2592000 ∧ labelDay 3 = 2589408

/-- LTC_FRAME, LTC_VALID_LAPSE, ANCHOR_FAILED (R36, R39): a valid frame sets LTC_VALID, the last label and the phase error; the second in
a row while an anchor is awaited applies it (before the first lock there is neither phase error nor anchor); a frame that is not valid begins the count anew. A lapse clears LTC_VALID, and an anchor
awaited in vain fails. The position a label names is that of worked example 1 of R38.

CMARK_PULSE (R40): where the pin, sampled low at the edge before, is high at this one while CMARK_ARM is 1, the frame takes CMARK_POS,
CMARK_ARM clears and CMARK_ANCHORED is set. An armed pin that has not risen, a pin not armed, and a following leaf do nothing. -/
def Obligations.Timecode : Prop :=
  ((∀ (s : State) (label : BitVec 32) (sync contiguous : Bool) (ago : Nat), 2 ≤ s.rd Obj.clockState →
    let mode := s.rd Obj.ltcMode
    let intact := sync && mode != 0 && ltcLabelOk mode label.toNat
    let follows := ∃ x, s.clk.ltcPrev = some x ∧ labelFrame mode label.toNat = (labelFrame mode x + 1) % labelDay mode
    let valid := intact = true ∧ contiguous = true ∧ follows
    ∃ t, exec (.ltcFrame label sync contiguous ago) s = .next t ∧
      (¬ valid → t.clk.ltcPrev = (if intact then some label.toNat else none) ∧ t.dict = s.dict ∧
        t.clk.anchor = s.clk.anchor.map (fun a => (a.1, 0))) ∧
      (valid → s.clk.anchor = none → t.rd Obj.ltcLast = label.toNat ∧ bit (t.rd Obj.positionFlags) 4 = true ∧
        t.rd Obj.ltcPhaseErr = ofSigned 32 (s.labelPosition label.toNat - ((s.rd Obj.position : Int) - ago)) ∧
        t.rd Obj.position = s.rd Obj.position ∧ t.clk.ltcPrev = some label.toNat ∧ t.clk.ltcAt = s.clk.frames) ∧
      (valid → ∀ since, s.clk.anchor = some (since, 0) → t.clk.anchor = some (since, 1) ∧ t.rd Obj.position = s.rd Obj.position)) ∧
  (∀ (s : State) (label : BitVec 32) (ago : Nat) (x : Nat), s.rd Obj.clockState < 2 → s.rd Obj.ltcMode ≠ 0 →
    ltcLabelOk (s.rd Obj.ltcMode) label.toNat = true → s.clk.ltcPrev = some x →
    labelFrame (s.rd Obj.ltcMode) label.toNat = (labelFrame (s.rd Obj.ltcMode) x + 1) % labelDay (s.rd Obj.ltcMode) →
    ∃ t, exec (.ltcFrame label true true ago) s = .next t ∧ t.rd Obj.ltcLast = label.toNat ∧ bit (t.rd Obj.positionFlags) 4 = true ∧
      t.clk.ltcPrev = some label.toNat ∧ t.rd Obj.ltcPhaseErr = s.rd Obj.ltcPhaseErr ∧ t.clk.anchor = s.clk.anchor) ∧
  (∀ s : State, bit (s.rd Obj.positionFlags) 4 = true →
    (s.rd Obj.ltcMode = 0 ∨ s.rd Obj.clockState < 2 ∨ s.ltcPast s.clk.ltcAt 2 = true →
      exec .ltcValidLapse s = .next (s.setFlag 4 false)) ∧
    (s.rd Obj.ltcMode ≠ 0 → 2 ≤ s.rd Obj.clockState → s.ltcPast s.clk.ltcAt 2 = false → exec .ltcValidLapse s = .next s)) ∧
  (∀ (s : State) (since n : Nat), s.clk.anchor = some (since, n) →
    (s.rd Obj.ltcMode = 0 ∨ s.ltcPast since 64 = true → ∃ t, exec .anchorFailed s = .next t ∧ t.clk.anchor = none ∧
      bit (t.rd Obj.positionFlags) 5 = true ∧ t.rd Obj.position = s.rd Obj.position ∧ t.rings = s.rings) ∧
    (s.rd Obj.ltcMode ≠ 0 → s.ltcPast since 64 = false → exec .anchorFailed s = .next s)) ∧
  (∀ s : State, s.rd Obj.ltcMode = 3 → s.rd Obj.houseRateHz = 48000 → s.rd Obj.ltcAnchorTc = 0x01000000 →
    s.rd Obj.ltcAnchorPos = 1000000 → s.labelPosition 0x010A0000 = 29799971)) ∧
  (∀ s : State,
    (s.rd Obj.clockState = 2 → s.rd Obj.role ≠ 2 → s.rd Obj.cmarkArm = 1 → s.clk.cmarkPrev = some false → s.clk.cmarkNow = some true →
      let u := s.wr Obj.cmarkArm 0
      exec .cmarkPulse s = .next (((({ u with clk := { u.clk with cmarkPrev := none, cmarkNow := none, cmarkAt := some s.clk.frames } } :
        State)).jump (s.rd Obj.cmarkPos)).setFlag 3 true)) ∧
    (s.rd Obj.clockState ≠ 2 ∨ s.rd Obj.cmarkArm ≠ 1 ∨ s.clk.cmarkPrev ≠ some false ∨ s.clk.cmarkNow ≠ some true ∨ s.rd Obj.role = 2 →
      exec .cmarkPulse s = .next s))

/-- COURSE_SYNC (R31, R49, R480): a leaf that does not take its time from the partner keeps its own; one that does takes up a position that
differs 16 frames on, or, told of a jump at the frame it came from, jumps with the partner. A message off a link that is down, of an
unpaired leaf or of another length changes nothing. -/
def Obligations.CourseSyncs : Prop :=
  ∀ (s : State) (body : Bytes),
    (s.tieUp = false ∨ s.rd Obj.paired = 0 ∨ body.length ≠ 32 → exec (.courseSync body) s = .next s) ∧
    (s.tieUp = true → s.rd Obj.paired ≠ 0 → body.length = 32 → ¬ (s.rd Obj.clockState = 3 ∧ s.clk.coastHalt = true) →
      let u := { s with clk := { s.clk with leadCoast := field body 24 2, leadState := field body 27 1 } }
      (s.rd Obj.role ≠ 2 → s.rd Obj.clockState ≠ 3 → exec (.courseSync body) s = .next u) ∧
      (2 ≤ s.rd Obj.clockState → s.rd Obj.role = 2 ∨ s.rd Obj.clockState = 3 → bit (field body 29 1) 0 = false →
        (s.rd Obj.position + 16 = field body 0 8 → s.clk.first = false → exec (.courseSync body) s = .next u) ∧
        (s.rd Obj.position + 16 ≠ field body 0 8 → exec (.courseSync body) s =
          .next { u with clk := { u.clk with correct := some (s.clk.frames + 16, field body 0 8) } })) ∧
      (2 ≤ s.rd Obj.clockState → s.rd Obj.role = 2 ∨ s.rd Obj.clockState = 3 → bit (field body 29 1) 0 = true →
        s.rd Obj.position = field body 8 8 → field body 0 8 = s.rd Obj.position → ∃ t, exec (.courseSync body) s = .next t ∧
          t.clk.first = false ∧ t.clk.correct = none ∧ t.rd Obj.position = s.rd Obj.position) ∧
      (2 ≤ s.rd Obj.clockState → s.rd Obj.role = 2 ∨ s.rd Obj.clockState = 3 → bit (field body 29 1) 0 = true →
        s.rd Obj.position ≠ field body 8 8 → s.rd Obj.position ≠ field body 0 8 →
        let ahead := 2 ^ field body 26 1 - field body 0 8 % 2 ^ field body 26 1
        exec (.courseSync body) s =
          .next { u with clk := { u.clk with correct := some (s.clk.frames + ahead, field body 0 8 + ahead) } }))

/-! ## Joints, lanes, energy and memory -/

/-- PACKET_START, JOINT_IDLE_TIMEOUT, JOINT_ECC_ERROR (R342, R370, R371, R374, R381): a stage that is no brick takes the next packet of a
joint; an open packet with words, idle for the joint's time, is ended and counted against its chunk; an ECC error is counted, and one
that cannot be corrected drops the packet at the first reader and ends its command DEVICE_FAULT, the stream keeping the state of the chunk
before.

SPILL and COLLECTOR_EMIT (R377-R379): a pool-wait cycle is one whose every joint has had a waiting producer for four courses, seen at
a course boundary; it is counted and the youngest stream in it spilled, into the overflow region while that has room; anything else
is left alone. A collector emits one packet when every member has one, waits for room, and takes the packets only when written. -/
def Obligations.JointEvents : Prop :=
  (∀ (s : State) (tile : TileId) (x : Fin 64) (j : Joint),
    let k := 64 * tile.val + x.val
    s.joints.find k = some j →
    (j.group = none → stageUnitKind (s.planImage j.plan) j.link ≠ 1 →
      (∀ r j', j.next 0 = some (r, j') → exec (.packetStart tile x) s = .next { s with joints := s.joints.put k j' }) ∧
      (j.next 0 = none → exec (.packetStart tile x) s = .next s)) ∧
    (stageUnitKind (s.planImage j.plan) j.link = 1 → exec (.packetStart tile x) s = .next s) ∧
    (∀ tag w ws st c sp, j.recs.getLast? = some (.packet tag (w :: ws) false st c sp) →
      (j.idle ≠ 0 → j.written + j.idle ≤ s.clk.frames → exec (.jointIdleTimeout tile x) s =
        .next (((s.setJoint k j.timeOut).bump Obj.shortPackets).mapChunk st c
          (fun y => { y with short := s.packetFrames j.plan (w :: ws).length }))) ∧
      (j.idle = 0 ∨ s.clk.frames < j.written + j.idle → exec (.jointIdleTimeout tile x) s = .next s)) ∧
    (∀ j', j' = { j with corrected := Nat.min (j.corrected + 1) (2 ^ 32 - 1) } →
      exec (.jointEccError tile x true) s = .next (({ s with joints := s.joints.put k j' }).bump Obj.jointEccCorrected)) ∧
    (∀ tag ws ended st c sp, j.recs[(j.reader 0).idx]? = some (.packet tag ws ended st c sp) →
      let dropped (r : Reader) : Reader := if r.idx = (j.reader 0).idx then { r with mark := none, cur := true, drop := true } else r
      let j' := Joint.settle { j with readers := j.readers.map dropped }
      exec (.jointEccError tile x false) s =
        .next (((({ s with joints := s.joints.put k j' }).bump Obj.jointEccUncorrected).restoreCarried st c).deviceFault st c
          Obj.jointEccUncorrected))) ∧
  ((∀ (s : State) (cycle : List (TileId × Fin 64)),
    let keys := dedup (cycle.map (fun e => 64 * e.1.val + e.2.val))
    let counted := s.bump Obj.poolWaitCycles
    (s.waitCycle keys = false → exec (.spill cycle) s = .next s) ∧
    (s.waitCycle keys = true → counted.youngest (counted.streamsIn keys) = none → exec (.spill cycle) s = .next counted) ∧
    (s.waitCycle keys = true → ∀ n, counted.youngest (counted.streamsIn keys) = some n →
      exec (.spill cycle) s = .next (counted.spillStream keys n))) ∧
  (∀ (s : State) (keys : List Nat) (n : Nat),
    let t := s.spillStream keys n
    let bytes := sumN ((s.chunksIn keys n).map (s.spillBytes keys n))
    (s.overflowUsed + bytes ≤ s.rd Obj.overflowBytes →
      t.rd Obj.spills = Nat.min (s.rd Obj.spills + 1) (maxOf Obj.spills) ∧
      t.rd Obj.spilledBytes = Nat.min (s.rd Obj.spilledBytes + bytes) (maxOf Obj.spilledBytes) ∧
      t.hostMem = s.hostMem ∧ t.devMem = s.devMem) ∧
    (s.rd Obj.overflowBytes < s.overflowUsed + bytes →
      t.rd Obj.overflowFull = Nat.min (s.rd Obj.overflowFull + 1) (maxOf Obj.overflowFull) ∧ t.rd Obj.spills = s.rd Obj.spills ∧
      ∀ c ∈ s.chunksIn keys n, ∀ x ∈ (t.ring n).cmds, x.counter = c → x.final.isSome = true)) ∧
  (∀ (s : State) (group : Nat) (x : Collector), s.colls.find group = some x →
    (x.take = none → exec (.collectorEmit group) s = .next s) ∧
    (∀ p x' j, x.take = some (p, x') → s.joints.find x.target = some j → j.openLast = false →
      (s.jointWrite x.target p.1 p.2.1 p.2.2.1 p.2.2.2 = none →
        exec (.collectorEmit group) s = .next (s.jointWait x.target p.2.1)) ∧
      (∀ t, s.jointWrite x.target p.1 p.2.1 p.2.2.1 p.2.2.2 = some t → ∃ u, exec (.collectorEmit group) s = .next u ∧
        u.colls = s.colls.put group x' ∧ u.rings = s.rings ∧ u.hostMem = s.hostMem))))

/-- AES3_SUBFRAME, AES3_LOCK, FOREIGN_RELOCK (R404, R405): a subframe of an AES3 input lane gives its channel's sample, with its V, U and C
bits, and its parity and biphase errors are counted; a lane locks after 64 good frames, and a foreign one re-locks at a course
boundary after 4,096 frames at one phase. A lane of no such kind, or too early, stays as it is.

CAPTURE_WRITE (R422, R423): the oldest frame of a capturing group goes to its place in the group's buffer, 4 bytes a slot, zero, or
the word that says no sample, where a frame was dropped, and the position captured is one more; in host memory every other byte reads
as before. A group that does not capture, or whose host is away, writes nothing; a page without a translation is asked for. -/
def Obligations.LaneEvents : Prop :=
  ((∀ (s : State) (lane : Fin 64) (sub : Subframe), 2 ≤ s.rd Obj.clockState → s.rd (Obj.laneDirection lane.val) = 1 →
    s.isAes lane.val = true →
    let n := lane.val
    let u := if sub.preamble.val = 1 then s else s.aesStart n sub.phase (!sub.violation)
    let bitOf (k : Nat) : Bool := sub.slots.getLsbD (k - 4)
    let bad := sub.violation || (natBits 28 sub.slots.toNat).foldl (fun a b => a != b) false
    ∃ t z, exec (.aes3Subframe lane sub) s = .next t ∧
      (t.lane n).aes.got.getLast? = some ⟨(u.lane n).aes.at', if sub.preamble.val = 1 then 1 else 0,
        keepBits (s.sampleBits n) (sub.slots.toNat % 2 ^ 24 * 256), bad || bitOf 28, bitOf 29, bitOf 30, z,
        s.clk.bitMuted || (s.lane n).muted⟩ ∧
      t.rd (Obj.laneParityErrors n) =
        (if bad then Nat.min (s.rd (Obj.laneParityErrors n) + 1) (maxOf (Obj.laneParityErrors n)) else s.rd (Obj.laneParityErrors n)) ∧
      t.rd (Obj.laneSamplesInvalid n) = (if bad || bitOf 28 then
        Nat.min (s.rd (Obj.laneSamplesInvalid n) + 1) (maxOf (Obj.laneSamplesInvalid n)) else s.rd (Obj.laneSamplesInvalid n)) ∧
      (∀ m, m ≠ n → t.lane m = s.lane m) ∧ t.rings = s.rings ∧ t.joints = s.joints ∧ t.hostMem = s.hostMem) ∧
  (∀ (s : State) (lane : Fin 64) (sub : Subframe), s.rd (Obj.laneDirection lane.val) ≠ 1 ∨ s.isAes lane.val = false →
    exec (.aes3Subframe lane sub) s = .next s ∧ exec (.aes3Lock lane) s = .next s ∧ exec (.foreignRelock lane) s = .next s) ∧
  (∀ (s : State) (lane : Fin 64), s.rd (Obj.laneDirection lane.val) = 1 → s.isAes lane.val = true →
    let n := lane.val
    let l := s.lane n
    (l.aes.phi = none → 64 ≤ l.aes.good → exec (.aes3Lock lane) s =
      .next ((s.setLane n { l with aes := { l.aes with phi := l.aes.start.map (· % 65536) } }).wr (Obj.laneState n) 1)) ∧
    (l.aes.phi ≠ none ∨ l.aes.good < 64 → exec (.aes3Lock lane) s = .next s) ∧
    (l.aes.foreign = true → 4096 ≤ l.aes.keep → s.rd Obj.position % 2 ^ s.rd Obj.courseLog2 = 0 →
      exec (.foreignRelock lane) s = .next ((s.setLane n
        { l with aes := { l.aes with foreign := false, phi := l.aes.start.map (· % 65536) } }).wr (Obj.laneState n) 1)) ∧
    (l.aes.foreign = false ∨ l.aes.keep < 4096 → exec (.foreignRelock lane) s = .next s))) ∧
  (∀ (s : State) (group : Fin 64) (key p : Nat) (late : Bool) (rest : List (Nat × Bool)) (j : Joint),
    let g := group.val
    let slots := (s.groupSlots g).length
    let addr := s.rd (Obj.groupCaptureBase g) + p % 2 ^ s.rd (Obj.groupCaptureLog2 g) * 4 * slots
    let taken := j.takeFrame (s.captureWords g)
    let blank := if s.rd (Obj.groupInputWord g) = 0 then 1 else 0
    let words := match taken.1 with
      | some ws => (ws.flatMap (fun v => [v % 2 ^ 32, v / 2 ^ 32])).take slots
      | none => List.replicate slots blank
    let bytes := words.flatMap (leBytes 4)
    (s.group g).joint = some key → (s.group g).frames = (p, late) :: rest → s.joints.find key = some j →
    (s.rd (Obj.groupCaptureEnable g) = 0 → ∀ b, exec (.captureWrite group b) s = .next s) ∧
    (s.rd (Obj.groupCaptureEnable g) ≠ 0 → s.rd (Obj.groupCaptureSpace g) = 0 → s.host = false →
      ∀ b, exec (.captureWrite group b) s = .next s) ∧
    (s.rd (Obj.groupCaptureEnable g) ≠ 0 → s.rd (Obj.groupCaptureSpace g) = 0 → s.host = true → s.rd Obj.role ≠ 4 →
      s.waitsPage (32768 + g) 0 = false →
      (∃ t, exec (.captureWrite group true) s = .next t ∧ t.hostMem = s.hostMem.writeBytes addr bytes ∧ t.devMem = s.devMem ∧
        t.rd (Obj.groupCapturePosition g) = p + 1 ∧ (t.group g).frames = rest ∧ t.joints = s.joints.put key taken.2 ∧
        (∀ h, h ≠ g → t.group h = s.group h) ∧ t.rings = s.rings) ∧
      exec (.captureWrite group false) s = .next (s.pageFault (32768 + g) 0 p addr)) ∧
    (s.rd (Obj.groupCaptureEnable g) ≠ 0 → s.rd (Obj.groupCaptureSpace g) ≠ 0 → s.waitsPage (32768 + g) 0 = false →
      ∃ t, exec (.captureWrite group true) s = .next t ∧ t.devMem = s.devMem.writeBytes addr bytes ∧ t.hostMem = s.hostMem ∧
        t.rd (Obj.groupCapturePosition g) = p + 1 ∧ (t.group g).frames = rest))

/-- COURSE_GOVERNED, GROUT_AGED, ISNS_SAMPLE (R429, R435, R559): a running course whose measured energy reaches its allowance is governed,
once; grout chunks not released whose age has reached the limit are aged, no other chunk changes; a sample adds the energy of its
microsecond, full scale × reading × voltage over the six rails, and 5 A at the two fixed inputs. -/
def Obligations.EnergyEvents : Prop :=
  (∀ s : State,
    (s.sched.governed = false → s.sched.running = true → s.rd Obj.lAllowanceMj * measureUnits ≤ s.sched.measured →
      exec .courseGoverned s = .next (({ s with sched := { s.sched with governed := true } }).bump Obj.coursesGoverned)) ∧
    (s.sched.governed = true ∨ s.sched.running = false ∨ s.sched.measured < s.rd Obj.lAllowanceMj * measureUnits →
      exec .courseGoverned s = .next s)) ∧
  (∀ (s : State) (n : RingId), ((s.ring n.val).cmds.map (·.counter)).Nodup →
    (s.rd (Obj.streamClass n.val) ≠ 2 → exec (.groutAged n) s = .next s) ∧
    (s.rd (Obj.streamClass n.val) = 2 → ∃ t, exec (.groutAged n) s = .next t ∧ t.dict = s.dict ∧
      (∀ m, m ≠ n.val → t.ring m = s.ring m) ∧
      let mark (k : Chunk) : Chunk := if s.rd Obj.groutAgeMax ≤ k.age ∧ k.released = false then { k with aged := true } else k
      (t.ring n.val).cmds = (s.ring n.val).cmds.map (fun c => { c with chunk := c.chunk.map mark }))) ∧
  (∀ (s : State) (rails : List RailSample), rails.length = 6 →
    let rail (i : Nat) : Nat := (nth ⟨0, 0⟩ rails i).code.toNat * s.rd (Obj.isnsFullScaleA i) * (nth ⟨0, 0⟩ rails i).mv
    exec (.isnsSample rails) s = .next { s with sched := { s.sched with measured := s.sched.measured +
      (rail 0 + rail 1 + rail 2 + rail 3 + rail 4 + rail 5) + 4095 * 5 * (1800 + s.rd Obj.vioAudMv) } })

/-- RETRAIN_DUE, RETRAIN_WINDOW_END (R456, R457, R459): a die in service that is not given up becomes due on its interval, its change of
temperature or its retries, after those that wait; a window that ends well counts and starts its times anew, one that fails counts,
the third failure gives the die up, an earlier one makes it due again. -/
def Obligations.Retraining : Prop :=
  (∀ (s : State) (die : Fin 84) (why : DueReason),
    let d := die.val
    let x := s.die d
    (s.dueFor d why = false → exec (.retrainDue die why) s = .next s) ∧
    (s.dueFor d why = true → s.retrainable d = true → x.due = none → x.window = none → ∃ t, exec (.retrainDue die why) s = .next t ∧
      t.die d = { x with due := some s.retrain.order } ∧ t.retrain.order = s.retrain.order + 1 ∧ t.dict = s.dict ∧
      (∀ e, e ≠ d → t.die e = s.die e)) ∧
    (s.retrainable d = false ∨ x.due ≠ none ∨ x.window ≠ none → exec (.retrainDue die why) s = .next s) ∧
    (s.dueFor d .interval = true ↔ x.trainedAt + s.rd Obj.retrainInterval ≤ s.clk.frames) ∧
    (s.dueFor d .crcRetries = true ↔ 64 < x.retries)) ∧
  (∀ (s : State) (die : Fin 84) (at' : Nat), (s.die die.val).window = some at' →
    let d := die.val
    let up (t : State) (key : Nat) : Prop := t.rd key = Nat.min (s.rd key + 1) (maxOf key)
    (∃ t, exec (.retrainWindowEnd die true) s = .next t ∧ up t Obj.retrains ∧ up t (Obj.dieRetrains d) ∧
      t.rd (Obj.dieLastTrained d) = at' ∧ t.rd (Obj.dieRetrainFails d) = 0 ∧ t.rings = s.rings ∧ t.devMem = s.devMem ∧
      t.die d = { s.die d with window := none, inRound := false, trainedAt := s.clk.frames
                               temp := toSigned 16 (s.rd (Obj.dieTemp d)), retries := 0 }) ∧
    (∃ t, exec (.retrainWindowEnd die false) s = .next t ∧ up t Obj.retrainFails ∧ up t (Obj.dieRetrainFails d) ∧
      (t.die d).window = none ∧ (t.die d).inRound = false ∧
      (2 ≤ s.rd (Obj.dieRetrainFails d) → t.rd (Obj.dieDegraded d) = 1) ∧
      (s.rd (Obj.dieRetrainFails d) < 2 → s.retrainable d = true → (s.die d).due = none → (t.die d).due = some s.retrain.order))) ∧
  (∀ (s : State) (die : Fin 84) (ok : Bool), (s.die die.val).window = none → exec (.retrainWindowEnd die ok) s = .next s)

/-- MEMORY_ERROR and PATROL_SCRUB (R460-R463, R321): a correctable error is counted, one that is not poisons its 64-byte line, is counted
and reported as the last; a tile buffer's lines are poisoned apart, and a word of a brick's local memory goes bad; an address that is
not there changes nothing, and a scrub counts only what it corrects.

CXL_LINK_DOWN and CXL_LINK_UP (R466): an expander in service goes down, every line it serves poisoned and counted; it comes up again
with its lines poisoned until they are written. -/
def Obligations.MemoryErrors : Prop :=
  (∀ (s : State) (a r : Nat),
    let line := a / 64 * 64
    let poisoned (space : Nat) : State :=
      (({ s with poison := addPoison line 64 s.poison }).wr Obj.lastPoisonAddr line).wr Obj.lastPoisonSpace space
    (rangeSpace a = some 1 → s.mapped a = true →
      exec (.memoryError .plane a r true) s = .next (s.bump Obj.planeCorrected) ∧
      exec (.memoryError .plane a r false) s = .next ((poisoned 1).bump Obj.planeUncorrected) ∧
      exec (.patrolScrub .plane a true) s = .next (s.bump Obj.planeCorrected)) ∧
    (∀ tier, exec (.patrolScrub tier a false) s = .next s) ∧
    (s.tileOn (a / 0x800000) = true → exec (.memoryError .tileBuffer a r true) s = .next (s.bump Obj.tbufCorrected)) ∧
    (s.tileOn (a / 0x800000) = false → ∀ ok, exec (.memoryError .tileBuffer a r ok) s = .next s) ∧
    (s.tileOn (a / 0x800000) = true → ∃ t, exec (.memoryError .tileBuffer a r false) s = .next t ∧ t.tbufPoison = addPoison line 64 s.tbufPoison ∧
      t.rd Obj.tbufUncorrected = Nat.min (s.rd Obj.tbufUncorrected + 1) (maxOf Obj.tbufUncorrected) ∧
      t.rd Obj.lastPoisonAddr = line ∧ t.rd Obj.lastPoisonSpace = 4 ∧ t.poison = s.poison) ∧
    (∀ x, s.expanderOf a = some x → exec (.memoryError .cxl a r true) s = .next s ∧
      exec (.memoryError .cxl a r false) s = .next (((poisoned 3).bump Obj.cxlPoisoned).bump (Obj.expPoisoned x))) ∧
    (s.mapped a = true → ∀ d o, s.dieOf a = some (d, o) →
      (∃ t, exec (.memoryError .gddr7 a r true) s = .next t ∧ t.poison = s.poison ∧
        t.rd Obj.gddr7CrcRetries = Nat.min (s.rd Obj.gddr7CrcRetries + Nat.min r 4) (maxOf Obj.gddr7CrcRetries) ∧
        (t.die d).retries = (s.die d).retries + Nat.min r 4) ∧
      (∃ t, exec (.memoryError .gddr7 a r false) s = .next t ∧ t.poison = addPoison line 64 s.poison ∧
        t.rd Obj.gddr7Uncorrected = Nat.min (s.rd Obj.gddr7Uncorrected + 1) (maxOf Obj.gddr7Uncorrected) ∧
        t.rd Obj.lastPoisonAddr = line ∧ t.rd Obj.lastPoisonSpace = 2)) ∧
    (s.brickOn (a / 262144) = true →
      let b := s.brick (a / 262144)
      exec (.memoryError .brickLocal a r true) s = .next (s.bump Obj.localEccCorrected) ∧
      (a % 262144 / 8 ∉ b.bad → exec (.memoryError .brickLocal a r false) s =
        .next (s.setBrick (a / 262144) { b with bad := b.bad ++ [a % 262144 / 8] }))) ∧
    (s.mapped a = false → ∀ c, exec (.memoryError .plane a r c) s = .next s ∧ exec (.memoryError .gddr7 a r c) s = .next s) ∧
    (s.expanderOf a = none → ∀ c, exec (.memoryError .cxl a r c) s = .next s)) ∧
  (∀ (s : State) (x : Fin 8),
    let ranges := s.expanderRanges x.val
    let lines := sumN (ranges.map (fun r => r.2 / 64))
    (s.rd (Obj.expState x.val) = 1 → ∃ t, exec (.cxlLinkDown x) s = .next t ∧ t.rd (Obj.expState x.val) = 2 ∧
      t.poison = ranges.foldl (fun ps r => addPoison r.1 r.2 ps) s.poison ∧
      t.rd Obj.cxlPoisoned = Nat.min (s.rd Obj.cxlPoisoned + lines) (maxOf Obj.cxlPoisoned) ∧
      t.rd (Obj.expPoisoned x.val) = Nat.min (s.rd (Obj.expPoisoned x.val) + lines) (maxOf (Obj.expPoisoned x.val)) ∧
      t.rd (Obj.expLinkDowns x.val) = Nat.min (s.rd (Obj.expLinkDowns x.val) + 1) (maxOf (Obj.expLinkDowns x.val)) ∧
      t.devMem = s.devMem ∧ t.rings = s.rings) ∧
    (s.rd (Obj.expState x.val) ≠ 1 → exec (.cxlLinkDown x) s = .next s) ∧
    (s.rd (Obj.expState x.val) = 2 → exec (.cxlLinkUp x) s = .next (s.wr (Obj.expState x.val) 1)) ∧
    (s.rd (Obj.expState x.val) ≠ 2 → exec (.cxlLinkUp x) s = .next s))

/-! ## The cavity pair -/

/-- TIE_FLIT, TIE_REPLAY_TIMEOUT (R475, R476): a flit whose CRC fails is counted and answered with a NAK; a good one acknowledges what its
ACK names, which a leave's progress counts, and by its kind asks for a replay, is idle, or, next in sequence, is accepted and acknowledged; a later one is answered with
a NAK, an earlier one acknowledged again. A replay begins after the last acknowledged flit, and the ninth without progress takes the
link down.

TIE_TRAINING and TIE_RETRAIN (R474, R477): a link that is down trains at x8 or x4, its numbering begun anew, or stays down; a retraining
that succeeds is counted, one that fails leaves x4, or takes an x4 link down. -/
def Obligations.TieLink : Prop :=
  (∀ (s : State) (flit : Bytes) (fixed : Bool), s.tieUp = true →
    let counted := if fixed then s.bump Obj.tieFecCorrected else s
    let kind := bits (field flit 0 2) 13 12
    let seq := bits (field flit 0 2) 11 0
    let u := counted.takeAck (bits (field flit 2 2) 11 0)
    let ahead := (seq + 4096 - (s.pair.rxSeq + 1) % 4096) % 4096
    (flit.length ≠ 256 → exec (.tieFlit flit fixed) s = .next s) ∧
    (flit.length = 256 → field flit 240 8 ≠ crc64 (flit.take 240) →
      exec (.tieFlit flit fixed) s = .next ((counted.bump Obj.tieCrcErrors).send (.tieNak s.pair.rxSeq))) ∧
    (flit.length = 256 → field flit 240 8 = crc64 (flit.take 240) →
      (kind = 2 → exec (.tieFlit flit fixed) s = .next u.replay) ∧
      (kind ≠ 0 → kind ≠ 2 → exec (.tieFlit flit fixed) s = .next u) ∧
      (kind = 0 → ahead = 0 →
        exec (.tieFlit flit fixed) s = .next ((u.mapPair (fun p => { p with rxSeq := seq })).send (.tieAck seq))) ∧
      (kind = 0 → 0 < ahead → ahead < 2048 → exec (.tieFlit flit fixed) s = .next (u.send (.tieNak s.pair.rxSeq))) ∧
      (kind = 0 → 2048 ≤ ahead → exec (.tieFlit flit fixed) s = .next (u.send (.tieAck s.pair.rxSeq)))) ∧
    (∀ ack, ack < 4096 → let n := (ack + 4096 - (s.pair.acked + 4095) % 4096) % 4096
      (n = 0 ∨ s.unacked < n → s.takeAck ack = s) ∧
      (0 < n → n ≤ s.unacked →
        let more := ackedLeave (s.sent.drop s.pair.txBase) (s.pair.acked + n) - ackedLeave (s.sent.drop s.pair.txBase) s.pair.acked
        let taken := s.mapPair (fun p => { p with acked := p.acked + n, replays := 0 })
        (s.pair.leaving ≠ 3 ∨ more = 0 → s.takeAck ack = taken) ∧
        (s.pair.leaving = 3 → more ≠ 0 → s.takeAck ack = taken.progAdd 0x1310 more))) ∧
    exec .tieReplayTimeout s = .next s.replay ∧
    (s.unacked = 0 → s.replay = s) ∧
    (s.unacked ≠ 0 → s.pair.replays < 8 → s.replay =
      ((s.mapPair (fun p => { p with replays := p.replays + 1 })).bump Obj.tieReplays).send (.tieReplay (s.pair.acked % 4096))) ∧
    (s.unacked ≠ 0 → 8 ≤ s.pair.replays → s.replay.rd Obj.tieState = 0 ∧ s.replay.rd Obj.tieWidth = 0 ∧
      s.replay.rd Obj.tieDowns = Nat.min (s.rd Obj.tieDowns + 1) (maxOf Obj.tieDowns) ∧
      (s.rd Obj.clockState = 3 → s.replay.rd Obj.clockState = 4 ∧ s.replay.rd Obj.coastedCourses = 0) ∧
      (s.rd Obj.clockState ≠ 3 → s.replay.rd Obj.clockState = s.rd Obj.clockState))) ∧
  (∀ s : State,
    (2 ≤ s.rd Obj.phase → s.rd Obj.tieState = 0 → ∀ w ∈ [4, 8], ∃ t, exec (.tieTraining w) s = .next t ∧ t.rd Obj.tieState = 2 ∧
      t.rd Obj.tieWidth = w ∧ t.unacked = 0 ∧ t.pair.rxSeq = 4095 ∧ t.pair.replays = 0 ∧ t.rd Obj.role = s.rd Obj.role ∧
      t.sent = s.sent ∧ t.rings = s.rings) ∧
    (∀ w, s.rd Obj.phase < 2 ∨ s.rd Obj.tieState ≠ 0 ∨ (w ≠ 4 ∧ w ≠ 8) → exec (.tieTraining w) s = .next s) ∧
    (s.tieUp = true → exec (.tieRetrain true) s = .next (s.bump Obj.tieRetrains)) ∧
    (s.tieUp = true → s.rd Obj.tieWidth = 8 → exec (.tieRetrain false) s = .next ((s.bump Obj.tieRetrains).wr Obj.tieWidth 4)) ∧
    (s.tieUp = true → s.rd Obj.tieWidth ≠ 8 → exec (.tieRetrain false) s = .next (s.bump Obj.tieRetrains).tieDrop) ∧
    (s.tieUp = false → ∀ ok, exec (.tieRetrain ok) s = .next s ∧ exec .tieReplayTimeout s = .next s ∧
      ∀ flit, exec (.tieFlit flit ok) s = .next s))

/-- Tick positions and heartbeats (R484, R485): a leaf that is in service and whose watchdog has not failed feeds it and sends a
heartbeat on both paths, a leaf that has left, or one before phase 5, feeds it only, one whose watchdog has failed does nothing.

HEARTBEAT, PAIR_HB_EDGE (R484, R486, R488, R489, R50): a heartbeat counts for its tick and tells role and flags; a following leaf leads from
its next frame when the leader relinquishes and it is LOCKED, and at once when the leader has handed over; of two leading leaves the one
that relinquished follows, and of two others the one R488 names releases and returns to PAIRING.

WATCHDOG_FAIL, TAKEOVER, PARTNER_LOSS (R485-R488): a leaf that counts frames and has gone a tick without feeding its watchdog fails; a paired
following leaf takes over in the second silent tick, a leading one counts the loss, and the lanes of a failed one are driven anew; each adopts the shadows it holds and is then
unpaired. Otherwise nothing changes. -/
def Obligations.Heartbeats : Prop :=
  (∀ s : State,
    let fed := s.mapPair (fun p => { p with fedTick := some (s.rd Obj.position / 16) })
    let turned := fed.mapPair (fun p => { p with hbOut := !s.pair.hbOut })
    (s.pair.failed = true → s.beat = s) ∧
    (s.pair.failed = false → s.rd Obj.role = 4 ∨ s.rd Obj.phase < 5 → s.beat = fed) ∧
    (s.pair.failed = false → s.rd Obj.role ≠ 4 → 5 ≤ s.rd Obj.phase →
      (s.tieUp = true → s.beat = (turned.send (.heartbeatEdge (!s.pair.hbOut))).send (.tie 1 0 s.heartbeatBody)) ∧
      (s.tieUp = false → s.beat = turned.send (.heartbeatEdge (!s.pair.hbOut))))) ∧
  (∀ (s : State) (body : Bytes),
    let role := field body 8 1
    let flags := field body 9 1
    let mine := field body 0 8 = s.rd Obj.position / 16
    let u := (s.wr Obj.partnerRole role).mapPair (fun p =>
      { p with alive := true, gotMsg := p.gotMsg || decide mine, flags := flags })
    exec .pairHbEdge s = .next (s.mapPair (fun p => { p with alive := true, gotEdge := true })) ∧
    (s.tieUp = false ∨ body.length ≠ 16 ∨ s.rd Obj.role = 4 ∨ 4 < role → exec (.heartbeat body) s = .next s) ∧
    (s.tieUp = true → body.length = 16 → role ≤ 4 →
      (s.rd Obj.role = 3 → exec (.heartbeat body) s = .next u) ∧
      (s.rd Obj.role = 1 → role ≠ 1 → exec (.heartbeat body) s = .next u) ∧
      (s.rd Obj.role = 1 → role = 1 → s.pair.relinquish = true → exec (.heartbeat body) s =
        .next ((u.wr Obj.role 2).mapPair (fun p => { p with relinquish := false, released := false }))) ∧
      (s.rd Obj.role = 1 → role = 1 → s.pair.relinquish = false → bit flags 0 = true → exec (.heartbeat body) s = .next u) ∧
      (s.rd Obj.role = 1 → role = 1 → s.pair.relinquish = false → bit flags 0 = false → exec (.heartbeat body) s =
        .next (if s.loses (field body 12 4) then ((u.wr Obj.role 0).wr Obj.pairFailReason 3).wr Obj.paired 0 else u)) ∧
      (s.rd Obj.role = 2 → bit flags 0 = true → s.rd Obj.clockState = 2 →
        exec (.heartbeat body) s = .next (u.lead (s.clk.frames + 1))) ∧
      (s.rd Obj.role = 2 → bit flags 0 = false → s.rd Obj.partnerRole = 1 → role ∈ [2, 3] →
        exec (.heartbeat body) s = .next ((u.lead s.clk.frames).bump Obj.handovers)) ∧
      (s.rd Obj.role = 2 → bit flags 0 = false → s.rd Obj.partnerRole ≠ 1 → exec (.heartbeat body) s = .next u)) ∧
    (∀ theirs, theirs < 2 ^ 32 → let d := (s.leadFrames + 2 ^ 32 - theirs) % 2 ^ 32
      s.loses theirs = true ↔ 2 ^ 31 < d ∨ ((d = 0 ∨ d = 2 ^ 31) ∧ s.rd Obj.leafId = 1))) ∧
  (∀ s : State,
    let dead := s.mapPair (fun p => { p with failed := true })
    let silenced := dead.activeLanes.foldl (fun u n => u.restartLane n false) dead
    (2 ≤ s.rd Obj.clockState → ∀ t, s.pair.fedTick = some t →
      (t + 1 < s.rd Obj.position / 16 → exec .watchdogFail s = .next silenced) ∧
      (t + 1 = s.rd Obj.position / 16 → s.rd Obj.position % 16 = 15 → exec .watchdogFail s = .next silenced) ∧
      (t = s.rd Obj.position / 16 → exec .watchdogFail s = .next s)) ∧
    (s.rd Obj.role = 2 → s.rd Obj.paired ≠ 0 → 2 ≤ s.silentTicks → s.pair.failed = false →
      exec .takeover s = .next (((s.lead s.tickFrame).bump Obj.takeovers).adoptShadows).unpair) ∧
    (s.rd Obj.role ≠ 2 ∨ s.rd Obj.paired = 0 ∨ s.silentTicks < 2 ∨ s.pair.failed = true → exec .takeover s = .next s) ∧
    (s.rd Obj.role = 1 → s.rd Obj.paired ≠ 0 → 2 ≤ s.silentTicks →
      exec .partnerLoss s = .next ((s.bump Obj.partnerLosses).adoptShadows).unpair) ∧
    (s.rd Obj.role ≠ 1 ∨ s.rd Obj.paired = 0 ∨ s.silentTicks < 2 → exec .partnerLoss s = .next s) ∧
    (∀ at', (s.lead at').rd Obj.role = 1 ∧ (s.lead at').pair.leadSince = at' ∧ (s.lead at').pair.released = false) ∧
    (s.unpair.rd Obj.paired = 0 ∧ s.unpair.pair.silent = 0 ∧ s.unpair.pair.resyncs = [] ∧ s.unpair.streams = s.streams) ∧
    (s.pair.shadows = [] → s.adoptShadows.streams = s.streams ∧ s.adoptShadows.rd Obj.streamsLost =
      Nat.min (s.rd Obj.streamsLost + (s.pair.partnerLive.filter (fun n => !s.isBound n)).length) (maxOf Obj.streamsLost)))

/-- DIGEST (R491, R492): the partner's entries for a course are compared with this leaf's own where it has them, or kept until it has;
those of a course three or more back are not. Of two entries of a stream that both cover it, a different generation or digest is a
divergence, counted and named; an entry of one side only is unmatched.

RESYNC_STATE_TAKE, STATE_PUSH (R493, R498, R503): a leading leaf asked for a live stream's state sends it at the first point between chunks
at or after the position asked; what comes in is gathered in order, and a whole image is installed by its purpose. -/
def Obligations.StateCopies : Prop :=
  ((∀ (s : State) (body : Bytes), s.tieUp = true → body.length = 16 + 16 * field body 8 2 →
    let c := field body 0 8
    let es := parseDigest body
    let u := s.mapPair (fun p => { p with partnerLive := es.map (·.stream), partnerGens := es.map (fun e => (e.stream, e.gen)) })
    (c + 3 ≤ s.course → exec (.digest body) s = .next u) ∧
    (s.course < c + 3 → (∀ own, s.pair.own.find c = some own → exec (.digest body) s = .next (u.compareDigests c own es)) ∧
      (s.pair.own.find c = none → exec (.digest body) s = .next (u.mapPair (fun p => { p with theirs := p.theirs.put c es }))))) ∧
  (∀ (s : State) (body : Bytes), s.tieUp = false ∨ body.length ≠ 16 + 16 * field body 8 2 → exec (.digest body) s = .next s) ∧
  (∀ (s : State) (c : Nat) (a b : DigestEntry), s.rd Obj.unmatched < maxOf Obj.unmatched → s.rd Obj.divergences < maxOf Obj.divergences →
    let t := s.compareDigests c [a] [b]
    (a.stream = b.stream → a.kind = 0 → b.kind = 0 → a.gen ≠ b.gen ∨ a.digest ≠ b.digest →
      t.rd Obj.divergences = s.rd Obj.divergences + 1 ∧ t.rd Obj.lastDivergedStream = a.stream ∧ t.rd Obj.lastDivergedCourse = c ∧
      t.rd Obj.unmatched = s.rd Obj.unmatched) ∧
    (a.stream = b.stream → a.kind ≠ 0 ∨ b.kind ≠ 0 ∨ (a.gen = b.gen ∧ a.digest = b.digest) →
      t.rd Obj.divergences = s.rd Obj.divergences ∧ t.rd Obj.unmatched = s.rd Obj.unmatched) ∧
    (a.stream ≠ b.stream → t.rd Obj.divergences = s.rd Obj.divergences ∧
      t.rd Obj.unmatched = Nat.min (s.rd Obj.unmatched + 2) (maxOf Obj.unmatched)))) ∧
  ((∀ (s : State) (n : RingId) (r : Resync), s.pair.asked.find? (fun q => q.stream == n.val) = some r →
    (s.rd Obj.role = 1 → s.tieUp = true → s.rd (Obj.streamResidency n.val) ∈ [1, 2] → s.stateSettled n.val = true →
      r.frontier ≤ s.statePosition n.val → exec (.resyncStateTake n) s =
        .next ((s.pushImage 4 r.purpose n.val (s.stateImage n.val)).mapPair (fun p =>
          { p with asked := p.asked.filter (fun q => q.stream != n.val) }))) ∧
    (s.statePosition n.val < r.frontier ∨ s.stateSettled n.val = false → exec (.resyncStateTake n) s = .next s)) ∧
  (∀ (s : State) (body : Bytes), s.tieUp = true → 16 ≤ body.length → field body 0 2 < 32768 →
    let n := field body 0 2
    let purpose := field body 2 1
    let flags := field body 3 1
    (bit flags 2 = true → purpose ≤ 2 →
      (s.rd Obj.role = 1 → s.rd (Obj.streamResidency n) ≠ 0 → s.rd (Obj.streamClass n) = 0 → exec (.statePush body) s =
        .next (s.mapPair (fun p => { p with asked := p.asked.filter (fun q => q.stream != n) ++ [⟨n, field body 8 8, purpose, 0⟩] }))) ∧
      (s.rd Obj.role ≠ 1 → exec (.statePush body) s = .next s)) ∧
    (bit flags 2 = false → purpose ≤ 1 →
      (∀ u, s.takeSegment body = (none, u) → exec (.statePush body) s = .next u) ∧
      (∀ image u, s.takeSegment body = (some image, u) →
        exec (.statePush body) s = .next (if purpose = 0 then u.installResync n image else u.adoptImage n image))) ∧
    (bit flags 2 = false → purpose = 2 →
      let v := if s.pair.resyncs.any (fun q => q.purpose == 2) then (s.progHold 0x1310 false).progAdd 0x1310 (body.length - 16) else s
      (∀ u, v.takeSegment body = (none, u) → exec (.statePush body) s = .next u) ∧
      (∀ image u, v.takeSegment body = (some image, u) → exec (.statePush body) s = .next (u.installJoin n image))) ∧
    (2 < purpose → exec (.statePush body) s = .next s)) ∧
  (∀ (s : State) (body : Bytes) (i : Incoming),
    let n := field body 0 2
    let off := field body 4 4
    (s.pair.incoming.find n = some i → bit (field body 3 1) 0 = false → off = i.data.length → bit (field body 3 1) 1 = true →
      (i.data ++ body.drop 16).length = i.total →
        s.takeSegment body = (some (i.data ++ body.drop 16), s.mapPair (fun p => { p with incoming := p.incoming.del n }))) ∧
    (s.pair.incoming.find n = some i → bit (field body 3 1) 0 = false → off ≠ i.data.length →
        s.takeSegment body = (none, s.mapPair (fun p => { p with incoming := p.incoming.del n })))))

/-- CHECKPOINT (R496): it waits for the FEEDs before it and while its stream's state moves; one to a buffer too small ends REJECTED_CHECK with
CHECKPOINT_SIZE; one to the partner alone is done once pushed, or refused where the partner cannot be reached, and one to memory goes
on as a transfer of the image. CHECKPOINT_MESSAGE (R498): a shadow that fits is kept and counted, one with its END mark is dropped. -/
def Obligations.Checkpoints : Prop :=
  (∀ (s : State) (n : RingId) (c : Cmd) (t : State), Starts s n.val 8 c t → s.findCmd n.val 8 .waiting = none →
    let image := t.stateImage n.val
    let dest := field c.desc 16 8
    let ready := t.feedsDone n.val c.counter = true ∧ t.rd (Obj.streamResidency n.val) ≠ 3
    (¬ ready → exec (.checkpoint n) s = .next (t.begin n.val c.counter .waiting)) ∧
    (ready → dest ≠ 0 → field c.desc 24 4 < image.length →
      exec (.checkpoint n) s = .next (t.finish n.val c.counter St.check none Chk.checkpointSize 24)) ∧
    (ready → dest = 0 → t.rd (Obj.streamClass n.val) = 0 → exec (.checkpoint n) s = .next (t.finish n.val c.counter St.done)) ∧
    (ready → dest = 0 → t.rd (Obj.streamClass n.val) ≠ 0 → t.tieUp = true → t.rd Obj.paired ≠ 0 → exec (.checkpoint n) s =
      .next (((t.pushImage 5 3 n.val image).setStream n.val { t.stream n.val with autoAt := t.statePosition n.val }).finish
        n.val c.counter St.done)) ∧
    (ready → dest = 0 → t.rd (Obj.streamClass n.val) ≠ 0 → t.tieUp = false ∨ t.rd Obj.paired = 0 →
      exec (.checkpoint n) s = .next (t.finish n.val c.counter St.check none Chk.partner 0xFF)) ∧
    (ready → dest ≠ 0 → image.length ≤ field c.desc 24 4 → t.rd (Obj.streamClass n.val) = 0 → exec (.checkpoint n) s =
      .next ((t.begin n.val c.counter).setXfer n.val c.counter { Transfer.blank 0 with desc := image, map := t.windows, noPartner := false }))) ∧
  (∀ (s : State) (n : RingId) (c : Cmd), s.findCmd n.val 8 .waiting = some c →
    exec (.checkpoint n) s = .next (s.runCheckpoint n.val c)) ∧
  (∀ (s : State) (body : Bytes), s.tieUp = true → 16 ≤ body.length → field body 0 2 < 32768 → field body 2 1 = 3 →
    let n := field body 0 2
    let old := (s.pair.shadows.getD n []).length
    (bit (field body 3 1) 3 = true → exec (.checkpointMessage body) s = .next
      (s.mapPair (fun p => { p with shadows := p.shadows.del n })).countShadows) ∧
    (bit (field body 3 1) 3 = false → ∀ u, s.takeSegment body = (none, u) → exec (.checkpointMessage body) s = .next u) ∧
    (bit (field body 3 1) 3 = false → ∀ image u, s.takeSegment body = (some image, u) →
      (u.rd Obj.shadowUsed - old + image.length ≤ u.rd Obj.shadowBudget → image.length ≤ u.poolFree + old →
        exec (.checkpointMessage body) s = .next
          (((u.mapPair (fun p => { p with shadows := p.shadows.put n image })).countShadows).bump Obj.checkpointsStored)) ∧
      (u.rd Obj.shadowBudget < u.rd Obj.shadowUsed - old + image.length ∨ u.poolFree + old < image.length →
        exec (.checkpointMessage body) s = .next u)))

/-- LEAVE and SYNC_START through a BAR0 page (R500, R503): a leave of a paired leaf begins by handing over or by saying so, and is refused
in the wrong role of either leaf or without a link; a following leaf asks for every live stream of its partner, any other refuses.

LEAVE_MESSAGE, LEAVE_PUSH, LEFT, ELECTRICAL_IDLE (R494, R500, R501): a partner that leaves is LEAVING, one that asks for a handover has it
noted by a following leaf; the leaf that leaves pushes each stream whose state is settled, is LEFT when nothing remains, and detaches
64 courses later. -/
def Obligations.Leaves : Prop :=
  (∀ (s : State) (page : Fin 66) (cmd data : BitVec 64), data = 1 → s.levelOf page.val ≤ 1 →
    let t := s.taken page cmd data
    let p := Path.bar0 page true cmd data
    let refused (code : Nat) : Out := .next (t.barDone page.val (cmdTag cmd.toNat) code none)
    let begun := ((t.progStart 0x1310 0).progHold 0x1310 true).wr Obj.operation 1
    (WindowOpen s page 2 Obj.leave cmd →
      (s.rd Obj.role ∈ [0, 3] ∨ s.rd Obj.partnerRole ∈ [0, 3] → exec (.leave p) s = refused Abort.wrongState) ∧
      (s.rd Obj.role ∉ [0, 3] → s.rd Obj.partnerRole ∉ [0, 3] → s.tieUp = false ∨ s.rd Obj.paired = 0 →
        exec (.leave p) s = refused Abort.partnerUnreachable) ∧
      (s.rd Obj.role = 1 → s.rd Obj.partnerRole ∉ [0, 3] → s.tieUp = true → s.rd Obj.paired ≠ 0 → exec (.leave p) s =
        .next ((begun.mapPair (fun q => { q with leaving := 1, handover := true })).answered page cmd none)) ∧
      (s.rd Obj.role = 2 → s.rd Obj.partnerRole ∉ [0, 3] → s.tieUp = true → s.rd Obj.paired ≠ 0 → exec (.leave p) s =
        .next ((((begun.wr Obj.role 3).mapPair (fun q => { q with leaving := 2 })).send
          (.tie 8 0 (1 :: List.replicate 7 0))).answered page cmd none))) ∧
    (WindowOpen s page 2 Obj.syncStart cmd →
      (s.rd Obj.role ≠ 2 → exec (.syncStart p) s = refused Abort.wrongState) ∧
      (s.rd Obj.role = 2 → s.pair.partnerLive = [] → exec (.syncStart p) s =
        .next ((((t.progStart 0x1310 0).wr Obj.operation 2).progDone 0x1310).answered page cmd none)) ∧
      (s.rd Obj.role = 2 → s.pair.partnerLive ≠ [] → ∃ u : State, exec (.syncStart p) s = .next (u.answered page cmd none) ∧
        u.rd Obj.operation = 2 ∧ u.rd (Obj.progState 0x1310) = 5 ∧
        u.pair.resyncs = s.pair.resyncs.filter (fun q => q.purpose != 2) ++ s.pair.partnerLive.map (fun n => ⟨n, 0, 2, 0⟩) ∧
        (s.tieUp = true → u.sent = s.sent ++ s.pair.partnerLive.map (fun n => .tie 4 0 (segmentBody n 2 4 0 0 [])))))) ∧
  ((∀ (s : State) (body : Bytes), s.tieUp = true → body.length = 8 →
    (field body 0 1 = 1 → exec (.leaveMessage body) s = .next (s.wr Obj.partnerRole 3)) ∧
    (field body 0 1 = 2 → s.rd Obj.role = 2 →
      exec (.leaveMessage body) s = .next (s.mapPair (fun p => { p with handover := true }))) ∧
    (field body 0 1 = 2 → s.rd Obj.role ≠ 2 → exec (.leaveMessage body) s = .next s)) ∧
  (∀ (s : State) (n : RingId), s.pair.leaving = 3 → n.val ∈ s.pair.toPush → s.tieUp = true → s.rd (Obj.streamResidency n.val) ≠ 3 →
    (s.stateSettled n.val = false → exec (.leavePush n) s = .next s) ∧
    (s.stateSettled n.val = true → exec (.leavePush n) s = .next
      ((s.pushImage 4 1 n.val (s.stateImage n.val)).mapPair (fun p => { p with toPush := p.toPush.filter (fun m => m != n.val) })))) ∧
  (∀ s : State,
    let busy := ∃ e ∈ s.rings, ∃ c ∈ e.2.cmds, c.final = none ∧ c.phase ≠ .halted
    (s.pair.leaving ≠ 3 ∨ s.pair.toPush ≠ [] ∨ busy → exec .left s = .next s) ∧
    (s.pair.leaving = 3 → s.pair.toPush = [] → ¬ busy → ∃ t, exec .left s = .next t ∧ t.rd Obj.role = 4 ∧
      t.rd Obj.statusEnable = 0 ∧ t.pair.leaving = 4 ∧ t.pair.leftFor = 0 ∧ t.rd (Obj.progState 0x1310) = 2 ∧
      (∀ n, n < 32768 → (s.rings.find n).isSome = true → t.rd (Obj.streamRingEnable n) = 0)) ∧
    (s.rd Obj.role = 4 → 64 ≤ s.pair.leftFor → s.host = true → exec .electricalIdle s = .next (s.detach true)) ∧
    (s.rd Obj.role ≠ 4 ∨ s.pair.leftFor < 64 ∨ s.host = false → exec .electricalIdle s = .next s)))

/-- PAIRING_TIMEOUT and JOIN (R482, R502, R529): a leaf that hears nothing for 2,000 ms of phase 5 leads alone; a JOIN with the partner's
report and certificate pairs the leaves when the firmware digests agree and the report passes, else the cause is told. Pairing gives
the roles by R482: leaf A of two that are PAIRING leads. -/
def Obligations.Pairings : Prop :=
  (∀ (s : State) (ms : Nat), s.rd Obj.role = 0 → s.rd Obj.phase = 5 → s.rd Obj.pairFailReason = 0 →
    (s.pair.alive = false → 2000 ≤ ms → exec (.pairingTimeout ms) s = .next (s.lead s.clk.frames)) ∧
    (s.pair.alive = true ∨ ms < 2000 → exec (.pairingTimeout ms) s = .next s)) ∧
  (∀ (s : State) (tag : BitVec 32) (body : Bytes), s.tieUp = true → 56 < body.length → 5 ≤ s.rd Obj.phase → s.rd Obj.role ≤ 1 →
    (s.rd Obj.role = 0 → s.rd Obj.pairFailReason = 0) → s.pair.joinNonce ≠ [] → s.pair.theirNonce = body.take 16 →
    let data := (if s.pair.joinTag = tag.toNat then s.pair.joinData else []) ++ body.drop 56
    let whole := s.mapPair (fun p => { p with joinData := [], theirNonce := [] })
    (data.length < joinBytes → exec (.join tag body) s = .next (s.mapPair (fun p => { p with joinTag := tag.toNat, joinData := data }))) ∧
    (joinBytes ≤ data.length → field body 16 32 ≠ s.rd Obj.firmwareDigest →
      exec (.join tag body) s = .next ((whole.wr Obj.firmwareMatch 0).pairFail 1)) ∧
    (joinBytes ≤ data.length → field body 16 32 = s.rd Obj.firmwareDigest → whole.joinPasses data = false →
      exec (.join tag body) s = .next (whole.pairFail 2)) ∧
    (joinBytes ≤ data.length → field body 16 32 = s.rd Obj.firmwareDigest → whole.joinPasses data = true →
      exec (.join tag body) s = .next (whole.pairWith (field body 48 1)))) ∧
  (∀ (s : State) (theirs : Nat),
    let t := s.pairWith theirs
    t.rd Obj.paired = 1 ∧ t.rd Obj.firmwareMatch = 1 ∧ t.rd Obj.partnerRole = theirs ∧
    (s.rd Obj.role = 0 → theirs = 1 → t.rd Obj.role = 2) ∧
    (s.rd Obj.role = 0 → theirs = 0 → s.rd Obj.leafId = 1 → t.rd Obj.role = 2) ∧
    (s.rd Obj.role = 0 → theirs = 0 → s.rd Obj.leafId ≠ 1 → t.rd Obj.role = 1) ∧
    (s.rd Obj.role ≠ 0 → t.rd Obj.role = s.rd Obj.role))

/-! ## Security and bring-up -/

/-- FW_UPDATE_DONE, BOTTOM_TREE_READY (R522, R525, R526): an update whose image passes makes its slot the one to boot, one that does not
leaves CONTROL, is counted and fails by its cause, and one the flash could not take fails with STORE_FAILED; a bottom tree that is ready
has all its leaves. LOG_CLEAR (R545) removes one entry of the defect log, or all. -/
def Obligations.RootOfTrust : Prop :=
  (∀ (s : State) (image : Bytes), s.root.update = some image →
    let slot := 1 - s.rd Obj.runningSlot % 2
    let head := image.take 4096
    let x : SlotImage := ⟨head, shaNat (slice image 4096 (imageBytes head)), false⟩
    let whole := 4096 + imageBytes head ≤ image.length
    let got (t : State) : Option SlotImage := if slot = 0 then t.flash.slotA else t.flash.slotB
    let ended (t : State) (state : Nat) : Prop := t.root.update = none ∧ t.rd (slotSvnKey slot) = imageSvn head ∧
      t.rd (Obj.progState updateRecord) = state ∧ t.rings = s.rings ∧ t.flash.log = s.flash.log
    (whole → s.slotState x = 1 → ∃ t, exec (.fwUpdateDone true) s = .next t ∧ ended t 2 ∧ t.flash.control = slot ∧
      got t = some x ∧ t.rd (slotStateKey slot) = 1 ∧ t.rd Obj.bootSlot = slot) ∧
    (¬ whole ∨ s.slotState x ≠ 1 → ∃ t, exec (.fwUpdateDone true) s = .next t ∧ ended t 3 ∧ t.flash.control = s.flash.control ∧
      t.rd (slotStateKey slot) = 2 ∧ t.rd Obj.verifyFails = Nat.min (s.rd Obj.verifyFails + 1) (maxOf Obj.verifyFails)) ∧
    (∃ t, exec (.fwUpdateDone false) s = .next t ∧ ended t 3 ∧ t.flash.control = s.flash.control ∧ got t = none ∧
      t.rd (slotStateKey slot) = 2)) ∧
  (∀ s : State,
    (s.root.update = none → ∀ ok, exec (.fwUpdateDone ok) s = .next s) ∧
    (s.rd Obj.attestState = 0 → s.root.topIndex ≠ none → s.rd Obj.bottomLeft = 0 →
      exec .bottomTreeReady s = .next ((s.wr Obj.attestState 1).wr Obj.bottomLeft 32768)) ∧
    (s.rd Obj.attestState ≠ 0 ∨ s.root.topIndex = none ∨ s.rd Obj.bottomLeft ≠ 0 → exec .bottomTreeReady s = .next s)) ∧
  (∀ (s : State) (page : Fin 66) (cmd data : BitVec 64), WindowOpen s page 2 Obj.logClear cmd → s.levelOf page.val = 0 →
    data.toNat < 2 ^ 16 →
    let t := s.taken page cmd data
    let p := Path.bar0 page true cmd data
    let k := data.toNat
    let written (log : List (Unit' × Nat × Nat)) : State :=
      ({ t with flash := t.flash.writeLog log }).wr Obj.logCount log.length
    let refused (code : Nat) : Out := .next (t.barDone page.val (cmdTag cmd.toNat) code none)
    (k = 0xFFFF → exec (.logClear p true) s = .next ((written []).answered page cmd none)) ∧
    (k < s.flash.log.length → k ≠ 0xFFFF →
      exec (.logClear p true) s = .next ((written (s.flash.log.eraseIdx k)).answered page cmd none) ∧
      exec (.logClear p false) s = refused Abort.storeFailed) ∧
    (s.flash.log.length ≤ k → k ≠ 0xFFFF → ∀ ok, exec (.logClear p ok) s = refused Abort.rangeHigh))

/-- RESET, SUPPLY_FAULT, THERMAL_TRIP (R535, R560-R562, R570): the machine is as after reset, with its cause, its straps sampled at RESET, the
boot flash, the fuses and host memory as they were; a supply fault and a trip from 110.0 °C hold it in reset, a lower reading is only
noted, and after a hot trip a release above 100.0 °C is held back.

MORTAR_RETRAIN, BOUNDARY_SCAN (R549, R568): a retrained mortar link is counted, and one that does not retrain is down; the TAP takes an
instruction, those that drive pins only while RESET_N is low, else BYPASS, and IDCODE is the revision over 0x6084967. -/
def Obligations.Resets : Prop :=
  (∀ s : State,
    let kept (t : State) : Prop := t.pending = s.pending ∧ t.hostMem = s.hostMem ∧ t.flash = s.flashKept ∧
      t.root.fuses = s.root.fuses ∧ t.root.vendorKey = s.root.vendorKey ∧ t.root.customer = s.root.customer ∧ t.sent = s.sent
    let fresh (t : State) : Prop := t.rd Obj.phase = 0 ∧ t.rd (Obj.progState bringUp) = 1 ∧ t.rd Obj.clockState = 0 ∧
      t.rd Obj.position = 0 ∧ t.rd Obj.role = 0 ∧ t.host = false ∧ t.rings = [] ∧ t.streams = [] ∧ t.sessions = [] ∧
      t.bricks = [] ∧ t.joints = [] ∧ t.devMem = [] ∧ t.plans = [] ∧ t.members = []
    (∀ (x : Straps) (released ok lost : Bool), ∃ t, exec (.reset x released ok lost) s = .next t ∧ kept t ∧ fresh t ∧
      t.rd Obj.lastResetCause = (if lost then 0 else if ok = false then 3 else if s.boot.held then s.rd Obj.lastResetCause else 1) ∧
      t.boot.held = !(released && ok) ∧ t.boot.tripped = false ∧
      t.boot.hot = (released && ok && decide (1000 < s.boot.hottest)) ∧
      t.rd Obj.leafId = (if x.leafSel then 1 else 0) ∧ t.rd Obj.nodeId = x.nodeId.toNat ∧
      t.rd Obj.vioAudMv = (if x.vioAudMv < 2550 then 1800 else 3300)) ∧
    (∃ t, exec .supplyFault s = .next t ∧ kept t ∧ fresh t ∧ t.rd Obj.lastResetCause = 3 ∧ t.boot.held = true) ∧
    (∀ d : Int, d < 1100 → exec (.thermalTrip d) s = .next { s with boot := { s.boot with hottest := d } }) ∧
    (∀ d : Int, 1100 ≤ d → ∃ t, exec (.thermalTrip d) s = .next t ∧ kept t ∧ fresh t ∧ t.rd Obj.lastResetCause = 2 ∧
      t.boot.held = true ∧ t.boot.tripped = true)) ∧
  (∀ s : State,
    (∀ link : Fin 56, 6 ≤ s.rd Obj.phase → link.val ∉ s.boot.linksDown →
      exec (.mortarRetrain ⟨link, true⟩) s = .next (s.bump Obj.mortarRetrains) ∧
      ∃ t, exec (.mortarRetrain ⟨link, false⟩) s = .next t ∧ t.boot.linksDown = s.boot.linksDown ++ [link.val] ∧
        t.dict = ((s.bump Obj.mortarRetrains).bump Obj.mortarLinksDown).dict) ∧
    (∀ (link : Fin 56) (ok : Bool), s.rd Obj.phase < 6 ∨ link.val ∈ s.boot.linksDown → exec (.mortarRetrain ⟨link, ok⟩) s = .next s) ∧
    (∀ (i : TapInstr) (low : Bool), exec (.boundaryScan i low) s = .next { s with boot := { s.boot with
      tap := if low = false ∧ i ∈ [.extest, .extestPulse, .extestTrain, .clamp, .highz] then .bypass else i } }) ∧
    s.idcode = s.rd Obj.siliconRev * 2 ^ 28 + 0x6084967)

/-- FUSE_READ, FIRMWARE_VERIFICATION, BOOT_SRC (R520, R524, R532, R533, R563): the fuses give variant, revision and keys and end phase 0 in
time; phase 1 runs the slot CONTROL names when it is valid, else counts and runs the other, else stays; BOOT_SRC high holds it.

TRAINING, CURING, BRICK_CODE_BROADCAST (R536-R547): each ends its phase with its outcome: the links and expanders; the units in service, a
full device having 96 tiles and 3,072 bricks; the bricks left without an image after three rounds are fenced. Curing fails without
tiles, dies or a sound cavity, and in no other phase does one of them do anything.

READY, PHASE_LIMIT (R532, R533): phase 5 ends when the clock is LOCKED and the role is known or pairing has failed, and the device is in
service; a phase that reaches its limit ends under its failure outcome, as its own command would with that time, and phases 0, 5
and 6 have none. -/
def Obligations.BringUp : Prop :=
  ((∀ (s : State) (f : Fuses) (us : Nat),
    let g := s.root.fuses.getD f
    (s.inPhase 0 = true → us ≤ 200000 → s.rst.wf = true → s.dict.wf = true → ∃ t, exec (.fuseRead f true us) s = .next t ∧ t.rd Obj.phase = 1 ∧
      t.rd (Obj.progPosition bringUp) = 42 ∧ t.rd Obj.variant = g.variant ∧ t.rd Obj.siliconRev = g.siliconRev ∧
      t.rd Obj.fusedSvn = g.svn ∧ t.root.vendorKey = g.vendorKeyHash ∧ t.root.customer = g.customerHash ∧ t.root.fuses = some g ∧
      t.rd Obj.bootSlot = s.flash.control ∧ t.rings = s.rings) ∧
    (∀ ok, s.inPhase 0 = false ∨ ok = false ∨ 200000 < us → exec (.fuseRead f ok us) s = .next s)) ∧
  (∀ (s : State) (inA inB : SlotImage) (us : Nat),
    let a := s.flash.slotA.getD inA
    let b := s.flash.slotB.getD inB
    let k := s.flash.control % 2
    let first := if k = 0 then a else b
    let other := if k = 0 then b else a
    let noted := (s.noteSlot 0 a).noteSlot 1 b
    let counted := noted.bump Obj.verifyFails
    let open' := s.inPhase 1 = true ∧ s.boot.src = false ∧ s.boot.stuck = false
    (open' → noted.slotState first = 1 → exec (.firmwareVerification inA inB us) s = .next (noted.runSlot k first us)) ∧
    (open' → noted.slotState first ≠ 1 → counted.slotState other = 1 →
      exec (.firmwareVerification inA inB us) s = .next ((counted.bump Obj.bootFallbacks).runSlot (1 - k) other us)) ∧
    (open' → noted.slotState first ≠ 1 → counted.slotState other ≠ 1 → ∃ t, exec (.firmwareVerification inA inB us) s = .next t ∧
      t.boot.stuck = true ∧ t.rd Obj.phase = 1 ∧ t.rings = s.rings) ∧
    (¬ open' → exec (.firmwareVerification inA inB us) s = .next s) ∧
    (∀ x : SlotImage, x.head.length = 4096 → x.empty = false → headerOk x.head = true → s.vendorOk x.head = true →
      s.customerOk x.head = true → s.rd Obj.fusedSvn ≤ imageSvn x.head → x.bodyDigest = ofBE (slice x.head 32 32) →
      s.slotState x = 1) ∧
    (s.rd Obj.phase ≤ 1 →
      exec (.bootSrc true inA inB) s = .next { s with
        boot := { s.boot with src := true, stuck := false }, flash := { s.flash with slotA := none, slotB := none } } ∧
      (s.inPhase 1 = true → s.boot.stuck = false → ∃ t us', exec (.bootSrc false inA inB) s = .next t ∧
        t = ({ s.freeWord.2 with boot := { s.boot with src := false } } : State).verifySlots inA inB false us')) ∧
    (1 < s.rd Obj.phase → ∀ high, exec (.bootSrc high inA inB) s = .next s))) ∧
  (∀ s : State,
    (∀ (r : TrainResult) (us : Nat),
      (s.inPhase 2 = true → exec (.training r us) s = .next (s.trained r us)) ∧
      (s.inPhase 2 = false → exec (.training r us) s = .next s)) ∧
    (∀ (r : CureResult) (us : Nat), r.failed = [] → s.boot.fuseBad = [] → s.flash.log = [] → r.north = false → r.south = false →
      s.inPhase 3 = true → ∃ t, exec (.curing r us) s = .next t ∧ t.rd Obj.phase = 4 ∧ t.rd Obj.tilesEnabled = 96 ∧
        t.rd Obj.bricksEnabled = 3072 ∧ t.rd Obj.gatherUnits = 6 ∧ t.rd Obj.gddr7Dies = 84 ∧ t.rd Obj.short = 0 ∧
        t.rd Obj.lateNew = 0 ∧ t.flash.log = []) ∧
    (∀ (r : CureResult) (us : Nat), s.inPhase 3 = true → r.north = true ∨ r.south = true → ∃ t, exec (.curing r us) s = .next t ∧
      t.rd Obj.failCause = (if r.north then 1 else 2) ∧ t.rd (Obj.progState bringUp) = 3 ∧ t.rd Obj.phase = s.rd Obj.phase) ∧
    (∀ (r : CureResult) (us : Nat), s.inPhase 3 = false → exec (.curing r us) s = .next s) ∧
    (∀ (rounds resent us : Nat) (failed : List BrickId),
      (s.inPhase 4 = true → ∃ t, exec (.brickCodeBroadcast rounds resent failed us) s = .next t ∧ t.rd Obj.phase = 5 ∧
        t.rd (Obj.progState bringUp) = 5 ∧ t.rd Obj.bootResendRounds = Nat.min rounds 3 ∧
        t.rd Obj.bootResentPackets = Nat.min resent (2 ^ 32 - 1) ∧
        (rounds < 3 → t.bricks = s.bricks) ∧
        (3 ≤ rounds → ∀ k ∈ failed, s.brickOn k.val = true → (t.brick k.val).fenced = true ∧ t.brickOn k.val = false)) ∧
      (s.inPhase 4 = false → exec (.brickCodeBroadcast rounds resent failed us) s = .next s))) ∧
  (∀ s : State,
    (∀ us, s.inPhase 5 = true → s.rd Obj.clockState = 2 → s.rd Obj.role ≠ 0 ∨ s.rd Obj.pairFailReason ≠ 0 →
      ∃ t, exec (.ready us) s = .next t ∧ t.rd Obj.phase = 6 ∧ t.rd (Obj.progState bringUp) = 2 ∧
        t.rd (Obj.progPosition bringUp) = t.rd (Obj.progTotal bringUp) ∧ t.rd Obj.role = s.rd Obj.role ∧ t.rings = s.rings) ∧
    (∀ us, s.inPhase 5 = false ∨ s.rd Obj.clockState ≠ 2 ∨ (s.rd Obj.role = 0 ∧ s.rd Obj.pairFailReason = 0) →
      exec (.ready us) s = .next s) ∧
    (∀ (r : CureResult) (a b : SlotImage) (x : TrainResult),
      (s.inPhase 1 = true → s.boot.src = false → s.boot.stuck = false →
        ∃ us, 500000 ≤ us ∧ us ≤ 1000000 ∧ exec (.phaseLimit r a b x) s = .next (s.freeWord.2.verifySlots a b true us)) ∧
      (s.inPhase 2 = true → exec (.phaseLimit r a b x) s = exec (.training x 6000000) s) ∧
      (s.inPhase 3 = true → exec (.phaseLimit r a b x) s = exec (.curing r 12000000) s) ∧
      (s.inPhase 4 = true → exec (.phaseLimit r a b x) s = .next
        (s.broadcast 3 0 ((r.failed.filter (fun e => e.1.kind == 2)).map (fun e => e.1.index)) 400000)) ∧
      (s.rd Obj.phase ∉ [1, 2, 3, 4] → exec (.phaseLimit r a b x) s = .next s)))
end

