-- ==== Sys2Proof/Laws/Sparse.lean ====
section
/-! SUPPORT. Laws of sparse tables and of byte memory: what is read after a write, and that the canonical forms are kept. -/

namespace Sys2Proof.Machine

/-! ### Sparse tables -/

@[simp] theorem Map.find_nil {α : Type} (k : Nat) : Map.find ([] : Map α) k = none := rfl

@[simp] theorem Map.find_put_self {α : Type} (m : Map α) (k : Nat) (v : α) : Map.find (Map.put m k v) k = some v := by
  induction m with
  | nil => simp [Map.put, Map.find]
  | cons e m ih =>
    obtain ⟨j, w⟩ := e
    unfold Map.put
    split
    · simp_all [Map.find]
    · split
      · simp [Map.find]
      · simp_all [Map.find]

theorem Map.find_put_ne {α : Type} (m : Map α) {j k : Nat} (v : α) (h : j ≠ k) : Map.find (Map.put m k v) j = Map.find m j := by
  induction m with
  | nil => simp [Map.put, Map.find, h]
  | cons e m ih =>
    obtain ⟨i, w⟩ := e
    unfold Map.put
    split
    · subst_vars
      simp [Map.find, h]
    · split
      · simp only [Map.find, if_neg h]
        split
        · rw [if_neg (by omega), if_pos (by omega)]
        · rfl
      · simp only [Map.find, ih]

theorem Map.find_put {α : Type} (m : Map α) (j k : Nat) (v : α) :
    Map.find (Map.put m k v) j = if j = k then some v else Map.find m j := by
  split
  · subst_vars; simp
  · exact Map.find_put_ne m v ‹_›

@[simp] theorem Map.getD_put_self {α : Type} (m : Map α) (k : Nat) (v d : α) : Map.getD (Map.put m k v) k d = v := by
  simp [Map.getD]

theorem Map.getD_put_ne {α : Type} (m : Map α) {j k : Nat} (v d : α) (h : j ≠ k) :
    Map.getD (Map.put m k v) j d = Map.getD m j d := by
  simp [Map.getD, Map.find_put_ne m v h]

theorem Map.put_sortedFrom {α : Type} (m : Map α) (lo k : Nat) (v : α) (h : Map.sortedFrom lo m = true) (hk : lo ≤ k) :
    Map.sortedFrom lo (Map.put m k v) = true := by
  induction m generalizing lo with
  | nil => simp [Map.put, Map.sortedFrom, hk]
  | cons e m ih =>
    obtain ⟨i, w⟩ := e
    simp only [Map.sortedFrom, Bool.and_eq_true, decide_eq_true_eq] at h
    unfold Map.put
    split
    · subst_vars; simp [Map.sortedFrom, h]
    · split
      · simp only [Map.sortedFrom, Bool.and_eq_true, decide_eq_true_eq]
        exact ⟨hk, by omega, h.2⟩
      · simp only [Map.sortedFrom, Bool.and_eq_true, decide_eq_true_eq]
        exact ⟨h.1, ih _ h.2 (by omega)⟩

theorem Map.put_wf {α : Type} (m : Map α) (k : Nat) (v : α) (h : Map.wf m = true) : Map.wf (Map.put m k v) = true :=
  Map.put_sortedFrom m 0 k v h (Nat.zero_le _)

theorem Map.sortedFrom_mono {α : Type} (m : Map α) {lo hi : Nat} (h : Map.sortedFrom hi m = true) (hl : lo ≤ hi) :
    Map.sortedFrom lo m = true := by
  cases m with
  | nil => rfl
  | cons e m =>
    simp only [Map.sortedFrom, Bool.and_eq_true, decide_eq_true_eq] at h ⊢
    exact ⟨by omega, h.2⟩

theorem Map.find_below {α : Type} (m : Map α) {lo j : Nat} (h : Map.sortedFrom lo m = true) (hj : j < lo) : Map.find m j = none := by
  cases m with
  | nil => rfl
  | cons e m =>
    obtain ⟨i, w⟩ := e
    simp only [Map.sortedFrom, Bool.and_eq_true, decide_eq_true_eq] at h
    simp only [Map.find]
    rw [if_neg (by omega), if_pos (by omega)]
    try rfl

theorem Map.find_del_from {α : Type} (m : Map α) (lo j k : Nat) (h : Map.sortedFrom lo m = true) :
    Map.find (Map.del m k) j = if j = k then none else Map.find m j := by
  induction m generalizing lo with
  | nil => simp [Map.del]
  | cons e m ih =>
    obtain ⟨i, w⟩ := e
    simp only [Map.sortedFrom, Bool.and_eq_true, decide_eq_true_eq] at h
    unfold Map.del
    by_cases hk : k = i
    · subst hk
      simp only [if_true, Map.find]
      by_cases hj : j = k
      · simp only [hj, if_true]; exact Map.find_below m h.2 (by omega)
      · simp only [hj, if_false]
        by_cases hl : j < k
        · simp only [hl, if_true]; exact Map.find_below m h.2 (by omega)
        · simp only [hl, if_false]
    · simp only [if_neg hk, Map.find]
      by_cases hj : j = k
      · subst hj
        simp only [hk, if_false, if_true]
        by_cases hl : j < i
        · simp only [hl, if_true]
        · simp only [hl, if_false]; rw [ih _ h.2]; simp
      · simp only [hj, if_false]
        by_cases hi : j = i
        · simp only [hi, if_true]
        · simp only [hi, if_false]
          by_cases hl : j < i
          · simp only [hl, if_true]
          · simp only [hl, if_false]; rw [ih _ h.2]; simp [hj]

theorem Map.find_del {α : Type} (m : Map α) (j k : Nat) (h : Map.wf m = true) :
    Map.find (Map.del m k) j = if j = k then none else Map.find m j := Map.find_del_from m 0 j k h

/-! ### Byte memory -/

@[simp] theorem Memory.wf_nil : Memory.wf [] = true := rfl
@[simp] theorem Memory.read_nil (a : Nat) : Memory.read [] a = 0 := rfl

theorem Memory.wfFrom_mono (m : Memory) {lo hi : Nat} (h : Memory.wfFrom hi m = true) (hl : lo ≤ hi) : Memory.wfFrom lo m = true := by
  cases m with
  | nil => rfl
  | cons e m =>
    simp only [Memory.wfFrom, Bool.and_eq_true, decide_eq_true_eq] at h ⊢
    exact ⟨⟨by omega, h.1.2⟩, h.2⟩

theorem Memory.read_below (m : Memory) {lo a : Nat} (h : Memory.wfFrom lo m = true) (ha : a < lo) : Memory.read m a = 0 := by
  cases m with
  | nil => rfl
  | cons e m =>
    obtain ⟨i, w⟩ := e
    simp only [Memory.wfFrom, Bool.and_eq_true, decide_eq_true_eq] at h
    simp only [Memory.read]
    rw [if_neg (by omega), if_pos (by omega)]
    try rfl

theorem Memory.write_wfFrom (m : Memory) (lo a : Nat) (b : Byte) (h : Memory.wfFrom lo m = true) (ha : lo ≤ a) :
    Memory.wfFrom lo (Memory.write m a b) = true := by
  induction m generalizing lo with
  | nil =>
    unfold Memory.write
    split
    · rfl
    · simp_all [Memory.wfFrom]
  | cons e m ih =>
    obtain ⟨i, w⟩ := e
    have h0 := h
    simp only [Memory.wfFrom, Bool.and_eq_true, decide_eq_true_eq] at h
    unfold Memory.write
    split
    · split
      · exact Memory.wfFrom_mono m h.2 (by omega)
      · subst_vars; simp_all [Memory.wfFrom]
    · split
      · split
        · exact h0
        · simp only [Memory.wfFrom, Bool.and_eq_true, decide_eq_true_eq]
          exact ⟨⟨ha, by simpa using ‹¬_›⟩, ⟨by omega, h.1.2⟩, h.2⟩
      · simp only [Memory.wfFrom, Bool.and_eq_true, decide_eq_true_eq]
        exact ⟨h.1, ih _ h.2 (by omega)⟩

/-- A write keeps the canonical form. -/
theorem Memory.write_wf (m : Memory) (a : Nat) (b : Byte) (h : Memory.wf m = true) : Memory.wf (Memory.write m a b) = true :=
  Memory.write_wfFrom m 0 a b h (Nat.zero_le _)

theorem Memory.read_write_from (m : Memory) (lo a c : Nat) (b : Byte) (h : Memory.wfFrom lo m = true) :
    Memory.read (Memory.write m a b) c = if c = a then b else Memory.read m c := by
  induction m generalizing lo with
  | nil =>
    unfold Memory.write
    by_cases hb : b = Memory.unlisted
    · subst hb; by_cases hc : c = a <;> simp [Memory.unlisted, hc]
    · by_cases hc : c = a <;> simp [Memory.read, hb, hc]
  | cons e m ih =>
    obtain ⟨i, w⟩ := e
    simp only [Memory.wfFrom, Bool.and_eq_true, decide_eq_true_eq] at h
    unfold Memory.write
    by_cases ha : a = i
    · subst ha
      simp only [if_true]
      by_cases hb : b = Memory.unlisted
      · subst hb
        simp only [if_true, Memory.read]
        by_cases hc : c = a
        · simp only [hc, if_true]; exact Memory.read_below m h.2 (by omega)
        · simp only [hc, if_false]
          by_cases hl : c < a
          · simp only [hl, if_true]; exact Memory.read_below m h.2 (by omega)
          · simp only [hl, if_false]
      · simp only [if_neg hb, Memory.read]
        by_cases hc : c = a <;> simp [hc]
    · simp only [if_neg ha]
      by_cases hl : a < i
      · simp only [if_pos hl]
        by_cases hb : b = Memory.unlisted
        · subst hb
          simp only [if_true, Memory.read]
          by_cases hc : c = a
          · subst hc; simp [ha, hl]
          · simp [hc]
        · simp only [if_neg hb, Memory.read]
          by_cases hc : c = a
          · simp [hc]
          · simp only [hc, if_false]
            by_cases hca : c < a
            · have : c ≠ i := by omega
              have : c < i := by omega
              simp [*]
            · simp [hca]
      · simp only [if_neg hl, Memory.read]
        by_cases hc : c = i
        · subst hc
          have : ¬ c = a := fun x => ha x.symm
          simp [this]
        · simp only [hc, if_false]
          by_cases hcl : c < i
          · have : ¬ c = a := by omega
            simp [hcl, this]
          · simp only [hcl, if_false]; exact ih _ h.2

/-- A byte read after a write: the byte written at its address, what was there before everywhere else. -/
theorem Memory.read_write (m : Memory) (a c : Nat) (b : Byte) (h : Memory.wf m = true) :
    Memory.read (Memory.write m a b) c = if c = a then b else Memory.read m c := Memory.read_write_from m 0 a c b h

/-- Writing bytes keeps the canonical form. -/
theorem Memory.writeBytes_wf (m : Memory) (a : Nat) (bs : Bytes) (h : Memory.wf m = true) :
    Memory.wf (Memory.writeBytes m a bs) = true := by
  induction bs generalizing m a with
  | nil => exact h
  | cons b bs ih => exact ih _ _ (Memory.write_wf m a b h)

/-- Bytes outside the range written read as before. -/
theorem Memory.read_writeBytes_outside (m : Memory) (a c : Nat) (bs : Bytes) (h : Memory.wf m = true)
    (hc : c < a ∨ a + bs.length ≤ c) : Memory.read (Memory.writeBytes m a bs) c = Memory.read m c := by
  induction bs generalizing m a with
  | nil => rfl
  | cons b bs ih =>
    simp only [List.length_cons] at hc
    rw [Memory.writeBytes, ih _ _ (Memory.write_wf m a b h) (by omega), Memory.read_write m a c b h]
    simp [show c ≠ a by omega]

/-- A byte in the range written reads as the byte written there. -/
theorem Memory.read_writeBytes_inside (m : Memory) (a i : Nat) (bs : Bytes) (h : Memory.wf m = true) (hi : i < bs.length) :
    Memory.read (Memory.writeBytes m a bs) (a + i) = bs[i] := by
  induction bs generalizing m a i with
  | nil => simp at hi
  | cons b bs ih =>
    rw [Memory.writeBytes]
    cases i with
    | zero =>
      rw [Memory.read_writeBytes_outside _ _ _ _ (Memory.write_wf m a b h) (by omega), Memory.read_write m a _ b h]
      simp
    | succ i =>
      have := ih (Memory.write m a b) (a + 1) i (Memory.write_wf m a b h) (by simpa using hi)
      rw [show a + (i + 1) = a + 1 + i by omega, this]
      simp

end Sys2Proof.Machine
end

