-- ==== Sys2Proof/Laws/State.lean ====
section
/-! SUPPORT. Laws of the named updates of the state: what each leaves of every field, and what is read back after it. -/

namespace Sys2Proof.Machine

/-! ### wr -/

@[simp] theorem State.wr_pending (s : State) (key v : Nat) : (s.wr key v).pending = s.pending := rfl
@[simp] theorem State.wr_free (s : State) (key v : Nat) : (s.wr key v).free = s.free := rfl
@[simp] theorem State.wr_rst (s : State) (key v : Nat) : (s.wr key v).rst = s.rst := rfl
@[simp] theorem State.wr_sessions (s : State) (key v : Nat) : (s.wr key v).sessions = s.sessions := rfl
@[simp] theorem State.wr_clk (s : State) (key v : Nat) : (s.wr key v).clk = s.clk := rfl
@[simp] theorem State.wr_rings (s : State) (key v : Nat) : (s.wr key v).rings = s.rings := rfl
@[simp] theorem State.wr_streams (s : State) (key v : Nat) : (s.wr key v).streams = s.streams := rfl
@[simp] theorem State.wr_requests (s : State) (key v : Nat) : (s.wr key v).requests = s.requests := rfl
@[simp] theorem State.wr_priHeld (s : State) (key v : Nat) : (s.wr key v).priHeld = s.priHeld := rfl
@[simp] theorem State.wr_priNext (s : State) (key v : Nat) : (s.wr key v).priNext = s.priNext := rfl
@[simp] theorem State.wr_waitNext (s : State) (key v : Nat) : (s.wr key v).waitNext = s.waitNext := rfl
@[simp] theorem State.wr_loads (s : State) (key v : Nat) : (s.wr key v).loads = s.loads := rfl
@[simp] theorem State.wr_plans (s : State) (key v : Nat) : (s.wr key v).plans = s.plans := rfl
@[simp] theorem State.wr_tables (s : State) (key v : Nat) : (s.wr key v).tables = s.tables := rfl
@[simp] theorem State.wr_curves (s : State) (key v : Nat) : (s.wr key v).curves = s.curves := rfl
@[simp] theorem State.wr_bricks (s : State) (key v : Nat) : (s.wr key v).bricks = s.bricks := rfl
@[simp] theorem State.wr_joints (s : State) (key v : Nat) : (s.wr key v).joints = s.joints := rfl
@[simp] theorem State.wr_colls (s : State) (key v : Nat) : (s.wr key v).colls = s.colls := rfl
@[simp] theorem State.wr_hostMem (s : State) (key v : Nat) : (s.wr key v).hostMem = s.hostMem := rfl
@[simp] theorem State.wr_subsys (s : State) (key v : Nat) : (s.wr key v).subsys = s.subsys := rfl
@[simp] theorem State.wr_rx (s : State) (key v : Nat) : (s.wr key v).rx = s.rx := rfl
@[simp] theorem State.wr_devMem (s : State) (key v : Nat) : (s.wr key v).devMem = s.devMem := rfl
@[simp] theorem State.wr_tbuf (s : State) (key v : Nat) : (s.wr key v).tbuf = s.tbuf := rfl
@[simp] theorem State.wr_poison (s : State) (key v : Nat) : (s.wr key v).poison = s.poison := rfl
@[simp] theorem State.wr_tbufPoison (s : State) (key v : Nat) : (s.wr key v).tbufPoison = s.tbufPoison := rfl
@[simp] theorem State.wr_retrain (s : State) (key v : Nat) : (s.wr key v).retrain = s.retrain := rfl
@[simp] theorem State.wr_sent (s : State) (key v : Nat) : (s.wr key v).sent = s.sent := rfl
@[simp] theorem State.wr_host (s : State) (key v : Nat) : (s.wr key v).host = s.host := rfl
@[simp] theorem State.wr_missed (s : State) (key v : Nat) : (s.wr key v).missed = s.missed := rfl
@[simp] theorem State.wr_statusSeq (s : State) (key v : Nat) : (s.wr key v).statusSeq = s.statusSeq := rfl
@[simp] theorem State.wr_stopFetch (s : State) (key v : Nat) : (s.wr key v).stopFetch = s.stopFetch := rfl
@[simp] theorem State.wr_rows (s : State) (key v : Nat) : (s.wr key v).rows = s.rows := rfl
@[simp] theorem State.wr_batches (s : State) (key v : Nat) : (s.wr key v).batches = s.batches := rfl
@[simp] theorem State.wr_batchNext (s : State) (key v : Nat) : (s.wr key v).batchNext = s.batchNext := rfl
@[simp] theorem State.wr_rowCache (s : State) (key v : Nat) : (s.wr key v).rowCache = s.rowCache := rfl
@[simp] theorem State.wr_sched (s : State) (key v : Nat) : (s.wr key v).sched = s.sched := rfl
@[simp] theorem State.wr_members (s : State) (key v : Nat) : (s.wr key v).members = s.members := rfl
@[simp] theorem State.wr_produced (s : State) (key v : Nat) : (s.wr key v).produced = s.produced := rfl
@[simp] theorem State.wr_lanes (s : State) (key v : Nat) : (s.wr key v).lanes = s.lanes := rfl
@[simp] theorem State.wr_groups (s : State) (key v : Nat) : (s.wr key v).groups = s.groups := rfl
@[simp] theorem State.wr_pair (s : State) (key v : Nat) : (s.wr key v).pair = s.pair := rfl
@[simp] theorem State.wr_root (s : State) (key v : Nat) : (s.wr key v).root = s.root := rfl
@[simp] theorem State.wr_flash (s : State) (key v : Nat) : (s.wr key v).flash = s.flash := rfl
@[simp] theorem State.wr_boot (s : State) (key v : Nat) : (s.wr key v).boot = s.boot := rfl

/-! ### bump -/

@[simp] theorem State.bump_pending (s : State) (key n : Nat) : (s.bump key n).pending = s.pending := rfl
@[simp] theorem State.bump_free (s : State) (key n : Nat) : (s.bump key n).free = s.free := rfl
@[simp] theorem State.bump_rst (s : State) (key n : Nat) : (s.bump key n).rst = s.rst := rfl
@[simp] theorem State.bump_sessions (s : State) (key n : Nat) : (s.bump key n).sessions = s.sessions := rfl
@[simp] theorem State.bump_clk (s : State) (key n : Nat) : (s.bump key n).clk = s.clk := rfl
@[simp] theorem State.bump_rings (s : State) (key n : Nat) : (s.bump key n).rings = s.rings := rfl
@[simp] theorem State.bump_streams (s : State) (key n : Nat) : (s.bump key n).streams = s.streams := rfl
@[simp] theorem State.bump_requests (s : State) (key n : Nat) : (s.bump key n).requests = s.requests := rfl
@[simp] theorem State.bump_priHeld (s : State) (key n : Nat) : (s.bump key n).priHeld = s.priHeld := rfl
@[simp] theorem State.bump_priNext (s : State) (key n : Nat) : (s.bump key n).priNext = s.priNext := rfl
@[simp] theorem State.bump_waitNext (s : State) (key n : Nat) : (s.bump key n).waitNext = s.waitNext := rfl
@[simp] theorem State.bump_loads (s : State) (key n : Nat) : (s.bump key n).loads = s.loads := rfl
@[simp] theorem State.bump_plans (s : State) (key n : Nat) : (s.bump key n).plans = s.plans := rfl
@[simp] theorem State.bump_tables (s : State) (key n : Nat) : (s.bump key n).tables = s.tables := rfl
@[simp] theorem State.bump_curves (s : State) (key n : Nat) : (s.bump key n).curves = s.curves := rfl
@[simp] theorem State.bump_bricks (s : State) (key n : Nat) : (s.bump key n).bricks = s.bricks := rfl
@[simp] theorem State.bump_joints (s : State) (key n : Nat) : (s.bump key n).joints = s.joints := rfl
@[simp] theorem State.bump_colls (s : State) (key n : Nat) : (s.bump key n).colls = s.colls := rfl
@[simp] theorem State.bump_hostMem (s : State) (key n : Nat) : (s.bump key n).hostMem = s.hostMem := rfl
@[simp] theorem State.bump_subsys (s : State) (key n : Nat) : (s.bump key n).subsys = s.subsys := rfl
@[simp] theorem State.bump_rx (s : State) (key n : Nat) : (s.bump key n).rx = s.rx := rfl
@[simp] theorem State.bump_devMem (s : State) (key n : Nat) : (s.bump key n).devMem = s.devMem := rfl
@[simp] theorem State.bump_tbuf (s : State) (key n : Nat) : (s.bump key n).tbuf = s.tbuf := rfl
@[simp] theorem State.bump_poison (s : State) (key n : Nat) : (s.bump key n).poison = s.poison := rfl
@[simp] theorem State.bump_tbufPoison (s : State) (key n : Nat) : (s.bump key n).tbufPoison = s.tbufPoison := rfl
@[simp] theorem State.bump_retrain (s : State) (key n : Nat) : (s.bump key n).retrain = s.retrain := rfl
@[simp] theorem State.bump_sent (s : State) (key n : Nat) : (s.bump key n).sent = s.sent := rfl
@[simp] theorem State.bump_host (s : State) (key n : Nat) : (s.bump key n).host = s.host := rfl
@[simp] theorem State.bump_missed (s : State) (key n : Nat) : (s.bump key n).missed = s.missed := rfl
@[simp] theorem State.bump_statusSeq (s : State) (key n : Nat) : (s.bump key n).statusSeq = s.statusSeq := rfl
@[simp] theorem State.bump_stopFetch (s : State) (key n : Nat) : (s.bump key n).stopFetch = s.stopFetch := rfl
@[simp] theorem State.bump_rows (s : State) (key n : Nat) : (s.bump key n).rows = s.rows := rfl
@[simp] theorem State.bump_batches (s : State) (key n : Nat) : (s.bump key n).batches = s.batches := rfl
@[simp] theorem State.bump_batchNext (s : State) (key n : Nat) : (s.bump key n).batchNext = s.batchNext := rfl
@[simp] theorem State.bump_rowCache (s : State) (key n : Nat) : (s.bump key n).rowCache = s.rowCache := rfl
@[simp] theorem State.bump_sched (s : State) (key n : Nat) : (s.bump key n).sched = s.sched := rfl
@[simp] theorem State.bump_members (s : State) (key n : Nat) : (s.bump key n).members = s.members := rfl
@[simp] theorem State.bump_produced (s : State) (key n : Nat) : (s.bump key n).produced = s.produced := rfl
@[simp] theorem State.bump_lanes (s : State) (key n : Nat) : (s.bump key n).lanes = s.lanes := rfl
@[simp] theorem State.bump_groups (s : State) (key n : Nat) : (s.bump key n).groups = s.groups := rfl
@[simp] theorem State.bump_pair (s : State) (key n : Nat) : (s.bump key n).pair = s.pair := rfl
@[simp] theorem State.bump_root (s : State) (key n : Nat) : (s.bump key n).root = s.root := rfl
@[simp] theorem State.bump_flash (s : State) (key n : Nat) : (s.bump key n).flash = s.flash := rfl
@[simp] theorem State.bump_boot (s : State) (key n : Nat) : (s.bump key n).boot = s.boot := rfl

/-! ### lower -/

@[simp] theorem State.lower_pending (s : State) (key n : Nat) : (s.lower key n).pending = s.pending := rfl
@[simp] theorem State.lower_free (s : State) (key n : Nat) : (s.lower key n).free = s.free := rfl
@[simp] theorem State.lower_rst (s : State) (key n : Nat) : (s.lower key n).rst = s.rst := rfl
@[simp] theorem State.lower_sessions (s : State) (key n : Nat) : (s.lower key n).sessions = s.sessions := rfl
@[simp] theorem State.lower_clk (s : State) (key n : Nat) : (s.lower key n).clk = s.clk := rfl
@[simp] theorem State.lower_rings (s : State) (key n : Nat) : (s.lower key n).rings = s.rings := rfl
@[simp] theorem State.lower_streams (s : State) (key n : Nat) : (s.lower key n).streams = s.streams := rfl
@[simp] theorem State.lower_requests (s : State) (key n : Nat) : (s.lower key n).requests = s.requests := rfl
@[simp] theorem State.lower_priHeld (s : State) (key n : Nat) : (s.lower key n).priHeld = s.priHeld := rfl
@[simp] theorem State.lower_priNext (s : State) (key n : Nat) : (s.lower key n).priNext = s.priNext := rfl
@[simp] theorem State.lower_waitNext (s : State) (key n : Nat) : (s.lower key n).waitNext = s.waitNext := rfl
@[simp] theorem State.lower_loads (s : State) (key n : Nat) : (s.lower key n).loads = s.loads := rfl
@[simp] theorem State.lower_plans (s : State) (key n : Nat) : (s.lower key n).plans = s.plans := rfl
@[simp] theorem State.lower_tables (s : State) (key n : Nat) : (s.lower key n).tables = s.tables := rfl
@[simp] theorem State.lower_curves (s : State) (key n : Nat) : (s.lower key n).curves = s.curves := rfl
@[simp] theorem State.lower_bricks (s : State) (key n : Nat) : (s.lower key n).bricks = s.bricks := rfl
@[simp] theorem State.lower_joints (s : State) (key n : Nat) : (s.lower key n).joints = s.joints := rfl
@[simp] theorem State.lower_colls (s : State) (key n : Nat) : (s.lower key n).colls = s.colls := rfl
@[simp] theorem State.lower_hostMem (s : State) (key n : Nat) : (s.lower key n).hostMem = s.hostMem := rfl
@[simp] theorem State.lower_subsys (s : State) (key n : Nat) : (s.lower key n).subsys = s.subsys := rfl
@[simp] theorem State.lower_rx (s : State) (key n : Nat) : (s.lower key n).rx = s.rx := rfl
@[simp] theorem State.lower_devMem (s : State) (key n : Nat) : (s.lower key n).devMem = s.devMem := rfl
@[simp] theorem State.lower_tbuf (s : State) (key n : Nat) : (s.lower key n).tbuf = s.tbuf := rfl
@[simp] theorem State.lower_poison (s : State) (key n : Nat) : (s.lower key n).poison = s.poison := rfl
@[simp] theorem State.lower_tbufPoison (s : State) (key n : Nat) : (s.lower key n).tbufPoison = s.tbufPoison := rfl
@[simp] theorem State.lower_retrain (s : State) (key n : Nat) : (s.lower key n).retrain = s.retrain := rfl
@[simp] theorem State.lower_sent (s : State) (key n : Nat) : (s.lower key n).sent = s.sent := rfl
@[simp] theorem State.lower_host (s : State) (key n : Nat) : (s.lower key n).host = s.host := rfl
@[simp] theorem State.lower_missed (s : State) (key n : Nat) : (s.lower key n).missed = s.missed := rfl
@[simp] theorem State.lower_statusSeq (s : State) (key n : Nat) : (s.lower key n).statusSeq = s.statusSeq := rfl
@[simp] theorem State.lower_stopFetch (s : State) (key n : Nat) : (s.lower key n).stopFetch = s.stopFetch := rfl
@[simp] theorem State.lower_rows (s : State) (key n : Nat) : (s.lower key n).rows = s.rows := rfl
@[simp] theorem State.lower_batches (s : State) (key n : Nat) : (s.lower key n).batches = s.batches := rfl
@[simp] theorem State.lower_batchNext (s : State) (key n : Nat) : (s.lower key n).batchNext = s.batchNext := rfl
@[simp] theorem State.lower_rowCache (s : State) (key n : Nat) : (s.lower key n).rowCache = s.rowCache := rfl
@[simp] theorem State.lower_sched (s : State) (key n : Nat) : (s.lower key n).sched = s.sched := rfl
@[simp] theorem State.lower_members (s : State) (key n : Nat) : (s.lower key n).members = s.members := rfl
@[simp] theorem State.lower_produced (s : State) (key n : Nat) : (s.lower key n).produced = s.produced := rfl
@[simp] theorem State.lower_lanes (s : State) (key n : Nat) : (s.lower key n).lanes = s.lanes := rfl
@[simp] theorem State.lower_groups (s : State) (key n : Nat) : (s.lower key n).groups = s.groups := rfl
@[simp] theorem State.lower_pair (s : State) (key n : Nat) : (s.lower key n).pair = s.pair := rfl
@[simp] theorem State.lower_root (s : State) (key n : Nat) : (s.lower key n).root = s.root := rfl
@[simp] theorem State.lower_flash (s : State) (key n : Nat) : (s.lower key n).flash = s.flash := rfl
@[simp] theorem State.lower_boot (s : State) (key n : Nat) : (s.lower key n).boot = s.boot := rfl

/-! ### wrInt -/

@[simp] theorem State.wrInt_pending (s : State) (key n : Nat) (v : Int) : (s.wrInt key n v).pending = s.pending := rfl
@[simp] theorem State.wrInt_free (s : State) (key n : Nat) (v : Int) : (s.wrInt key n v).free = s.free := rfl
@[simp] theorem State.wrInt_rst (s : State) (key n : Nat) (v : Int) : (s.wrInt key n v).rst = s.rst := rfl
@[simp] theorem State.wrInt_sessions (s : State) (key n : Nat) (v : Int) : (s.wrInt key n v).sessions = s.sessions := rfl
@[simp] theorem State.wrInt_clk (s : State) (key n : Nat) (v : Int) : (s.wrInt key n v).clk = s.clk := rfl
@[simp] theorem State.wrInt_rings (s : State) (key n : Nat) (v : Int) : (s.wrInt key n v).rings = s.rings := rfl
@[simp] theorem State.wrInt_streams (s : State) (key n : Nat) (v : Int) : (s.wrInt key n v).streams = s.streams := rfl
@[simp] theorem State.wrInt_requests (s : State) (key n : Nat) (v : Int) : (s.wrInt key n v).requests = s.requests := rfl
@[simp] theorem State.wrInt_priHeld (s : State) (key n : Nat) (v : Int) : (s.wrInt key n v).priHeld = s.priHeld := rfl
@[simp] theorem State.wrInt_priNext (s : State) (key n : Nat) (v : Int) : (s.wrInt key n v).priNext = s.priNext := rfl
@[simp] theorem State.wrInt_waitNext (s : State) (key n : Nat) (v : Int) : (s.wrInt key n v).waitNext = s.waitNext := rfl
@[simp] theorem State.wrInt_loads (s : State) (key n : Nat) (v : Int) : (s.wrInt key n v).loads = s.loads := rfl
@[simp] theorem State.wrInt_plans (s : State) (key n : Nat) (v : Int) : (s.wrInt key n v).plans = s.plans := rfl
@[simp] theorem State.wrInt_tables (s : State) (key n : Nat) (v : Int) : (s.wrInt key n v).tables = s.tables := rfl
@[simp] theorem State.wrInt_curves (s : State) (key n : Nat) (v : Int) : (s.wrInt key n v).curves = s.curves := rfl
@[simp] theorem State.wrInt_bricks (s : State) (key n : Nat) (v : Int) : (s.wrInt key n v).bricks = s.bricks := rfl
@[simp] theorem State.wrInt_joints (s : State) (key n : Nat) (v : Int) : (s.wrInt key n v).joints = s.joints := rfl
@[simp] theorem State.wrInt_colls (s : State) (key n : Nat) (v : Int) : (s.wrInt key n v).colls = s.colls := rfl
@[simp] theorem State.wrInt_hostMem (s : State) (key n : Nat) (v : Int) : (s.wrInt key n v).hostMem = s.hostMem := rfl
@[simp] theorem State.wrInt_subsys (s : State) (key n : Nat) (v : Int) : (s.wrInt key n v).subsys = s.subsys := rfl
@[simp] theorem State.wrInt_rx (s : State) (key n : Nat) (v : Int) : (s.wrInt key n v).rx = s.rx := rfl
@[simp] theorem State.wrInt_devMem (s : State) (key n : Nat) (v : Int) : (s.wrInt key n v).devMem = s.devMem := rfl
@[simp] theorem State.wrInt_tbuf (s : State) (key n : Nat) (v : Int) : (s.wrInt key n v).tbuf = s.tbuf := rfl
@[simp] theorem State.wrInt_poison (s : State) (key n : Nat) (v : Int) : (s.wrInt key n v).poison = s.poison := rfl
@[simp] theorem State.wrInt_tbufPoison (s : State) (key n : Nat) (v : Int) : (s.wrInt key n v).tbufPoison = s.tbufPoison := rfl
@[simp] theorem State.wrInt_retrain (s : State) (key n : Nat) (v : Int) : (s.wrInt key n v).retrain = s.retrain := rfl
@[simp] theorem State.wrInt_sent (s : State) (key n : Nat) (v : Int) : (s.wrInt key n v).sent = s.sent := rfl
@[simp] theorem State.wrInt_host (s : State) (key n : Nat) (v : Int) : (s.wrInt key n v).host = s.host := rfl
@[simp] theorem State.wrInt_missed (s : State) (key n : Nat) (v : Int) : (s.wrInt key n v).missed = s.missed := rfl
@[simp] theorem State.wrInt_statusSeq (s : State) (key n : Nat) (v : Int) : (s.wrInt key n v).statusSeq = s.statusSeq := rfl
@[simp] theorem State.wrInt_stopFetch (s : State) (key n : Nat) (v : Int) : (s.wrInt key n v).stopFetch = s.stopFetch := rfl
@[simp] theorem State.wrInt_rows (s : State) (key n : Nat) (v : Int) : (s.wrInt key n v).rows = s.rows := rfl
@[simp] theorem State.wrInt_batches (s : State) (key n : Nat) (v : Int) : (s.wrInt key n v).batches = s.batches := rfl
@[simp] theorem State.wrInt_batchNext (s : State) (key n : Nat) (v : Int) : (s.wrInt key n v).batchNext = s.batchNext := rfl
@[simp] theorem State.wrInt_rowCache (s : State) (key n : Nat) (v : Int) : (s.wrInt key n v).rowCache = s.rowCache := rfl
@[simp] theorem State.wrInt_sched (s : State) (key n : Nat) (v : Int) : (s.wrInt key n v).sched = s.sched := rfl
@[simp] theorem State.wrInt_members (s : State) (key n : Nat) (v : Int) : (s.wrInt key n v).members = s.members := rfl
@[simp] theorem State.wrInt_produced (s : State) (key n : Nat) (v : Int) : (s.wrInt key n v).produced = s.produced := rfl
@[simp] theorem State.wrInt_lanes (s : State) (key n : Nat) (v : Int) : (s.wrInt key n v).lanes = s.lanes := rfl
@[simp] theorem State.wrInt_groups (s : State) (key n : Nat) (v : Int) : (s.wrInt key n v).groups = s.groups := rfl
@[simp] theorem State.wrInt_pair (s : State) (key n : Nat) (v : Int) : (s.wrInt key n v).pair = s.pair := rfl
@[simp] theorem State.wrInt_root (s : State) (key n : Nat) (v : Int) : (s.wrInt key n v).root = s.root := rfl
@[simp] theorem State.wrInt_flash (s : State) (key n : Nat) (v : Int) : (s.wrInt key n v).flash = s.flash := rfl
@[simp] theorem State.wrInt_boot (s : State) (key n : Nat) (v : Int) : (s.wrInt key n v).boot = s.boot := rfl

/-! ### setFlag -/

@[simp] theorem State.setFlag_pending (s : State) (k : Nat) (b : Bool) : (s.setFlag k b).pending = s.pending := rfl
@[simp] theorem State.setFlag_free (s : State) (k : Nat) (b : Bool) : (s.setFlag k b).free = s.free := rfl
@[simp] theorem State.setFlag_rst (s : State) (k : Nat) (b : Bool) : (s.setFlag k b).rst = s.rst := rfl
@[simp] theorem State.setFlag_sessions (s : State) (k : Nat) (b : Bool) : (s.setFlag k b).sessions = s.sessions := rfl
@[simp] theorem State.setFlag_clk (s : State) (k : Nat) (b : Bool) : (s.setFlag k b).clk = s.clk := rfl
@[simp] theorem State.setFlag_rings (s : State) (k : Nat) (b : Bool) : (s.setFlag k b).rings = s.rings := rfl
@[simp] theorem State.setFlag_streams (s : State) (k : Nat) (b : Bool) : (s.setFlag k b).streams = s.streams := rfl
@[simp] theorem State.setFlag_requests (s : State) (k : Nat) (b : Bool) : (s.setFlag k b).requests = s.requests := rfl
@[simp] theorem State.setFlag_priHeld (s : State) (k : Nat) (b : Bool) : (s.setFlag k b).priHeld = s.priHeld := rfl
@[simp] theorem State.setFlag_priNext (s : State) (k : Nat) (b : Bool) : (s.setFlag k b).priNext = s.priNext := rfl
@[simp] theorem State.setFlag_waitNext (s : State) (k : Nat) (b : Bool) : (s.setFlag k b).waitNext = s.waitNext := rfl
@[simp] theorem State.setFlag_loads (s : State) (k : Nat) (b : Bool) : (s.setFlag k b).loads = s.loads := rfl
@[simp] theorem State.setFlag_plans (s : State) (k : Nat) (b : Bool) : (s.setFlag k b).plans = s.plans := rfl
@[simp] theorem State.setFlag_tables (s : State) (k : Nat) (b : Bool) : (s.setFlag k b).tables = s.tables := rfl
@[simp] theorem State.setFlag_curves (s : State) (k : Nat) (b : Bool) : (s.setFlag k b).curves = s.curves := rfl
@[simp] theorem State.setFlag_bricks (s : State) (k : Nat) (b : Bool) : (s.setFlag k b).bricks = s.bricks := rfl
@[simp] theorem State.setFlag_joints (s : State) (k : Nat) (b : Bool) : (s.setFlag k b).joints = s.joints := rfl
@[simp] theorem State.setFlag_colls (s : State) (k : Nat) (b : Bool) : (s.setFlag k b).colls = s.colls := rfl
@[simp] theorem State.setFlag_hostMem (s : State) (k : Nat) (b : Bool) : (s.setFlag k b).hostMem = s.hostMem := rfl
@[simp] theorem State.setFlag_subsys (s : State) (k : Nat) (b : Bool) : (s.setFlag k b).subsys = s.subsys := rfl
@[simp] theorem State.setFlag_rx (s : State) (k : Nat) (b : Bool) : (s.setFlag k b).rx = s.rx := rfl
@[simp] theorem State.setFlag_devMem (s : State) (k : Nat) (b : Bool) : (s.setFlag k b).devMem = s.devMem := rfl
@[simp] theorem State.setFlag_tbuf (s : State) (k : Nat) (b : Bool) : (s.setFlag k b).tbuf = s.tbuf := rfl
@[simp] theorem State.setFlag_poison (s : State) (k : Nat) (b : Bool) : (s.setFlag k b).poison = s.poison := rfl
@[simp] theorem State.setFlag_tbufPoison (s : State) (k : Nat) (b : Bool) : (s.setFlag k b).tbufPoison = s.tbufPoison := rfl
@[simp] theorem State.setFlag_retrain (s : State) (k : Nat) (b : Bool) : (s.setFlag k b).retrain = s.retrain := rfl
@[simp] theorem State.setFlag_sent (s : State) (k : Nat) (b : Bool) : (s.setFlag k b).sent = s.sent := rfl
@[simp] theorem State.setFlag_host (s : State) (k : Nat) (b : Bool) : (s.setFlag k b).host = s.host := rfl
@[simp] theorem State.setFlag_missed (s : State) (k : Nat) (b : Bool) : (s.setFlag k b).missed = s.missed := rfl
@[simp] theorem State.setFlag_statusSeq (s : State) (k : Nat) (b : Bool) : (s.setFlag k b).statusSeq = s.statusSeq := rfl
@[simp] theorem State.setFlag_stopFetch (s : State) (k : Nat) (b : Bool) : (s.setFlag k b).stopFetch = s.stopFetch := rfl
@[simp] theorem State.setFlag_rows (s : State) (k : Nat) (b : Bool) : (s.setFlag k b).rows = s.rows := rfl
@[simp] theorem State.setFlag_batches (s : State) (k : Nat) (b : Bool) : (s.setFlag k b).batches = s.batches := rfl
@[simp] theorem State.setFlag_batchNext (s : State) (k : Nat) (b : Bool) : (s.setFlag k b).batchNext = s.batchNext := rfl
@[simp] theorem State.setFlag_rowCache (s : State) (k : Nat) (b : Bool) : (s.setFlag k b).rowCache = s.rowCache := rfl
@[simp] theorem State.setFlag_sched (s : State) (k : Nat) (b : Bool) : (s.setFlag k b).sched = s.sched := rfl
@[simp] theorem State.setFlag_members (s : State) (k : Nat) (b : Bool) : (s.setFlag k b).members = s.members := rfl
@[simp] theorem State.setFlag_produced (s : State) (k : Nat) (b : Bool) : (s.setFlag k b).produced = s.produced := rfl
@[simp] theorem State.setFlag_lanes (s : State) (k : Nat) (b : Bool) : (s.setFlag k b).lanes = s.lanes := rfl
@[simp] theorem State.setFlag_groups (s : State) (k : Nat) (b : Bool) : (s.setFlag k b).groups = s.groups := rfl
@[simp] theorem State.setFlag_pair (s : State) (k : Nat) (b : Bool) : (s.setFlag k b).pair = s.pair := rfl
@[simp] theorem State.setFlag_root (s : State) (k : Nat) (b : Bool) : (s.setFlag k b).root = s.root := rfl
@[simp] theorem State.setFlag_flash (s : State) (k : Nat) (b : Bool) : (s.setFlag k b).flash = s.flash := rfl
@[simp] theorem State.setFlag_boot (s : State) (k : Nat) (b : Bool) : (s.setFlag k b).boot = s.boot := rfl

/-! ### send -/

@[simp] theorem State.send_pending (s : State) (x : Sent) : (s.send x).pending = s.pending := rfl
@[simp] theorem State.send_free (s : State) (x : Sent) : (s.send x).free = s.free := rfl
@[simp] theorem State.send_dict (s : State) (x : Sent) : (s.send x).dict = s.dict := rfl
@[simp] theorem State.send_rst (s : State) (x : Sent) : (s.send x).rst = s.rst := rfl
@[simp] theorem State.send_sessions (s : State) (x : Sent) : (s.send x).sessions = s.sessions := rfl
@[simp] theorem State.send_clk (s : State) (x : Sent) : (s.send x).clk = s.clk := rfl
@[simp] theorem State.send_rings (s : State) (x : Sent) : (s.send x).rings = s.rings := rfl
@[simp] theorem State.send_streams (s : State) (x : Sent) : (s.send x).streams = s.streams := rfl
@[simp] theorem State.send_requests (s : State) (x : Sent) : (s.send x).requests = s.requests := rfl
@[simp] theorem State.send_priHeld (s : State) (x : Sent) : (s.send x).priHeld = s.priHeld := rfl
@[simp] theorem State.send_priNext (s : State) (x : Sent) : (s.send x).priNext = s.priNext := rfl
@[simp] theorem State.send_waitNext (s : State) (x : Sent) : (s.send x).waitNext = s.waitNext := rfl
@[simp] theorem State.send_loads (s : State) (x : Sent) : (s.send x).loads = s.loads := rfl
@[simp] theorem State.send_plans (s : State) (x : Sent) : (s.send x).plans = s.plans := rfl
@[simp] theorem State.send_tables (s : State) (x : Sent) : (s.send x).tables = s.tables := rfl
@[simp] theorem State.send_curves (s : State) (x : Sent) : (s.send x).curves = s.curves := rfl
@[simp] theorem State.send_bricks (s : State) (x : Sent) : (s.send x).bricks = s.bricks := rfl
@[simp] theorem State.send_joints (s : State) (x : Sent) : (s.send x).joints = s.joints := rfl
@[simp] theorem State.send_colls (s : State) (x : Sent) : (s.send x).colls = s.colls := rfl
@[simp] theorem State.send_hostMem (s : State) (x : Sent) : (s.send x).hostMem = s.hostMem := rfl
@[simp] theorem State.send_subsys (s : State) (x : Sent) : (s.send x).subsys = s.subsys := rfl
@[simp] theorem State.send_rx (s : State) (x : Sent) : (s.send x).rx = s.rx := rfl
@[simp] theorem State.send_devMem (s : State) (x : Sent) : (s.send x).devMem = s.devMem := rfl
@[simp] theorem State.send_tbuf (s : State) (x : Sent) : (s.send x).tbuf = s.tbuf := rfl
@[simp] theorem State.send_poison (s : State) (x : Sent) : (s.send x).poison = s.poison := rfl
@[simp] theorem State.send_tbufPoison (s : State) (x : Sent) : (s.send x).tbufPoison = s.tbufPoison := rfl
@[simp] theorem State.send_retrain (s : State) (x : Sent) : (s.send x).retrain = s.retrain := rfl
@[simp] theorem State.send_host (s : State) (x : Sent) : (s.send x).host = s.host := rfl
@[simp] theorem State.send_missed (s : State) (x : Sent) : (s.send x).missed = s.missed := rfl
@[simp] theorem State.send_statusSeq (s : State) (x : Sent) : (s.send x).statusSeq = s.statusSeq := rfl
@[simp] theorem State.send_stopFetch (s : State) (x : Sent) : (s.send x).stopFetch = s.stopFetch := rfl
@[simp] theorem State.send_rows (s : State) (x : Sent) : (s.send x).rows = s.rows := rfl
@[simp] theorem State.send_batches (s : State) (x : Sent) : (s.send x).batches = s.batches := rfl
@[simp] theorem State.send_batchNext (s : State) (x : Sent) : (s.send x).batchNext = s.batchNext := rfl
@[simp] theorem State.send_rowCache (s : State) (x : Sent) : (s.send x).rowCache = s.rowCache := rfl
@[simp] theorem State.send_sched (s : State) (x : Sent) : (s.send x).sched = s.sched := rfl
@[simp] theorem State.send_members (s : State) (x : Sent) : (s.send x).members = s.members := rfl
@[simp] theorem State.send_produced (s : State) (x : Sent) : (s.send x).produced = s.produced := rfl
@[simp] theorem State.send_lanes (s : State) (x : Sent) : (s.send x).lanes = s.lanes := rfl
@[simp] theorem State.send_groups (s : State) (x : Sent) : (s.send x).groups = s.groups := rfl
@[simp] theorem State.send_pair (s : State) (x : Sent) : (s.send x).pair = s.pair := rfl
@[simp] theorem State.send_root (s : State) (x : Sent) : (s.send x).root = s.root := rfl
@[simp] theorem State.send_flash (s : State) (x : Sent) : (s.send x).flash = s.flash := rfl
@[simp] theorem State.send_boot (s : State) (x : Sent) : (s.send x).boot = s.boot := rfl

/-! ### hostWrite -/

@[simp] theorem State.hostWrite_pending (s : State) (a : Nat) (bs : Bytes) : (s.hostWrite a bs).pending = s.pending := rfl
@[simp] theorem State.hostWrite_free (s : State) (a : Nat) (bs : Bytes) : (s.hostWrite a bs).free = s.free := rfl
@[simp] theorem State.hostWrite_dict (s : State) (a : Nat) (bs : Bytes) : (s.hostWrite a bs).dict = s.dict := rfl
@[simp] theorem State.hostWrite_rst (s : State) (a : Nat) (bs : Bytes) : (s.hostWrite a bs).rst = s.rst := rfl
@[simp] theorem State.hostWrite_sessions (s : State) (a : Nat) (bs : Bytes) : (s.hostWrite a bs).sessions = s.sessions := rfl
@[simp] theorem State.hostWrite_clk (s : State) (a : Nat) (bs : Bytes) : (s.hostWrite a bs).clk = s.clk := rfl
@[simp] theorem State.hostWrite_rings (s : State) (a : Nat) (bs : Bytes) : (s.hostWrite a bs).rings = s.rings := rfl
@[simp] theorem State.hostWrite_streams (s : State) (a : Nat) (bs : Bytes) : (s.hostWrite a bs).streams = s.streams := rfl
@[simp] theorem State.hostWrite_requests (s : State) (a : Nat) (bs : Bytes) : (s.hostWrite a bs).requests = s.requests := rfl
@[simp] theorem State.hostWrite_priHeld (s : State) (a : Nat) (bs : Bytes) : (s.hostWrite a bs).priHeld = s.priHeld := rfl
@[simp] theorem State.hostWrite_priNext (s : State) (a : Nat) (bs : Bytes) : (s.hostWrite a bs).priNext = s.priNext := rfl
@[simp] theorem State.hostWrite_waitNext (s : State) (a : Nat) (bs : Bytes) : (s.hostWrite a bs).waitNext = s.waitNext := rfl
@[simp] theorem State.hostWrite_loads (s : State) (a : Nat) (bs : Bytes) : (s.hostWrite a bs).loads = s.loads := rfl
@[simp] theorem State.hostWrite_plans (s : State) (a : Nat) (bs : Bytes) : (s.hostWrite a bs).plans = s.plans := rfl
@[simp] theorem State.hostWrite_tables (s : State) (a : Nat) (bs : Bytes) : (s.hostWrite a bs).tables = s.tables := rfl
@[simp] theorem State.hostWrite_curves (s : State) (a : Nat) (bs : Bytes) : (s.hostWrite a bs).curves = s.curves := rfl
@[simp] theorem State.hostWrite_bricks (s : State) (a : Nat) (bs : Bytes) : (s.hostWrite a bs).bricks = s.bricks := rfl
@[simp] theorem State.hostWrite_joints (s : State) (a : Nat) (bs : Bytes) : (s.hostWrite a bs).joints = s.joints := rfl
@[simp] theorem State.hostWrite_colls (s : State) (a : Nat) (bs : Bytes) : (s.hostWrite a bs).colls = s.colls := rfl
@[simp] theorem State.hostWrite_subsys (s : State) (a : Nat) (bs : Bytes) : (s.hostWrite a bs).subsys = s.subsys := rfl
@[simp] theorem State.hostWrite_rx (s : State) (a : Nat) (bs : Bytes) : (s.hostWrite a bs).rx = s.rx := rfl
@[simp] theorem State.hostWrite_devMem (s : State) (a : Nat) (bs : Bytes) : (s.hostWrite a bs).devMem = s.devMem := rfl
@[simp] theorem State.hostWrite_tbuf (s : State) (a : Nat) (bs : Bytes) : (s.hostWrite a bs).tbuf = s.tbuf := rfl
@[simp] theorem State.hostWrite_poison (s : State) (a : Nat) (bs : Bytes) : (s.hostWrite a bs).poison = s.poison := rfl
@[simp] theorem State.hostWrite_tbufPoison (s : State) (a : Nat) (bs : Bytes) : (s.hostWrite a bs).tbufPoison = s.tbufPoison := rfl
@[simp] theorem State.hostWrite_retrain (s : State) (a : Nat) (bs : Bytes) : (s.hostWrite a bs).retrain = s.retrain := rfl
@[simp] theorem State.hostWrite_sent (s : State) (a : Nat) (bs : Bytes) : (s.hostWrite a bs).sent = s.sent := rfl
@[simp] theorem State.hostWrite_host (s : State) (a : Nat) (bs : Bytes) : (s.hostWrite a bs).host = s.host := rfl
@[simp] theorem State.hostWrite_missed (s : State) (a : Nat) (bs : Bytes) : (s.hostWrite a bs).missed = s.missed := rfl
@[simp] theorem State.hostWrite_statusSeq (s : State) (a : Nat) (bs : Bytes) : (s.hostWrite a bs).statusSeq = s.statusSeq := rfl
@[simp] theorem State.hostWrite_stopFetch (s : State) (a : Nat) (bs : Bytes) : (s.hostWrite a bs).stopFetch = s.stopFetch := rfl
@[simp] theorem State.hostWrite_rows (s : State) (a : Nat) (bs : Bytes) : (s.hostWrite a bs).rows = s.rows := rfl
@[simp] theorem State.hostWrite_batches (s : State) (a : Nat) (bs : Bytes) : (s.hostWrite a bs).batches = s.batches := rfl
@[simp] theorem State.hostWrite_batchNext (s : State) (a : Nat) (bs : Bytes) : (s.hostWrite a bs).batchNext = s.batchNext := rfl
@[simp] theorem State.hostWrite_rowCache (s : State) (a : Nat) (bs : Bytes) : (s.hostWrite a bs).rowCache = s.rowCache := rfl
@[simp] theorem State.hostWrite_sched (s : State) (a : Nat) (bs : Bytes) : (s.hostWrite a bs).sched = s.sched := rfl
@[simp] theorem State.hostWrite_members (s : State) (a : Nat) (bs : Bytes) : (s.hostWrite a bs).members = s.members := rfl
@[simp] theorem State.hostWrite_produced (s : State) (a : Nat) (bs : Bytes) : (s.hostWrite a bs).produced = s.produced := rfl
@[simp] theorem State.hostWrite_lanes (s : State) (a : Nat) (bs : Bytes) : (s.hostWrite a bs).lanes = s.lanes := rfl
@[simp] theorem State.hostWrite_groups (s : State) (a : Nat) (bs : Bytes) : (s.hostWrite a bs).groups = s.groups := rfl
@[simp] theorem State.hostWrite_pair (s : State) (a : Nat) (bs : Bytes) : (s.hostWrite a bs).pair = s.pair := rfl
@[simp] theorem State.hostWrite_root (s : State) (a : Nat) (bs : Bytes) : (s.hostWrite a bs).root = s.root := rfl
@[simp] theorem State.hostWrite_flash (s : State) (a : Nat) (bs : Bytes) : (s.hostWrite a bs).flash = s.flash := rfl
@[simp] theorem State.hostWrite_boot (s : State) (a : Nat) (bs : Bytes) : (s.hostWrite a bs).boot = s.boot := rfl

/-! ### devWrite -/

@[simp] theorem State.devWrite_pending (s : State) (a : Nat) (bs : Bytes) : (s.devWrite a bs).pending = s.pending := rfl
@[simp] theorem State.devWrite_free (s : State) (a : Nat) (bs : Bytes) : (s.devWrite a bs).free = s.free := rfl
@[simp] theorem State.devWrite_dict (s : State) (a : Nat) (bs : Bytes) : (s.devWrite a bs).dict = s.dict := rfl
@[simp] theorem State.devWrite_rst (s : State) (a : Nat) (bs : Bytes) : (s.devWrite a bs).rst = s.rst := rfl
@[simp] theorem State.devWrite_sessions (s : State) (a : Nat) (bs : Bytes) : (s.devWrite a bs).sessions = s.sessions := rfl
@[simp] theorem State.devWrite_clk (s : State) (a : Nat) (bs : Bytes) : (s.devWrite a bs).clk = s.clk := rfl
@[simp] theorem State.devWrite_rings (s : State) (a : Nat) (bs : Bytes) : (s.devWrite a bs).rings = s.rings := rfl
@[simp] theorem State.devWrite_streams (s : State) (a : Nat) (bs : Bytes) : (s.devWrite a bs).streams = s.streams := rfl
@[simp] theorem State.devWrite_requests (s : State) (a : Nat) (bs : Bytes) : (s.devWrite a bs).requests = s.requests := rfl
@[simp] theorem State.devWrite_priHeld (s : State) (a : Nat) (bs : Bytes) : (s.devWrite a bs).priHeld = s.priHeld := rfl
@[simp] theorem State.devWrite_priNext (s : State) (a : Nat) (bs : Bytes) : (s.devWrite a bs).priNext = s.priNext := rfl
@[simp] theorem State.devWrite_waitNext (s : State) (a : Nat) (bs : Bytes) : (s.devWrite a bs).waitNext = s.waitNext := rfl
@[simp] theorem State.devWrite_loads (s : State) (a : Nat) (bs : Bytes) : (s.devWrite a bs).loads = s.loads := rfl
@[simp] theorem State.devWrite_plans (s : State) (a : Nat) (bs : Bytes) : (s.devWrite a bs).plans = s.plans := rfl
@[simp] theorem State.devWrite_tables (s : State) (a : Nat) (bs : Bytes) : (s.devWrite a bs).tables = s.tables := rfl
@[simp] theorem State.devWrite_curves (s : State) (a : Nat) (bs : Bytes) : (s.devWrite a bs).curves = s.curves := rfl
@[simp] theorem State.devWrite_bricks (s : State) (a : Nat) (bs : Bytes) : (s.devWrite a bs).bricks = s.bricks := rfl
@[simp] theorem State.devWrite_joints (s : State) (a : Nat) (bs : Bytes) : (s.devWrite a bs).joints = s.joints := rfl
@[simp] theorem State.devWrite_colls (s : State) (a : Nat) (bs : Bytes) : (s.devWrite a bs).colls = s.colls := rfl
@[simp] theorem State.devWrite_hostMem (s : State) (a : Nat) (bs : Bytes) : (s.devWrite a bs).hostMem = s.hostMem := rfl
@[simp] theorem State.devWrite_subsys (s : State) (a : Nat) (bs : Bytes) : (s.devWrite a bs).subsys = s.subsys := rfl
@[simp] theorem State.devWrite_rx (s : State) (a : Nat) (bs : Bytes) : (s.devWrite a bs).rx = s.rx := rfl
@[simp] theorem State.devWrite_tbuf (s : State) (a : Nat) (bs : Bytes) : (s.devWrite a bs).tbuf = s.tbuf := rfl
@[simp] theorem State.devWrite_tbufPoison (s : State) (a : Nat) (bs : Bytes) : (s.devWrite a bs).tbufPoison = s.tbufPoison := rfl
@[simp] theorem State.devWrite_retrain (s : State) (a : Nat) (bs : Bytes) : (s.devWrite a bs).retrain = s.retrain := rfl
@[simp] theorem State.devWrite_sent (s : State) (a : Nat) (bs : Bytes) : (s.devWrite a bs).sent = s.sent := rfl
@[simp] theorem State.devWrite_host (s : State) (a : Nat) (bs : Bytes) : (s.devWrite a bs).host = s.host := rfl
@[simp] theorem State.devWrite_missed (s : State) (a : Nat) (bs : Bytes) : (s.devWrite a bs).missed = s.missed := rfl
@[simp] theorem State.devWrite_statusSeq (s : State) (a : Nat) (bs : Bytes) : (s.devWrite a bs).statusSeq = s.statusSeq := rfl
@[simp] theorem State.devWrite_stopFetch (s : State) (a : Nat) (bs : Bytes) : (s.devWrite a bs).stopFetch = s.stopFetch := rfl
@[simp] theorem State.devWrite_rows (s : State) (a : Nat) (bs : Bytes) : (s.devWrite a bs).rows = s.rows := rfl
@[simp] theorem State.devWrite_batches (s : State) (a : Nat) (bs : Bytes) : (s.devWrite a bs).batches = s.batches := rfl
@[simp] theorem State.devWrite_batchNext (s : State) (a : Nat) (bs : Bytes) : (s.devWrite a bs).batchNext = s.batchNext := rfl
@[simp] theorem State.devWrite_rowCache (s : State) (a : Nat) (bs : Bytes) : (s.devWrite a bs).rowCache = s.rowCache := rfl
@[simp] theorem State.devWrite_sched (s : State) (a : Nat) (bs : Bytes) : (s.devWrite a bs).sched = s.sched := rfl
@[simp] theorem State.devWrite_members (s : State) (a : Nat) (bs : Bytes) : (s.devWrite a bs).members = s.members := rfl
@[simp] theorem State.devWrite_produced (s : State) (a : Nat) (bs : Bytes) : (s.devWrite a bs).produced = s.produced := rfl
@[simp] theorem State.devWrite_lanes (s : State) (a : Nat) (bs : Bytes) : (s.devWrite a bs).lanes = s.lanes := rfl
@[simp] theorem State.devWrite_groups (s : State) (a : Nat) (bs : Bytes) : (s.devWrite a bs).groups = s.groups := rfl
@[simp] theorem State.devWrite_pair (s : State) (a : Nat) (bs : Bytes) : (s.devWrite a bs).pair = s.pair := rfl
@[simp] theorem State.devWrite_root (s : State) (a : Nat) (bs : Bytes) : (s.devWrite a bs).root = s.root := rfl
@[simp] theorem State.devWrite_flash (s : State) (a : Nat) (bs : Bytes) : (s.devWrite a bs).flash = s.flash := rfl
@[simp] theorem State.devWrite_boot (s : State) (a : Nat) (bs : Bytes) : (s.devWrite a bs).boot = s.boot := rfl

/-! ### setSession -/

@[simp] theorem State.setSession_pending (s : State) (i : Nat) (x : Session) : (s.setSession i x).pending = s.pending := rfl
@[simp] theorem State.setSession_free (s : State) (i : Nat) (x : Session) : (s.setSession i x).free = s.free := rfl
@[simp] theorem State.setSession_dict (s : State) (i : Nat) (x : Session) : (s.setSession i x).dict = s.dict := rfl
@[simp] theorem State.setSession_rst (s : State) (i : Nat) (x : Session) : (s.setSession i x).rst = s.rst := rfl
@[simp] theorem State.setSession_clk (s : State) (i : Nat) (x : Session) : (s.setSession i x).clk = s.clk := rfl
@[simp] theorem State.setSession_rings (s : State) (i : Nat) (x : Session) : (s.setSession i x).rings = s.rings := rfl
@[simp] theorem State.setSession_streams (s : State) (i : Nat) (x : Session) : (s.setSession i x).streams = s.streams := rfl
@[simp] theorem State.setSession_requests (s : State) (i : Nat) (x : Session) : (s.setSession i x).requests = s.requests := rfl
@[simp] theorem State.setSession_priHeld (s : State) (i : Nat) (x : Session) : (s.setSession i x).priHeld = s.priHeld := rfl
@[simp] theorem State.setSession_priNext (s : State) (i : Nat) (x : Session) : (s.setSession i x).priNext = s.priNext := rfl
@[simp] theorem State.setSession_waitNext (s : State) (i : Nat) (x : Session) : (s.setSession i x).waitNext = s.waitNext := rfl
@[simp] theorem State.setSession_loads (s : State) (i : Nat) (x : Session) : (s.setSession i x).loads = s.loads := rfl
@[simp] theorem State.setSession_plans (s : State) (i : Nat) (x : Session) : (s.setSession i x).plans = s.plans := rfl
@[simp] theorem State.setSession_tables (s : State) (i : Nat) (x : Session) : (s.setSession i x).tables = s.tables := rfl
@[simp] theorem State.setSession_curves (s : State) (i : Nat) (x : Session) : (s.setSession i x).curves = s.curves := rfl
@[simp] theorem State.setSession_bricks (s : State) (i : Nat) (x : Session) : (s.setSession i x).bricks = s.bricks := rfl
@[simp] theorem State.setSession_joints (s : State) (i : Nat) (x : Session) : (s.setSession i x).joints = s.joints := rfl
@[simp] theorem State.setSession_colls (s : State) (i : Nat) (x : Session) : (s.setSession i x).colls = s.colls := rfl
@[simp] theorem State.setSession_hostMem (s : State) (i : Nat) (x : Session) : (s.setSession i x).hostMem = s.hostMem := rfl
@[simp] theorem State.setSession_subsys (s : State) (i : Nat) (x : Session) : (s.setSession i x).subsys = s.subsys := rfl
@[simp] theorem State.setSession_rx (s : State) (i : Nat) (x : Session) : (s.setSession i x).rx = s.rx := rfl
@[simp] theorem State.setSession_devMem (s : State) (i : Nat) (x : Session) : (s.setSession i x).devMem = s.devMem := rfl
@[simp] theorem State.setSession_tbuf (s : State) (i : Nat) (x : Session) : (s.setSession i x).tbuf = s.tbuf := rfl
@[simp] theorem State.setSession_poison (s : State) (i : Nat) (x : Session) : (s.setSession i x).poison = s.poison := rfl
@[simp] theorem State.setSession_tbufPoison (s : State) (i : Nat) (x : Session) : (s.setSession i x).tbufPoison = s.tbufPoison := rfl
@[simp] theorem State.setSession_retrain (s : State) (i : Nat) (x : Session) : (s.setSession i x).retrain = s.retrain := rfl
@[simp] theorem State.setSession_sent (s : State) (i : Nat) (x : Session) : (s.setSession i x).sent = s.sent := rfl
@[simp] theorem State.setSession_host (s : State) (i : Nat) (x : Session) : (s.setSession i x).host = s.host := rfl
@[simp] theorem State.setSession_missed (s : State) (i : Nat) (x : Session) : (s.setSession i x).missed = s.missed := rfl
@[simp] theorem State.setSession_statusSeq (s : State) (i : Nat) (x : Session) : (s.setSession i x).statusSeq = s.statusSeq := rfl
@[simp] theorem State.setSession_stopFetch (s : State) (i : Nat) (x : Session) : (s.setSession i x).stopFetch = s.stopFetch := rfl
@[simp] theorem State.setSession_rows (s : State) (i : Nat) (x : Session) : (s.setSession i x).rows = s.rows := rfl
@[simp] theorem State.setSession_batches (s : State) (i : Nat) (x : Session) : (s.setSession i x).batches = s.batches := rfl
@[simp] theorem State.setSession_batchNext (s : State) (i : Nat) (x : Session) : (s.setSession i x).batchNext = s.batchNext := rfl
@[simp] theorem State.setSession_rowCache (s : State) (i : Nat) (x : Session) : (s.setSession i x).rowCache = s.rowCache := rfl
@[simp] theorem State.setSession_sched (s : State) (i : Nat) (x : Session) : (s.setSession i x).sched = s.sched := rfl
@[simp] theorem State.setSession_members (s : State) (i : Nat) (x : Session) : (s.setSession i x).members = s.members := rfl
@[simp] theorem State.setSession_produced (s : State) (i : Nat) (x : Session) : (s.setSession i x).produced = s.produced := rfl
@[simp] theorem State.setSession_lanes (s : State) (i : Nat) (x : Session) : (s.setSession i x).lanes = s.lanes := rfl
@[simp] theorem State.setSession_groups (s : State) (i : Nat) (x : Session) : (s.setSession i x).groups = s.groups := rfl
@[simp] theorem State.setSession_pair (s : State) (i : Nat) (x : Session) : (s.setSession i x).pair = s.pair := rfl
@[simp] theorem State.setSession_root (s : State) (i : Nat) (x : Session) : (s.setSession i x).root = s.root := rfl
@[simp] theorem State.setSession_flash (s : State) (i : Nat) (x : Session) : (s.setSession i x).flash = s.flash := rfl
@[simp] theorem State.setSession_boot (s : State) (i : Nat) (x : Session) : (s.setSession i x).boot = s.boot := rfl

/-! ### setRing -/

@[simp] theorem State.setRing_pending (s : State) (n : Nat) (x : Ring) : (s.setRing n x).pending = s.pending := rfl
@[simp] theorem State.setRing_free (s : State) (n : Nat) (x : Ring) : (s.setRing n x).free = s.free := rfl
@[simp] theorem State.setRing_dict (s : State) (n : Nat) (x : Ring) : (s.setRing n x).dict = s.dict := rfl
@[simp] theorem State.setRing_rst (s : State) (n : Nat) (x : Ring) : (s.setRing n x).rst = s.rst := rfl
@[simp] theorem State.setRing_sessions (s : State) (n : Nat) (x : Ring) : (s.setRing n x).sessions = s.sessions := rfl
@[simp] theorem State.setRing_clk (s : State) (n : Nat) (x : Ring) : (s.setRing n x).clk = s.clk := rfl
@[simp] theorem State.setRing_streams (s : State) (n : Nat) (x : Ring) : (s.setRing n x).streams = s.streams := rfl
@[simp] theorem State.setRing_requests (s : State) (n : Nat) (x : Ring) : (s.setRing n x).requests = s.requests := rfl
@[simp] theorem State.setRing_priHeld (s : State) (n : Nat) (x : Ring) : (s.setRing n x).priHeld = s.priHeld := rfl
@[simp] theorem State.setRing_priNext (s : State) (n : Nat) (x : Ring) : (s.setRing n x).priNext = s.priNext := rfl
@[simp] theorem State.setRing_waitNext (s : State) (n : Nat) (x : Ring) : (s.setRing n x).waitNext = s.waitNext := rfl
@[simp] theorem State.setRing_loads (s : State) (n : Nat) (x : Ring) : (s.setRing n x).loads = s.loads := rfl
@[simp] theorem State.setRing_plans (s : State) (n : Nat) (x : Ring) : (s.setRing n x).plans = s.plans := rfl
@[simp] theorem State.setRing_tables (s : State) (n : Nat) (x : Ring) : (s.setRing n x).tables = s.tables := rfl
@[simp] theorem State.setRing_curves (s : State) (n : Nat) (x : Ring) : (s.setRing n x).curves = s.curves := rfl
@[simp] theorem State.setRing_bricks (s : State) (n : Nat) (x : Ring) : (s.setRing n x).bricks = s.bricks := rfl
@[simp] theorem State.setRing_joints (s : State) (n : Nat) (x : Ring) : (s.setRing n x).joints = s.joints := rfl
@[simp] theorem State.setRing_colls (s : State) (n : Nat) (x : Ring) : (s.setRing n x).colls = s.colls := rfl
@[simp] theorem State.setRing_hostMem (s : State) (n : Nat) (x : Ring) : (s.setRing n x).hostMem = s.hostMem := rfl
@[simp] theorem State.setRing_subsys (s : State) (n : Nat) (x : Ring) : (s.setRing n x).subsys = s.subsys := rfl
@[simp] theorem State.setRing_rx (s : State) (n : Nat) (x : Ring) : (s.setRing n x).rx = s.rx := rfl
@[simp] theorem State.setRing_devMem (s : State) (n : Nat) (x : Ring) : (s.setRing n x).devMem = s.devMem := rfl
@[simp] theorem State.setRing_tbuf (s : State) (n : Nat) (x : Ring) : (s.setRing n x).tbuf = s.tbuf := rfl
@[simp] theorem State.setRing_poison (s : State) (n : Nat) (x : Ring) : (s.setRing n x).poison = s.poison := rfl
@[simp] theorem State.setRing_tbufPoison (s : State) (n : Nat) (x : Ring) : (s.setRing n x).tbufPoison = s.tbufPoison := rfl
@[simp] theorem State.setRing_retrain (s : State) (n : Nat) (x : Ring) : (s.setRing n x).retrain = s.retrain := rfl
@[simp] theorem State.setRing_sent (s : State) (n : Nat) (x : Ring) : (s.setRing n x).sent = s.sent := rfl
@[simp] theorem State.setRing_host (s : State) (n : Nat) (x : Ring) : (s.setRing n x).host = s.host := rfl
@[simp] theorem State.setRing_missed (s : State) (n : Nat) (x : Ring) : (s.setRing n x).missed = s.missed := rfl
@[simp] theorem State.setRing_statusSeq (s : State) (n : Nat) (x : Ring) : (s.setRing n x).statusSeq = s.statusSeq := rfl
@[simp] theorem State.setRing_stopFetch (s : State) (n : Nat) (x : Ring) : (s.setRing n x).stopFetch = s.stopFetch := rfl
@[simp] theorem State.setRing_rows (s : State) (n : Nat) (x : Ring) : (s.setRing n x).rows = s.rows := rfl
@[simp] theorem State.setRing_batches (s : State) (n : Nat) (x : Ring) : (s.setRing n x).batches = s.batches := rfl
@[simp] theorem State.setRing_batchNext (s : State) (n : Nat) (x : Ring) : (s.setRing n x).batchNext = s.batchNext := rfl
@[simp] theorem State.setRing_rowCache (s : State) (n : Nat) (x : Ring) : (s.setRing n x).rowCache = s.rowCache := rfl
@[simp] theorem State.setRing_sched (s : State) (n : Nat) (x : Ring) : (s.setRing n x).sched = s.sched := rfl
@[simp] theorem State.setRing_members (s : State) (n : Nat) (x : Ring) : (s.setRing n x).members = s.members := rfl
@[simp] theorem State.setRing_produced (s : State) (n : Nat) (x : Ring) : (s.setRing n x).produced = s.produced := rfl
@[simp] theorem State.setRing_lanes (s : State) (n : Nat) (x : Ring) : (s.setRing n x).lanes = s.lanes := rfl
@[simp] theorem State.setRing_groups (s : State) (n : Nat) (x : Ring) : (s.setRing n x).groups = s.groups := rfl
@[simp] theorem State.setRing_pair (s : State) (n : Nat) (x : Ring) : (s.setRing n x).pair = s.pair := rfl
@[simp] theorem State.setRing_root (s : State) (n : Nat) (x : Ring) : (s.setRing n x).root = s.root := rfl
@[simp] theorem State.setRing_flash (s : State) (n : Nat) (x : Ring) : (s.setRing n x).flash = s.flash := rfl
@[simp] theorem State.setRing_boot (s : State) (n : Nat) (x : Ring) : (s.setRing n x).boot = s.boot := rfl

/-! ### setStream -/

@[simp] theorem State.setStream_pending (s : State) (n : Nat) (x : Stream) : (s.setStream n x).pending = s.pending := rfl
@[simp] theorem State.setStream_free (s : State) (n : Nat) (x : Stream) : (s.setStream n x).free = s.free := rfl
@[simp] theorem State.setStream_dict (s : State) (n : Nat) (x : Stream) : (s.setStream n x).dict = s.dict := rfl
@[simp] theorem State.setStream_rst (s : State) (n : Nat) (x : Stream) : (s.setStream n x).rst = s.rst := rfl
@[simp] theorem State.setStream_sessions (s : State) (n : Nat) (x : Stream) : (s.setStream n x).sessions = s.sessions := rfl
@[simp] theorem State.setStream_clk (s : State) (n : Nat) (x : Stream) : (s.setStream n x).clk = s.clk := rfl
@[simp] theorem State.setStream_rings (s : State) (n : Nat) (x : Stream) : (s.setStream n x).rings = s.rings := rfl
@[simp] theorem State.setStream_requests (s : State) (n : Nat) (x : Stream) : (s.setStream n x).requests = s.requests := rfl
@[simp] theorem State.setStream_priHeld (s : State) (n : Nat) (x : Stream) : (s.setStream n x).priHeld = s.priHeld := rfl
@[simp] theorem State.setStream_priNext (s : State) (n : Nat) (x : Stream) : (s.setStream n x).priNext = s.priNext := rfl
@[simp] theorem State.setStream_waitNext (s : State) (n : Nat) (x : Stream) : (s.setStream n x).waitNext = s.waitNext := rfl
@[simp] theorem State.setStream_loads (s : State) (n : Nat) (x : Stream) : (s.setStream n x).loads = s.loads := rfl
@[simp] theorem State.setStream_plans (s : State) (n : Nat) (x : Stream) : (s.setStream n x).plans = s.plans := rfl
@[simp] theorem State.setStream_tables (s : State) (n : Nat) (x : Stream) : (s.setStream n x).tables = s.tables := rfl
@[simp] theorem State.setStream_curves (s : State) (n : Nat) (x : Stream) : (s.setStream n x).curves = s.curves := rfl
@[simp] theorem State.setStream_bricks (s : State) (n : Nat) (x : Stream) : (s.setStream n x).bricks = s.bricks := rfl
@[simp] theorem State.setStream_joints (s : State) (n : Nat) (x : Stream) : (s.setStream n x).joints = s.joints := rfl
@[simp] theorem State.setStream_colls (s : State) (n : Nat) (x : Stream) : (s.setStream n x).colls = s.colls := rfl
@[simp] theorem State.setStream_hostMem (s : State) (n : Nat) (x : Stream) : (s.setStream n x).hostMem = s.hostMem := rfl
@[simp] theorem State.setStream_subsys (s : State) (n : Nat) (x : Stream) : (s.setStream n x).subsys = s.subsys := rfl
@[simp] theorem State.setStream_rx (s : State) (n : Nat) (x : Stream) : (s.setStream n x).rx = s.rx := rfl
@[simp] theorem State.setStream_devMem (s : State) (n : Nat) (x : Stream) : (s.setStream n x).devMem = s.devMem := rfl
@[simp] theorem State.setStream_tbuf (s : State) (n : Nat) (x : Stream) : (s.setStream n x).tbuf = s.tbuf := rfl
@[simp] theorem State.setStream_poison (s : State) (n : Nat) (x : Stream) : (s.setStream n x).poison = s.poison := rfl
@[simp] theorem State.setStream_tbufPoison (s : State) (n : Nat) (x : Stream) : (s.setStream n x).tbufPoison = s.tbufPoison := rfl
@[simp] theorem State.setStream_retrain (s : State) (n : Nat) (x : Stream) : (s.setStream n x).retrain = s.retrain := rfl
@[simp] theorem State.setStream_sent (s : State) (n : Nat) (x : Stream) : (s.setStream n x).sent = s.sent := rfl
@[simp] theorem State.setStream_host (s : State) (n : Nat) (x : Stream) : (s.setStream n x).host = s.host := rfl
@[simp] theorem State.setStream_missed (s : State) (n : Nat) (x : Stream) : (s.setStream n x).missed = s.missed := rfl
@[simp] theorem State.setStream_statusSeq (s : State) (n : Nat) (x : Stream) : (s.setStream n x).statusSeq = s.statusSeq := rfl
@[simp] theorem State.setStream_stopFetch (s : State) (n : Nat) (x : Stream) : (s.setStream n x).stopFetch = s.stopFetch := rfl
@[simp] theorem State.setStream_rows (s : State) (n : Nat) (x : Stream) : (s.setStream n x).rows = s.rows := rfl
@[simp] theorem State.setStream_batches (s : State) (n : Nat) (x : Stream) : (s.setStream n x).batches = s.batches := rfl
@[simp] theorem State.setStream_batchNext (s : State) (n : Nat) (x : Stream) : (s.setStream n x).batchNext = s.batchNext := rfl
@[simp] theorem State.setStream_rowCache (s : State) (n : Nat) (x : Stream) : (s.setStream n x).rowCache = s.rowCache := rfl
@[simp] theorem State.setStream_sched (s : State) (n : Nat) (x : Stream) : (s.setStream n x).sched = s.sched := rfl
@[simp] theorem State.setStream_members (s : State) (n : Nat) (x : Stream) : (s.setStream n x).members = s.members := rfl
@[simp] theorem State.setStream_produced (s : State) (n : Nat) (x : Stream) : (s.setStream n x).produced = s.produced := rfl
@[simp] theorem State.setStream_lanes (s : State) (n : Nat) (x : Stream) : (s.setStream n x).lanes = s.lanes := rfl
@[simp] theorem State.setStream_groups (s : State) (n : Nat) (x : Stream) : (s.setStream n x).groups = s.groups := rfl
@[simp] theorem State.setStream_pair (s : State) (n : Nat) (x : Stream) : (s.setStream n x).pair = s.pair := rfl
@[simp] theorem State.setStream_root (s : State) (n : Nat) (x : Stream) : (s.setStream n x).root = s.root := rfl
@[simp] theorem State.setStream_flash (s : State) (n : Nat) (x : Stream) : (s.setStream n x).flash = s.flash := rfl
@[simp] theorem State.setStream_boot (s : State) (n : Nat) (x : Stream) : (s.setStream n x).boot = s.boot := rfl

/-! ### setBrick -/

@[simp] theorem State.setBrick_pending (s : State) (k : Nat) (x : Brick) : (s.setBrick k x).pending = s.pending := rfl
@[simp] theorem State.setBrick_free (s : State) (k : Nat) (x : Brick) : (s.setBrick k x).free = s.free := rfl
@[simp] theorem State.setBrick_dict (s : State) (k : Nat) (x : Brick) : (s.setBrick k x).dict = s.dict := rfl
@[simp] theorem State.setBrick_rst (s : State) (k : Nat) (x : Brick) : (s.setBrick k x).rst = s.rst := rfl
@[simp] theorem State.setBrick_sessions (s : State) (k : Nat) (x : Brick) : (s.setBrick k x).sessions = s.sessions := rfl
@[simp] theorem State.setBrick_clk (s : State) (k : Nat) (x : Brick) : (s.setBrick k x).clk = s.clk := rfl
@[simp] theorem State.setBrick_rings (s : State) (k : Nat) (x : Brick) : (s.setBrick k x).rings = s.rings := rfl
@[simp] theorem State.setBrick_streams (s : State) (k : Nat) (x : Brick) : (s.setBrick k x).streams = s.streams := rfl
@[simp] theorem State.setBrick_requests (s : State) (k : Nat) (x : Brick) : (s.setBrick k x).requests = s.requests := rfl
@[simp] theorem State.setBrick_priHeld (s : State) (k : Nat) (x : Brick) : (s.setBrick k x).priHeld = s.priHeld := rfl
@[simp] theorem State.setBrick_priNext (s : State) (k : Nat) (x : Brick) : (s.setBrick k x).priNext = s.priNext := rfl
@[simp] theorem State.setBrick_waitNext (s : State) (k : Nat) (x : Brick) : (s.setBrick k x).waitNext = s.waitNext := rfl
@[simp] theorem State.setBrick_loads (s : State) (k : Nat) (x : Brick) : (s.setBrick k x).loads = s.loads := rfl
@[simp] theorem State.setBrick_plans (s : State) (k : Nat) (x : Brick) : (s.setBrick k x).plans = s.plans := rfl
@[simp] theorem State.setBrick_tables (s : State) (k : Nat) (x : Brick) : (s.setBrick k x).tables = s.tables := rfl
@[simp] theorem State.setBrick_curves (s : State) (k : Nat) (x : Brick) : (s.setBrick k x).curves = s.curves := rfl
@[simp] theorem State.setBrick_joints (s : State) (k : Nat) (x : Brick) : (s.setBrick k x).joints = s.joints := rfl
@[simp] theorem State.setBrick_colls (s : State) (k : Nat) (x : Brick) : (s.setBrick k x).colls = s.colls := rfl
@[simp] theorem State.setBrick_hostMem (s : State) (k : Nat) (x : Brick) : (s.setBrick k x).hostMem = s.hostMem := rfl
@[simp] theorem State.setBrick_subsys (s : State) (k : Nat) (x : Brick) : (s.setBrick k x).subsys = s.subsys := rfl
@[simp] theorem State.setBrick_rx (s : State) (k : Nat) (x : Brick) : (s.setBrick k x).rx = s.rx := rfl
@[simp] theorem State.setBrick_devMem (s : State) (k : Nat) (x : Brick) : (s.setBrick k x).devMem = s.devMem := rfl
@[simp] theorem State.setBrick_tbuf (s : State) (k : Nat) (x : Brick) : (s.setBrick k x).tbuf = s.tbuf := rfl
@[simp] theorem State.setBrick_poison (s : State) (k : Nat) (x : Brick) : (s.setBrick k x).poison = s.poison := rfl
@[simp] theorem State.setBrick_tbufPoison (s : State) (k : Nat) (x : Brick) : (s.setBrick k x).tbufPoison = s.tbufPoison := rfl
@[simp] theorem State.setBrick_retrain (s : State) (k : Nat) (x : Brick) : (s.setBrick k x).retrain = s.retrain := rfl
@[simp] theorem State.setBrick_sent (s : State) (k : Nat) (x : Brick) : (s.setBrick k x).sent = s.sent := rfl
@[simp] theorem State.setBrick_host (s : State) (k : Nat) (x : Brick) : (s.setBrick k x).host = s.host := rfl
@[simp] theorem State.setBrick_missed (s : State) (k : Nat) (x : Brick) : (s.setBrick k x).missed = s.missed := rfl
@[simp] theorem State.setBrick_statusSeq (s : State) (k : Nat) (x : Brick) : (s.setBrick k x).statusSeq = s.statusSeq := rfl
@[simp] theorem State.setBrick_stopFetch (s : State) (k : Nat) (x : Brick) : (s.setBrick k x).stopFetch = s.stopFetch := rfl
@[simp] theorem State.setBrick_rows (s : State) (k : Nat) (x : Brick) : (s.setBrick k x).rows = s.rows := rfl
@[simp] theorem State.setBrick_batches (s : State) (k : Nat) (x : Brick) : (s.setBrick k x).batches = s.batches := rfl
@[simp] theorem State.setBrick_batchNext (s : State) (k : Nat) (x : Brick) : (s.setBrick k x).batchNext = s.batchNext := rfl
@[simp] theorem State.setBrick_rowCache (s : State) (k : Nat) (x : Brick) : (s.setBrick k x).rowCache = s.rowCache := rfl
@[simp] theorem State.setBrick_sched (s : State) (k : Nat) (x : Brick) : (s.setBrick k x).sched = s.sched := rfl
@[simp] theorem State.setBrick_members (s : State) (k : Nat) (x : Brick) : (s.setBrick k x).members = s.members := rfl
@[simp] theorem State.setBrick_produced (s : State) (k : Nat) (x : Brick) : (s.setBrick k x).produced = s.produced := rfl
@[simp] theorem State.setBrick_lanes (s : State) (k : Nat) (x : Brick) : (s.setBrick k x).lanes = s.lanes := rfl
@[simp] theorem State.setBrick_groups (s : State) (k : Nat) (x : Brick) : (s.setBrick k x).groups = s.groups := rfl
@[simp] theorem State.setBrick_pair (s : State) (k : Nat) (x : Brick) : (s.setBrick k x).pair = s.pair := rfl
@[simp] theorem State.setBrick_root (s : State) (k : Nat) (x : Brick) : (s.setBrick k x).root = s.root := rfl
@[simp] theorem State.setBrick_flash (s : State) (k : Nat) (x : Brick) : (s.setBrick k x).flash = s.flash := rfl
@[simp] theorem State.setBrick_boot (s : State) (k : Nat) (x : Brick) : (s.setBrick k x).boot = s.boot := rfl

/-! ### setLane -/

@[simp] theorem State.setLane_pending (s : State) (n : Nat) (x : LaneRun) : (s.setLane n x).pending = s.pending := rfl
@[simp] theorem State.setLane_free (s : State) (n : Nat) (x : LaneRun) : (s.setLane n x).free = s.free := rfl
@[simp] theorem State.setLane_dict (s : State) (n : Nat) (x : LaneRun) : (s.setLane n x).dict = s.dict := rfl
@[simp] theorem State.setLane_rst (s : State) (n : Nat) (x : LaneRun) : (s.setLane n x).rst = s.rst := rfl
@[simp] theorem State.setLane_sessions (s : State) (n : Nat) (x : LaneRun) : (s.setLane n x).sessions = s.sessions := rfl
@[simp] theorem State.setLane_clk (s : State) (n : Nat) (x : LaneRun) : (s.setLane n x).clk = s.clk := rfl
@[simp] theorem State.setLane_rings (s : State) (n : Nat) (x : LaneRun) : (s.setLane n x).rings = s.rings := rfl
@[simp] theorem State.setLane_streams (s : State) (n : Nat) (x : LaneRun) : (s.setLane n x).streams = s.streams := rfl
@[simp] theorem State.setLane_requests (s : State) (n : Nat) (x : LaneRun) : (s.setLane n x).requests = s.requests := rfl
@[simp] theorem State.setLane_priHeld (s : State) (n : Nat) (x : LaneRun) : (s.setLane n x).priHeld = s.priHeld := rfl
@[simp] theorem State.setLane_priNext (s : State) (n : Nat) (x : LaneRun) : (s.setLane n x).priNext = s.priNext := rfl
@[simp] theorem State.setLane_waitNext (s : State) (n : Nat) (x : LaneRun) : (s.setLane n x).waitNext = s.waitNext := rfl
@[simp] theorem State.setLane_loads (s : State) (n : Nat) (x : LaneRun) : (s.setLane n x).loads = s.loads := rfl
@[simp] theorem State.setLane_plans (s : State) (n : Nat) (x : LaneRun) : (s.setLane n x).plans = s.plans := rfl
@[simp] theorem State.setLane_tables (s : State) (n : Nat) (x : LaneRun) : (s.setLane n x).tables = s.tables := rfl
@[simp] theorem State.setLane_curves (s : State) (n : Nat) (x : LaneRun) : (s.setLane n x).curves = s.curves := rfl
@[simp] theorem State.setLane_bricks (s : State) (n : Nat) (x : LaneRun) : (s.setLane n x).bricks = s.bricks := rfl
@[simp] theorem State.setLane_joints (s : State) (n : Nat) (x : LaneRun) : (s.setLane n x).joints = s.joints := rfl
@[simp] theorem State.setLane_colls (s : State) (n : Nat) (x : LaneRun) : (s.setLane n x).colls = s.colls := rfl
@[simp] theorem State.setLane_hostMem (s : State) (n : Nat) (x : LaneRun) : (s.setLane n x).hostMem = s.hostMem := rfl
@[simp] theorem State.setLane_subsys (s : State) (n : Nat) (x : LaneRun) : (s.setLane n x).subsys = s.subsys := rfl
@[simp] theorem State.setLane_rx (s : State) (n : Nat) (x : LaneRun) : (s.setLane n x).rx = s.rx := rfl
@[simp] theorem State.setLane_devMem (s : State) (n : Nat) (x : LaneRun) : (s.setLane n x).devMem = s.devMem := rfl
@[simp] theorem State.setLane_tbuf (s : State) (n : Nat) (x : LaneRun) : (s.setLane n x).tbuf = s.tbuf := rfl
@[simp] theorem State.setLane_poison (s : State) (n : Nat) (x : LaneRun) : (s.setLane n x).poison = s.poison := rfl
@[simp] theorem State.setLane_tbufPoison (s : State) (n : Nat) (x : LaneRun) : (s.setLane n x).tbufPoison = s.tbufPoison := rfl
@[simp] theorem State.setLane_retrain (s : State) (n : Nat) (x : LaneRun) : (s.setLane n x).retrain = s.retrain := rfl
@[simp] theorem State.setLane_sent (s : State) (n : Nat) (x : LaneRun) : (s.setLane n x).sent = s.sent := rfl
@[simp] theorem State.setLane_host (s : State) (n : Nat) (x : LaneRun) : (s.setLane n x).host = s.host := rfl
@[simp] theorem State.setLane_missed (s : State) (n : Nat) (x : LaneRun) : (s.setLane n x).missed = s.missed := rfl
@[simp] theorem State.setLane_statusSeq (s : State) (n : Nat) (x : LaneRun) : (s.setLane n x).statusSeq = s.statusSeq := rfl
@[simp] theorem State.setLane_stopFetch (s : State) (n : Nat) (x : LaneRun) : (s.setLane n x).stopFetch = s.stopFetch := rfl
@[simp] theorem State.setLane_rows (s : State) (n : Nat) (x : LaneRun) : (s.setLane n x).rows = s.rows := rfl
@[simp] theorem State.setLane_batches (s : State) (n : Nat) (x : LaneRun) : (s.setLane n x).batches = s.batches := rfl
@[simp] theorem State.setLane_batchNext (s : State) (n : Nat) (x : LaneRun) : (s.setLane n x).batchNext = s.batchNext := rfl
@[simp] theorem State.setLane_rowCache (s : State) (n : Nat) (x : LaneRun) : (s.setLane n x).rowCache = s.rowCache := rfl
@[simp] theorem State.setLane_sched (s : State) (n : Nat) (x : LaneRun) : (s.setLane n x).sched = s.sched := rfl
@[simp] theorem State.setLane_members (s : State) (n : Nat) (x : LaneRun) : (s.setLane n x).members = s.members := rfl
@[simp] theorem State.setLane_produced (s : State) (n : Nat) (x : LaneRun) : (s.setLane n x).produced = s.produced := rfl
@[simp] theorem State.setLane_groups (s : State) (n : Nat) (x : LaneRun) : (s.setLane n x).groups = s.groups := rfl
@[simp] theorem State.setLane_pair (s : State) (n : Nat) (x : LaneRun) : (s.setLane n x).pair = s.pair := rfl
@[simp] theorem State.setLane_root (s : State) (n : Nat) (x : LaneRun) : (s.setLane n x).root = s.root := rfl
@[simp] theorem State.setLane_flash (s : State) (n : Nat) (x : LaneRun) : (s.setLane n x).flash = s.flash := rfl
@[simp] theorem State.setLane_boot (s : State) (n : Nat) (x : LaneRun) : (s.setLane n x).boot = s.boot := rfl

/-! ### setGroup -/

@[simp] theorem State.setGroup_pending (s : State) (g : Nat) (x : GroupRun) : (s.setGroup g x).pending = s.pending := rfl
@[simp] theorem State.setGroup_free (s : State) (g : Nat) (x : GroupRun) : (s.setGroup g x).free = s.free := rfl
@[simp] theorem State.setGroup_dict (s : State) (g : Nat) (x : GroupRun) : (s.setGroup g x).dict = s.dict := rfl
@[simp] theorem State.setGroup_rst (s : State) (g : Nat) (x : GroupRun) : (s.setGroup g x).rst = s.rst := rfl
@[simp] theorem State.setGroup_sessions (s : State) (g : Nat) (x : GroupRun) : (s.setGroup g x).sessions = s.sessions := rfl
@[simp] theorem State.setGroup_clk (s : State) (g : Nat) (x : GroupRun) : (s.setGroup g x).clk = s.clk := rfl
@[simp] theorem State.setGroup_rings (s : State) (g : Nat) (x : GroupRun) : (s.setGroup g x).rings = s.rings := rfl
@[simp] theorem State.setGroup_streams (s : State) (g : Nat) (x : GroupRun) : (s.setGroup g x).streams = s.streams := rfl
@[simp] theorem State.setGroup_requests (s : State) (g : Nat) (x : GroupRun) : (s.setGroup g x).requests = s.requests := rfl
@[simp] theorem State.setGroup_priHeld (s : State) (g : Nat) (x : GroupRun) : (s.setGroup g x).priHeld = s.priHeld := rfl
@[simp] theorem State.setGroup_priNext (s : State) (g : Nat) (x : GroupRun) : (s.setGroup g x).priNext = s.priNext := rfl
@[simp] theorem State.setGroup_waitNext (s : State) (g : Nat) (x : GroupRun) : (s.setGroup g x).waitNext = s.waitNext := rfl
@[simp] theorem State.setGroup_loads (s : State) (g : Nat) (x : GroupRun) : (s.setGroup g x).loads = s.loads := rfl
@[simp] theorem State.setGroup_plans (s : State) (g : Nat) (x : GroupRun) : (s.setGroup g x).plans = s.plans := rfl
@[simp] theorem State.setGroup_tables (s : State) (g : Nat) (x : GroupRun) : (s.setGroup g x).tables = s.tables := rfl
@[simp] theorem State.setGroup_curves (s : State) (g : Nat) (x : GroupRun) : (s.setGroup g x).curves = s.curves := rfl
@[simp] theorem State.setGroup_bricks (s : State) (g : Nat) (x : GroupRun) : (s.setGroup g x).bricks = s.bricks := rfl
@[simp] theorem State.setGroup_joints (s : State) (g : Nat) (x : GroupRun) : (s.setGroup g x).joints = s.joints := rfl
@[simp] theorem State.setGroup_colls (s : State) (g : Nat) (x : GroupRun) : (s.setGroup g x).colls = s.colls := rfl
@[simp] theorem State.setGroup_hostMem (s : State) (g : Nat) (x : GroupRun) : (s.setGroup g x).hostMem = s.hostMem := rfl
@[simp] theorem State.setGroup_subsys (s : State) (g : Nat) (x : GroupRun) : (s.setGroup g x).subsys = s.subsys := rfl
@[simp] theorem State.setGroup_rx (s : State) (g : Nat) (x : GroupRun) : (s.setGroup g x).rx = s.rx := rfl
@[simp] theorem State.setGroup_devMem (s : State) (g : Nat) (x : GroupRun) : (s.setGroup g x).devMem = s.devMem := rfl
@[simp] theorem State.setGroup_tbuf (s : State) (g : Nat) (x : GroupRun) : (s.setGroup g x).tbuf = s.tbuf := rfl
@[simp] theorem State.setGroup_poison (s : State) (g : Nat) (x : GroupRun) : (s.setGroup g x).poison = s.poison := rfl
@[simp] theorem State.setGroup_tbufPoison (s : State) (g : Nat) (x : GroupRun) : (s.setGroup g x).tbufPoison = s.tbufPoison := rfl
@[simp] theorem State.setGroup_retrain (s : State) (g : Nat) (x : GroupRun) : (s.setGroup g x).retrain = s.retrain := rfl
@[simp] theorem State.setGroup_sent (s : State) (g : Nat) (x : GroupRun) : (s.setGroup g x).sent = s.sent := rfl
@[simp] theorem State.setGroup_host (s : State) (g : Nat) (x : GroupRun) : (s.setGroup g x).host = s.host := rfl
@[simp] theorem State.setGroup_missed (s : State) (g : Nat) (x : GroupRun) : (s.setGroup g x).missed = s.missed := rfl
@[simp] theorem State.setGroup_statusSeq (s : State) (g : Nat) (x : GroupRun) : (s.setGroup g x).statusSeq = s.statusSeq := rfl
@[simp] theorem State.setGroup_stopFetch (s : State) (g : Nat) (x : GroupRun) : (s.setGroup g x).stopFetch = s.stopFetch := rfl
@[simp] theorem State.setGroup_rows (s : State) (g : Nat) (x : GroupRun) : (s.setGroup g x).rows = s.rows := rfl
@[simp] theorem State.setGroup_batches (s : State) (g : Nat) (x : GroupRun) : (s.setGroup g x).batches = s.batches := rfl
@[simp] theorem State.setGroup_batchNext (s : State) (g : Nat) (x : GroupRun) : (s.setGroup g x).batchNext = s.batchNext := rfl
@[simp] theorem State.setGroup_rowCache (s : State) (g : Nat) (x : GroupRun) : (s.setGroup g x).rowCache = s.rowCache := rfl
@[simp] theorem State.setGroup_sched (s : State) (g : Nat) (x : GroupRun) : (s.setGroup g x).sched = s.sched := rfl
@[simp] theorem State.setGroup_members (s : State) (g : Nat) (x : GroupRun) : (s.setGroup g x).members = s.members := rfl
@[simp] theorem State.setGroup_produced (s : State) (g : Nat) (x : GroupRun) : (s.setGroup g x).produced = s.produced := rfl
@[simp] theorem State.setGroup_lanes (s : State) (g : Nat) (x : GroupRun) : (s.setGroup g x).lanes = s.lanes := rfl
@[simp] theorem State.setGroup_pair (s : State) (g : Nat) (x : GroupRun) : (s.setGroup g x).pair = s.pair := rfl
@[simp] theorem State.setGroup_root (s : State) (g : Nat) (x : GroupRun) : (s.setGroup g x).root = s.root := rfl
@[simp] theorem State.setGroup_flash (s : State) (g : Nat) (x : GroupRun) : (s.setGroup g x).flash = s.flash := rfl
@[simp] theorem State.setGroup_boot (s : State) (g : Nat) (x : GroupRun) : (s.setGroup g x).boot = s.boot := rfl

/-! ### mapPair -/

@[simp] theorem State.mapPair_pending (s : State) (f : PairRun → PairRun) : (s.mapPair f).pending = s.pending := rfl
@[simp] theorem State.mapPair_free (s : State) (f : PairRun → PairRun) : (s.mapPair f).free = s.free := rfl
@[simp] theorem State.mapPair_dict (s : State) (f : PairRun → PairRun) : (s.mapPair f).dict = s.dict := rfl
@[simp] theorem State.mapPair_rst (s : State) (f : PairRun → PairRun) : (s.mapPair f).rst = s.rst := rfl
@[simp] theorem State.mapPair_sessions (s : State) (f : PairRun → PairRun) : (s.mapPair f).sessions = s.sessions := rfl
@[simp] theorem State.mapPair_clk (s : State) (f : PairRun → PairRun) : (s.mapPair f).clk = s.clk := rfl
@[simp] theorem State.mapPair_rings (s : State) (f : PairRun → PairRun) : (s.mapPair f).rings = s.rings := rfl
@[simp] theorem State.mapPair_streams (s : State) (f : PairRun → PairRun) : (s.mapPair f).streams = s.streams := rfl
@[simp] theorem State.mapPair_requests (s : State) (f : PairRun → PairRun) : (s.mapPair f).requests = s.requests := rfl
@[simp] theorem State.mapPair_priHeld (s : State) (f : PairRun → PairRun) : (s.mapPair f).priHeld = s.priHeld := rfl
@[simp] theorem State.mapPair_priNext (s : State) (f : PairRun → PairRun) : (s.mapPair f).priNext = s.priNext := rfl
@[simp] theorem State.mapPair_waitNext (s : State) (f : PairRun → PairRun) : (s.mapPair f).waitNext = s.waitNext := rfl
@[simp] theorem State.mapPair_loads (s : State) (f : PairRun → PairRun) : (s.mapPair f).loads = s.loads := rfl
@[simp] theorem State.mapPair_plans (s : State) (f : PairRun → PairRun) : (s.mapPair f).plans = s.plans := rfl
@[simp] theorem State.mapPair_tables (s : State) (f : PairRun → PairRun) : (s.mapPair f).tables = s.tables := rfl
@[simp] theorem State.mapPair_curves (s : State) (f : PairRun → PairRun) : (s.mapPair f).curves = s.curves := rfl
@[simp] theorem State.mapPair_bricks (s : State) (f : PairRun → PairRun) : (s.mapPair f).bricks = s.bricks := rfl
@[simp] theorem State.mapPair_joints (s : State) (f : PairRun → PairRun) : (s.mapPair f).joints = s.joints := rfl
@[simp] theorem State.mapPair_colls (s : State) (f : PairRun → PairRun) : (s.mapPair f).colls = s.colls := rfl
@[simp] theorem State.mapPair_hostMem (s : State) (f : PairRun → PairRun) : (s.mapPair f).hostMem = s.hostMem := rfl
@[simp] theorem State.mapPair_subsys (s : State) (f : PairRun → PairRun) : (s.mapPair f).subsys = s.subsys := rfl
@[simp] theorem State.mapPair_rx (s : State) (f : PairRun → PairRun) : (s.mapPair f).rx = s.rx := rfl
@[simp] theorem State.mapPair_devMem (s : State) (f : PairRun → PairRun) : (s.mapPair f).devMem = s.devMem := rfl
@[simp] theorem State.mapPair_tbuf (s : State) (f : PairRun → PairRun) : (s.mapPair f).tbuf = s.tbuf := rfl
@[simp] theorem State.mapPair_poison (s : State) (f : PairRun → PairRun) : (s.mapPair f).poison = s.poison := rfl
@[simp] theorem State.mapPair_tbufPoison (s : State) (f : PairRun → PairRun) : (s.mapPair f).tbufPoison = s.tbufPoison := rfl
@[simp] theorem State.mapPair_retrain (s : State) (f : PairRun → PairRun) : (s.mapPair f).retrain = s.retrain := rfl
@[simp] theorem State.mapPair_sent (s : State) (f : PairRun → PairRun) : (s.mapPair f).sent = s.sent := rfl
@[simp] theorem State.mapPair_host (s : State) (f : PairRun → PairRun) : (s.mapPair f).host = s.host := rfl
@[simp] theorem State.mapPair_missed (s : State) (f : PairRun → PairRun) : (s.mapPair f).missed = s.missed := rfl
@[simp] theorem State.mapPair_statusSeq (s : State) (f : PairRun → PairRun) : (s.mapPair f).statusSeq = s.statusSeq := rfl
@[simp] theorem State.mapPair_stopFetch (s : State) (f : PairRun → PairRun) : (s.mapPair f).stopFetch = s.stopFetch := rfl
@[simp] theorem State.mapPair_rows (s : State) (f : PairRun → PairRun) : (s.mapPair f).rows = s.rows := rfl
@[simp] theorem State.mapPair_batches (s : State) (f : PairRun → PairRun) : (s.mapPair f).batches = s.batches := rfl
@[simp] theorem State.mapPair_batchNext (s : State) (f : PairRun → PairRun) : (s.mapPair f).batchNext = s.batchNext := rfl
@[simp] theorem State.mapPair_rowCache (s : State) (f : PairRun → PairRun) : (s.mapPair f).rowCache = s.rowCache := rfl
@[simp] theorem State.mapPair_sched (s : State) (f : PairRun → PairRun) : (s.mapPair f).sched = s.sched := rfl
@[simp] theorem State.mapPair_members (s : State) (f : PairRun → PairRun) : (s.mapPair f).members = s.members := rfl
@[simp] theorem State.mapPair_produced (s : State) (f : PairRun → PairRun) : (s.mapPair f).produced = s.produced := rfl
@[simp] theorem State.mapPair_lanes (s : State) (f : PairRun → PairRun) : (s.mapPair f).lanes = s.lanes := rfl
@[simp] theorem State.mapPair_groups (s : State) (f : PairRun → PairRun) : (s.mapPair f).groups = s.groups := rfl
@[simp] theorem State.mapPair_root (s : State) (f : PairRun → PairRun) : (s.mapPair f).root = s.root := rfl
@[simp] theorem State.mapPair_flash (s : State) (f : PairRun → PairRun) : (s.mapPair f).flash = s.flash := rfl
@[simp] theorem State.mapPair_boot (s : State) (f : PairRun → PairRun) : (s.mapPair f).boot = s.boot := rfl

/-! ### setDie -/

@[simp] theorem State.setDie_pending (s : State) (d : Nat) (x : DieRun) : (s.setDie d x).pending = s.pending := rfl
@[simp] theorem State.setDie_free (s : State) (d : Nat) (x : DieRun) : (s.setDie d x).free = s.free := rfl
@[simp] theorem State.setDie_dict (s : State) (d : Nat) (x : DieRun) : (s.setDie d x).dict = s.dict := rfl
@[simp] theorem State.setDie_rst (s : State) (d : Nat) (x : DieRun) : (s.setDie d x).rst = s.rst := rfl
@[simp] theorem State.setDie_sessions (s : State) (d : Nat) (x : DieRun) : (s.setDie d x).sessions = s.sessions := rfl
@[simp] theorem State.setDie_clk (s : State) (d : Nat) (x : DieRun) : (s.setDie d x).clk = s.clk := rfl
@[simp] theorem State.setDie_rings (s : State) (d : Nat) (x : DieRun) : (s.setDie d x).rings = s.rings := rfl
@[simp] theorem State.setDie_streams (s : State) (d : Nat) (x : DieRun) : (s.setDie d x).streams = s.streams := rfl
@[simp] theorem State.setDie_requests (s : State) (d : Nat) (x : DieRun) : (s.setDie d x).requests = s.requests := rfl
@[simp] theorem State.setDie_priHeld (s : State) (d : Nat) (x : DieRun) : (s.setDie d x).priHeld = s.priHeld := rfl
@[simp] theorem State.setDie_priNext (s : State) (d : Nat) (x : DieRun) : (s.setDie d x).priNext = s.priNext := rfl
@[simp] theorem State.setDie_waitNext (s : State) (d : Nat) (x : DieRun) : (s.setDie d x).waitNext = s.waitNext := rfl
@[simp] theorem State.setDie_loads (s : State) (d : Nat) (x : DieRun) : (s.setDie d x).loads = s.loads := rfl
@[simp] theorem State.setDie_plans (s : State) (d : Nat) (x : DieRun) : (s.setDie d x).plans = s.plans := rfl
@[simp] theorem State.setDie_tables (s : State) (d : Nat) (x : DieRun) : (s.setDie d x).tables = s.tables := rfl
@[simp] theorem State.setDie_curves (s : State) (d : Nat) (x : DieRun) : (s.setDie d x).curves = s.curves := rfl
@[simp] theorem State.setDie_bricks (s : State) (d : Nat) (x : DieRun) : (s.setDie d x).bricks = s.bricks := rfl
@[simp] theorem State.setDie_joints (s : State) (d : Nat) (x : DieRun) : (s.setDie d x).joints = s.joints := rfl
@[simp] theorem State.setDie_colls (s : State) (d : Nat) (x : DieRun) : (s.setDie d x).colls = s.colls := rfl
@[simp] theorem State.setDie_hostMem (s : State) (d : Nat) (x : DieRun) : (s.setDie d x).hostMem = s.hostMem := rfl
@[simp] theorem State.setDie_subsys (s : State) (d : Nat) (x : DieRun) : (s.setDie d x).subsys = s.subsys := rfl
@[simp] theorem State.setDie_rx (s : State) (d : Nat) (x : DieRun) : (s.setDie d x).rx = s.rx := rfl
@[simp] theorem State.setDie_devMem (s : State) (d : Nat) (x : DieRun) : (s.setDie d x).devMem = s.devMem := rfl
@[simp] theorem State.setDie_tbuf (s : State) (d : Nat) (x : DieRun) : (s.setDie d x).tbuf = s.tbuf := rfl
@[simp] theorem State.setDie_poison (s : State) (d : Nat) (x : DieRun) : (s.setDie d x).poison = s.poison := rfl
@[simp] theorem State.setDie_tbufPoison (s : State) (d : Nat) (x : DieRun) : (s.setDie d x).tbufPoison = s.tbufPoison := rfl
@[simp] theorem State.setDie_sent (s : State) (d : Nat) (x : DieRun) : (s.setDie d x).sent = s.sent := rfl
@[simp] theorem State.setDie_host (s : State) (d : Nat) (x : DieRun) : (s.setDie d x).host = s.host := rfl
@[simp] theorem State.setDie_missed (s : State) (d : Nat) (x : DieRun) : (s.setDie d x).missed = s.missed := rfl
@[simp] theorem State.setDie_statusSeq (s : State) (d : Nat) (x : DieRun) : (s.setDie d x).statusSeq = s.statusSeq := rfl
@[simp] theorem State.setDie_stopFetch (s : State) (d : Nat) (x : DieRun) : (s.setDie d x).stopFetch = s.stopFetch := rfl
@[simp] theorem State.setDie_rows (s : State) (d : Nat) (x : DieRun) : (s.setDie d x).rows = s.rows := rfl
@[simp] theorem State.setDie_batches (s : State) (d : Nat) (x : DieRun) : (s.setDie d x).batches = s.batches := rfl
@[simp] theorem State.setDie_batchNext (s : State) (d : Nat) (x : DieRun) : (s.setDie d x).batchNext = s.batchNext := rfl
@[simp] theorem State.setDie_rowCache (s : State) (d : Nat) (x : DieRun) : (s.setDie d x).rowCache = s.rowCache := rfl
@[simp] theorem State.setDie_sched (s : State) (d : Nat) (x : DieRun) : (s.setDie d x).sched = s.sched := rfl
@[simp] theorem State.setDie_members (s : State) (d : Nat) (x : DieRun) : (s.setDie d x).members = s.members := rfl
@[simp] theorem State.setDie_produced (s : State) (d : Nat) (x : DieRun) : (s.setDie d x).produced = s.produced := rfl
@[simp] theorem State.setDie_lanes (s : State) (d : Nat) (x : DieRun) : (s.setDie d x).lanes = s.lanes := rfl
@[simp] theorem State.setDie_groups (s : State) (d : Nat) (x : DieRun) : (s.setDie d x).groups = s.groups := rfl
@[simp] theorem State.setDie_pair (s : State) (d : Nat) (x : DieRun) : (s.setDie d x).pair = s.pair := rfl
@[simp] theorem State.setDie_root (s : State) (d : Nat) (x : DieRun) : (s.setDie d x).root = s.root := rfl
@[simp] theorem State.setDie_flash (s : State) (d : Nat) (x : DieRun) : (s.setDie d x).flash = s.flash := rfl
@[simp] theorem State.setDie_boot (s : State) (d : Nat) (x : DieRun) : (s.setDie d x).boot = s.boot := rfl

/-! ### Objects -/

@[simp] theorem State.rd_wr_self (s : State) (k v : Nat) : (s.wr k v).rd k = v := by
  simp [State.rd, State.wr]

theorem State.rd_wr_ne (s : State) {j k : Nat} (v : Nat) (h : j ≠ k) : (s.wr k v).rd j = s.rd j := by
  simp [State.rd, State.wr, State.resetValue, Map.find_put_ne _ _ h]

theorem State.rd_wr (s : State) (j k v : Nat) : (s.wr k v).rd j = if j = k then v else s.rd j := by
  split
  · subst_vars; simp
  · exact s.rd_wr_ne v ‹_›

theorem State.rd_bump_self (s : State) (k n : Nat) : (s.bump k n).rd k = Nat.min (s.rd k + n) (maxOf k) := by
  simp [State.bump]

theorem State.rd_bump_ne (s : State) {j k : Nat} (n : Nat) (h : j ≠ k) : (s.bump k n).rd j = s.rd j := by
  simp [State.bump, State.rd_wr_ne _ _ h]

theorem State.rd_lower_self (s : State) (k n : Nat) : (s.lower k n).rd k = s.rd k - n := by
  simp [State.lower]

theorem State.rd_lower_ne (s : State) {j k : Nat} (n : Nat) (h : j ≠ k) : (s.lower k n).rd j = s.rd j := by
  simp [State.lower, State.rd_wr_ne _ _ h]

theorem State.rd_setFlag_ne (s : State) {j : Nat} (k : Nat) (b : Bool) (h : j ≠ Obj.positionFlags) :
    (s.setFlag k b).rd j = s.rd j := by
  simp [State.setFlag, State.rd_wr_ne _ _ h]

@[simp] theorem State.rd_send (s : State) (x : Sent) (key : Nat) : (s.send x).rd key = s.rd key := rfl
@[simp] theorem State.rd_hostWrite (s : State) (a : Nat) (bs : Bytes) (key : Nat) : (s.hostWrite a bs).rd key = s.rd key := rfl
@[simp] theorem State.rd_devWrite (s : State) (a : Nat) (bs : Bytes) (key : Nat) : (s.devWrite a bs).rd key = s.rd key := rfl
@[simp] theorem State.rd_setSession (s : State) (i : Nat) (x : Session) (key : Nat) : (s.setSession i x).rd key = s.rd key := rfl
@[simp] theorem State.rd_setRing (s : State) (n : Nat) (x : Ring) (key : Nat) : (s.setRing n x).rd key = s.rd key := rfl
@[simp] theorem State.rd_setStream (s : State) (n : Nat) (x : Stream) (key : Nat) : (s.setStream n x).rd key = s.rd key := rfl
@[simp] theorem State.rd_setBrick (s : State) (k : Nat) (x : Brick) (key : Nat) : (s.setBrick k x).rd key = s.rd key := rfl
@[simp] theorem State.rd_setLane (s : State) (n : Nat) (x : LaneRun) (key : Nat) : (s.setLane n x).rd key = s.rd key := rfl
@[simp] theorem State.rd_setGroup (s : State) (g : Nat) (x : GroupRun) (key : Nat) : (s.setGroup g x).rd key = s.rd key := rfl
@[simp] theorem State.rd_mapPair (s : State) (f : PairRun → PairRun) (key : Nat) : (s.mapPair f).rd key = s.rd key := rfl
@[simp] theorem State.rd_setDie (s : State) (d : Nat) (x : DieRun) (key : Nat) : (s.setDie d x).rd key = s.rd key := rfl

/-! ### Tables of units -/

@[simp] theorem State.session_setSession_self (s : State) (i : Nat) (x : Session) : (s.setSession i x).session i = x := by
  simp [State.session, State.setSession]

theorem State.session_setSession_ne (s : State) {j i : Nat} (x : Session) (h : j ≠ i) : (s.setSession i x).session j = s.session j := by
  simp [State.session, State.setSession, Map.getD_put_ne _ _ _ h]

@[simp] theorem State.ring_setRing_self (s : State) (n : Nat) (x : Ring) : (s.setRing n x).ring n = x := by
  simp [State.ring, State.setRing]

theorem State.ring_setRing_ne (s : State) {j n : Nat} (x : Ring) (h : j ≠ n) : (s.setRing n x).ring j = s.ring j := by
  simp [State.ring, State.setRing, Map.getD_put_ne _ _ _ h]

@[simp] theorem State.stream_setStream_self (s : State) (n : Nat) (x : Stream) : (s.setStream n x).stream n = x := by
  simp [State.stream, State.setStream]

theorem State.stream_setStream_ne (s : State) {j n : Nat} (x : Stream) (h : j ≠ n) : (s.setStream n x).stream j = s.stream j := by
  simp [State.stream, State.setStream, Map.getD_put_ne _ _ _ h]

@[simp] theorem State.brick_setBrick_self (s : State) (k : Nat) (x : Brick) : (s.setBrick k x).brick k = x := by
  simp [State.brick, State.setBrick]

theorem State.brick_setBrick_ne (s : State) {j k : Nat} (x : Brick) (h : j ≠ k) : (s.setBrick k x).brick j = s.brick j := by
  simp [State.brick, State.setBrick, Map.getD_put_ne _ _ _ h]

@[simp] theorem State.lane_setLane_self (s : State) (n : Nat) (x : LaneRun) : (s.setLane n x).lane n = x := by
  simp [State.lane, State.setLane]

theorem State.lane_setLane_ne (s : State) {j n : Nat} (x : LaneRun) (h : j ≠ n) : (s.setLane n x).lane j = s.lane j := by
  simp [State.lane, State.setLane, Map.getD_put_ne _ _ _ h]

@[simp] theorem State.group_setGroup_self (s : State) (g : Nat) (x : GroupRun) : (s.setGroup g x).group g = x := by
  simp [State.group, State.setGroup]

theorem State.group_setGroup_ne (s : State) {j g : Nat} (x : GroupRun) (h : j ≠ g) : (s.setGroup g x).group j = s.group j := by
  simp [State.group, State.setGroup, Map.getD_put_ne _ _ _ h]

@[simp] theorem State.session_wr (s : State) (key v : Nat) (j : Nat) : (s.wr key v).session j = s.session j := rfl
@[simp] theorem State.session_bump (s : State) (key n : Nat) (j : Nat) : (s.bump key n).session j = s.session j := rfl
@[simp] theorem State.session_lower (s : State) (key n : Nat) (j : Nat) : (s.lower key n).session j = s.session j := rfl
@[simp] theorem State.session_wrInt (s : State) (key n : Nat) (v : Int) (j : Nat) : (s.wrInt key n v).session j = s.session j := rfl
@[simp] theorem State.session_setFlag (s : State) (k : Nat) (b : Bool) (j : Nat) : (s.setFlag k b).session j = s.session j := rfl
@[simp] theorem State.session_send (s : State) (x : Sent) (j : Nat) : (s.send x).session j = s.session j := rfl
@[simp] theorem State.session_hostWrite (s : State) (a : Nat) (bs : Bytes) (j : Nat) : (s.hostWrite a bs).session j = s.session j := rfl
@[simp] theorem State.session_devWrite (s : State) (a : Nat) (bs : Bytes) (j : Nat) : (s.devWrite a bs).session j = s.session j := rfl
@[simp] theorem State.session_setRing (s : State) (n : Nat) (x : Ring) (j : Nat) : (s.setRing n x).session j = s.session j := rfl
@[simp] theorem State.session_setStream (s : State) (n : Nat) (x : Stream) (j : Nat) : (s.setStream n x).session j = s.session j := rfl
@[simp] theorem State.session_setBrick (s : State) (k : Nat) (x : Brick) (j : Nat) : (s.setBrick k x).session j = s.session j := rfl
@[simp] theorem State.session_setLane (s : State) (n : Nat) (x : LaneRun) (j : Nat) : (s.setLane n x).session j = s.session j := rfl
@[simp] theorem State.session_setGroup (s : State) (g : Nat) (x : GroupRun) (j : Nat) : (s.setGroup g x).session j = s.session j := rfl
@[simp] theorem State.session_mapPair (s : State) (f : PairRun → PairRun) (j : Nat) : (s.mapPair f).session j = s.session j := rfl
@[simp] theorem State.session_setDie (s : State) (d : Nat) (x : DieRun) (j : Nat) : (s.setDie d x).session j = s.session j := rfl
@[simp] theorem State.ring_wr (s : State) (key v : Nat) (j : Nat) : (s.wr key v).ring j = s.ring j := rfl
@[simp] theorem State.ring_bump (s : State) (key n : Nat) (j : Nat) : (s.bump key n).ring j = s.ring j := rfl
@[simp] theorem State.ring_lower (s : State) (key n : Nat) (j : Nat) : (s.lower key n).ring j = s.ring j := rfl
@[simp] theorem State.ring_wrInt (s : State) (key n : Nat) (v : Int) (j : Nat) : (s.wrInt key n v).ring j = s.ring j := rfl
@[simp] theorem State.ring_setFlag (s : State) (k : Nat) (b : Bool) (j : Nat) : (s.setFlag k b).ring j = s.ring j := rfl
@[simp] theorem State.ring_send (s : State) (x : Sent) (j : Nat) : (s.send x).ring j = s.ring j := rfl
@[simp] theorem State.ring_hostWrite (s : State) (a : Nat) (bs : Bytes) (j : Nat) : (s.hostWrite a bs).ring j = s.ring j := rfl
@[simp] theorem State.ring_devWrite (s : State) (a : Nat) (bs : Bytes) (j : Nat) : (s.devWrite a bs).ring j = s.ring j := rfl
@[simp] theorem State.ring_setSession (s : State) (i : Nat) (x : Session) (j : Nat) : (s.setSession i x).ring j = s.ring j := rfl
@[simp] theorem State.ring_setStream (s : State) (n : Nat) (x : Stream) (j : Nat) : (s.setStream n x).ring j = s.ring j := rfl
@[simp] theorem State.ring_setBrick (s : State) (k : Nat) (x : Brick) (j : Nat) : (s.setBrick k x).ring j = s.ring j := rfl
@[simp] theorem State.ring_setLane (s : State) (n : Nat) (x : LaneRun) (j : Nat) : (s.setLane n x).ring j = s.ring j := rfl
@[simp] theorem State.ring_setGroup (s : State) (g : Nat) (x : GroupRun) (j : Nat) : (s.setGroup g x).ring j = s.ring j := rfl
@[simp] theorem State.ring_mapPair (s : State) (f : PairRun → PairRun) (j : Nat) : (s.mapPair f).ring j = s.ring j := rfl
@[simp] theorem State.ring_setDie (s : State) (d : Nat) (x : DieRun) (j : Nat) : (s.setDie d x).ring j = s.ring j := rfl
@[simp] theorem State.stream_wr (s : State) (key v : Nat) (j : Nat) : (s.wr key v).stream j = s.stream j := rfl
@[simp] theorem State.stream_bump (s : State) (key n : Nat) (j : Nat) : (s.bump key n).stream j = s.stream j := rfl
@[simp] theorem State.stream_lower (s : State) (key n : Nat) (j : Nat) : (s.lower key n).stream j = s.stream j := rfl
@[simp] theorem State.stream_wrInt (s : State) (key n : Nat) (v : Int) (j : Nat) : (s.wrInt key n v).stream j = s.stream j := rfl
@[simp] theorem State.stream_setFlag (s : State) (k : Nat) (b : Bool) (j : Nat) : (s.setFlag k b).stream j = s.stream j := rfl
@[simp] theorem State.stream_send (s : State) (x : Sent) (j : Nat) : (s.send x).stream j = s.stream j := rfl
@[simp] theorem State.stream_hostWrite (s : State) (a : Nat) (bs : Bytes) (j : Nat) : (s.hostWrite a bs).stream j = s.stream j := rfl
@[simp] theorem State.stream_devWrite (s : State) (a : Nat) (bs : Bytes) (j : Nat) : (s.devWrite a bs).stream j = s.stream j := rfl
@[simp] theorem State.stream_setSession (s : State) (i : Nat) (x : Session) (j : Nat) : (s.setSession i x).stream j = s.stream j := rfl
@[simp] theorem State.stream_setRing (s : State) (n : Nat) (x : Ring) (j : Nat) : (s.setRing n x).stream j = s.stream j := rfl
@[simp] theorem State.stream_setBrick (s : State) (k : Nat) (x : Brick) (j : Nat) : (s.setBrick k x).stream j = s.stream j := rfl
@[simp] theorem State.stream_setLane (s : State) (n : Nat) (x : LaneRun) (j : Nat) : (s.setLane n x).stream j = s.stream j := rfl
@[simp] theorem State.stream_setGroup (s : State) (g : Nat) (x : GroupRun) (j : Nat) : (s.setGroup g x).stream j = s.stream j := rfl
@[simp] theorem State.stream_mapPair (s : State) (f : PairRun → PairRun) (j : Nat) : (s.mapPair f).stream j = s.stream j := rfl
@[simp] theorem State.stream_setDie (s : State) (d : Nat) (x : DieRun) (j : Nat) : (s.setDie d x).stream j = s.stream j := rfl
@[simp] theorem State.brick_wr (s : State) (key v : Nat) (j : Nat) : (s.wr key v).brick j = s.brick j := rfl
@[simp] theorem State.brick_bump (s : State) (key n : Nat) (j : Nat) : (s.bump key n).brick j = s.brick j := rfl
@[simp] theorem State.brick_lower (s : State) (key n : Nat) (j : Nat) : (s.lower key n).brick j = s.brick j := rfl
@[simp] theorem State.brick_wrInt (s : State) (key n : Nat) (v : Int) (j : Nat) : (s.wrInt key n v).brick j = s.brick j := rfl
@[simp] theorem State.brick_setFlag (s : State) (k : Nat) (b : Bool) (j : Nat) : (s.setFlag k b).brick j = s.brick j := rfl
@[simp] theorem State.brick_send (s : State) (x : Sent) (j : Nat) : (s.send x).brick j = s.brick j := rfl
@[simp] theorem State.brick_hostWrite (s : State) (a : Nat) (bs : Bytes) (j : Nat) : (s.hostWrite a bs).brick j = s.brick j := rfl
@[simp] theorem State.brick_devWrite (s : State) (a : Nat) (bs : Bytes) (j : Nat) : (s.devWrite a bs).brick j = s.brick j := rfl
@[simp] theorem State.brick_setSession (s : State) (i : Nat) (x : Session) (j : Nat) : (s.setSession i x).brick j = s.brick j := rfl
@[simp] theorem State.brick_setRing (s : State) (n : Nat) (x : Ring) (j : Nat) : (s.setRing n x).brick j = s.brick j := rfl
@[simp] theorem State.brick_setStream (s : State) (n : Nat) (x : Stream) (j : Nat) : (s.setStream n x).brick j = s.brick j := rfl
@[simp] theorem State.brick_setLane (s : State) (n : Nat) (x : LaneRun) (j : Nat) : (s.setLane n x).brick j = s.brick j := rfl
@[simp] theorem State.brick_setGroup (s : State) (g : Nat) (x : GroupRun) (j : Nat) : (s.setGroup g x).brick j = s.brick j := rfl
@[simp] theorem State.brick_mapPair (s : State) (f : PairRun → PairRun) (j : Nat) : (s.mapPair f).brick j = s.brick j := rfl
@[simp] theorem State.brick_setDie (s : State) (d : Nat) (x : DieRun) (j : Nat) : (s.setDie d x).brick j = s.brick j := rfl
@[simp] theorem State.lane_wr (s : State) (key v : Nat) (j : Nat) : (s.wr key v).lane j = s.lane j := rfl
@[simp] theorem State.lane_bump (s : State) (key n : Nat) (j : Nat) : (s.bump key n).lane j = s.lane j := rfl
@[simp] theorem State.lane_lower (s : State) (key n : Nat) (j : Nat) : (s.lower key n).lane j = s.lane j := rfl
@[simp] theorem State.lane_wrInt (s : State) (key n : Nat) (v : Int) (j : Nat) : (s.wrInt key n v).lane j = s.lane j := rfl
@[simp] theorem State.lane_setFlag (s : State) (k : Nat) (b : Bool) (j : Nat) : (s.setFlag k b).lane j = s.lane j := rfl
@[simp] theorem State.lane_send (s : State) (x : Sent) (j : Nat) : (s.send x).lane j = s.lane j := rfl
@[simp] theorem State.lane_hostWrite (s : State) (a : Nat) (bs : Bytes) (j : Nat) : (s.hostWrite a bs).lane j = s.lane j := rfl
@[simp] theorem State.lane_devWrite (s : State) (a : Nat) (bs : Bytes) (j : Nat) : (s.devWrite a bs).lane j = s.lane j := rfl
@[simp] theorem State.lane_setSession (s : State) (i : Nat) (x : Session) (j : Nat) : (s.setSession i x).lane j = s.lane j := rfl
@[simp] theorem State.lane_setRing (s : State) (n : Nat) (x : Ring) (j : Nat) : (s.setRing n x).lane j = s.lane j := rfl
@[simp] theorem State.lane_setStream (s : State) (n : Nat) (x : Stream) (j : Nat) : (s.setStream n x).lane j = s.lane j := rfl
@[simp] theorem State.lane_setBrick (s : State) (k : Nat) (x : Brick) (j : Nat) : (s.setBrick k x).lane j = s.lane j := rfl
@[simp] theorem State.lane_setGroup (s : State) (g : Nat) (x : GroupRun) (j : Nat) : (s.setGroup g x).lane j = s.lane j := rfl
@[simp] theorem State.lane_mapPair (s : State) (f : PairRun → PairRun) (j : Nat) : (s.mapPair f).lane j = s.lane j := rfl
@[simp] theorem State.lane_setDie (s : State) (d : Nat) (x : DieRun) (j : Nat) : (s.setDie d x).lane j = s.lane j := rfl
@[simp] theorem State.group_wr (s : State) (key v : Nat) (j : Nat) : (s.wr key v).group j = s.group j := rfl
@[simp] theorem State.group_bump (s : State) (key n : Nat) (j : Nat) : (s.bump key n).group j = s.group j := rfl
@[simp] theorem State.group_lower (s : State) (key n : Nat) (j : Nat) : (s.lower key n).group j = s.group j := rfl
@[simp] theorem State.group_wrInt (s : State) (key n : Nat) (v : Int) (j : Nat) : (s.wrInt key n v).group j = s.group j := rfl
@[simp] theorem State.group_setFlag (s : State) (k : Nat) (b : Bool) (j : Nat) : (s.setFlag k b).group j = s.group j := rfl
@[simp] theorem State.group_send (s : State) (x : Sent) (j : Nat) : (s.send x).group j = s.group j := rfl
@[simp] theorem State.group_hostWrite (s : State) (a : Nat) (bs : Bytes) (j : Nat) : (s.hostWrite a bs).group j = s.group j := rfl
@[simp] theorem State.group_devWrite (s : State) (a : Nat) (bs : Bytes) (j : Nat) : (s.devWrite a bs).group j = s.group j := rfl
@[simp] theorem State.group_setSession (s : State) (i : Nat) (x : Session) (j : Nat) : (s.setSession i x).group j = s.group j := rfl
@[simp] theorem State.group_setRing (s : State) (n : Nat) (x : Ring) (j : Nat) : (s.setRing n x).group j = s.group j := rfl
@[simp] theorem State.group_setStream (s : State) (n : Nat) (x : Stream) (j : Nat) : (s.setStream n x).group j = s.group j := rfl
@[simp] theorem State.group_setBrick (s : State) (k : Nat) (x : Brick) (j : Nat) : (s.setBrick k x).group j = s.group j := rfl
@[simp] theorem State.group_setLane (s : State) (n : Nat) (x : LaneRun) (j : Nat) : (s.setLane n x).group j = s.group j := rfl
@[simp] theorem State.group_mapPair (s : State) (f : PairRun → PairRun) (j : Nat) : (s.mapPair f).group j = s.group j := rfl
@[simp] theorem State.group_setDie (s : State) (d : Nat) (x : DieRun) (j : Nat) : (s.setDie d x).group j = s.group j := rfl

end Sys2Proof.Machine
end

