-- ==== Sys2Proof/Laws/Bricks.lean ====
section
/-! SUPPORT. Laws of a brick: its registers, and everything the issue of one instruction can do. -/

namespace Sys2Proof.Machine

/-! ### Registers -/

/-- s0 reads as zero. -/
@[simp] theorem Brick.s_zero (b : Brick) : b.s 0 = 0 := rfl

/-- A write of s0 is discarded. -/
@[simp] theorem Brick.setS_zero (b : Brick) (v : BitVec 32) : b.setS 0 v = b := rfl

@[simp] theorem Brick.setS_pc (b : Brick) (f : Field5) (v : BitVec 32) : (b.setS f v).pc = b.pc := by
  unfold Brick.setS; split <;> rfl
@[simp] theorem Brick.setS_loops (b : Brick) (f : Field5) (v : BitVec 32) : (b.setS f v).loops = b.loops := by
  unfold Brick.setS; split <;> rfl
@[simp] theorem Brick.setS_vecs (b : Brick) (f : Field5) (v : BitVec 32) : (b.setS f v).vecs = b.vecs := by
  unfold Brick.setS; split <;> rfl
@[simp] theorem Brick.setS_accs (b : Brick) (f : Field5) (v : BitVec 32) : (b.setS f v).accs = b.accs := by
  unfold Brick.setS; split <;> rfl
@[simp] theorem Brick.setS_mem (b : Brick) (f : Field5) (v : BitVec 32) : (b.setS f v).mem = b.mem := by
  unfold Brick.setS; split <;> rfl
@[simp] theorem Brick.setS_run (b : Brick) (f : Field5) (v : BitVec 32) : (b.setS f v).run = b.run := by
  unfold Brick.setS; split <;> rfl

@[simp] theorem Brick.setV_pc (b : Brick) (f : Field5) (v : BitVec 512) : (b.setV f v).pc = b.pc := rfl
@[simp] theorem Brick.setV_loops (b : Brick) (f : Field5) (v : BitVec 512) : (b.setV f v).loops = b.loops := rfl
@[simp] theorem Brick.setV_regs (b : Brick) (f : Field5) (v : BitVec 512) : (b.setV f v).regs = b.regs := rfl
@[simp] theorem Brick.setV_mem (b : Brick) (f : Field5) (v : BitVec 512) : (b.setV f v).mem = b.mem := rfl
@[simp] theorem Brick.setAcc_pc (b : Brick) (f : Field5) (v : Accum) : (b.setAcc f v).pc = b.pc := rfl
@[simp] theorem Brick.setAcc_loops (b : Brick) (f : Field5) (v : Accum) : (b.setAcc f v).loops = b.loops := rfl
@[simp] theorem Brick.setAcc_regs (b : Brick) (f : Field5) (v : Accum) : (b.setAcc f v).regs = b.regs := rfl
@[simp] theorem Brick.setAcc_mem (b : Brick) (f : Field5) (v : Accum) : (b.setAcc f v).mem = b.mem := rfl

/-- Fields that are zero are legal, and so on: a legal instruction acts. -/
@[simp] theorem legal_true (f : BOp) (s : State) (b : Brick) : legal true f s b = f s b := rfl
/-- An instruction with an illegal field faults. -/
@[simp] theorem legal_false (f : BOp) (s : State) (b : Brick) : legal false f s b = .fault 1 := rfl

@[simp] theorem finishBrick_next (k : BrickId) (s0 s : State) (b : Brick) : finishBrick k.val s0 (.next s b) = s.goOn k b := rfl
@[simp] theorem finishBrick_goto (k : BrickId) (s0 s : State) (b : Brick) (t : Nat) :
    finishBrick k.val s0 (.goto s b t) = s.branchTo k b t := rfl
@[simp] theorem finishBrick_fault (k : Nat) (s0 : State) (c : Nat) : finishBrick k s0 (.fault c) = s0.brickFault k c := rfl
@[simp] theorem finishBrick_wait (k : Nat) (s0 s : State) : finishBrick k s0 (.wait s) = s := rfl

/-! ### Issue -/

/-- An instruction a brick is ready for is carried out. -/
theorem issue_ready {s : State} {k : BrickId} {i : Instr} (f : BOp) (h : Ready s k i) :
    issue k i f s = .next (finishBrick k.val s (f s (s.brick k.val))) := by
  have h1 := h.run; have h2 := h.inside; have h3 := h.sound; have h4 := h.word; have h5 := h.known
  unfold issue
  simp only [h1, h3, h5, h4]
  simp; omega

/-- Everything the issue of one instruction can lead to: nothing, a fault of the brick, or its effect. -/
theorem issue_cases (k : BrickId) (i : Instr) (f : BOp) (s : State) :
    issue k i f s = .next s ∨ (∃ c, issue k i f s = .next (s.brickFault k.val c)) ∨
    issue k i f s = .next (finishBrick k.val s (f s (s.brick k.val))) := by
  unfold issue
  dsimp only
  split
  · exact .inl rfl
  · split
    · exact .inr (.inl ⟨2, rfl⟩)
    · split
      · exact .inr (.inl ⟨4, rfl⟩)
      · split
        · exact .inr (.inl ⟨1, rfl⟩)
        · split
          · exact .inr (.inr rfl)
          · exact .inl rfl

end Sys2Proof.Machine
end

