-- ==== Sys2Proof/Laws/Dictionary.lean ====
section
/-! SUPPORT. Laws of dictionary accesses: the checks of a list, and everything a write through a BAR0 page comes to once its checks
pass. -/

namespace Sys2Proof.Machine

/-- No check fails: no abort code. -/
theorem firstAbort_clear {cs : List (Bool × Nat)} (h : ∀ e ∈ cs, e.1 = false) : firstAbort cs = 0 := by
  induction cs with
  | nil => rfl
  | cons e cs ih =>
    obtain ⟨b, c⟩ := e
    have hb : b = false := h (b, c) (List.mem_cons_self ..)
    simp [firstAbort, hb, ih (fun e he => h e (List.mem_cons_of_mem _ he))]

/-- An access of a page that runs on this leaf. -/
theorem barAccess_open {s : State} {page : Fin 66} {op key : Nat} {cmd : BitVec 64} (data : BitVec 64) (flashOk : Bool)
    (h : WindowOpen s page op key cmd) (h6 : op ≠ 6) :
    s.barAccess page.val true cmd.toNat data.toNat flashOk = (s.taken page cmd data).barRun page.val cmd.toNat data.toNat flashOk := by
  have h1 := h.host; have h2 := h.idle; have h3 := h.op
  unfold State.barAccess
  simp [h1, h2, h3, h6, State.taken]

/-- A write through a page whose checks pass does what the object's class says, and is answered. -/
theorem bar0_write {s : State} {page : Fin 66} {key : Nat} {cmd : BitVec 64} (data : BitVec 64) (flashOk : Bool) {r : ObjRow} {u : State}
    (h : WindowOpen s page 2 key cmd) (ha : Admitted (s.taken page cmd data) page key r data.toNat)
    (hu : (s.taken page cmd data).put page.val key r data.toNat (leBytes r.ty.size data.toNat) flashOk = (0, u)) :
    s.barAccess page.val true cmd.toNat data.toNat flashOk = u.answered page cmd none := by
  rw [barAccess_open data flashOk h (by decide)]
  have h1 := h.op; have h2 := h.key; have h3 := h.clean; have h4 := h.here
  have h5 := ha.row; have h7 := ha.small
  have h8 : decide (data.toNat ≥ 2 ^ (8 * r.ty.size)) = false := decide_eq_false (Nat.not_le.mpr ha.fits)
  have hc : ∀ fs : List (Bool × Nat), (∀ e ∈ fs, e.1 = false) → firstAbort (fs ++ (s.taken page cmd data).writeChecks page.val r ++
      (s.taken page cmd data).setChecks page.val key r data.toNat ++ [((0 : Nat) != 0, 0)]) = 0 := by
    intro fs hf
    refine firstAbort_clear ?_
    intro e he
    simp only [List.mem_append, List.mem_singleton] at he
    rcases he with ((he | he) | he) | rfl
    · exact hf e he
    · exact ha.right e he
    · exact ha.value e he
    · rfl
  unfold State.barRun State.expedited
  dsimp only
  rw [h1, h2, h3, h4, h5]
  simp only [h7, h8, hu, Bool.false_and, Bool.not_false, Bool.and_false]
  rw [hc _ (by simp)]
  simp [State.answered]

/-- A read through a page of an object that may be read. -/
theorem bar0_read {s : State} {page : Fin 66} {op key : Nat} {cmd : BitVec 64} (data : BitVec 64) (flashOk : Bool) {r : ObjRow}
    (h : WindowOpen s page op key cmd) (h1 : op = 1 ∨ op = 3 ∨ op = 4 ∨ op = 5) (hr : (s.taken page cmd data).object key = .ok r)
    (hl : op ≠ 4 → r.large = false) (hd : r.large = false → data.toNat < 2 ^ (8 * r.ty.size)) (hw : op = 1 ∨ op = 3 → r.acc ≠ .wo) :
    s.barAccess page.val true cmd.toNat data.toNat flashOk =
      (s.taken page cmd data).answered page cmd (some
        (if op = 4 then (s.taken page cmd data).describe page.val key r else if op = 5 then (s.taken page cmd data).resetValue key
          else if op = 3 then (s.taken page cmd data).getStaged page.val key r else (s.taken page cmd data).get page.val key)) := by
  rw [barAccess_open data flashOk h (by omega)]
  have h2 := h.op; have h3 := h.key; have h4 := h.clean; have h5 := h.here
  have hs : (!r.large && decide (data.toNat ≥ 2 ^ (8 * r.ty.size))) = false := by
    cases hb : r.large
    · simpa using hd hb
    · rfl
  unfold State.barRun State.expedited
  dsimp only
  rw [h2, h3, h4, h5, hr]
  simp only [hs]
  rcases h1 with rfl | rfl | rfl | rfl
  · have := hl (by decide); have hw' := hw (.inl rfl)
    simp [this, hw', firstAbort, State.answered]
  · have := hl (by decide); have hw' := hw (.inr rfl)
    simp [this, hw', firstAbort, State.answered]
  · simp [firstAbort, State.answered]
  · have := hl (by decide)
    simp [this, firstAbort, State.answered]

/-- The row of an operation through a page. -/
theorem rowOf_bar0 {s : State} {page : Fin 66} {op key : Nat} {cmd : BitVec 64} (data : BitVec 64) (h : WindowOpen s page op key cmd)
    (h6 : op ≠ 6) : s.rowOf (.bar0 page true cmd data) = expeditedRow op key := by
  have h1 := h.op; have h2 := h.key; have h4 := h.here
  simp [State.rowOf, h1, h2, h4, h6]

/-- A command of the row its access belongs to carries out the access. -/
theorem accessAs_bar0 {s : State} {page : Fin 66} {op key : Nat} {cmd : BitVec 64} {row : Row} (data : BitVec 64) (flashOk : Bool)
    (h : WindowOpen s page op key cmd) (h6 : op ≠ 6) (hr : expeditedRow op key = row) :
    s.accessAs row (.bar0 page true cmd data) flashOk = s.barAccess page.val true cmd.toNat data.toNat flashOk := by
  unfold State.accessAs
  rw [rowOf_bar0 data h h6, hr]
  simp [State.access]

/-- A page's session is authenticated. -/
theorem anonymous_page (s : State) (page : Fin 66) : s.anonymous page.val = false := by
  have : ¬ 66 ≤ page.val := by have := page.isLt; omega
  simp [State.anonymous, this]

/-- Taking up an access changes no session's level. -/
@[simp] theorem State.levelOf_taken (s : State) (page : Fin 66) (cmd data : BitVec 64) :
    (s.taken page cmd data).levelOf page.val = s.levelOf page.val := by
  have h : (66 ≤ page.val ∧ page.val < 74) = False := by
    have : ¬ 66 ≤ page.val := by have := page.isLt; omega
    simp [this]
  unfold State.levelOf
  simp only [Bool.and_eq_true, decide_eq_true_eq, h]
  simp

/-- A write of a WO object's value that passes its checks acts. -/
theorem bar0_act {s : State} {page : Fin 66} {key : Nat} {cmd : BitVec 64} (data : BitVec 64) (flashOk : Bool) {r : ObjRow} {u : State}
    (h : WindowOpen s page 2 key cmd) (ha : Admitted (s.taken page cmd data) page key r data.toNat) (hw : r.acc = .wo)
    (hu : (s.taken page cmd data).action page.val key data.toNat (leBytes r.ty.size data.toNat) flashOk = (0, u)) :
    s.barAccess page.val true cmd.toNat data.toNat flashOk = u.answered page cmd none :=
  bar0_write data flashOk h ha (by unfold State.put; rw [hw]; exact hu)

end Sys2Proof.Machine
end

