-- ==== Sys2Proof/WellFormed.lean ====
section
/-! DEFINITION. Which commands can reach the block: the sizes and ranges that the manual gives their operands. A command that is
not well formed cannot be sent; every meaning is total all the same. -/

namespace Sys2Proof

/-- No element stands twice. -/
def distinct {α : Type} [DecidableEq α] : List α → Bool
  | [] => true
  | x :: xs => !xs.contains x && distinct xs

/-- A structure read from host memory, if it could be read, has its size. -/
def sized (n : Nat) : Option Bytes → Bool
  | none => true
  | some d => d.length == n

/-- The body of a message of the tie link (R478). -/
def tieBody (b : Bytes) : Bool := decide (b.length ≤ 4160)

/-- An access to the dictionary: a mailbox descriptor has 32 bytes and a segment at most 65,536 (R89), a management datagram
at most 1,088 bytes (R104), and a DICT_REQ the size of a tie message (R478). -/
def Path.wf : Path → Bool
  | .bar0 _ _ _ _ => true
  | .register _ _ _ => true
  | .bell _ _ => true
  | .mailbox _ _ _ desc buffer => sized 32 desc && (match buffer with
      | some b => decide (b.length ≤ 65536)
      | none => true)
  | .mgmt d _ => decide (d.body.length ≤ 1088)
  | .mgmtNext => true
  | .partner _ b => tieBody b

/-- A unit of the curing table: KIND 1 to 5, STACK 0 to 5, INDEX within the kind (R544). -/
def Unit'.wf (u : Unit') : Bool :=
  decide (1 ≤ u.kind) && decide (u.kind ≤ 5) && decide (u.stack < 6) &&
  decide (u.index < (match u.kind with
    | 1 => 17
    | 2 => 578
    | 3 => 16
    | 4 => 1
    | _ => 84))

/-- The fuses (R1, R2, R432, R538). -/
def Fuses.wf (f : Fuses) : Bool :=
  decide (1 ≤ f.variant) && decide (f.variant ≤ 3) && decide (f.siliconRev < 16) && decide (f.power.length ≤ 31) && f.bad.all Unit'.wf

/-- A firmware slot: the header of 4,096 bytes and a SHA-256 (R519). -/
def SlotImage.wf (x : SlotImage) : Bool := x.head.length == 4096 && decide (x.bodyDigest < 2 ^ 256)

/-- The result of training: each expander once. -/
def TrainResult.wf (t : TrainResult) : Bool := distinct (t.expanders.map (·.1)) && distinct t.badDies && distinct t.expandersDown

/-- The result of the start-up test. -/
def CureResult.wf (r : CureResult) : Bool := r.failed.all (fun e => e.1.wf)

/-- A command that can reach the block. -/
def Instr.wf : Instr → Bool
  | .frame e => distinct (e.lanes.map (·.1))
  | .courseBoundary x => distinct (x.tiles.map (·.1)) && distinct (x.dies.map (·.1))
  | .reanchor p => p.wf
  | .courseSync b => tieBody b
  | .read p => p.wf
  | .write p => p.wf
  | .readStaged p => p.wf
  | .describe p => p.wf
  | .readDefault p => p.wf
  | .segRead p => p.wf
  | .segWrite p => p.wf
  | .dictResp _ b => tieBody b
  | .commitAt p => p.wf
  | .discard p => p.wf
  | .cancelPending p => p.wf
  | .store p => p.wf
  | .stage p => p.wf
  | .mgmtOpen p => p.wf
  | .auth p => p.wf
  | .close p => p.wf
  | .echoRequest _ _ _ b => decide (b.length ≤ 1472)
  | .forceClose p => p.wf
  | .keyL0 p => p.wf
  | .keyL1 p => p.wf
  | .hostLinkUp rate width => decide (4 ≤ rate) && decide (rate ≤ 6) && [4, 8, 16].contains width
  | .commandFetch _ d => sized 64 d
  | .loadDone _ _ _ f => distinct f
  | .unbind p => p.wf
  | .clear p => p.wf
  | .gatherLookup _ _ ls => ls.all (fun l => decide (l.pairs.length ≤ 65536))
  | .unload p => p.wf
  | .planUnload p => p.wf
  | .spill c => distinct c
  | .slipReanchor p => p.wf
  | .aes3Subframe _ x => decide (x.phase < 65536)
  | .isnsSample r => r.length == 6
  | .retrainNow p => p.wf
  | .tieFlit x _ => x.length == 256
  | .heartbeat b => tieBody b
  | .handover p => p.wf
  | .digest b => tieBody b
  | .statePush b => tieBody b
  | .checkpointMessage b => tieBody b
  | .leave p => p.wf
  | .leaveMessage b => tieBody b
  | .join _ b => tieBody b
  | .syncStart p => p.wf
  | .fwWrite p => p.wf
  | .bootSlot p => p.wf
  | .svnAdvance p => p.wf
  | .customerKeyFuse p => p.wf
  | .attestNonce p => p.wf
  | .logClear p _ => p.wf
  | .fuseRead f _ _ => f.wf
  | .firmwareVerification a b _ => a.wf && b.wf
  | .training t _ => t.wf
  | .curing r _ => r.wf
  | .brickCodeBroadcast _ _ f _ => distinct f
  | .phaseLimit r a b t => r.wf && a.wf && b.wf && t.wf
  | .coastedFrame _ ls | .clockLoss ⟨_, ls⟩ => distinct (ls.map (·.1))
  | .apertureAccess _ width v => [1, 2, 4, 8].contains width && (match v with
      | some x => decide (x < 2 ^ (8 * width))
      | none => true)
  | .bootSrc _ a b => a.wf && b.wf
  | .tickBoundary | .lockAcquired | .bitClockFault | .laneResume | .periodFaultLoss | .coastExpired | .relock
  | .ltcFrame _ _ _ _ | .ltcValidLapse | .anchorFailed | .cmarkPulse | .partnerTimeout _ _ | .storeDone _
  | .arpRequest _ _ _ | .plcaBeacon | .idleTimeout _ _ | .hostDetach _ | .cmdTail _ _ _ | .cplHead _ _ _ | .resume _ _ _
  | .abandon _ _ _ | .ringDrained _ | .bind _ | .admissionTimeout _ | .feed _ | .render _ | .flush _ | .flushDone _
  | .cancel _ | .park _ | .wake _ | .wakeSlotTaken _ | .moveOutDone _ | .moveInDone _ | .checkpoint _ | .move _ _
  | .moverStart _ _ | .rearmRun _ _ | .transferDone _ _ | .loadPlan _ _ | .loadTable _ _ | .loadCurve _ _
  | .loadBrickCode _ _ | .fence _ | .note _ | .priResponse _ _ | .priTimeout _ | .tokenStart _ _ | .rowFetchDone _
  | .packetStart _ _ | .jointIdleTimeout _ _ | .jointEccError _ _ _ | .add _ _ _ _ _ | .sub _ _ _ _ _ | .and _ _ _ _ _
  | .or _ _ _ _ _ | .xor _ _ _ _ _ | .shl _ _ _ _ _ | .shr _ _ _ _ _ | .sra _ _ _ _ _ | .mul _ _ _ _ _ | .mulh _ _ _ _ _
  | .mulhu _ _ _ _ _ | .min _ _ _ _ _ | .max _ _ _ _ _ | .minu _ _ _ _ _ | .maxu _ _ _ _ _ | .slt _ _ _ _ _
  | .sltu _ _ _ _ _ | .rotl _ _ _ _ _ | .fadd _ _ _ _ _ | .fsub _ _ _ _ _ | .fmul _ _ _ _ _ | .fma _ _ _ _ _
  | .fmin _ _ _ _ _ | .fmax _ _ _ _ _ | .flt _ _ _ _ _ | .feq _ _ _ _ _ | .fdiv _ _ _ _ _ | .fsqrt _ _ _ _ _
  | .fcvtsi _ _ _ _ _ | .fcvtis _ _ _ _ _ | .ffloor _ _ _ _ _ | .fcurve _ _ _ _ _ | .addi _ _ _ _ | .andi _ _ _ _
  | .ori _ _ _ _ | .xori _ _ _ _ | .slti _ _ _ _ | .lui _ _ _ _ | .shli _ _ _ _ | .shri _ _ _ _ | .srai _ _ _ _
  | .beq _ _ _ _ | .bne _ _ _ _ | .blt _ _ _ _ | .bge _ _ _ _ | .bltu _ _ _ _ | .bgeu _ _ _ _ | .jmp _ _ | .call _ _
  | .jr _ _ _ _ _ | .loop _ _ _ _ | .halt _ _ | .csrr _ _ _ _ | .csrw _ _ _ _ | .lw _ _ _ _ | .sw _ _ _ _ | .vld _ _ _ _
  | .vst _ _ _ _ | .vfadd _ _ _ _ _ | .vfsub _ _ _ _ _ | .vfmul _ _ _ _ _ | .vfma _ _ _ _ _ | .vfmas _ _ _ _ _
  | .vfmuls _ _ _ _ _ | .vfmin _ _ _ _ _ | .vfmax _ _ _ _ _ | .vfdiv _ _ _ _ _ | .vfsqrt _ _ _ _ _ | .vcurve _ _ _ _ _
  | .vffloor _ _ _ _ _ | .vflt _ _ _ _ _ | .vfeq _ _ _ _ _ | .vsel _ _ _ _ _ | .vadd _ _ _ _ _ | .vsub _ _ _ _ _
  | .vand _ _ _ _ _ | .vor _ _ _ _ _ | .vxor _ _ _ _ _ | .vshl _ _ _ _ _ | .vshr _ _ _ _ _ | .vsra _ _ _ _ _
  | .vmul _ _ _ _ _ | .vbc _ _ _ _ _ | .vget _ _ _ _ _ | .vput _ _ _ _ _ | .vperm _ _ _ _ _ | .vsum _ _ _ _ _
  | .vhmax _ _ _ _ _ | .vmov _ _ _ _ _ | .vcvtw _ _ _ _ _ _ | .vcvtn _ _ _ _ _ _ | .vcvtns _ _ _ _ _ _ | .mv _ _ _ _ _ _
  | .azero _ _ _ _ _ | .afin _ _ _ _ _ | .aadd _ _ _ _ _ | .asumv _ _ _ _ _ | .acmp _ _ _ _ _ | .azeroi _ _ _ _ _
  | .jrdv _ _ _ _ _ | .jrds _ _ _ _ _ | .jwrv _ _ _ _ _ | .jwrs _ _ _ _ _ | .jend _ _ _ _ _ | .jtag _ _ _ _ _
  | .jnext _ _ _ _ _ | .jdisc _ _ _ _ _ | .jmark _ _ _ _ _ | .jrew _ _ _ _ _ | .jrel _ _ _ _ _ | .draw _ _ _ _ _
  | .collectorEmit _ | .aes3Lock _ | .foreignRelock _ | .captureWrite _ _ | .courseGoverned | .groutAged _ | .retrainDue _ _
  | .retrainWindowEnd _ _ | .memoryError _ _ _ _ | .patrolScrub _ _ _ | .cxlLinkDown _ | .cxlLinkUp _ | .tieReplayTimeout
  | .tieTraining _ | .tieRetrain _ | .pairHbEdge | .watchdogFail | .takeover | .partnerLoss | .resyncStateTake _
  | .leavePush _ | .left | .electricalIdle | .pairingTimeout _ | .fwUpdateDone _ | .bottomTreeReady | .reset _ _ _ _
  | .chunkDone _ _ _ | .ready _ | .mortarRetrain _ | .supplyFault | .thermalTrip _ | .priEnable | .boundaryScan _ _ => true

end Sys2Proof
end

