-- ==== Sys2Proof/Tests/Slice0.lean ====
section
/-! SUPPORT. Tests on fixed values, with expected results taken from the manual, and witnesses: for each statement, states and
operands that meet the hypotheses of its clauses. -/

set_option Elab.async false

namespace Sys2Proof.Tests

open Sys2Proof Sys2Proof.Machine

/-! ### Commands that are not well formed -/

theorem test_wf_lane_twice : Instr.wf (.frame ⟨1, 64, false, [(3, []), (3, [])]⟩) = false := by decide
theorem test_wf_sensor_twice : Instr.wf (.courseBoundary ⟨[(1, 250), (1, 260)], [], false⟩) = false := by decide
theorem test_wf_mailbox_descriptor : Instr.wf (.segRead (.mailbox 0 0 0 (some [0]) none)) = false := by decide
theorem test_wf_mailbox_buffer : Path.wf (.mailbox 0 0 0 none (some (List.replicate 65537 0))) = false := by
  show (true && decide ((List.replicate 65537 (0 : Byte)).length ≤ 65536)) = false
  rw [List.length_replicate]; rfl
theorem test_wf_datagram : Instr.wf (.stage (.mgmt ⟨0, 0, 0, 0, false, List.replicate 1089 0⟩ false)) = false := by
  show decide ((List.replicate 1089 (0 : Byte)).length ≤ 1088) = false
  rw [List.length_replicate]; rfl
theorem test_wf_dict_req : Path.wf (.partner 0 (List.replicate 4161 0)) = false := by
  show decide ((List.replicate 4161 (0 : Byte)).length ≤ 4160) = false
  rw [List.length_replicate]; rfl
theorem test_wf_tie_body : Instr.wf (.heartbeat (List.replicate 4161 0)) = false := by
  show decide ((List.replicate 4161 (0 : Byte)).length ≤ 4160) = false
  rw [List.length_replicate]; rfl
theorem test_wf_echo : Instr.wf (.echoRequest 0 0 false (List.replicate 1473 0)) = false := by
  show decide ((List.replicate 1473 (0 : Byte)).length ≤ 1472) = false
  rw [List.length_replicate]; rfl
theorem test_wf_link_rate : Instr.wf (.hostLinkUp 3 16) = false ∧ Instr.wf (.hostLinkUp 7 16) = false := by decide
theorem test_wf_link_width : Instr.wf (.hostLinkUp 6 2) = false := by decide
theorem test_wf_descriptor : Instr.wf (.commandFetch 0 (some [0])) = false := by decide
theorem test_wf_bricks_twice : Instr.wf (.loadDone 0 1 0 [5, 5]) = false := by decide
theorem test_wf_isns : Instr.wf (.isnsSample []) = false := by decide
theorem test_wf_flit : Instr.wf (.tieFlit [] false) = false := by decide
theorem test_wf_aperture_width : Instr.wf (.apertureAccess 0 3 none) = false := by decide
theorem test_wf_aperture_value : Instr.wf (.apertureAccess 0 1 (some 256)) = false := by decide
theorem test_wf_cycle_twice : Instr.wf (.spill [(0, 0), (0, 0)]) = false := by decide
theorem test_wf_phase : Instr.wf (.aes3Subframe 0 ⟨0, 0, false, 65536⟩) = false := by decide
theorem test_wf_unit : Unit'.wf ⟨0, 0, 0⟩ = false ∧ Unit'.wf ⟨6, 0, 0⟩ = false ∧ Unit'.wf ⟨1, 6, 0⟩ = false ∧
    Unit'.wf ⟨1, 0, 17⟩ = false ∧ Unit'.wf ⟨2, 0, 578⟩ = false ∧ Unit'.wf ⟨3, 0, 16⟩ = false ∧ Unit'.wf ⟨4, 0, 1⟩ = false ∧
    Unit'.wf ⟨5, 0, 84⟩ = false := by decide
theorem test_wf_slot : SlotImage.wf ⟨[], 0, false⟩ = false := by decide
theorem test_wf_plain : Instr.wf .tickBoundary = true ∧ Instr.wf (.hostLinkUp 6 16) = true ∧ Instr.wf (.apertureAccess 0 1 (some 255)) = true :=
  by decide

/-! ### Brick words, written out from the encodings of R328 -/

theorem test_decode_scalar : brickDecode 7 0b000000_00011_00001_00010_00000_000001#32 = some (.sub 7 3 1 2 0) := by decide
theorem test_decode_immediate : brickDecode 7 0b000111_00011_00001_0000000000011111#32 = some (.shli 7 3 1 31) := by decide
theorem test_decode_memory : brickDecode 7 0b001101_01111_00001_1111111111111111#32 = some (.vst 7 15 1 0xFFFF) := by decide
theorem test_decode_branch : brickDecode 7 0b010101_00001_00010_0000000000000100#32 = some (.bgeu 7 1 2 4) := by decide
theorem test_decode_jump : brickDecode 7 0b010111_00000000000000000000001000#32 = some (.call 7 8) := by decide
theorem test_decode_vector : brickDecode 7 0b100000_00001_00010_00011_00100_001110#32 = some (.vsel 7 1 2 3 4) := by decide
theorem test_decode_conversion : brickDecode 7 0b100011_00001_00010_00100_00001_000110#32 = some (.vcvtns 7 1 2 4 1 6) := by decide
theorem test_decode_accumulator : brickDecode 7 0b100101_00001_00010_00011_00000_000100#32 = some (.acmp 7 1 2 3 0) := by decide
theorem test_decode_joint : brickDecode 7 0b101000_00000_00100_00110_00111_000101#32 = some (.jtag 7 0 4 6 7) := by decide
theorem test_decode_status : brickDecode 7 0b110001_00001_00000_0000000000000101#32 = some (.csrw 7 1 0 5) := by decide
theorem test_decode_unassigned : brickDecode 7 0b000000_00000_00000_00000_00000_010010#32 = none := by decide

/-! ### Values of the manual -/

/-- Worked example 1 of R38 and R39: LTC frame 01:10:00;00 names position 29,799,971. -/
theorem test_label_position :
    ((((State.reset.wr Obj.ltcMode 3).wr Obj.houseRateHz 48000).wr Obj.ltcAnchorTc 0x01000000).wr Obj.ltcAnchorPos 1000000).labelPosition
      0x010A0000 = 29799971 := by decide
/-- R24: a period of 48 kHz is 20.833 microseconds; 47.9 kHz lies outside 1,000 ppm. -/
theorem test_period : rateOf 20833333 = some 48000 ∧ rateOf 20876827 = none := by decide

/-! ### States for the witnesses -/

/-- The machine after reset with values in objects. -/
def objs (l : List (Nat × Nat)) : State := l.foldl (fun s e => s.wr e.1 e.2) State.reset
/-- Bytes with little-endian fields in them: offset, size, value. -/
def fields (n : Nat) (l : List (Nat × Nat × Nat)) : Bytes :=
  l.foldl (fun b e => b.take e.1 ++ leBytes e.2.1 e.2.2 ++ b.drop (e.1 + e.2.1)) (List.replicate n 0)

/-! ### Witnesses: steps and bricks -/

/-- Brick 0 runs and its next instruction is the word `w`. -/
def running (w : BitVec 32) : State :=
  { State.reset with bricks := [(0, { run := true, mem := Memory.writeBytes [] 0 (leBytes 4 w.toNat) })] }

theorem running_ready (i : Instr) (w : BitVec 32) (h1 : brickEncode i = some w) (h2 : brickDecode 0 w = some i)
    (h3 : ((running w).brick 0).fetch = w) : Ready (running w) 0 i := by
  refine ⟨rfl, by show 4 * 0 + 4 ≤ 262144; omega, rfl, ?_, ?_⟩
  · exact h1.trans (congrArg some h3.symm)
  · exact (congrArg (brickDecode 0) h3).trans h2

theorem witness_StepRunsFront : State.reset.pending = [] := rfl
theorem witness_StepKeepsMemory : State.reset.memOk = true ∧ step { State.reset with pending := [.tickBoundary] } = .next State.reset :=
  ⟨rfl, rfl⟩
theorem witness_BrickDecodeOfEncode : brickOf (.add 0 1 2 3 0) = some 0 := rfl

/-- One instruction of each kind of R331 and R344 with operands that every clause about it admits. -/
def scalarOfEach : List Instr :=
  [.add 0 3 1 2 0, .addi 0 3 1 7, .lui 0 3 0 7, .shli 0 3 1 31, .shli 0 3 1 32, .fadd 0 3 1 2 0, .fma 0 3 1 2 4, .fsqrt 0 3 1 0 0,
   .fcurve 0 3 1 2 0, .fcvtsi 0 3 1 0 0, .beq 0 1 2 9, .jmp 0 9, .call 0 9, .jr 0 0 1 0 0, .loop 0 0 1 4, .halt 0 0, .csrr 0 3 0 6,
   .csrr 0 3 0 7, .csrw 0 3 0 5, .csrw 0 3 0 0]
/-- The same of R334 and R335. -/
def vectorOfEach : List Instr :=
  [.lw 0 3 1 0, .sw 0 3 1 0, .vld 0 15 1 0, .vst 0 15 1 0, .vfadd 0 15 1 2 0, .vfadd 0 16 1 2 0, .vfmuls 0 1 2 0 3, .vfsqrt 0 1 2 0 0,
   .vcurve 0 1 2 0 3, .vfma 0 1 2 3 0, .vfmas 0 1 2 0 3, .vflt 0 1 2 3 0, .vsel 0 1 2 3 4, .vbc 0 1 2 0 0, .vget 0 1 2 0 3,
   .vput 0 1 2 0 3, .vperm 0 1 2 3 0, .vsum 0 1 2 0 0, .vhmax 0 1 2 0 0, .vmov 0 1 2 0 0]
/-- The same of R336 to R343, and words with fields that must be zero. -/
def otherOfEach : List Instr :=
  [.vcvtw 0 1 2 0 3 4, .vcvtn 0 1 2 0 1 8, .vcvtns 0 1 2 4 1 6, .azero 0 3 0 0 0, .azeroi 0 3 0 0 0, .afin 0 15 3 0 0, .aadd 0 3 15 0 0,
   .asumv 0 3 15 0 0, .acmp 0 3 1 2 0, .mv 0 0 1 2 3 0x28, .mv 0 4 1 2 3 0x28, .jrdv 0 1 0 0 7, .jrds 0 2 0 0 1, .jwrv 0 0 1 0 1,
   .jwrs 0 0 2 0 1, .jend 0 0 0 0 1, .jtag 0 0 1 2 1, .jnext 0 0 0 0 1, .jdisc 0 0 0 0 1, .jmark 0 0 0 0 1, .jrew 0 0 0 0 1,
   .jrel 0 0 0 0 1, .draw 0 2 4 0 0, .add 0 1 2 3 4, .vfmas 0 1 2 3 4, .fsqrt 0 1 2 0 4, .azero 0 1 2 0 0, .jr 0 1 2 0 0, .halt 0 1]
def oneOfEach : List Instr := scalarOfEach ++ vectorOfEach ++ otherOfEach

/-- Each of them can be the next instruction of a running brick: the hypothesis of every statement about brick instructions. -/
theorem witness_bricks : ∀ i ∈ oneOfEach, ∃ s, Ready s 0 i := by
  have h : ∀ i ∈ oneOfEach, (match brickEncode i with
      | some w => decide (brickDecode 0 w = some i ∧ ((running w).brick 0).fetch = w)
      | none => false) = true := by decide
  intro i hi
  have := h i hi
  split at this
  · rename_i w hw
    have hb := of_decide_eq_true this
    exact ⟨running w, running_ready i w hw hb.1 hb.2⟩
  · cases this

/-- Further hypotheses of the clauses about bricks. -/
theorem witness_BrickControl : ({} : Brick).loops.length < 2 ∧ 2 ≤ ({ loops := [⟨1, 2, 3⟩, ⟨1, 2, 3⟩] } : Brick).loops.length ∧
    (({} : Brick).s 1).toNat = 0 ∧ (({ regs := List.replicate 32 1 } : Brick).s 1).toNat ≠ 0 := by decide
theorem witness_BrickLoadsAndStores : ({} : Brick).accessFault 0 4 false = none ∧ ({} : Brick).accessFault 262144 4 true = some 2 ∧
    ({ codeBytes := 4 } : Brick).accessFault 0 4 true = some 3 ∧ ({ bad := [0] } : Brick).accessFault 0 4 false = some 4 := by decide
theorem witness_BrickStoreFrame : ((running 0).brick 0).mem.wf = true ∧
    ((running 0).brick 0).accessFault (memAddr (((running 0).brick 0).s 1) 0 64) 64 true = none := by decide
theorem witness_BrickConversions : partOk 4 3 = true ∧ partOk 8 1 = true ∧ partOk 10 0 = true ∧ ({ stepped := true } : Brick).stepped = true := by
  decide
theorem witness_BrickAccumulators : (({} : Brick).acc 0).int = false ∧ (({} : Brick).setAcc 0 { int := true }).acc 0 = { int := true } ∧
    (nth ({} : AccLane) (({} : Brick).acc 0).lanes 0).stack = [] := by decide
theorem witness_BrickMv : mvElements 8 ≠ 0 ∧ mvElements 0x0A = 1 ∧ mvElements 6 ≠ 0 ∧ mvElements 0 = 0 ∧
    (({} : Brick).acc 0).int ≠ ((6 : Nat) == 6) ∧ (({} : Brick).acc 0).int = ((8 : Nat) == 6) := by decide
theorem witness_BrickScalarRegisters : ({} : Brick).regs.length = 32 := by decide

/-- A plan whose bond map places brick 0 in stage 1, and a joint on its tile at port 1 of the links around it. -/
def bonded (rs : List JRec) : State :=
  { State.reset with
    plans := [(0, { image := fields 176 [(6, 2, 1), (128, 2, 2), (132, 4, 1), (136, 8, 160), (144, 8, 16), (160, 1, 1), (161, 1, 1)], digest := 0 })]
    joints := [(0, { plan := 0, link := 1, port := 1, maxPacket := 8, threshold := 1, reserve := 64, limit := 64, idle := 0, recs := rs }),
      (1, { plan := 0, link := 2, port := 1, maxPacket := 8, threshold := 1, reserve := 64, limit := 64, idle := 0 })] }

theorem witness_BrickJoints : State.reset.portIn 0 1 = none ∧ (bonded []).portIn 0 1 = some (.joint 0 0) ∧
    (bonded []).portOut 0 1 = some (.joint 1 0) ∧ ((bonded []).joints.find 0).bind (fun j => j.next 0) = none ∧
    (((bonded [.packet 5 [7] true 0 0 false]).joints.find 0).bind (fun j => j.next 0)).isSome = true ∧
    (((bonded [.spacer 3]).joints.find 0).bind (fun j => j.next 0)).isSome = true ∧
    ({ stepped := true } : Brick).stepped = true := by decide +kernel
theorem witness_BrickFaults : ({ pc := 65536 } : Brick).pc * 4 + 4 > 262144 ∧ 0 ∈ ({ run := true, bad := [0] } : Brick).bad ∧
    brickDecode 0 0xFFFFFFFF = none ∧ ({} : Brick).run = false := by decide

/-! ### Witnesses: dictionary and management port -/

/-- A CMD: operation and object. -/
def cmdOf (op key : Nat) : BitVec 64 := BitVec.ofNat 64 (key / 256 + 2 ^ 16 * (key % 256) + 2 ^ 24 * op)
/-- Values in objects, with the host attached. -/
def hosted (l : List (Nat × Nat)) : State := { objs l with host := true }

/-- Every operation of a BAR0 page can be taken up, for an object of any class. -/
theorem window_open (l : List (Nat × Nat)) (page : Fin 66) (op key : Nat) (h1 : bits (cmdOf op key).toNat 27 24 = op)
    (h2 : cmdKey (cmdOf op key).toNat = key) (h3 : cmdReserved (cmdOf op key).toNat = false) (h4 : bit (cmdOf op key).toNat 28 = false) :
    WindowOpen (hosted l) page op key (cmdOf op key) := by
  refine ⟨rfl, ?_, h1, h2, h3, h4⟩
  have : (hosted l).sessions = [] := by
    show (objs l).sessions = []
    unfold objs
    suffices h : ∀ s : State, (l.foldl (fun s e => s.wr e.1 e.2) s).sessions = s.sessions from h _
    intro s
    induction l generalizing s with
    | nil => rfl
    | cons e l ih => exact ih _
  simp [State.session, this, Map.getD]

theorem witness_DictionaryAccesses_read : WindowOpen (hosted []) 65 1 Obj.position (cmdOf 1 Obj.position) ∧
    WindowOpen (hosted []) 0 3 Obj.courseLog2 (cmdOf 3 Obj.courseLog2) ∧ WindowOpen (hosted []) 0 4 Obj.commitAt (cmdOf 4 Obj.commitAt) ∧
    WindowOpen (hosted []) 0 5 Obj.phase (cmdOf 5 Obj.phase) :=
  ⟨window_open _ _ _ _ (by decide) (by decide) (by decide) (by decide), window_open _ _ _ _ (by decide) (by decide) (by decide) (by decide),
   window_open _ _ _ _ (by decide) (by decide) (by decide) (by decide), window_open _ _ _ _ (by decide) (by decide) (by decide) (by decide)⟩

/-- Whether an object is one of this leaf, with a class, a size that a window carries, and a level. -/
def rowIs (s : State) (key : Nat) (acc : Acc) (large : Bool) : Bool := match s.object key with
  | .ok r => decide (r.acc = acc ∧ r.large = large)
  | .error _ => false

theorem witness_DictionaryAccesses_rows : rowIs (hosted []) Obj.position .ro false = true ∧ rowIs (hosted []) Obj.commitAt .wo false = true ∧
    rowIs (hosted []) Obj.courseLog2 .rws false = true ∧ rowIs (hosted []) Obj.acquireFails .rwz false = true ∧
    rowIs (hosted []) Obj.brickPresent .ro true = true := by decide +kernel

/-- DATA that does not fit an object of one byte: the premise of the refusal of R86. -/
theorem witness_DictionaryReads_misfit : WindowOpen (hosted []) 0 1 Obj.phase (cmdOf 1 Obj.phase) ∧
    ((((hosted []).object Obj.phase).toOption.map (fun r => decide (r.large = false ∧ ¬ (256 : Nat) < 2 ^ (8 * r.ty.size) ∧ r.acc ≠ .wo))) =
      some true) :=
  ⟨window_open _ _ _ _ (by decide) (by decide) (by decide) (by decide), by decide +kernel⟩

/-- The STATUS word of R85: DONE in bit 1, TAG in [31:16], ABORT in [63:32]; and offsets beyond the last page read as zero (R84). -/
theorem test_status_word : ({ done := true, tag := 0xABCD, abort := 0x00030002 } : Bar0).status = 0x00030002ABCD0002 ∧
    pageAt 0x41010 = some 65 ∧ pageAt 0x42000 = none ∧ (hosted []).bar0Read 0x42010 = 0 := by decide

/-- The constants of SHA-256 are the first 32 fractional bits of the cube roots of the first 64 primes. -/
theorem test_sha_constants :
    let primes := (List.range 312).filter (fun n => decide (2 ≤ n) && (List.range n).all (fun d => decide (d < 2) || n % d != 0))
    primes.length = 64 ∧ ((List.range 64).all (fun i =>
      let p := nth 0 primes i
      let k := shaWord 64 shaConstants i
      (List.range 7).any (fun c => decide ((c * 2 ^ 32 + k) ^ 3 ≤ p * 2 ^ 96) && decide (p * 2 ^ 96 < (c * 2 ^ 32 + k + 1) ^ 3)))) = true := by
  decide +kernel

/-- The digest of the empty string, the published value. -/
theorem test_sha_empty : shaNat [] = 0xe3b0c44298fc1c149afbf4c8996fb92427ae41e4649b934ca495991b7852b855 := by decide +kernel

/-- The checks of a write of one value pass. -/
def admits (s : State) (page : Fin 66) (key v : Nat) : Bool := match s.object key with
  | .ok r => decide (v < 2 ^ (8 * r.ty.size)) && (s.writeChecks page.val r).all (fun e => !e.1) && (s.setChecks page.val key r v).all (fun e => !e.1)
  | .error _ => false

theorem witness_DictionaryAccesses_write : admits ((hosted []).taken 0 (cmdOf 2 Obj.courseLog2) 8) 0 Obj.courseLog2 8 = true ∧
    admits ((hosted []).taken 0 (cmdOf 2 Obj.acquireFails) 0) 0 Obj.acquireFails 0 = true ∧
    writeRow Obj.courseLog2 .write = .write ∧ writeRow Obj.acquireFails .write = .write ∧ writeRow Obj.position .write = .write := by
  decide +kernel

theorem witness_CommitAccepted : WindowOpen (hosted [(Obj.phase, 6), (Obj.position, 1000)]) 0 2 Obj.commitAt (cmdOf 2 Obj.commitAt) :=
  window_open _ _ _ _ (by decide) (by decide) (by decide) (by decide)

/-- The actions of the dictionary: level, key, value, and the condition of each at the machine named. -/
theorem witness_DictionaryActions :
    (∀ key ∈ [Obj.discard, Obj.cancelPending, Obj.store, Obj.reanchor, Obj.forceClose, Obj.retrainNow, Obj.handover, Obj.bootSlot, Obj.svnAdvance,
      Obj.watchClear 15, Obj.tableUnload 63, Obj.planUnload 63, Obj.streamUnbind 32767, Obj.groupSlipReanchor 63, Obj.leave, Obj.syncStart, Obj.logClear],
      WindowOpen (hosted []) 0 2 key (cmdOf 2 key)) ∧
    State.levelOf (hosted []) 0 = 0 ∧ (hosted [(Obj.role, 1)]).rd Obj.role = 1 ∧ (hosted []).rd Obj.storeState ≠ 1 ∧
    (hosted [(Obj.runningSvn, 64)]).rd Obj.fusedSvn < 64 ∧ (hosted [(Obj.runningSvn, 64)]).rd Obj.runningSvn = 64 ∧
    ((hosted []).session 0).pending = none ∧ (hosted []).rd (Obj.planBoundStreams 63) = 0 ∧
    (hosted [(Obj.planBoundStreams 63, 1)]).rd (Obj.planBoundStreams 63) ≠ 0 ∧ (hosted []).rd (Obj.streamRingState 32767) = 0 := by
  refine ⟨?_, by decide +kernel⟩
  intro key hk
  have h : ∀ key ∈ [Obj.discard, Obj.cancelPending, Obj.store, Obj.reanchor, Obj.forceClose, Obj.retrainNow, Obj.handover, Obj.bootSlot,
      Obj.svnAdvance, Obj.watchClear 15, Obj.tableUnload 63, Obj.planUnload 63, Obj.streamUnbind 32767, Obj.groupSlipReanchor 63, Obj.leave,
      Obj.syncStart, Obj.logClear],
      bits (cmdOf 2 key).toNat 27 24 = 2 ∧ cmdKey (cmdOf 2 key).toNat = key ∧ cmdReserved (cmdOf 2 key).toNat = false ∧
        bit (cmdOf 2 key).toNat 28 = false := by decide
  exact window_open _ _ _ _ (h key hk).1 (h key hk).2.1 (h key hk).2.2.1 (h key hk).2.2.2

/-- A mailbox descriptor of a segment: key, flags, length, offset, total, buffer. -/
def descOf (key flags length offset total : Nat) : Bytes :=
  fields 32 [(0, 2, key / 256), (2, 1, key % 256), (3, 1, flags), (4, 4, length), (8, 4, offset), (12, 4, total), (16, 8, 4096)]

theorem mailbox_open (s : State) (key : Nat) (write : Bool) (desc buffer : Bytes) (h0 : s.host = true ∧ (s.session 0).bar0.busy = false)
    (h1 : s.rd Obj.role ≠ 4) (h2 : desc.length = 32 ∧ mboxPartner desc = false ∧ mboxWrite desc = write ∧
      256 * field desc 0 2 + field desc 2 1 = key ∧ buffer.length = field desc 4 4)
    (h3 : (s.mboxChecks 0 desc (some buffer)).all (fun e => !e.1) = true) : MailboxOpen s 0 key write (cmdOf 6 0) 64 desc buffer :=
  ⟨h0.1, h1, h0.2, by decide, by decide, by decide, rfl, h2.1, h2.2.1, h2.2.2.1, h2.2.2.2.1, h2.2.2.2.2, by simpa using h3⟩

theorem witness_Segments :
    MailboxOpen (hosted []) 0 Obj.brickPresent false (cmdOf 6 0) 64 (descOf Obj.brickPresent 6 384 0 0) (List.replicate 384 0) ∧
    MailboxOpen (hosted []) 0 Obj.brickPresent false (cmdOf 6 0) 64 (descOf Obj.brickPresent 0 1 5 0) [0] ∧
    MailboxOpen (hosted []) 0 Obj.keyL0 true (cmdOf 6 0) 64 (descOf Obj.keyL0 3 16 0 32) (List.replicate 16 1) ∧
    MailboxOpen (hosted []) 0 Obj.keyL0 true (cmdOf 6 0) 64 (descOf Obj.keyL0 5 16 16 0) (List.replicate 16 1) :=
  ⟨mailbox_open _ _ _ _ _ (by decide) (by decide) (by decide +kernel) (by decide +kernel),
   mailbox_open _ _ _ _ _ (by decide) (by decide) (by decide +kernel) (by decide +kernel),
   mailbox_open _ _ _ _ _ (by decide) (by decide) (by decide +kernel) (by decide +kernel),
   mailbox_open _ _ _ _ _ (by decide) (by decide) (by decide +kernel) (by decide +kernel)⟩

theorem witness_SecurityActions :
    MailboxOpen (hosted []) 0 Obj.keyL1 true (cmdOf 6 0) 64 (descOf Obj.keyL1 7 32 0 32) (List.replicate 32 1) ∧
    MailboxOpen (hosted []) 0 Obj.fwWrite true (cmdOf 6 0) 64 (descOf Obj.fwWrite 7 1 0 1) [0] ∧
    MailboxOpen (hosted [(Obj.attestState, 1), (Obj.bottomLeft, 1)]) 0 Obj.attestNonce true (cmdOf 6 0) 64 (descOf Obj.attestNonce 7 32 0 32)
      (List.replicate 32 1) ∧
    (hosted []).heldElsewhere 0 Obj.fwWrite = false ∧ (hosted []).rd (Obj.progState updateRecord) ≠ 1 ∧
    (hosted [(Obj.attestState, 1), (Obj.bottomLeft, 1)]).rd Obj.bottomLeft ≠ 0 :=
  ⟨mailbox_open _ _ _ _ _ (by decide) (by decide) (by decide +kernel) (by decide +kernel),
   mailbox_open _ _ _ _ _ (by decide) (by decide) (by decide +kernel) (by decide +kernel),
   mailbox_open _ _ _ _ _ (by decide) (by decide) (by decide +kernel) (by decide +kernel), by decide +kernel⟩

theorem witness_AccessEnds :
    let w : PartnerWait := ⟨7, 0, true, false, 64, 8, 2, 0⟩
    let s : State := { objs [(Obj.tieState, 2)] with host := true, sessions := [(5, { partner := some w })] }
    s.tieUp = true ∧ (s.session 5).partner = some w ∧ s.host = true ∧ (∀ j, j < 5 → (s.session j).partner = none) ∧ 2 ≤ w.left ∧
    s.counting = false ∧ { objs [(Obj.clockState, 2)] with clk := { frames := 32 } }.counting = true := by decide +kernel

/-- A datagram of the port: type, session, sequence number, body. -/
def datagramOf (type session seq : Nat) (body : Bytes) : Bytes :=
  leBytes 2 0x6084 ++ leBytes 1 1 ++ leBytes 1 type ++ leBytes 1 session ++ leBytes 1 0 ++ leBytes 2 seq ++ leBytes 4 0 ++
    leBytes 2 body.length ++ leBytes 2 0 ++ body

/-- A datagram from source 1, port 2, to the device: node 0's default address 169.254.96.100, port 24,708. -/
def fromOne (body : Bytes) : Datagram := ⟨1, 2, 0x6460FEA9, 24708, false, body⟩

/-- Phase 2 has been reached, and session 0 is open for source 1, port 2, last sequence number 6. -/
def managed : State :=
  { objs [(Obj.phase, 2)] with sessions := [(66, { mgmt := some ⟨1, 2, 6, [], [], true, false, none, 0, []⟩ })] }

theorem witness_ManagementOpen : (objs [(Obj.phase, 2)]).accepts (fromOne (datagramOf 1 255 0 (List.replicate 16 0))) = true ∧ (datagramOf 1 255 0 (List.replicate 16 0)).length = 32 ∧
    field (datagramOf 1 255 0 (List.replicate 16 0)) 4 1 = 255 ∧
    (headerChecks (datagramOf 1 255 0 (List.replicate 16 0))).all (fun e => !e.1) = true ∧ ((objs [(Obj.phase, 2)]).session 66).mgmt = none ∧
    (managed.session 66).mgmt ≠ none := by decide +kernel

theorem witness_ManagementRequests :
    RequestOpen managed 9 0 ⟨1, 2, 6, [], [], true, false, none, 0, []⟩ (fromOne (datagramOf 9 0 7 [])) ∧
    RequestOpen managed 2 0 ⟨1, 2, 6, [], [], true, false, none, 0, []⟩ (fromOne (datagramOf 2 0 7 (List.replicate 36 0))) ∧
    RequestOpen managed 5 0 ⟨1, 2, 6, [], [], true, false, none, 0, []⟩ (fromOne (datagramOf 5 0 7 (fields 16 [(0, 1, 1)]))) :=
  ⟨⟨by decide +kernel, rfl, by decide, by decide, by decide, by decide, by decide, by decide, rfl, by decide, by decide, by intro k h; cases h⟩,
   ⟨by decide +kernel, rfl, by decide, by decide, by decide, by decide, by decide, by decide, rfl, by decide, by decide, by intro k h; cases h⟩,
   ⟨by decide +kernel, rfl, by decide, by decide, by decide, by decide, by decide, by decide, rfl, by decide, by decide, by intro k h; cases h⟩⟩

theorem witness_PortServices : managed.portOpen = true ∧ managed.rd Obj.nodeId = 0 ∧ (managed.session 66).mgmt ≠ none ∧
    (objs [(Obj.clockState, 2)]).counting = true := by decide +kernel

/-! ### Witnesses: host link, rings and streams -/

theorem witness_HostLink : (objs [(Obj.phase, 2)]).host = false ∧ 2 ≤ (objs [(Obj.phase, 2)]).rd Obj.phase ∧
    (objs [(Obj.phase, 2)]).rd Obj.role ≠ 4 ∧ (hosted []).host = true := by decide +kernel
theorem witness_ApertureAccesses : (hosted [(Obj.apertureEnable, 1)]).rd Obj.apertureEnable ≠ 0 ∧ (hosted []).rd Obj.apertureEnable = 0 ∧
    16 * GiB - 8 + 8 ≤ 16 * GiB ∧ (hosted []).devMem.wf = true ∧ (hosted []).rd Obj.role ≠ 4 := by decide +kernel
theorem witness_Doorbells : bit (0x1000000000005#64).toNat 48 = true ∧ (0x1000000000005#64).toNat < 2 ^ 52 ∧
    (objs [(Obj.streamRingState 7, 1)]).rd (Obj.streamRingState 7) = 1 ∧ (objs [(Obj.streamRingState 7, 2)]).rd (Obj.streamRingState 7) = 2 ∧ (hosted []).host = true ∧ (hosted []).rd Obj.role ≠ 4 ∧
    ¬ 2 ^ (objs []).rd (Obj.streamCmdLog2 7) < dist24 5 ((objs []).rd (Obj.streamCmdHead 7)) ∧
    2 ^ (objs []).rd (Obj.streamCmdLog2 7) < dist24 0xFFFFFF ((objs []).rd (Obj.streamCmdHead 7)) ∧
    bit (0xE000000000005#64).toNat 51 = true ∧ bit (0x7000000000005#64).toNat 50 = true := by decide +kernel

/-- Ring 7 runs with commands in it, phase 6 reached and the host attached. -/
def ringOf (l : List (Nat × Nat)) (tail : Nat) (cs : List Cmd) : State :=
  { hosted ([(Obj.phase, 6), (Obj.streamRingEnable 7, 1), (Obj.streamRingState 7, 1)] ++ l) with rings := [(7, { cmdTail := tail, cmds := cs })] }
/-- A command fetched with a descriptor of an opcode. -/
def cmdAt (counter op : Nat) (l : List (Nat × Nat × Nat)) : Cmd := { counter := counter, desc := fields 64 ([(0, 1, op)] ++ l) }

theorem witness_Fetching : (ringOf [] 1 []).fetches 7 = true ∧ (ringOf [] 0 []).fetches 7 = false ∧
    ((ringOf [] 1 []).headCheck 7 (fields 64 [(0, 1, 13)])).isSome = true ∧
    (ringOf [] 1 []).headCheck 7 (fields 64 [(0, 1, 12)]) = none ∧ (ringOf [] 1 []).tailCheck 7 (fields 64 [(0, 1, 12)]) = none ∧
    ((ringOf [] 1 []).tailCheck 7 (fields 64 [(0, 1, 4), (2, 2, 9)])).isSome = true ∧
    (objs [(Obj.streamRingState 7, 3)]).rd (Obj.streamRingState 7) = 3 ∧ (objs []).rd (Obj.streamRingEnable 7) = 0 := by decide +kernel
theorem witness_FinalEntry : ((ringOf [] 2 [cmdAt 0 12 [], cmdAt 1 12 []]).ring 7).cmds = [cmdAt 0 12 [], cmdAt 1 12 []] ∧
    (cmdAt 0 12 []).final = none ∧ (cmdAt 0 12 []).lost = false ∧ ((ringOf [] 2 []).ring 7).errEntry = false ∧
    (ringOf [] 2 []).hostMem.wf = true ∧ (cmdAt 1 12 []).counter ≠ (cmdAt 0 12 []).counter ∧ St.done ≠ St.missed := by decide +kernel

/-- A command alone in its ring starts. -/
theorem starts_of (s : State) (n op : Nat) (c : Cmd) (h : (s.startCmd n op).1 = some c) : Starts s n op c (s.startCmd n op).2 :=
  Prod.ext h rfl

theorem witness_RingCommands : (∀ op ∈ [1, 2, 3, 4, 5, 6, 7, 8, 9, 11, 12], ∃ t, Starts (ringOf [] 1 [cmdAt 0 op []]) 7 op (cmdAt 0 op []) t) ∧
    (cmdAt 0 11 []).phase = .fetched ∧ (ringOf [] 1 []).rd (Obj.streamRingState 7) ≠ 2 ∧
    (∃ q ∈ ({ requests := [⟨3, 7, 0, 4096⟩] } : State).requests, q.id = 3) ∧ (∀ q ∈ State.reset.requests, q.id ≠ 3) := by
  refine ⟨?_, by decide +kernel⟩
  intro op hop
  have h : ∀ op ∈ [1, 2, 3, 4, 5, 6, 7, 8, 9, 11, 12], ((ringOf [] 1 [cmdAt 0 op []]).startCmd 7 op).1 = some (cmdAt 0 op []) := by
    decide +kernel
  exact ⟨_, starts_of _ _ _ _ (h op hop)⟩

/-- The machine in which the one command of ring 7 has started. -/
def begun (l : List (Nat × Nat)) (op : Nat) (f : List (Nat × Nat × Nat)) : State := ((ringOf l 1 [cmdAt 0 op f]).startCmd 7 op).2

theorem witness_StreamBinds : (begun [(Obj.streamResidency 7, 3)] 1 []).rd (Obj.streamResidency 7) = 3 ∧
    (begun [] 1 []).rd (Obj.streamResidency 7) ≠ 3 ∧ (begun [] 1 []).runningBefore 7 0 = false ∧
    (match (begun [] 1 []).bindTry 7 0 (cmdAt 0 1 []).desc with | .error _ => true | .ok _ => false) = true ∧
    1 + (objs [(Obj.admitWaitMax, 0)]).rd Obj.admitWaitMax ≤ ({ cmdAt 0 1 [] with phase := .waiting, waited := 1 } : Cmd).waited := by
  decide +kernel
theorem witness_StreamWork : (begun [(Obj.streamGroup 7, 255), (Obj.streamClass 7, 0), (Obj.position, 10)] 3 []).renderCheck 7 (cmdAt 0 3 []).desc ≠ none ∧
    (begun [(Obj.streamGroup 7, 255), (Obj.streamClass 7, 2)] 3 []).renderCheck 7 (cmdAt 0 3 []).desc = none ∧
    (begun [(Obj.streamGroup 7, 63), (Obj.groupChannels 63, 2), (Obj.streamClass 7, 2)] 3 [(25, 1, 2)]).renderCheck 7
      (cmdAt 0 3 [(25, 1, 2)]).desc = none ∧
    (begun [] 3 []).freeJoint 0 = some 0 ∧ (objs [(Obj.tileMap, 1)]).tileOn 0 = true ∧
    (begun [] 4 []).flushPackets 7 0 = [] ∧
    ((ringOf [] 1 [{ cmdAt 0 4 [] with phase := .active }]).ring 7).cmds.find? (fun x => x.op == 4 && x.phase == .active) ≠ none := by
  decide +kernel
theorem witness_StreamMoves : (begun [(Obj.streamResidency 7, 1)] 6 []).rd (Obj.streamResidency 7) = 1 ∧
    (begun [(Obj.streamResidency 7, 1)] 6 []).pinned 7 = false ∧ (begun [(Obj.streamResidency 7, 1)] 6 []).stateSettled 7 = true ∧
    (begun [(Obj.streamResidency 7, 2)] 6 []).rd (Obj.streamResidency 7) = 2 ∧
    (begun [(Obj.streamResidency 7, 1)] 7 []).rd (Obj.streamSwapState 7) ≠ 5 ∧
    ({ State.reset with streams := [(7, { move := some ⟨1, false, 2, 0⟩, wakeOrder := some 0 })] }.stream 7).move = some ⟨1, false, 2, 0⟩ := by
  decide +kernel

/-! ### Witnesses: movers, loads, chunks and gather units -/

/-- A descriptor of 64 bytes that copies 8 bytes of host memory at 4096 to device memory. -/
def copyDesc (lo : Nat) : Bytes := fields 64 [(0, 4, 0x6084444D), (4, 1, 0), (5, 1, 1), (8, 8, 8), (16, 8, 4096), (24, 8, lo)]

theorem witness_Transfers :
    (begun [] 9 []).movesNaming 0 = [] ∧ (ringOf [] 1 [cmdAt 0 9 []]).rings ≠ [] ∧
    ((ringOf [] 1 [{ cmdAt 0 9 [] with phase := .active, xfer := some (Transfer.blank 0) }]).ring 7).cmds.find?
      (fun x => x.waitsContext.isSome) ≠ none ∧
    ((ringOf [] 1 [{ cmdAt 0 9 [] with phase := .active, xfer := some { Transfer.blank 0 with rearm := true } }]).ring 7).cmds.find?
      (fun x => x.op == 9 && x.phase == .active && x.final.isNone && ((x.xfer.map (·.rearm)).getD false)) ≠ none ∧
    (ringOf [] 1 []).waitsPage 7 0 = false ∧ (ringOf [] 1 []).contextsBusy < 256 ∧ (ringOf [] 1 []).shortInFlight < 4096 := by decide +kernel
theorem witness_TransferCopies : sideRuns (copyDesc 8192) false = [(4096, 8)] ∧ sideRuns (copyDesc 8192) true = [(8192, 8)] ∧
    descSpace (copyDesc 8192) true ∈ [1, 2, 3] ∧ descSpace (copyDesc 8192) false = 0 ∧
    descSpace (fields 64 [(4, 1, 2), (5, 1, 0), (8, 8, 8)]) false ∈ [1, 2, 3] ∧ descSpace (fields 64 [(4, 1, 2), (8, 8, 8)]) true = 0 := by
  decide +kernel
theorem witness_Loads : (∀ kind ∈ [0, 1, 2, 3], ((ringOf [] 1 [cmdAt 0 10 [(16, 1, kind)]]).loadTurn 7 kind).1 =
      some (cmdAt 0 10 [(16, 1, kind)])) ∧
    (objs [(Obj.planBoundStreams 3, 1)]).rd (Obj.planBoundStreams 3) ≠ 0 ∧ (objs []).rd (Obj.planBoundStreams 3) = 0 ∧
    (objs []).tableInUse 3 = false ∧ (objs []).targetsOk 3071 2 = false ∧
    ({ State.reset with loads := [⟨7, 0, 2, 239, 0, 0, [1], [], 0⟩] } : State).loads.find?
      (fun l => l.ring == 7 && l.counter == 0 && !l.image.isEmpty) = some ⟨7, 0, 2, 239, 0, 0, [1], [], 0⟩ := by decide +kernel

/-- A chunk that is released. -/
def chunkAt (tokens : Nat) : Chunk :=
  { position := 0, frames := 256, tokens := tokens, marks := [], segment := true, fin := false, out := 0, fetchedAt := 0, decoded := 0, booked := 0,
    done := 0, age := 0, aged := false, agedBooked := false, released := true, map := [], held := false, retuneHeld := false, produced := false, short := 0,
    clipped := none, spilled := 0, moved := (0, 0), ignores := 0, counts := [], error := none }

theorem witness_ChunkEnds :
    ((ringOf [] 1 [{ cmdAt 0 2 [] with phase := .active, chunk := some (chunkAt 0) }]).runningChunk 7).map (·.2) = some (chunkAt 0) ∧
    (ringOf [] 1 []).waitsPage 7 0 = false ∧ (ringOf [] 1 []).issues 7 (chunkAt 0) = true ∧
    (objs [(Obj.streamResidency 7, 1)]).rd (Obj.streamResidency 7) = 1 ∧ missedIn [(0, 256)] 0 256 ≠ none ∧ missedIn [] 0 256 = none ∧
    0 < ({ chunkAt 0 with spilled := 1 } : Chunk).spilled ∧ (chunkAt 0).clipped = none := by decide +kernel
theorem witness_GatherBatches : ((ringOf [] 1 [{ cmdAt 0 2 [] with phase := .active, chunk := some (chunkAt 0) }]).activeChunk 7).isSome = true ∧
    (objs [(Obj.gatherMap, 63)]).gatherOn 5 = true := by decide +kernel

/-! ### Witnesses: the house clock -/

theorem witness_Acquisition : (objs [(Obj.phase, 5)]).rd Obj.phase = 5 ∧ (objs [(Obj.phase, 5)]).rd Obj.clockState ≠ 2 ∧
    rateOf 20833333 = some 48000 ∧ rateOf 22675737 = some 44100 ∧ rateOf 1000 = none ∧
    (objs [(Obj.clockState, 1)]).rd Obj.clockState = 1 ∧ 3 ≤ (objs [(Obj.clockState, 5)]).rd Obj.clockState ∧
    ({ acq := 1024, acqRate := 48000 } : Clock).acq ≠ 0 ∧ ({ acq := 1023 } : Clock).acq < 1024 ∧
    (objs [(Obj.relockMode, 1), (Obj.ltcMode, 1)]).rd Obj.relockMode = 1 ∧ (objs []).rd Obj.relockMode ≠ 1 ∧ (objs []).rd Obj.role ≠ 2 ∧
    (objs [(Obj.ltcMode, 1)]).rd Obj.ltcMode ≠ 0 := by decide +kernel
theorem witness_Frames : (objs [(Obj.phase, 5), (Obj.clockState, 2)]).rd Obj.clockState = 2 ∧ ({} : Clock).first = true ∧ ({} : Clock).frames = 0 ∧
    periodFits 48000 20833333 = true ∧ periodFits 48000 20876827 = false ∧ (objs [(Obj.clockState, 4)]).rd Obj.clockState ∈ [3, 4, 5] := by
  decide +kernel
theorem witness_Boundaries : 2 ≤ (objs [(Obj.clockState, 2), (Obj.position, 256)]).rd Obj.clockState ∧
    (objs [(Obj.position, 256)]).rd Obj.position % 2 ^ (objs []).rd Obj.courseLog2 = 0 ∧ (objs [(Obj.position, 256)]).rd Obj.position % 16 = 0 ∧
    (objs []).clk.tickAt ≠ some (objs []).clk.frames ∧ (objs []).clk.boundaryAt ≠ some (objs []).clk.frames ∧
    (objs [(Obj.position, 17)]).rd Obj.position % 16 ≠ 0 := by decide +kernel
theorem witness_ClockLosses : (objs [(Obj.clockState, 2), (Obj.tieState, 2), (Obj.paired, 1), (Obj.role, 2)]).tieUp = true ∧
    (objs [(Obj.paired, 1)]).rd Obj.paired ≠ 0 ∧ 64 ≤ ({ badPeriods := 64 } : Clock).badPeriods ∧ ({ badPeriods := 63 } : Clock).badPeriods < 64 ∧
    0 < ({ badRatio := 1 } : Clock).badRatio ∧ ({} : Clock).ratioCounted = false ∧ 64 ≤ ({ goodRatio := 64 } : Clock).goodRatio ∧
    (objs [(Obj.clockState, 4), (Obj.coastedCourses, 64)]).coastOver = true ∧
    (objs [(Obj.clockState, 4), (Obj.coastedCourses, 63)]).coastOver = false ∧ (objs [(Obj.laneDirection 63, 1)]).rd (Obj.laneDirection 63) ≠ 0 := by
  decide +kernel
theorem witness_LabelFrames : 23 < 24 ∧ 59 < 60 ∧ 29 < 30 ∧ labelFrame 3 0x173B3B1D = 2589407 := by decide +kernel
/-- The hypotheses of the clauses about timecode: an intact label that follows, the label of R38's example, an anchor awaited. -/
theorem witness_Timecode : (true && (3 : Nat) != 0 && ltcLabelOk 3 0x010A0000) = true ∧
    labelFrame 3 0x010A0000 = (labelFrame 3 0x01093B1D + 1) % labelDay 3 ∧ 2 ≤ (objs [(Obj.clockState, 2)]).rd Obj.clockState ∧
    bit ((objs [(Obj.positionFlags, 16)]).rd Obj.positionFlags) 4 = true ∧ ({ anchor := some (0, 0) } : Clock).anchor = some (0, 0) ∧
    (objs []).rd Obj.ltcMode = 0 ∧ { objs [(Obj.ltcMode, 1), (Obj.houseRateHz, 48000)] with clk := { frames := 4001 } }.ltcPast 0 2 = true ∧
    { objs [(Obj.ltcMode, 1), (Obj.houseRateHz, 48000)] with clk := { frames := 4000 } }.ltcPast 0 2 = false ∧
    { objs [(Obj.clockState, 2), (Obj.cmarkArm, 1)] with clk := { cmarkPrev := some false, cmarkNow := some true } }.cmarkDue = true := by
  decide +kernel
theorem witness_CourseSyncs : (objs [(Obj.tieState, 2), (Obj.paired, 1)]).tieUp = true ∧ (List.replicate 32 (0 : Byte)).length = 32 ∧
    (objs [(Obj.role, 2)]).rd Obj.role = 2 ∧ bit (field (fields 32 [(29, 1, 1)]) 29 1) 0 = true ∧
    (objs [(Obj.position, 16)]).rd Obj.position + 16 = field (fields 32 [(0, 8, 32)]) 0 8 ∧ ({ first := false } : Clock).first = false ∧
    (objs []).tieUp = false := by decide +kernel

/-! ### Witnesses: joints, lanes, energy and memory -/

theorem witness_JointEvents : (bonded []).joints.find 0 ≠ none ∧ stageUnitKind ((bonded []).planImage 0) 1 ≠ 1 ∧
    (match ((bonded [.packet 5 [7] false 0 0 false]).joints.find 0).bind (fun j => j.recs.getLast?) with
      | some (.packet 5 [7] false 0 0 false) => true | _ => false) = true ∧
    (bonded []).waitCycle [] = false ∧
    ({ objs [(Obj.position, 1024)] with clk := { frames := 1024 }, joints :=
      [(0, ⟨0, 1, 1, 8, 1, 64, 64, 0, none, [], [{}], 0, 0, none, 0, some 7, 0⟩)] } : State).waitCycle [0] = true ∧
    (⟨[0], 1, [[]], []⟩ : Collector).take = none ∧ (⟨[0], 1, [[(5, 0, 0, [7])]], []⟩ : Collector).take.isSome = true ∧
    (objs [(Obj.overflowBytes, 64)]).overflowUsed + 0 ≤ (objs [(Obj.overflowBytes, 64)]).rd Obj.overflowBytes := by decide +kernel
theorem witness_LaneEvents : (objs [(Obj.laneDirection 5, 1), (Obj.laneFormat 5, 0), (Obj.formatFraming 0, 2)]).isAes 5 = true ∧
    (objs [(Obj.laneDirection 5, 1)]).rd (Obj.laneDirection 5) = 1 ∧ (objs []).isAes 5 = false ∧ ({} : AesIn).phi = none ∧
    64 ≤ ({ good := 64 } : AesIn).good ∧ ({ foreign := true, keep := 4096 } : AesIn).foreign = true ∧
    ({ State.reset with groups := [(3, { joint := some 0, frames := [(9, false)] })] }.group 3).joint = some 0 ∧
    (hosted [(Obj.groupCaptureEnable 3, 1)]).rd (Obj.groupCaptureEnable 3) ≠ 0 ∧ (hosted []).rd (Obj.groupCaptureSpace 3) = 0 ∧
    (hosted [(Obj.groupCaptureSpace 3, 2)]).rd (Obj.groupCaptureSpace 3) ≠ 0 ∧ (hosted []).waitsPage (32768 + 3) 0 = false := by
  decide +kernel
theorem witness_EnergyEvents : ({ running := true } : Sched).governed = false ∧ ({ running := true } : Sched).running = true ∧
    (objs []).rd Obj.lAllowanceMj * measureUnits ≤ ({ running := true } : Sched).measured ∧
    (([cmdAt 0 2 [], cmdAt 1 2 []]).map (·.counter)).Nodup ∧ (objs [(Obj.streamClass 7, 2)]).rd (Obj.streamClass 7) = 2 ∧
    (List.replicate 6 (⟨0, 0⟩ : RailSample)).length = 6 := by decide +kernel
theorem witness_Retraining : { objs [(Obj.dieInService 83, 1)] with clk := { frames := 2 ^ 40 } }.dueFor 83 .interval = true ∧
    (objs []).dueFor 83 .crcRetries = false ∧ (objs [(Obj.dieInService 83, 1)]).retrainable 83 = true ∧ ((objs []).die 83).due = none ∧
    ((objs []).die 83).window = none ∧ { State.reset with retrain := { dies := [(83, { window := some 256 })] } }.die 83 = { window := some 256 } ∧
    2 ≤ (objs [(Obj.dieRetrainFails 83, 2)]).rd (Obj.dieRetrainFails 83) ∧ (objs [(Obj.dieDegraded 83, 1), (Obj.dieInService 83, 1)]).retrainable 83 = false := by
  decide +kernel
theorem witness_MemoryErrors : rangeSpace 64 = some 1 ∧ (objs [(Obj.tileMap, 1)]).mapped 64 = true ∧
    (objs [(Obj.dieInService 83, 1)]).dieOf gddr7Base = some (0, 0) ∧ (objs [(Obj.dieInService 83, 1)]).mapped gddr7Base = true ∧
    (objs [(Obj.cxlBytes, 64), (Obj.expMapped 3, 64), (Obj.expBase 3, cxlBase)]).expanderOf cxlBase = some 3 ∧
    (objs [(Obj.brickPresent, 1)]).brickOn 0 = true ∧ 0 ∉ ((objs []).brick 0).bad ∧ (objs [(Obj.tileMap, 0)]).mapped 64 = false ∧
    (objs []).expanderOf 0 = none := by decide +kernel

/-! ### Witnesses: the cavity pair -/

/-- A flit of a kind, sequence number and acknowledgement, with its CRC. -/
def flitOf (kind seq ack : Nat) : Bytes :=
  let b := fields 240 [(0, 2, seq + 4096 * kind), (2, 2, ack)]
  b ++ leBytes 8 (crc64 b) ++ List.replicate 8 0

set_option maxRecDepth 100000 in
theorem witness_TieLink : (objs [(Obj.tieState, 2)]).tieUp = true ∧ (flitOf 0 0 4095).length = 256 ∧
    field (flitOf 0 0 4095) 240 8 = crc64 ((flitOf 0 0 4095).take 240) ∧ field (List.replicate 256 1) 240 8 ≠ crc64 ((List.replicate 256 1).take 240) ∧
    bits (field (flitOf 2 0 4095) 0 2) 13 12 = 2 ∧ bits (field (flitOf 1 0 4095) 0 2) 13 12 = 1 ∧
    (bits (field (flitOf 0 0 4095) 0 2) 11 0 + 4096 - (4095 + 1) % 4096) % 4096 = 0 ∧
    { State.reset with sent := [.tie 1 0 []] }.unacked = 1 ∧ State.reset.unacked = 0 ∧ 8 ≤ ({ replays := 8 } : PairRun).replays ∧
    (objs [(Obj.phase, 2)]).rd Obj.tieState = 0 ∧ (objs [(Obj.tieWidth, 8)]).rd Obj.tieWidth = 8 := by decide +kernel

/-- A HEARTBEAT: tick, role, flags. -/
def beatOf (tick role flags : Nat) : Bytes := fields 16 [(0, 8, tick), (8, 1, role), (9, 1, flags)]

theorem witness_Heartbeats : (beatOf 0 1 0).length = 16 ∧ field (beatOf 0 1 0) 8 1 = 1 ∧ bit (field (beatOf 0 1 1) 9 1) 0 = true ∧
    4 < field (beatOf 0 5 0) 8 1 ∧ (objs [(Obj.role, 1)]).rd Obj.role = 1 ∧ (objs [(Obj.role, 2), (Obj.partnerRole, 1)]).rd Obj.partnerRole = 1 ∧
    (objs [(Obj.role, 3)]).rd Obj.role = 3 ∧ ({ relinquish := true } : PairRun).relinquish = true ∧ (objs [(Obj.phase, 5)]).rd Obj.phase = 5 ∧
    ({ fedTick := some 0 } : PairRun).fedTick = some 0 ∧ 0 + 1 < (objs [(Obj.position, 32)]).rd Obj.position / 16 ∧
    (objs [(Obj.position, 31)]).rd Obj.position % 16 = 15 ∧ 2 ≤ { State.reset with pair := { silent := 2 } }.silentTicks ∧
    State.reset.silentTicks < 2 ∧ (objs [(Obj.paired, 1)]).rd Obj.paired ≠ 0 ∧ State.reset.pair.shadows = [] := by decide +kernel
theorem witness_StateCopies : (fields 16 []).length = 16 + 16 * field (fields 16 []) 8 2 ∧ State.reset.course < 0 + 3 ∧
    0 + 3 ≤ (objs [(Obj.position, 768)]).course ∧ (Map.find [(0, ([] : List DigestEntry))] 0) = some [] ∧
    (objs []).rd Obj.unmatched < maxOf Obj.unmatched ∧
    ([(⟨7, 0, 0, 0⟩ : Resync)]).find? (fun q => q.stream == 7) = some ⟨7, 0, 0, 0⟩ ∧ (objs [(Obj.streamResidency 7, 1)]).stateSettled 7 = true ∧
    0 ≤ (objs []).statePosition 7 ∧ bit (field (fields 16 [(3, 1, 4)]) 3 1) 2 = true ∧ field (fields 16 [(2, 1, 2)]) 2 1 = 2 ∧
    ((objs []).takeSegment (fields 20 [(3, 1, 3), (8, 8, 4)])).1 = some (List.replicate 4 0) ∧
    ((objs []).takeSegment (fields 20 [(3, 1, 0)])).1 = none := by decide +kernel
theorem witness_Checkpoints : (ringOf [] 1 [cmdAt 0 8 []]).findCmd 7 8 .waiting = none ∧ (begun [] 8 []).feedsDone 7 0 = true ∧
    (begun [] 8 []).rd (Obj.streamResidency 7) ≠ 3 ∧ field (cmdAt 0 8 [(16, 8, 4096)]).desc 16 8 ≠ 0 ∧ field (cmdAt 0 8 []).desc 16 8 = 0 ∧
    (begun [(Obj.streamClass 7, 0)] 8 []).rd (Obj.streamClass 7) = 0 ∧ (begun [(Obj.streamClass 7, 2)] 8 []).rd (Obj.streamClass 7) ≠ 0 ∧
    ((ringOf [] 1 [{ cmdAt 0 8 [] with phase := .waiting }]).findCmd 7 8 .waiting).isSome = true ∧
    field (fields 16 [(2, 1, 3), (3, 1, 8)]) 2 1 = 3 ∧ bit (field (fields 16 [(2, 1, 3), (3, 1, 8)]) 3 1) 3 = true := by decide +kernel
theorem witness_Leaves : (hosted [(Obj.role, 1), (Obj.partnerRole, 2), (Obj.tieState, 2), (Obj.paired, 1)]).rd Obj.partnerRole ∉ [0, 3] ∧
    (hosted [(Obj.role, 1), (Obj.partnerRole, 2), (Obj.tieState, 2), (Obj.paired, 1)]).tieUp = true ∧
    (hosted [(Obj.role, 1)]).levelOf 1 ≤ 1 ∧ (fields 8 [(0, 1, 2)]).length = 8 ∧ field (fields 8 [(0, 1, 2)]) 0 1 = 2 ∧
    ({ leaving := 3, toPush := [7] } : PairRun).leaving = 3 ∧ 7 ∈ ({ leaving := 3, toPush := [7] } : PairRun).toPush ∧
    (hosted [(Obj.role, 4)]).rd Obj.role = 4 ∧ 64 ≤ ({ leftFor := 64 } : PairRun).leftFor ∧ (hosted []).host = true := by decide +kernel
theorem witness_Pairings : (objs [(Obj.phase, 5)]).rd Obj.role = 0 ∧ (objs [(Obj.phase, 5)]).rd Obj.pairFailReason = 0 ∧
    State.reset.pair.alive = false ∧ 56 < (List.replicate 57 (0 : Byte)).length ∧ ({ joinNonce := [1] } : PairRun).joinNonce ≠ [] ∧
    ([] : Bytes).length < joinBytes ∧ field (fields 60 [(16, 1, 1)]) 16 32 ≠ (objs []).rd Obj.firmwareDigest ∧
    field (fields 60 []) 16 32 = (objs []).rd Obj.firmwareDigest ∧ (objs [(Obj.leafId, 1)]).rd Obj.leafId = 1 := by decide +kernel

/-! ### Witnesses: security and bring-up -/

theorem witness_RootOfTrust : ({ update := some [] } : Root).update = some [] ∧ State.reset.root.update = none ∧
    State.reset.slotState ⟨[], 0, false⟩ ≠ 1 ∧ (objs []).rd Obj.attestState = 0 ∧ ({ topIndex := some 0 } : Root).topIndex ≠ none ∧
    (hosted []).levelOf 0 = 0 ∧ 0 < ({ log := [(⟨1, 0, 0⟩, 0, 0)] } : Flash).log.length := by decide +kernel
theorem witness_Resets : (1099 : Int) < 1100 ∧ (1100 : Int) ≤ 1100 ∧ 6 ≤ (objs [(Obj.phase, 6)]).rd Obj.phase ∧ (objs []).rd Obj.phase < 6 := by
  decide +kernel
theorem witness_BringUp : State.reset.inPhase 0 = true ∧ State.reset.rst.wf = true ∧ State.reset.dict.wf = true ∧
    (∀ k ∈ [1, 2, 3, 4, 5], (objs [(Obj.phase, k)]).inPhase k = true) ∧ State.reset.boot.src = false ∧ State.reset.boot.stuck = false ∧
    State.reset.inPhase 1 = false ∧ (((State.reset.noteSlot 0 ⟨[], 0, false⟩).noteSlot 1 ⟨[], 0, true⟩).slotState ⟨[], 0, false⟩ ≠ 1) ∧
    (objs [(Obj.brickPresent, 2 ^ 3071)]).brickOn 3071 = true ∧ (objs [(Obj.phase, 5), (Obj.clockState, 2), (Obj.role, 1)]).inPhase 5 = true ∧
    (objs [(Obj.phase, 5), (Obj.role, 1)]).rd Obj.role ≠ 0 ∧ State.reset.boot.fuseBad = [] ∧ State.reset.flash.log = [] := by decide +kernel

/-! ### Witnesses: clauses about stops, poison, batches and what a reset keeps -/

theorem witness_Frames_stop : (objs [(Obj.houseRateHz, 48000)]).stoppedIn 83333334 = true ∧ (objs [(Obj.houseRateHz, 48000)]).stoppedIn 20833333 = false ∧
    (objs [(Obj.houseRateHz, 48000)]).rd Obj.houseRateHz ≠ 44100 := by decide +kernel
theorem witness_MemoryErrors_tileBuffer : (objs [(Obj.tileMap, 1)]).tileOn (0x7FFFFF / 0x800000) = true ∧
    (objs [(Obj.tileMap, 1)]).tileOn (0x800000 / 0x800000) = false := by decide +kernel
theorem witness_Resets_links : (55 : Fin 56).val ∉ State.reset.boot.linksDown ∧ 55 ∈ ({ linksDown := [55] } : Boot).linksDown := by decide
theorem witness_PortServices_queue :
    let d := fromOne (datagramOf 5 0 7 [])
    field d.body 3 1 = 5 ∧ managed.accepts d = true ∧ managed.rx.length < 32 ∧ 32 ≤ ({ managed with rx := List.replicate 32 d } : State).rx.length ∧
    managed.accepts { d with toPort := 24709 } = false ∧ ({ managed with rx := [d] } : State).rx = d :: [] := by decide +kernel
theorem witness_Fetching_plans : (ringOf [] 1 []).planLoaded 0 = false ∧ (bonded []).planLoaded 0 = true ∧ (ringOf [] 1 []).usesRing 7 = true ∧
    (objs []).usesRing 7 = false ∧ ({ State.reset with rings := [(7, { kept := true })] }.ring 7).kept = true ∧
    ((ringOf [] 1 []).ring 7).bindBefore 0 = false := by decide +kernel
theorem witness_StreamMoves_begins : (∀ op ∈ [6, 7], ∃ t, Begins (ringOf [] 1 [cmdAt 0 op []]) 7 op (cmdAt 0 op []) t) := by
  intro op hop
  have h : ∀ op ∈ [6, 7], ((ringOf [] 1 [cmdAt 0 op []]).startAgain 7 op).1 = some (cmdAt 0 op []) := by decide +kernel
  exact ⟨_, Prod.ext (h op hop) rfl⟩
theorem witness_StreamMoves_poison :
    let s : State := { objs [(Obj.streamResidency 7, 2), (Obj.streamStateTier 7, 1), (Obj.streamStateAddr 7, gddr7Base)] with
      streams := [(7, { placed := 64 })], poison := [(gddr7Base, 64)] }
    (s.readStop (s.moveReads 7)).2 = some (gddr7Base, 2) ∧ ((objs []).readStop []).2 = none := by decide +kernel
theorem witness_ChunkEnds_stops : (bonded []).stageStopped 7 = true ∧
    ({ bonded [] with bricks := [(0, { run := true })] } : State).stageStopped 7 = false := by decide +kernel
/-- A stream with a token to decode; whether its plan decodes is the plan's own attribute, which the model leaves open (R217). -/
def tokenAt : State :=
  ringOf [(Obj.streamResidency 7, 1)] 1 [{ cmdAt 0 2 [] with phase := .active, chunk := some { chunkAt 1 with released := true } }]
theorem witness_ChunkEnds_tokens (h : tokenAt.decodes 7 = true) : (tokenAt.tokenChunk 7).isSome = true ∧ tokenAt.tokenReady 7 = true := by
  refine ⟨by decide +kernel, ?_⟩
  unfold State.tokenReady
  simp only [h, Bool.true_and]
  decide +kernel
theorem witness_GatherBatches_stage : 7 < planStages (fields 32 [(20, 1, 8)]) ∧ ({ State.reset with batches := [(3, ⟨7, 0, 1, [], none, false⟩)] } : State).batches.wf = true := by
  decide +kernel
theorem witness_BringUp_kept : ({ State.reset with root := { fuses := some (⟨1, 0, 0, 0, none, 0, 0, [], []⟩ : Fuses) } } : State).root.fuses.isSome = true ∧
    ({ slotA := some ⟨[], 0, false⟩ } : Flash).slotA.isSome = true := by decide

end Sys2Proof.Tests
end

/-! SUPPORT. The fields of a timecode label (R35), its frame number at every rate and the frames in a day (R37). -/

namespace Sys2Proof.Machine

/-! ### The fields of a label -/

/-- The label of a time: [31:24] hours, [23:16] minutes, [15:8] seconds, [7:0] frames (R35). -/
def labelOf (h m sec f : Nat) : Nat := h * 2 ^ 24 + m * 2 ^ 16 + sec * 2 ^ 8 + f

section
variable {h m sec f : Nat}

theorem labelOf_hours (hh : h < 256) (hm : m < 256) (hs : sec < 256) (hf : f < 256) :
    bits (labelOf h m sec f) 31 24 = h := by
  simp only [bits, labelOf]
  omega

theorem labelOf_minutes (hm : m < 256) (hs : sec < 256) (hf : f < 256) :
    bits (labelOf h m sec f) 23 16 = m := by
  simp only [bits, labelOf]
  omega

theorem labelOf_seconds (hs : sec < 256) (hf : f < 256) : bits (labelOf h m sec f) 15 8 = sec := by
  simp only [bits, labelOf]
  omega

theorem labelOf_frames (hf : f < 256) : labelOf h m sec f % 256 = f := by
  simp only [labelOf]
  omega

/-! ### The frame number of a label -/

/-- R37 at the non-drop rates: whole seconds at the rate of the mode, then the frames. -/
theorem labelFrame_nonDrop {mode : Nat} (hmode : mode ≠ 3) (hh : h < 256) (hm : m < 256) (hs : sec < 256) (hf : f < 256) :
    labelFrame mode (labelOf h m sec f) =
      (3600 * h + 60 * m + sec) * nth 0 [0, 24, 25, 30, 30] mode + f := by
  simp [labelFrame, hmode, labelOf_hours hh hm hs hf, labelOf_minutes hm hs hf, labelOf_seconds hs hf, labelOf_frames hf]

/-- R37 at 29.97 drop-frame: two labels are left out in each minute not divisible by 10. -/
theorem labelFrame_drop (hh : h < 256) (hm : m < 256) (hs : sec < 256) (hf : f < 256) :
    labelFrame 3 (labelOf h m sec f) =
      (3600 * h + 60 * m + sec) * 30 + f - 2 * ((60 * h + m) - (60 * h + m) / 10) := by
  simp [labelFrame, labelOf_hours hh hm hs hf, labelOf_minutes hm hs hf, labelOf_seconds hs hf, labelOf_frames hf]

/-- The rate by which each non-drop LTC_MODE multiplies the seconds (R37). -/
theorem nonDrop_rate : ∀ mode ∈ [(1, 24), (2, 25), (4, 30)],
    mode.1 ≠ 3 ∧ nth 0 [0, 24, 25, 30, 30] mode.1 = mode.2 := by decide

end

/-- Settles O44: each field of the label is read back from it, so the frame number is R37's formula at every rate; the
days are the entries of the table. -/
theorem labelFrames : Obligations.LabelFrames := by
  refine ⟨fun h m sec f hh hm hs hf => ?_, rfl, rfl, rfl, rfl⟩
  have bh : h < 256 := by omega
  have bm : m < 256 := by omega
  have bs : sec < 256 := by omega
  have bf : f < 256 := by omega
  refine ⟨fun mode hmode => ?_, labelFrame_drop bh bm bs bf⟩
  obtain ⟨hne, hrate⟩ := nonDrop_rate mode hmode
  calc labelFrame mode.1 (labelOf h m sec f)
      = (3600 * h + 60 * m + sec) * nth 0 [0, 24, 25, 30, 30] mode.1 + f := labelFrame_nonDrop hne bh bm bs bf
    _ = (3600 * h + 60 * m + sec) * mode.2 + f := by rw [hrate]

end Sys2Proof.Machine

/-! SUPPORT. What an instruction a brick is ready for does, by the shape of its operands (R316, R329); local memory accesses (R320,
R321, R334) and the vector instructions (R335). -/

namespace Sys2Proof.Machine

/-! ### A brick instruction by the result of its operation -/

section
variable {s t : State} {k : BrickId} {i : Instr} {f : BOp} {b : Brick}

/-- An operation that completes: the brick goes on. -/
theorem Ready.exec_next (h : Ready s k i) (arm : exec i s = issue k i f s) (hf : f s (s.brick k.val) = .next t b) :
    exec i s = .next (t.goOn k b) := by
  rw [arm, issue_ready f h, hf, finishBrick_next]

/-- An operation that faults: the brick stops. -/
theorem Ready.exec_fault {c : Nat} (h : Ready s k i) (arm : exec i s = issue k i f s) (hf : f s (s.brick k.val) = .fault c) :
    exec i s = .next (s.brickFault k.val c) := by
  rw [arm, issue_ready f h, hf, finishBrick_fault]

/-- An operation with legal fields that completes. -/
theorem Ready.exec_legal {ok : Bool} (h : Ready s k i) (arm : exec i s = issue k i (legal ok f) s) (hok : ok = true)
    (hf : f s (s.brick k.val) = .next t b) : exec i s = .next (t.goOn k b) :=
  h.exec_next arm (by rw [hok, legal_true, hf])

/-- An operation with an illegal field faults with ILLEGAL. -/
theorem Ready.exec_illegal {ok : Bool} (h : Ready s k i) (arm : exec i s = issue k i (legal ok f) s) (hok : ok = false) :
    exec i s = .next (s.brickFault k.val 1) :=
  h.exec_fault arm (by rw [hok, legal_false])

end

/-- A field names a vector register when it is below 16 (R329). -/
@[simp] theorem vecOk_iff (f : Field5) : vecOk f = true ↔ f.toNat < 16 := decide_eq_true_iff

/-! ### Local memory (R320, R321, R334) -/

/-- The address of a memory instruction is the sum of R334 modulo 2^32. -/
theorem memAddr_eq (base : BitVec 32) (imm : BitVec 16) (scale : Nat) :
    (memAddr base imm scale : Int) = ((base.toNat : Int) + imm.toInt * scale) % 2 ^ 32 :=
  Int.toNat_of_nonneg (Int.emod_nonneg _ (by decide))

section
variable {s : State} {b : Brick} {addr n : Nat}

theorem load_fault {c : Nat} (f : Nat → Brick → Brick) (h : b.accessFault addr n false = some c) :
    load addr n f s b = .fault c := by simp only [load, h]

theorem load_next (f : Nat → Brick → Brick) (h : b.accessFault addr n false = none) :
    load addr n f s b = .next s (f (ofLE (b.mem.readBytes addr n)) b) := by simp only [load, h]

theorem store_fault {c : Nat} (v : Nat) (h : b.accessFault addr n true = some c) :
    store addr n v s b = .fault c := by simp only [store, h]

theorem store_next (v : Nat) (h : b.accessFault addr n true = none) :
    store addr n v s b = .next s { b with
      mem := b.mem.writeBytes addr (leBytes n v)
      bad := b.bad.filter (fun w => !(addr ≤ 8 * w && 8 * w + 8 ≤ addr + n)) } := by simp only [store, h]

/-- An address out of range or not aligned faults with BOUNDS before anything else is looked at. -/
theorem accessFault_bounds (h : 262144 < addr + n ∨ addr % n ≠ 0) (st : Bool) : b.accessFault addr n st = some 2 := by
  simp [Brick.accessFault, h]

/-- A store within local memory faults in the code alone. -/
theorem accessFault_store (hin : addr + n ≤ 262144) (hal : addr % n = 0) :
    b.accessFault addr n true = if addr < b.codeBytes then some 3 else none := by
  simp [Brick.accessFault, hal, hin]

/-- A load within local memory faults on a bad word it touches alone. -/
theorem accessFault_load (hin : addr + n ≤ 262144) (hal : addr % n = 0) :
    b.accessFault addr n false = if b.bad.any (fun w => addr / 8 ≤ w && w ≤ (addr + n - 1) / 8) then some 4 else none := by
  simp [Brick.accessFault, hal, hin]

end

section
variable {s : State} {k : BrickId} {i : Instr} {f : BOp}

/-- A memory instruction whose operation is a load: it faults with the access, or completes with the bytes loaded. -/
theorem Ready.exec_load {addr n : Nat} {g : Nat → Brick → Brick} (h : Ready s k i) (arm : exec i s = issue k i f s)
    (hf : f s (s.brick k.val) = load addr n g s (s.brick k.val)) :
    (∀ c, (s.brick k.val).accessFault addr n false = some c → exec i s = .next (s.brickFault k.val c)) ∧
    ((s.brick k.val).accessFault addr n false = none →
      exec i s = .next (s.goOn k (g (ofLE ((s.brick k.val).mem.readBytes addr n)) (s.brick k.val)))) :=
  ⟨fun _ hc => h.exec_fault arm (hf.trans (load_fault g hc)), fun hn => h.exec_next arm (hf.trans (load_next g hn))⟩

/-- A memory instruction whose operation is a store: it faults with the access, or completes with the bytes stored. -/
theorem Ready.exec_store {addr n v : Nat} (h : Ready s k i) (arm : exec i s = issue k i f s)
    (hf : f s (s.brick k.val) = store addr n v s (s.brick k.val)) :
    (∀ c, (s.brick k.val).accessFault addr n true = some c → exec i s = .next (s.brickFault k.val c)) ∧
    ((s.brick k.val).accessFault addr n true = none →
      exec i s = .next (s.goOn k { s.brick k.val with
        mem := (s.brick k.val).mem.writeBytes addr (leBytes n v)
        bad := (s.brick k.val).bad.filter (fun w => !(addr ≤ 8 * w && 8 * w + 8 ≤ addr + n)) })) :=
  ⟨fun _ hc => h.exec_fault arm (hf.trans (store_fault v hc)), fun hn => h.exec_next arm (hf.trans (store_next v hn))⟩

end

/-- The fault of an access: BOUNDS, then PROTECTED for a store, ECC for a load. -/
theorem accessFault_spec (b : Brick) (addr n : Nat) :
    (262144 < addr + n ∨ addr % n ≠ 0 → ∀ st, b.accessFault addr n st = some 2) ∧
    (addr + n ≤ 262144 → addr % n = 0 →
      (b.accessFault addr n true = if addr < b.codeBytes then some 3 else none) ∧
      (b.accessFault addr n false = none ↔ ∀ w ∈ b.bad, ¬ (addr / 8 ≤ w ∧ w ≤ (addr + n - 1) / 8))) := by
  refine ⟨accessFault_bounds, fun hin hal => ⟨accessFault_store hin hal, ?_⟩⟩
  rw [accessFault_load hin hal]
  simp

/-- Settles O8: each memory instruction is a load or a store at the address of R334, under a check of the vector register it
names, and both do what the fault of their access leaves them to do. -/
theorem brickLoadsAndStores : Obligations.BrickLoadsAndStores := by
  refine ⟨fun s k d a imm => ⟨⟨memAddr_eq _ imm 4, memAddr_eq _ imm 64⟩, ?encodings, ?lw, ?sw, ?vld, ?vst⟩,
    fun b addr n _ => accessFault_spec b addr n⟩
  case encodings =>
    simp only [List.forall_mem_cons, List.mem_singleton, forall_eq]
    and_intros <;> rfl
  case lw => exact fun h => h.exec_load rfl rfl
  case sw => exact fun h => h.exec_store rfl rfl
  case vld => exact fun h hd => h.exec_load rfl (by rw [(vecOk_iff d).2 hd, legal_true])
  case vst => exact fun h hd => h.exec_store rfl (by rw [(vecOk_iff d).2 hd, legal_true])

/-! ### Lanes (R335) -/

/-- The fields of a lane instruction on two vector registers are illegal when one of them names none (R329). -/
theorem vec2_fields_illegal {d a b : Field5} (h : 16 ≤ d.toNat ∨ 16 ≤ a.toNat ∨ 16 ≤ b.toNat) :
    (vecOk d && vecOk a && vecOk b && (0 : Field5) == 0) = false := by
  simp only [vecOk, Bool.and_eq_false_iff, decide_eq_false_iff_not]
  omega

/-- Settles O10: every vector instruction is its operation under a check of the vector registers it names and of the fields it
leaves unused, so with legal fields it completes with that operation's result. -/
theorem brickLaneResults : Obligations.BrickLaneResults := by
  refine ⟨?lanes, ⟨?scalar, ?single, fun s k d a c h hd ha => ?curve⟩,
    fun s k d a b c hd ha => ⟨fun h hb => ?fma, fun h => ?fmas⟩,
    fun s k d a b c => ⟨?encodings, ?masks, fun h hd ha hb => ?sel, fun h hd => ?bc, fun h ha => ?get, fun h hd => ?put,
      fun h hd ha hb => ?perm, fun h ha => ?sum, fun h ha => ?hmax, fun h hd ha => ?mov⟩⟩
  case lanes =>
    simp only [List.forall_mem_cons, List.mem_singleton, forall_eq]
    and_intros <;> exact fun s k d a b h => ⟨fun hd ha hb => h.exec_legal rfl (by simp [hd, ha, hb]) rfl,
      fun hout => h.exec_illegal rfl (vec2_fields_illegal hout)⟩
  case scalar =>
    simp only [List.forall_mem_cons, List.mem_singleton, forall_eq]
    and_intros <;> exact fun s k d a c h hd ha => h.exec_legal rfl (by simp [hd, ha]) rfl
  case single =>
    simp only [List.forall_mem_cons, List.mem_singleton, forall_eq]
    and_intros <;> exact fun s k d a h hd ha => h.exec_legal rfl (by simp [hd, ha]) rfl
  case encodings =>
    simp only [List.forall_mem_cons, List.mem_singleton, forall_eq]
    and_intros <;> rfl
  case masks =>
    simp only [List.forall_mem_cons, List.mem_singleton, forall_eq]
    and_intros <;> exact fun h ha hb => h.exec_legal rfl (by simp [ha, hb]) rfl
  case fma | sel | perm => exact h.exec_legal rfl (by simp [hd, ha, hb]) rfl
  case curve | fmas | mov => exact h.exec_legal rfl (by simp [hd, ha]) rfl
  case bc | put => exact h.exec_legal rfl (by simp [hd]) rfl
  case get | sum | hmax => exact h.exec_legal rfl (by simp [ha]) rfl

end Sys2Proof.Machine

/-! SUPPORT. The fields of a brick word in each layout of R328, and the decoder on the words of the encoder. -/

namespace Sys2Proof.Machine

section
variable (op fn : BitVec 6) (d a b c : Field5) (imm : BitVec 16) (target : BitVec 26)

/-! ### The fields of a word (R328) -/

theorem regWord_fields :
    (regWord op d a b c fn).extractLsb' 26 6 = op ∧ (regWord op d a b c fn).extractLsb' 21 5 = d ∧
    (regWord op d a b c fn).extractLsb' 16 5 = a ∧ (regWord op d a b c fn).extractLsb' 11 5 = b ∧
    (regWord op d a b c fn).extractLsb' 6 5 = c ∧ (regWord op d a b c fn).extractLsb' 0 6 = fn := by
  unfold regWord
  and_intros <;> refine BitVec.eq_of_getLsbD_eq fun i hi => ?_ <;>
    simp only [BitVec.getLsbD_extractLsb', BitVec.getLsbD_append] <;> grind only

theorem immWord_fields :
    (immWord op d a imm).extractLsb' 26 6 = op ∧ (immWord op d a imm).extractLsb' 21 5 = d ∧
    (immWord op d a imm).extractLsb' 16 5 = a ∧ (immWord op d a imm).extractLsb' 0 16 = imm := by
  unfold immWord
  and_intros <;> refine BitVec.eq_of_getLsbD_eq fun i hi => ?_ <;>
    simp only [BitVec.getLsbD_extractLsb', BitVec.getLsbD_append] <;> grind only

theorem jumpWord_fields :
    (jumpWord op target).extractLsb' 26 6 = op ∧ (jumpWord op target).extractLsb' 0 26 = target :=
  ⟨BitVec.extractLsb'_append_eq_left, BitVec.extractLsb'_append_eq_right⟩

/-! ### The decoder by operation code -/

variable (k : BrickId)

theorem brickDecode_scalar : brickDecode k (regWord 0x00#6 d a b c fn) = decodeScalar k d a b c fn.toNat := by
  simp only [brickDecode, regWord_fields]; rfl

theorem brickDecode_vector : brickDecode k (regWord 0x20#6 d a b c fn) = decodeVector k d a b c fn.toNat := by
  simp only [brickDecode, regWord_fields]; rfl

theorem brickDecode_acc : brickDecode k (regWord 0x25#6 d a b c fn) = decodeAcc k d a b c fn.toNat := by
  simp only [brickDecode, regWord_fields]; rfl

theorem brickDecode_joint : brickDecode k (regWord 0x28#6 d a b c fn) = decodeJoint k d a b c fn.toNat := by
  simp only [brickDecode, regWord_fields]; rfl

end

/-- Settles O4, by the layout of each instruction: its fields are read back whole, and its codes select it again. -/
theorem brickDecodeOfEncode : Obligations.BrickDecodeOfEncode := by
  intro i k hk
  cases i <;> cases hk <;> refine ⟨_, rfl, ?_⟩
  case jr | draw | vcvtw | vcvtn | vcvtns | mv => simp only [brickDecode, regWord_fields]; rfl
  case addi | andi | ori | xori | slti | lui | shli | shri | srai | lw | sw | vld | vst | loop | csrr | csrw |
      beq | bne | blt | bge | bltu | bgeu => simp only [brickDecode, immWord_fields]; rfl
  case jmp | call | halt => simp only [brickDecode, jumpWord_fields]; rfl
  case azero | afin | aadd | asumv | acmp | azeroi => exact brickDecode_acc ..
  case jrdv | jrds | jwrv | jwrs | jend | jtag | jnext | jdisc | jmark | jrew | jrel => exact brickDecode_joint ..
  case vfadd | vfsub | vfmul | vfma | vfmas | vfmuls | vfmin | vfmax | vfdiv | vfsqrt | vcurve | vffloor | vflt | vfeq | vsel |
      vadd | vsub | vand | vor | vxor | vshl | vshr | vsra | vmul | vbc | vget | vput | vperm | vsum | vhmax | vmov =>
    exact brickDecode_vector ..
  all_goals exact brickDecode_scalar ..

end Sys2Proof.Machine

/-! SUPPORT. The scalar and control instructions of bricks (R331-R333, R344). -/

namespace Sys2Proof.Machine

/-! ### Scalar results (R331) -/

section
variable {s : State} {k : BrickId} {i : Instr} {d a b : Field5} {imm : BitVec 16} {v : BitVec 32}

/-- An instruction on two source registers completes with its result, in whatever terms the result is given. -/
theorem Ready.exec_alu2 {f : BitVec 32 → BitVec 32 → BitVec 32} (h : Ready s k i)
    (arm : exec i s = issue k i (alu2 d a b 0 f) s) (hv : f ((s.brick k.val).s a) ((s.brick k.val).s b) = v) :
    exec i s = .next (s.goOn k ((s.brick k.val).setS d v)) :=
  h.exec_legal arm rfl (by rw [hv])

/-- An immediate instruction completes with its result, or faults with ILLEGAL. -/
theorem Ready.exec_aluImm {ok ok' : Bool} {f : BitVec 32 → BitVec 16 → BitVec 32} (h : Ready s k i)
    (arm : exec i s = issue k i (aluImm d a imm ok f) s) (hok : ok = ok')
    (hv : ok' = true → f ((s.brick k.val).s a) imm = v) :
    (ok' = true → exec i s = .next (s.goOn k ((s.brick k.val).setS d v))) ∧
    (ok' = false → exec i s = .next (s.brickFault k.val 1)) :=
  ⟨fun ht => h.exec_legal arm (hok.trans ht) (by rw [hv ht]), fun hf => h.exec_illegal arm (hok.trans hf)⟩

end

/-- A 16-bit value shifted up by 16 places in 32 bits. -/
theorem setWidth_shiftLeft_16 (y : BitVec 16) : y.setWidth 32 <<< 16 = BitVec.ofNat 32 (y.toNat * 65536) := by
  apply BitVec.eq_of_toNat_eq
  simp [Nat.shiftLeft_eq]

/-- Settles O6: every scalar instruction is its operation under a check of the fields it leaves unused. -/
theorem brickScalarResults : Obligations.BrickScalarResults := by
  refine ⟨?integer, ?immediate, ?fp2, ?fma, ?sqrt, ?curve, ?convert⟩
  case integer =>
    simp only [List.forall_mem_cons, List.mem_singleton, forall_eq]
    and_intros <;> exact fun s k d a b h => h.exec_alu2 rfl (by simp [BitVec.slt, BitVec.ult])
  case immediate =>
    intro e he s k d a imm
    simp only [List.mem_cons, List.not_mem_nil, or_false] at he
    rcases he with rfl | rfl | rfl | rfl | rfl | rfl | rfl | rfl | rfl <;>
      exact fun h => h.exec_aluImm rfl rfl (by simp +contextual [BitVec.slt, setWidth_shiftLeft_16, Nat.mod_eq_of_lt,
        BitVec.toInt_signExtend_of_le])
  case fp2 =>
    simp only [List.forall_mem_cons, List.mem_singleton, forall_eq]
    and_intros <;> exact fun s k d a b h => h.exec_legal rfl rfl rfl
  case fma =>
    intro s k d a b c h
    exact h.exec_next (show exec _ s = execFma k d a b c s from rfl) rfl
  case sqrt => exact fun s k d a h => h.exec_legal rfl rfl rfl
  case curve => exact fun s k d a b h => h.exec_legal rfl rfl rfl
  case convert =>
    simp only [List.forall_mem_cons, List.mem_singleton, forall_eq]
    and_intros <;> exact fun s k d a h => h.exec_legal rfl rfl rfl

/-! ### Control (R331, R332, R344) -/

section
variable {s t : State} {k : BrickId} {i : Instr} {f : BOp} {b : Brick}

/-- An operation that takes a branch. -/
theorem Ready.exec_goto {target : Nat} (h : Ready s k i) (arm : exec i s = issue k i f s)
    (hf : f s (s.brick k.val) = .goto t b target) : exec i s = .next (t.branchTo k b target) := by
  rw [arm, issue_ready f h, hf, finishBrick_goto]

/-- A branch goes to own index + sext(OFF) when its condition holds, else on. -/
theorem Ready.exec_branch {x y : Field5} {off : BitVec 16} {g : BitVec 32 → BitVec 32 → Bool} {c : Bool} (h : Ready s k i)
    (arm : exec i s = issue k i (branch x y off g) s) (hc : g ((s.brick k.val).s x) ((s.brick k.val).s y) = c) :
    exec i s = .next (if c then s.branchTo k (s.brick k.val) (ofSigned 32 (((s.brick k.val).pc : Int) + off.toInt))
      else s.goOn k (s.brick k.val)) := by
  cases c with
  | true => exact h.exec_goto arm (by simp [branch, hc])
  | false => exact h.exec_next arm (by simp [branch, hc])

end

/-- The fields of a LOOP that R332 allows. -/
theorem loop_fields {imm : BitVec 16} (h1 : 1 ≤ imm.toNat) (h2 : imm.toNat ≤ 4095) :
    ((0 : Field5) == 0 && imm != 0 && decide (imm.toNat ≤ 4095)) = true := by
  have : imm ≠ 0#16 := by rintro rfl; simp at h1
  simp [this, h2]

/-- A status register exists for each number of the table (R344), and for no other. -/
theorem csrValue_isSome_iff (s : State) (k : Nat) (q : Brick) (n : Nat) : (csrValue s k q n).isSome = true ↔ n ≤ 6 := by
  constructor
  · refine fun h => Nat.le_of_not_lt fun hn => ?_
    obtain ⟨m, rfl⟩ : ∃ m, n = m + 7 := ⟨n - 7, by omega⟩
    simp [csrValue] at h
  · intro h
    rcases (by omega : n = 0 ∨ n = 1 ∨ n = 2 ∨ n = 3 ∨ n = 4 ∨ n = 5 ∨ n = 6) with rfl | rfl | rfl | rfl | rfl | rfl | rfl <;> rfl

/-- The loop stack at an instruction: the innermost loop runs again, ends, or is not at its last instruction (R332). -/
theorem loopNext_cons (first last left pc : Nat) (ls : List LoopFrame) :
    loopNext pc (⟨first, last, left⟩ :: ls) =
      if pc = last then (if 1 < left then (first, ⟨first, last, left - 1⟩ :: ls) else loopNext pc ls)
      else (pc + 1, ⟨first, last, left⟩ :: ls) := by
  simp [loopNext]

/-- Settles O7: branches and jumps go where their operation says, a LOOP by its count and the loops open, and each status
register by its number. -/
theorem brickControl : Obligations.BrickControl := by
  refine ⟨?branches, fun s k a target imm => ⟨fun h => ?jmp, fun h => ?call,
    fun h => h.exec_goto rfl rfl, fun h h1 h2 hl => ⟨fun h0 => ?skip, fun h0 => ?enter⟩, fun h h1 h2 hl => ?deep,
    fun h => h.exec_fault rfl rfl⟩, fun first last left ls => ?loops,
    fun s k d imm => ⟨fun h hle => ?read, fun h hgt => ?noRegister, fun h => h.exec_next rfl rfl, fun h hne => ?noWrite⟩⟩
  case branches =>
    simp only [List.forall_mem_cons, List.mem_singleton, forall_eq]
    and_intros <;> exact fun s k a b off h => h.exec_branch rfl (by rw [Bool.eq_iff_iff]; simp [BitVec.slt, BitVec.ult])
  case jmp => exact h.exec_goto (show exec _ s = execJmp k target s from rfl) rfl
  case call => exact h.exec_goto (show exec _ s = execCall k target s from rfl) rfl
  case skip =>
    refine h.exec_legal rfl (loop_fields h1 h2) ?_
    have : (s.brick k.val).s a = 0 := BitVec.eq_of_toNat_eq h0
    simp [this, hl]
  case enter =>
    have hne : (s.brick k.val).s a ≠ 0 := fun h => h0 (by rw [h]; rfl)
    refine (h.exec_goto (t := s) (b := { s.brick k.val with loops := ⟨(s.brick k.val).pc + 1,
      (s.brick k.val).pc + imm.toNat, ((s.brick k.val).s a).toNat⟩ :: (s.brick k.val).loops })
      (target := (s.brick k.val).pc + 1) rfl ?_).trans ?_
    · simp only [loop_fields h1 h2, legal_true, if_neg (show ¬ (s.brick k.val).loops.length ≥ 2 by omega), if_neg hne]
    · rw [State.branchTo, loopBranch, if_pos (by simp; omega)]
  case deep =>
    refine h.exec_fault rfl ?_
    simp only [loop_fields h1 h2, legal_true, if_pos (show (s.brick k.val).loops.length ≥ 2 from hl)]
  case loops =>
    refine ⟨fun h => ?_, fun h => ?_, fun pc h => ?_, fun pc => rfl⟩ <;> rw [loopNext_cons]
    · simp [show 1 < left from h]
    · simp [show ¬ 1 < left by omega]
    · simp [h]
  case read =>
    obtain ⟨v, hv⟩ := Option.isSome_iff_exists.1 ((csrValue_isSome_iff s k.val (s.brick k.val) imm.toNat).2 hle)
    exact ⟨v, hv, h.exec_legal rfl rfl (by simp [hv])⟩
  case noRegister =>
    have hv : csrValue s k.val (s.brick k.val) imm.toNat = none := by
      rw [← Option.not_isSome_iff_eq_none, csrValue_isSome_iff]; omega
    exact h.exec_fault rfl (by simp [hv])
  case noWrite =>
    refine h.exec_illegal rfl ?_
    have : imm ≠ 5#16 := by rintro rfl; exact hne rfl
    simp [this]

end Sys2Proof.Machine

/-! SUPPORT. The scalar registers (R314), stores (R334), conversions (R336, R337), accumulators (R341) and MV (R340) of bricks. -/

namespace Sys2Proof.Machine

/-! ### Scalar registers (R314) -/

section
variable {b : Brick} {f g : Field5} {v : BitVec 32}

/-- A register other than s0 reads what was written. -/
theorem Brick.s_setS_self (hlen : b.regs.length = 32) (hf : f ≠ 0) : (b.setS f v).s f = v := by
  have : f.toNat < b.regs.length := by have := f.isLt; omega
  rw [Brick.s, Brick.setS, if_neg hf, if_neg hf]
  simp [nth, setNth, this]

/-- A write leaves every other register as it was. -/
theorem Brick.s_setS_ne (h : f ≠ g) : (b.setS f v).s g = b.s g := by
  by_cases hf : f = 0
  · subst hf; rfl
  · have : f.toNat ≠ g.toNat := fun e => h (BitVec.eq_of_toNat_eq e)
    rw [Brick.s, Brick.setS, if_neg hf]
    simp [Brick.s, nth, setNth, List.getElem?_set_ne this]

end

/-- Settles O16. -/
theorem brickScalarRegisters : Obligations.BrickScalarRegisters :=
  fun b _ _ v hlen => ⟨b.s_zero, b.setS_zero v, Brick.s_setS_self hlen, Brick.s_setS_ne⟩

/-! ### Stores (R334) -/

@[simp] theorem leBytes_length (n v : Nat) : (leBytes n v).length = n := by
  induction n generalizing v with
  | zero => rfl
  | succ n ih => simp [leBytes, ih]

/-- The bytes read at an address are the bytes there. -/
theorem Memory.readBytes_eq_of_read (m : Memory) (a : Nat) (bs : Bytes)
    (h : ∀ i (hi : i < bs.length), m.read (a + i) = bs[i]) : m.readBytes a bs.length = bs := by
  induction bs generalizing a with
  | nil => rfl
  | cons b bs ih =>
    have hhead : m.read a = b := h 0 (by simp)
    have htail : m.readBytes (a + 1) bs.length = bs :=
      ih (a + 1) fun i hi => by
        rw [show a + 1 + i = a + (i + 1) by omega, h (i + 1) (by simpa using hi)]; rfl
    simp [Memory.readBytes, hhead, htail]

/-- Bytes written read back. -/
theorem Memory.readBytes_writeBytes (m : Memory) (a : Nat) (bs : Bytes) (h : m.wf = true) :
    (m.writeBytes a bs).readBytes a bs.length = bs :=
  Memory.readBytes_eq_of_read _ _ _ fun i hi => Memory.read_writeBytes_inside m a i bs h hi

@[simp] theorem State.brick_goOn_mem (s : State) (k : BrickId) (b : Brick) : ((s.goOn k b).brick k.val).mem = b.mem := by
  simp [State.goOn]

/-- A store of `n` bytes: they read back, every other byte reads as before, and the memory stays in canonical form. -/
theorem Memory.store_frame (m : Memory) (a n v : Nat) (h : m.wf = true) :
    (m.writeBytes a (leBytes n v)).readBytes a n = leBytes n v ∧
    (∀ x, x < a ∨ a + n ≤ x → (m.writeBytes a (leBytes n v)).read x = m.read x) ∧
    (m.writeBytes a (leBytes n v)).wf = true := by
  refine ⟨?_, fun x hx => Memory.read_writeBytes_outside m a x _ h (by simpa using hx), Memory.writeBytes_wf m a _ h⟩
  simpa using Memory.readBytes_writeBytes m a (leBytes n v) h

/-- Settles O9: SW and VST complete with the bytes of their register stored at the address of R334. -/
theorem brickStoreFrame : Obligations.BrickStoreFrame := by
  refine fun s k d a imm hwf t => ⟨fun ⟨h, hn, ht⟩ => ?sw, fun ⟨h, hd, hn, ht⟩ => ?vst⟩
  case sw =>
    obtain ⟨_, hstore⟩ := brickLoadsAndStores.1 s k d a imm |>.2.2.2.1 h
    cases (hstore hn).symm.trans ht
    simpa using Memory.store_frame _ _ 4 _ hwf
  case vst =>
    obtain ⟨_, hstore⟩ := brickLoadsAndStores.1 s k d a imm |>.2.2.2.2.2 h hd
    cases (hstore hn).symm.trans ht
    simpa using Memory.store_frame _ _ 64 _ hwf

/-! ### Conversions (R336, R337) -/

@[simp] theorem accOk_iff (f : Field5) : accOk f = true ↔ f.toNat < 4 := decide_eq_true_iff
@[simp] theorem pairOk_iff (f : Field5) : pairOk f = true ↔ f.toNat % 2 = 0 := by simp [pairOk]
theorem destPairOk_iff (f : Field5) : destPairOk f = true ↔ f.toNat % 2 = 0 ∧ f ≠ 0 := by simp [destPairOk]

/-- Settles O11: with legal fields each conversion is its operation, and VCVTNS waits for the first JNEXT. -/
theorem brickConversions : Obligations.BrickConversions := by
  refine fun s k d a b c fn hd ha hp => ⟨fun h => ?widen, fun h => ?narrow, fun h hb hf => ⟨fun hs => ?stochastic, fun hs => ?early⟩⟩
  case widen => exact h.exec_legal rfl (by simp [hd, ha, hp]) rfl
  case narrow => exact h.exec_legal rfl (by simp [hd, ha, hp]) rfl
  case stochastic => exact h.exec_legal rfl (by simp [hd, ha, hb, hp, hf]) (by simp only [hs]; rfl)
  case early =>
    refine h.exec_fault rfl ?_
    simp [legal, hs, hd, ha, hb, hp, hf]

end Sys2Proof.Machine

/-! SUPPORT. The accumulator instructions of bricks and MV (R338-R341). -/

namespace Sys2Proof.Machine

/-! ### Elements into a lane (R338) -/

/-- Elements taken with their NaNs counted enter the lane one after another. -/
theorem AccLane.takeAll_fst (l : AccLane) (xs : List Fv) : (l.takeAll xs).1 = xs.foldl (fun l x => l.take x) l := by
  suffices h : ∀ (l : AccLane) (n : Nat), (xs.foldl (fun (p : AccLane × Nat) x =>
      (p.1.take x, p.2 + (if p.1.count == 256 then p.1.nanAtClose else 0))) (l, n)).1 = xs.foldl (fun l x => l.take x) l from h l 0
  induction xs with
  | nil => exact fun _ _ => rfl
  | cons x xs ih => exact fun _ _ => ih _ _

section
variable {s : State} {k : BrickId} {d a b : Field5}

/-- AFIN takes each lane's result in the accumulator's mode and clears it. -/
theorem Ready.exec_afin (h : Ready s k (.afin k d a 0 0)) (hd : d.toNat < 16) (ha : a.toNat < 4) :
    let acc := (s.brick k.val).acc a
    exec (.afin k d a 0 0) s = .next ((s.nanProduced (if acc.int then 0 else sumN (acc.lanes.map AccLane.nanAtFin))).goOn k
      (((s.brick k.val).setV d (ofLanes (acc.lanes.map (fun l => if acc.int then BitVec.ofInt 32 l.sum.val else l.fin)))).setAcc a
        { int := acc.int })) :=
  h.exec_legal rfl (by simp [hd, ha]) rfl

/-- AADD and ASUMV fault on an accumulator in integer mode. -/
theorem Ready.exec_accInt {i : Instr} {ok : Bool} {f : BOp} (h : Ready s k i)
    (arm : exec i s = issue k i (legal ok fun s0 q => if (q.acc d).int then .fault 6 else f s0 q) s) (hok : ok = true)
    (hint : ((s.brick k.val).acc d).int = true) : exec i s = .next (s.brickFault k.val 6) :=
  h.exec_fault arm (by rw [hok, legal_true, if_pos hint])

end

/-- Settles O12: each accumulator instruction is its operation under a check of its fields; the lanes it leaves are those the
elements of R338 have entered. -/
theorem brickAccumulators : Obligations.BrickAccumulators := by
  refine fun s k d a b => ⟨?encodings, fun h hd => ?azero, fun h hd => ?azeroi,
    fun h hd ha => ⟨fun hi => ?finInt, fun hi => ?finFloat⟩, fun h hd ha => ⟨fun hi => ?add, fun hi => ?addFault⟩,
    fun h hd ha => ⟨fun hi => ?sum, fun hi => ?sumFault⟩,
    fun h ha => ⟨fun hf => ?cmpFault, fun hi hs => ⟨fun r hr => ?cmp, fun hr => ?cmpNan⟩⟩⟩
  case encodings =>
    simp only [List.forall_mem_cons, List.mem_singleton, forall_eq]
    and_intros <;> exact fun c => rfl
  case azero | azeroi => exact h.exec_legal rfl (by simp [hd]) rfl
  case finInt | finFloat => simpa [hi] using h.exec_afin hd ha
  case add =>
    refine h.exec_legal rfl (by simp [hd, ha]) ?_
    simp [hi, List.map_zipWith, AccLane.takeAll_fst]
  case sum =>
    refine h.exec_legal rfl (by simp [hd, ha]) ?_
    simp [hi, AccLane.takeAll_fst, List.foldl_map, setNth]
  case addFault | sumFault => exact h.exec_accInt rfl (by simp [hd, ha]) hi
  case cmpFault =>
    refine h.exec_fault rfl ?_
    rcases hf with hi | hs
    · simp [legal, ha, hi]
    · simp [legal, ha, hs]
  case cmp => exact h.exec_legal rfl (by simp [ha]) (by simp [hi, hs, hr])
  case cmpNan => exact h.exec_legal rfl (by simp [ha]) (by simp [hi, hs, hr])

/-! ### MV (R340) -/

section
variable {s : State} {k : BrickId} {d a b c : Field5} {fn : BitVec 6}

/-- The fields of MV that R329 and R340 allow. -/
theorem mv_fields (f : Nat) :
    (accOk d && vecOk b && decide (mvElements f ≠ 0) && decide (c.toNat < (if mvElements f == 1 then 16 else 4))) = true ↔
      d.toNat < 4 ∧ b.toNat < 16 ∧ mvElements f ≠ 0 ∧ c.toNat < (if mvElements f = 1 then 16 else 4) := by
  simp [and_assoc]

/-- An operation under a check of its fields that passes. -/
theorem legal_of {ok : Bool} {f : BOp} {q : Brick} {r : BRes} (hok : ok = true) (hf : f s q = r) : legal ok f s q = r := by
  rw [hok, legal_true, hf]

/-- The words a memory instruction reads, without an error among them. -/
theorem bad_any_eq_false {bad : List Nat} {lo hi : Nat} (h : ∀ y ∈ bad, ¬ (lo ≤ y ∧ y ≤ hi)) :
    bad.any (fun x => lo ≤ x && x ≤ hi) = false := by
  simpa using h

end

/-- Settles O13: MV checks its fields, then the accumulator's mode, the address and the words it reads; the elements it takes are
those of R338. -/
theorem brickMv : Obligations.BrickMv := by
  intro s k d a b c fn h q f e w bytes addr inside clean wt x prod made closed post put
  refine ⟨fun hd hb he hc => ?legal, fun hill => ?illegal⟩
  case illegal =>
    refine h.exec_illegal rfl (Bool.eq_false_iff.2 fun ht => ?_)
    obtain ⟨hd, hb, he, hc⟩ := (mv_fields _).1 ht
    rcases hill with hill | hill | hill | hill
    · omega
    · omega
    · exact he hill
    · exact absurd hc (Nat.not_lt.2 hill)
  case legal =>
    have hok := (mv_fields _).2 ⟨hd, hb, he, hc⟩
    have same (hm : (q.acc d).int = (f == 6)) : ¬ ((q.acc d).int != (f == 6)) = true := by simp [hm]
    have outside : (addr % 64 != 0 || decide (addr + bytes > 262144)) = true ↔ ¬ inside := by
      simp only [Bool.or_eq_true, bne_iff_ne, decide_eq_true_eq, inside]
      omega
    have within (hi : inside) := fun ht => outside.1 ht hi
    have sound (hcl : clean) : ¬ (q.bad.any (fun x => addr / 8 ≤ x && x ≤ (addr + bytes - 1) / 8)) = true := by
      rw [bad_any_eq_false hcl]; decide
    refine ⟨fun hm => h.exec_fault rfl (legal_of hok ?mode), fun hm hi => h.exec_fault rfl (legal_of hok ?bounds),
      fun hm hi hcl => h.exec_fault rfl (legal_of hok ?ecc), fun hm hf hi hcl => h.exec_next rfl (legal_of hok ?float),
      fun hm hf hi hcl => ⟨fun ls hls => h.exec_next rfl (legal_of hok ?int), fun hls => h.exec_fault rfl (legal_of hok ?past)⟩⟩
    case mode => exact if_pos (bne_iff_ne.2 hm)
    case bounds => exact (if_neg (same hm)).trans (if_pos (outside.2 hi))
    case ecc => exact (if_neg (same hm)).trans ((if_neg (within hi)).trans (if_pos (by simpa [clean] using hcl)))
    case float =>
      have hm' : (q.acc d).int = (f == 6) := by simp [hm, hf]
      refine (if_neg (same hm')).trans ((if_neg (within hi)).trans ((if_neg (sound hcl)).trans ((if_neg (by simpa using hf)).trans ?_)))
      simp only [List.map_map, Function.comp_def, AccLane.takeAll_fst, List.foldl_map]
      rfl
    case int =>
      have hm' : (q.acc d).int = (f == 6) := by simp [hm, hf]
      refine (if_neg (same hm')).trans ((if_neg (within hi)).trans ((if_neg (sound hcl)).trans ((if_pos (by simpa using hf)).trans ?_)))
      exact congrArg (fun o => match o with | none => BRes.fault 6 | some ls => BRes.next s (put ls)) hls
    case past =>
      have hm' : (q.acc d).int = (f == 6) := by simp [hm, hf]
      refine (if_neg (same hm')).trans ((if_neg (within hi)).trans ((if_neg (sound hcl)).trans ((if_pos (by simpa using hf)).trans ?_)))
      exact congrArg (fun o => match o with | none => BRes.fault 6 | some ls => BRes.next s (put ls)) hls

end Sys2Proof.Machine

/-! SUPPORT. Ports, packets and draws of bricks (R323-R327, R342, R343, R372). -/

namespace Sys2Proof.Machine

/-! ### Ports (R323, R342) -/

section
variable {s : State} {q : Brick} {ok : Bool} {c : Field5} {bound : State → Option PortBind} {f : PortBind → BOp}

/-- With legal fields an instruction on a port that is not bound faults. -/
theorem onPort_unbound (hok : ok = true) (hc : c.toNat < 8) (hp : bound s = none) : onPort ok c bound f s q = .fault 7 :=
  legal_of (by simp [hok, hc]) (by simp only [hp])

/-- With legal fields an instruction on a bound port acts on what the port is bound to. -/
theorem onPort_bound {p : PortBind} (hok : ok = true) (hc : c.toNat < 8) (hp : bound s = some p) :
    onPort ok c bound f s q = f p s q :=
  legal_of (by simp [hok, hc]) (by simp only [hp])

end

section
variable {s : State} {q : Brick} {key r n : Nat} {j : Joint}

/-- A read of a joint with nothing to read waits. -/
theorem readPort_wait {put : Brick → List Nat → Brick} (hj : s.joints.find key = some j) (h : j.read r n = none) :
    readPort n (.joint key r) put s q = .wait s := by simp [readPort, hj, h]

/-- A read of a joint takes its words and sets JSTAT. -/
theorem readPort_next {put : Brick → List Nat → Brick} {x : JRead} {j' : Joint} (hj : s.joints.find key = some j)
    (h : j.read r n = some (x, j')) :
    readPort n (.joint key r) put s q = .next { s with joints := s.joints.put key j' } (put { q with jstat := jstatOf x } x.words) := by
  simp [readPort, hj, h]

/-- An action on the reader of a joint. -/
theorem actPort_joint {g : Joint → Nat → Joint} {g' : Brick → Brick} (hj : s.joints.find key = some j) :
    actPort (.joint key r) g g' s q = .next { s with joints := s.joints.put key (g j r) } q := by simp [actPort, hj]

end

section
variable {s : State} {k : BrickId} {i : Instr} {ok : Bool} {c : Field5} {key r : Nat}

/-- An instruction that writes words to a joint: they enter the open packet, or the brick waits for space. -/
theorem Ready.exec_write {words : Brick → List Nat} (h : Ready s k i) (hc : c.toNat < 8)
    (arm : exec i s = issue k i (onPort ok c (fun s0 => s0.portOut k.val c.toNat) fun p => writePort k.val c.toNat p words) s)
    (hok : ok = true) (hp : s.portOut k.val c.toNat = some (.joint key r)) :
    let q := s.brick k.val
    let o := nth {} q.outs c.toNat
    exec i s = .next (match s.jointWrite key (o.tag + 2 ^ 32 * o.step) (o.tag % 2 ^ 15) q.chunk (words q) with
      | some t => t.goOn k q
      | none => s.jointWait key (o.tag % 2 ^ 15)) := by
  intro q o
  rw [arm, issue_ready _ h, onPort_bound hok hc hp]
  simp only [writePort]
  cases s.jointWrite key (o.tag + 2 ^ 32 * o.step) (o.tag % 2 ^ 15) q.chunk (words q) <;> rfl

/-- A wait leaves the brick at its instruction. -/
theorem Ready.exec_wait {f : BOp} {t : State} (h : Ready s k i) (arm : exec i s = issue k i f s)
    (hf : f s (s.brick k.val) = .wait t) : exec i s = .next t := by
  rw [arm, issue_ready f h, hf, finishBrick_wait]

end

/-! ### Stepping (R324) -/

/-- What owing a section leaves: all but the streams. -/
theorem State.owe_eq (s : State) (im : Bytes) (stream stage chunk : Nat) :
    ∃ xs, s.owe im stream stage chunk = { s with streams := xs } := by
  unfold State.owe
  dsimp only
  split
  · exact ⟨s.streams, rfl⟩
  · exact ⟨_, rfl⟩

/-- A step onto a packet: the joint after it, the tag and step of the packet, and nothing else of the brick's registers and memory or
of the machine but its streams. -/
theorem stepPort_packet {s : State} {q : Brick} {k port key r tag stream chunk : Nat} {sp : Bool} {ws : List Nat} {ended : Bool} {j j' : Joint}
    (hj : s.joints.find key = some j) (hn : j.next r = some (.packet tag ws ended stream chunk sp, j')) :
    ∃ xs b, stepPort k port (.joint key r) s q = .next { s with joints := s.joints.put key j', streams := xs } b ∧
      b.ptag = tag % 2 ^ 32 ∧ b.step = tag / 2 ^ 32 % 2 ^ 64 ∧ b.stepped = true ∧ b.regs = q.regs ∧ b.vecs = q.vecs ∧
      b.accs = q.accs ∧ b.mem = q.mem := by
  simp only [stepPort, hj, hn]
  split
  · exact ⟨s.streams, _, rfl, rfl, rfl, rfl, rfl, rfl, rfl, rfl⟩
  · split
    · exact ⟨s.streams, _, rfl, rfl, rfl, rfl, rfl, rfl, rfl, rfl⟩
    · split
      · split
        · obtain ⟨xs, hxs⟩ := State.owe_eq { s with joints := s.joints.put key j' } ‹Role›.image stream ‹Role›.bond.stage chunk
          exact ⟨xs, _, congrArg (BRes.next · _) hxs, rfl, rfl, rfl, rfl, rfl, rfl, rfl⟩
        · exact ⟨s.streams, _, rfl, rfl, rfl, rfl, rfl, rfl, rfl, rfl⟩
      · exact ⟨s.streams, _, rfl, rfl, rfl, rfl, rfl, rfl, rfl, rfl⟩

/-- A step onto a spacer leaves PTAG and STEP. -/
theorem stepPort_spacer {s : State} {q : Brick} {k port key r n : Nat} {j j' : Joint}
    (hj : s.joints.find key = some j) (hn : j.next r = some (.spacer n, j')) :
    stepPort k port (.joint key r) s q = .next { s with joints := s.joints.put key j' } { q with stepped := true } := by
  simp only [stepPort, hj, hn]

/-- A step with no record to step to waits. -/
theorem stepPort_wait {s : State} {q : Brick} {k port key r : Nat} {j : Joint}
    (hj : s.joints.find key = some j) (hn : j.next r = none) : stepPort k port (.joint key r) s q = .wait s := by
  simp only [stepPort, hj, hn]

/-- Settles O14: each instruction acts on what its port is bound to, under a check of its fields. -/
theorem brickJoints : Obligations.BrickJoints := by
  refine ⟨fun s k d c hc => ⟨fun h hd => ⟨fun hp => ?unboundV, fun key r j hp hj => ⟨fun hr => ?waitV, fun x j' hr => ?readV⟩⟩,
      fun h hd h0 => ⟨fun hp => ?unboundS, fun key r j hp hj => ⟨fun hr => ?waitS, fun x j' hr => ?readS⟩⟩⟩,
    fun s k a b c hc => ⟨fun key r hp => ⟨fun h ha => ?writeV, fun h ha => ?writeS, fun h j hj => ?ends⟩, fun p hp h hb => ?tag⟩,
    fun s k c hc h key r j hp hj => ⟨fun hn => ?nextWait, fun n j' hn => ?nextSpacer, fun tag ws ended stream chunk sp j' hn => ?nextPacket⟩,
    ?actions, fun s k d a h hd h0 ha => ⟨fun hs => ?draw, fun hs => ?early⟩⟩
  case unboundV => exact h.exec_fault rfl (onPort_unbound (by simp [hd]) hc hp)
  case waitV => exact h.exec_wait rfl ((onPort_bound (by simp [hd]) hc hp).trans (readPort_wait hj hr))
  case readV => exact h.exec_next rfl ((onPort_bound (by simp [hd]) hc hp).trans (readPort_next hj hr))
  case unboundS => exact h.exec_fault rfl (onPort_unbound (by simp [(destPairOk_iff d).2 ⟨hd, h0⟩]) hc hp)
  case waitS => exact h.exec_wait rfl ((onPort_bound (by simp [(destPairOk_iff d).2 ⟨hd, h0⟩]) hc hp).trans (readPort_wait hj hr))
  case readS => exact h.exec_next rfl ((onPort_bound (by simp [(destPairOk_iff d).2 ⟨hd, h0⟩]) hc hp).trans (readPort_next hj hr))
  case writeV => exact h.exec_write hc rfl (by simp [ha]) hp
  case writeS => exact h.exec_write hc rfl (by simp [ha]) hp
  case ends => exact h.exec_next rfl ((onPort_bound rfl hc hp).trans (by simp only [hj]))
  case tag => exact h.exec_next rfl ((onPort_bound (by simp [hb]) hc hp).trans rfl)
  case nextWait => exact h.exec_wait rfl ((onPort_bound rfl hc hp).trans (stepPort_wait hj hn))
  case nextSpacer => exact h.exec_next rfl ((onPort_bound rfl hc hp).trans (stepPort_spacer hj hn))
  case nextPacket =>
    obtain ⟨xs, b, hstep, htag, hst, hstepped, hregs, hvecs, haccs, hmem⟩ := stepPort_packet (k := k.val) (port := c.toNat)
      (q := s.brick k.val) hj hn
    refine ⟨_, h.exec_next rfl ((onPort_bound rfl hc hp).trans hstep), ?_⟩
    simp [State.goOn, htag, hst, hstepped, hregs, hvecs, haccs, hmem]
  case actions =>
    simp only [List.forall_mem_cons, List.mem_singleton, forall_eq]
    and_intros <;> exact fun s k c hc h => ⟨fun hp => h.exec_fault rfl (onPort_unbound rfl hc hp),
      fun key r j hp hj => h.exec_next rfl ((onPort_bound rfl hc hp).trans (actPort_joint hj))⟩
  case draw => exact h.exec_legal rfl (by simp [(destPairOk_iff d).2 ⟨hd, h0⟩, ha]) (by simp only [hs]; rfl)
  case early =>
    refine h.exec_fault rfl (legal_of (by simp [(destPairOk_iff d).2 ⟨hd, h0⟩, ha]) ?_)
    simp [hs]

end Sys2Proof.Machine

/-! SUPPORT. When a brick issues an instruction, and what its faults leave (R315, R329, R346, R352). -/

namespace Sys2Proof.Machine

/-! ### Issue (R315, R316) -/

/-- Every brick instruction is issued on its brick. -/
theorem exec_brick (i : Instr) (k : BrickId) (s : State) (h : brickOf i = some k) : ∃ f, exec i s = issue k i f s := by
  cases i <;> cases h
  case fma => exact ⟨_, show execFma _ _ _ _ _ _ = _ from rfl⟩
  case jmp => exact ⟨_, show execJmp _ _ _ = _ from rfl⟩
  case call => exact ⟨_, show execCall _ _ _ = _ from rfl⟩
  case lw => exact ⟨_, show execLw _ _ _ _ _ = _ from rfl⟩
  case sw => exact ⟨_, show execSw _ _ _ _ _ = _ from rfl⟩
  all_goals exact ⟨_, rfl⟩

section
variable {s : State} {k : BrickId} {i : Instr} {f : BOp}

theorem issue_idle (hrun : (s.brick k.val).run = false) : issue k i f s = .next s := by
  simp [issue, hrun]

theorem issue_past (hrun : (s.brick k.val).run = true) (h : 262144 < 4 * (s.brick k.val).pc + 4) :
    issue k i f s = .next (s.brickFault k.val 2) := by
  simp only [issue, hrun, Bool.not_true, Bool.false_eq_true, if_false, gt_iff_lt, if_pos h]

theorem issue_bad (hrun : (s.brick k.val).run = true) (h : 4 * (s.brick k.val).pc + 4 ≤ 262144)
    (hb : 4 * (s.brick k.val).pc / 8 ∈ (s.brick k.val).bad) : issue k i f s = .next (s.brickFault k.val 4) := by
  simp only [issue, hrun, Bool.not_true, Bool.false_eq_true, if_false, gt_iff_lt, if_neg (Nat.not_lt.2 h),
    List.contains_iff_mem.2 hb, if_true]

theorem issue_unassigned (hrun : (s.brick k.val).run = true) (h : 4 * (s.brick k.val).pc + 4 ≤ 262144)
    (hb : 4 * (s.brick k.val).pc / 8 ∉ (s.brick k.val).bad) (hw : brickDecode k (s.brick k.val).fetch = none) :
    issue k i f s = .next (s.brickFault k.val 1) := by
  simp only [issue, hrun, Bool.not_true, Bool.false_eq_true, if_false, gt_iff_lt, if_neg (Nat.not_lt.2 h),
    Bool.eq_false_iff.2 (mt List.contains_iff_mem.1 hb), hw, Option.isNone_none, if_true]

end

/-! ### Faults (R346, R352) -/

/-- The objects that the faults of bricks count are counters of 32 bits. -/
theorem maxOf_faultCounters : maxOf Obj.brickFaults = 2 ^ 32 - 1 ∧ maxOf Obj.illegalCount = 2 ^ 32 - 1 ∧
    maxOf Obj.boundsCount = 2 ^ 32 - 1 ∧ maxOf Obj.localEccUncorrected = 2 ^ 32 - 1 := ⟨rfl, rfl, rfl, rfl⟩

/-- The counter of a cause of R346, if it has one. -/
def faultCounter (cause : Nat) : Option Nat :=
  if cause == 1 || cause == 5 || cause == 6 then some Obj.illegalCount
  else if cause == 2 || cause == 3 then some Obj.boundsCount
  else if cause == 4 then some Obj.localEccUncorrected else none

/-- A fault by the counter of its cause. -/
theorem State.brickFault_eq (s : State) (k cause : Nat) :
    s.brickFault k cause =
      (((((faultCounter cause).elim (s.bump Obj.brickFaults) (s.bump Obj.brickFaults).bump).wr Obj.lastFaultBrick k).wr
        Obj.lastFaultPc ((s.brick k).pc % 2 ^ 32)).wr Obj.lastFaultCause cause).setBrick k { s.brick k with run := false } := by
  unfold State.brickFault faultCounter
  dsimp only
  split
  · rfl
  · split
    · rfl
    · split <;> rfl

theorem faultCounters_distinct : Obj.illegalCount ≠ Obj.boundsCount ∧ Obj.illegalCount ≠ Obj.localEccUncorrected ∧
    Obj.boundsCount ≠ Obj.localEccUncorrected ∧ Obj.boundsCount ≠ Obj.illegalCount ∧ Obj.localEccUncorrected ≠ Obj.illegalCount ∧
    Obj.localEccUncorrected ≠ Obj.boundsCount ∧ Obj.illegalCount ≠ Obj.brickFaults ∧ Obj.boundsCount ≠ Obj.brickFaults ∧
    Obj.localEccUncorrected ≠ Obj.brickFaults := by decide

theorem faultCounter_illegal (cause : Nat) : faultCounter cause = some Obj.illegalCount ↔ cause = 1 ∨ cause = 5 ∨ cause = 6 := by
  unfold faultCounter
  repeat' split
  all_goals simp_all [or_assoc, faultCounters_distinct]

theorem faultCounter_bounds (cause : Nat) : faultCounter cause = some Obj.boundsCount ↔ cause = 2 ∨ cause = 3 := by
  unfold faultCounter
  repeat' split
  all_goals simp_all [or_assoc, faultCounters_distinct]
  all_goals omega

theorem faultCounter_ecc (cause : Nat) : faultCounter cause = some Obj.localEccUncorrected ↔ cause = 4 := by
  unfold faultCounter
  repeat' split
  all_goals simp_all [or_assoc, faultCounters_distinct]
  all_goals omega

theorem State.rd_elim_bump (u : State) (o : Option Nat) (key : Nat) :
    (o.elim u u.bump).rd key = if o = some key then Nat.min (u.rd key + 1) (maxOf key) else u.rd key := by
  cases o with
  | none => rfl
  | some c =>
    by_cases h : c = key
    · subst h; simp [State.rd_bump_self]
    · simp [h, State.rd_bump_ne u 1 (Ne.symm h)]

/-- An object that the record of a fault does not write, after a fault. -/
theorem State.rd_brickFault (s : State) (k cause key : Nat)
    (hkey : key ≠ Obj.lastFaultBrick ∧ key ≠ Obj.lastFaultPc ∧ key ≠ Obj.lastFaultCause) :
    (s.brickFault k cause).rd key = if faultCounter cause = some key then Nat.min ((s.bump Obj.brickFaults).rd key + 1) (maxOf key)
      else (s.bump Obj.brickFaults).rd key := by
  obtain ⟨h1, h2, h3⟩ := hkey
  rw [State.brickFault_eq, State.rd_setBrick, State.rd_wr_ne _ _ h3, State.rd_wr_ne _ _ h2, State.rd_wr_ne _ _ h1,
    State.rd_elim_bump]

/-- A counter of one cause after a fault. -/
theorem State.rd_brickFault_counter (s : State) (k cause key : Nat) {counted : Prop} [Decidable counted]
    (hkey : key ∈ [Obj.illegalCount, Obj.boundsCount, Obj.localEccUncorrected]) (hc : faultCounter cause = some key ↔ counted) :
    (s.brickFault k cause).rd key = if counted then Nat.min (s.rd key + 1) (2 ^ 32 - 1) else s.rd key := by
  have hne : (key ≠ Obj.lastFaultBrick ∧ key ≠ Obj.lastFaultPc ∧ key ≠ Obj.lastFaultCause) ∧ key ≠ Obj.brickFaults ∧
      maxOf key = 2 ^ 32 - 1 := by
    obtain ⟨_, hi, hb, he⟩ := maxOf_faultCounters
    simp only [List.mem_cons, List.not_mem_nil, or_false] at hkey
    rcases hkey with rfl | rfl | rfl
    · exact ⟨by decide, by decide, hi⟩
    · exact ⟨by decide, by decide, hb⟩
    · exact ⟨by decide, by decide, he⟩
  obtain ⟨hrec, hbf, hmax⟩ := hne
  rw [State.rd_brickFault s k cause key hrec, State.rd_bump_ne _ _ hbf, hmax]
  simp only [hc]

/-- What a fault leaves of everything that is neither a brick nor an object. -/
theorem State.brickFault_frame (s : State) (k cause : Nat) :
    (s.brickFault k cause).hostMem = s.hostMem ∧ (s.brickFault k cause).devMem = s.devMem ∧
    (s.brickFault k cause).joints = s.joints ∧ (s.brickFault k cause).rings = s.rings ∧
    (s.brickFault k cause).bricks = s.bricks.put k { s.brick k with run := false } := by
  rw [State.brickFault_eq]
  cases faultCounter cause <;> exact ⟨rfl, rfl, rfl, rfl, rfl⟩

/-- Settles O15. -/
theorem brickFaults : Obligations.BrickFaults := by
  refine ⟨fun i k s hi => ?issued, fun s k d a b c => ⟨?unusedC, ?unusedB, ?unusedBC, ?unusedABC, fun h hne => ?jr, fun target h hne => ?halt⟩,
    fun s k cause => ?record⟩
  case issued =>
    obtain ⟨f, hf⟩ := exec_brick i k s hi
    simp only [hf]
    exact ⟨issue_idle, issue_past, issue_bad, issue_unassigned⟩
  case unusedC =>
    simp only [List.forall_mem_cons, List.mem_singleton, forall_eq]
    and_intros <;> exact fun h hne => h.exec_illegal rfl (by simp only [beq_eq_false_iff_ne.2 hne, Bool.and_false, Bool.false_and])
  case unusedB =>
    simp only [List.forall_mem_cons, List.mem_singleton, forall_eq]
    and_intros <;> exact fun h hne => h.exec_illegal rfl (by simp only [beq_eq_false_iff_ne.2 hne, Bool.and_false, Bool.false_and])
  case unusedBC =>
    simp only [List.forall_mem_cons, List.mem_singleton, forall_eq]
    and_intros <;> exact fun h hne => h.exec_illegal rfl (by
      rcases hne with hne | hne <;> simp only [beq_eq_false_iff_ne.2 hne, Bool.and_false, Bool.false_and])
  case unusedABC =>
    simp only [List.forall_mem_cons, List.mem_singleton, forall_eq]
    and_intros <;> exact fun h hne => h.exec_illegal rfl (by
      rcases hne with hne | hne | hne <;> simp only [beq_eq_false_iff_ne.2 hne, Bool.and_false, Bool.false_and])
  case jr =>
    refine h.exec_illegal rfl ?_
    rcases hne with hne | hne | hne <;> simp only [beq_eq_false_iff_ne.2 hne, Bool.and_false, Bool.false_and]
  case halt => exact h.exec_illegal rfl (beq_eq_false_iff_ne.2 hne)
  case record =>
    obtain ⟨hhost, hdev, hjoints, hrings, hbricks⟩ := s.brickFault_frame k cause
    refine ⟨?self, fun j hj => ?others, ?lastBrick, ?lastPc, ?lastCause, ?all,
      s.rd_brickFault_counter k cause _ (by simp) (faultCounter_illegal cause),
      s.rd_brickFault_counter k cause _ (by simp) (faultCounter_bounds cause),
      s.rd_brickFault_counter k cause _ (by simp) (faultCounter_ecc cause), hhost, hdev, hjoints, hrings⟩
    case self => simp [State.brick, hbricks]
    case others => simp [State.brick, hbricks, Map.getD_put_ne _ _ _ hj]
    case lastBrick => 
      rw [State.brickFault_eq, State.rd_setBrick, State.rd_wr_ne _ _ (by decide), State.rd_wr_ne _ _ (by decide), State.rd_wr_self]
    case lastPc => rw [State.brickFault_eq, State.rd_setBrick, State.rd_wr_ne _ _ (by decide), State.rd_wr_self]
    case lastCause => rw [State.brickFault_eq, State.rd_setBrick, State.rd_wr_self]
    case all =>
      have hnone : faultCounter cause ≠ some Obj.brickFaults := by
        unfold faultCounter
        repeat' split
        all_goals simp [faultCounters_distinct]
      show (s.brickFault k cause).rd Obj.brickFaults = _
      rw [State.rd_brickFault s k cause _ (by decide), if_neg hnone, State.rd_bump_self, maxOf_faultCounters.1]
      exact (if_pos trivial).symm

end Sys2Proof.Machine

/-! SUPPORT. Steps, the state after reset, and words of bricks written out. -/

namespace Sys2Proof.Machine

/-- Settles O1: a step takes its command from the front of the queue, if there is one. -/
theorem stepRunsFront : Obligations.StepRunsFront := by
  refine ⟨fun s c rest => rfl, fun s h => ?_⟩
  unfold step
  rw [h]

/-- Settles O2. -/
theorem resetState : Obligations.ResetState := by
  refine ⟨rfl, ?_, ?_, ?_, ?_, ?_, ?_, ?_, ?_, ?_, rfl, rfl, rfl, rfl, rfl, rfl, rfl, rfl⟩ <;> rfl

/-- Settles O5. -/
theorem brickWords : Obligations.BrickWords := by
  intro k
  and_intros <;> rfl

end Sys2Proof.Machine

/-! SUPPORT. The objects after an update, whichever object is asked for, and the events of the power domain (R429, R435, R559). -/

namespace Sys2Proof.Machine

/-! ### Objects after an update -/

theorem State.rd_bump (s : State) (j k n : Nat) :
    (s.bump k n).rd j = if j = k then Nat.min (s.rd k + n) (maxOf k) else s.rd j := by
  rw [State.bump, State.rd_wr]

theorem State.rd_lower (s : State) (j k n : Nat) : (s.lower k n).rd j = if j = k then s.rd k - n else s.rd j := by
  rw [State.lower, State.rd_wr]

/-! ### Grout chunks that age (R429) -/

/-- A chunk of a grout stream whose age has reached the limit `m` before its release. -/
def Chunk.overdue (m : Nat) (k : Chunk) : Bool := decide (k.age ≥ m) && !k.released

/-- What GROUT_AGED does for one command of ring `n`. -/
def State.ageCmd (n : Nat) (s : State) (c : Cmd) : State :=
  match c.chunk with
  | some k => if k.overdue (s.rd Obj.groutAgeMax) then s.mapChunk n c.counter (fun k => { k with aged := true }) else s
  | none => s

/-- A command whose chunk is overdue. -/
def Cmd.overdue (m : Nat) (c : Cmd) : Bool := c.chunk.any (Chunk.overdue m)

theorem State.ageCmd_eq (n : Nat) (s : State) (c : Cmd) :
    s.ageCmd n c = if c.overdue (s.rd Obj.groutAgeMax) then s.mapChunk n c.counter (fun k => { k with aged := true }) else s := by
  unfold State.ageCmd Cmd.overdue
  cases c.chunk <;> rfl

theorem execGroutAged_eq (n : RingId) (s : State) : execGroutAged n s =
    .next (if s.rd (Obj.streamClass n.val) ≠ 2 then s else (s.ring n.val).cmds.foldl (State.ageCmd n.val) s) := by
  unfold execGroutAged
  by_cases h : s.rd (Obj.streamClass n.val) = 2
  · simp only [h, bne_self_eq_false, ne_eq, not_true, if_false, Bool.false_eq_true]
    rfl
  · simp only [bne_iff_ne, ne_eq, h, not_false_iff, if_true]

@[simp] theorem State.mapCmd_dict (s : State) (n c : Nat) (f : Cmd → Cmd) : (s.mapCmd n c f).dict = s.dict := rfl

@[simp] theorem State.mapCmd_cmds (s : State) (n c : Nat) (f : Cmd → Cmd) :
    ((s.mapCmd n c f).ring n).cmds = (s.ring n).cmds.map (fun x => if x.counter = c then f x else x) := by
  simp [State.mapCmd]

theorem State.mapCmd_ring_ne (s : State) {n m : Nat} (c : Nat) (f : Cmd → Cmd) (h : m ≠ n) : (s.mapCmd n c f).ring m = s.ring m :=
  s.ring_setRing_ne _ h

/-- A command as it stands once its chunk is marked. -/
def Cmd.markAged (c : Cmd) : Cmd := { c with chunk := c.chunk.map (fun k => { k with aged := true }) }

/-- The fold over a list of commands marks those commands of the ring that carry the counter of an overdue one. -/
theorem State.foldl_ageCmd (n : Nat) (cs : List Cmd) (s : State) :
    (cs.foldl (State.ageCmd n) s).dict = s.dict ∧
    (∀ m, m ≠ n → (cs.foldl (State.ageCmd n) s).ring m = s.ring m) ∧
    ((cs.foldl (State.ageCmd n) s).ring n).cmds = (s.ring n).cmds.map (fun x =>
      if ∃ c ∈ cs, c.overdue (s.rd Obj.groutAgeMax) ∧ c.counter = x.counter then x.markAged else x) := by
  induction cs generalizing s with
  | nil => simp
  | cons c cs ih =>
    obtain ⟨hd, hr, hc⟩ := ih (s.ageCmd n c)
    have hdict : (s.ageCmd n c).dict = s.dict := by rw [s.ageCmd_eq]; split <;> rfl
    have hrd : (s.ageCmd n c).rd Obj.groutAgeMax = s.rd Obj.groutAgeMax := by
      rw [s.ageCmd_eq]; split <;> rfl
    refine ⟨hd.trans hdict, fun m hm => (hr m hm).trans ?_, ?_⟩
    · rw [s.ageCmd_eq]
      split
      · exact s.mapCmd_ring_ne _ _ hm
      · rfl
    · rw [List.foldl_cons, hc, hrd, s.ageCmd_eq]
      split
      · rename_i ho
        simp only [State.mapChunk, State.mapCmd_cmds, List.map_map]
        refine List.map_congr_left fun x _ => ?_
        by_cases hx : x.counter = c.counter
        · simp [hx, ho, Cmd.markAged, Function.comp_def]
        · have hx' : c.counter ≠ x.counter := fun h => hx h.symm
          simp [hx, hx']
      · rename_i ho
        simp [ho]

/-- The mark of an overdue chunk, as the chunk's own condition gives it. -/
theorem Cmd.markAged_eq (m : Nat) (c : Cmd) : (if c.overdue m then c.markAged else c) =
    { c with chunk := c.chunk.map (fun k => if m ≤ k.age ∧ k.released = false then { k with aged := true } else k) } := by
  obtain ⟨counter, desc, phase, final, halt, chunk⟩ := c
  cases chunk with
  | none => simp [Cmd.overdue]
  | some k =>
    by_cases h : m ≤ k.age ∧ k.released = false <;> simp [Cmd.overdue, Chunk.overdue, Cmd.markAged, h]

/-- Two choices between equal outcomes under equivalent conditions. -/
theorem ite_of_iff {α : Type} {p q : Prop} [Decidable p] [Decidable q] {x y u v : α} (h : p ↔ q) (hx : x = u) (hy : y = v) :
    ite p x y = ite q u v :=
  ite_congr (propext h) (fun _ => hx) (fun _ => hy)

/-- Counters that stand once tell a ring's commands apart. -/
theorem eq_of_counter_eq {cs : List Cmd} (h : (cs.map (·.counter)).Nodup) {c d : Cmd} (hc : c ∈ cs) (hd : d ∈ cs)
    (he : c.counter = d.counter) : c = d := by
  induction cs with
  | nil => cases hc
  | cons x cs ih =>
    obtain ⟨hx, hcs⟩ := List.nodup_cons.1 h
    rcases List.mem_cons.1 hc with rfl | hc' <;> rcases List.mem_cons.1 hd with rfl | hd'
    · rfl
    · exact absurd (List.mem_map.2 ⟨d, hd', he.symm⟩) hx
    · exact absurd (List.mem_map.2 ⟨c, hc', he⟩) hx
    · exact ih hcs hc' hd'

/-! ### The sums of a sample (R559) -/

/-- The energy of a sample of six rails, added to what stands before. -/
theorem add_sampleEnergy (s : State) (m : Nat) (a b c d e f : RailSample) (r : Nat → Nat)
    (hr : r = fun i => (nth ⟨0, 0⟩ [a, b, c, d, e, f] i).code.toNat * s.rd (Obj.isnsFullScaleA i) *
      (nth ⟨0, 0⟩ [a, b, c, d, e, f] i).mv) :
    m + s.sampleEnergy [a, b, c, d, e, f] =
      m + (r 0 + r 1 + r 2 + r 3 + r 4 + r 5) + 4095 * 5 * (1800 + s.rd Obj.vioAudMv) := by
  subst hr
  rw [Nat.add_assoc m]
  simp [State.sampleEnergy, sumN, nth, List.range_succ]

end Sys2Proof.Machine

namespace Sys2Proof
open Machine

/-- Settles O49: the aged chunks are those of the commands whose counters the fold over the ring marks. -/
theorem energyEvents : Obligations.EnergyEvents := by
  refine ⟨fun s => ⟨fun hg hr hm => ?_, fun h => ?_⟩, fun s n hn => ⟨fun h => ?_, fun h => ?_⟩, fun s rails hl => ?_⟩
  · rw [show exec .courseGoverned s = execCourseGoverned s from rfl, execCourseGoverned]
    simp [hg, hr, Nat.not_lt.2 hm]
  · rw [show exec .courseGoverned s = execCourseGoverned s from rfl, execCourseGoverned, if_pos]
    simpa [or_assoc] using h
  · rw [show exec (.groutAged n) s = execGroutAged n s from rfl, execGroutAged_eq, if_pos h]
  · obtain ⟨hd, hr, hc⟩ := State.foldl_ageCmd n.val (s.ring n.val).cmds s
    refine ⟨_, by rw [show exec (.groutAged n) s = execGroutAged n s from rfl, execGroutAged_eq, if_neg (not_not_intro h)], hd, hr,
      hc.trans (List.map_congr_left fun c hmem => ?_)⟩
    rw [← Cmd.markAged_eq]
    refine ite_of_iff ⟨?_, fun ho => ⟨c, hmem, ho, rfl⟩⟩ rfl rfl
    rintro ⟨d, hdm, ho, he⟩
    rwa [← eq_of_counter_eq hn hdm hmem he]
  · match rails, hl with
    | [a, b, c, d, e, f], _ =>
      rw [show exec (.isnsSample [a, b, c, d, e, f]) s = execIsnsSample [a, b, c, d, e, f] s from rfl, execIsnsSample,
        add_sampleEnergy s _ a b c d e f _ rfl]

end Sys2Proof

/-! SUPPORT. Retraining of the memory dies (R456, R457, R459). -/

namespace Sys2Proof.Machine

@[simp] theorem State.die_setDie_self (s : State) (d : Nat) (x : DieRun) : (s.setDie d x).die d = x := by
  simp [State.die, State.setDie]

theorem State.die_setDie_ne (s : State) {e d : Nat} (x : DieRun) (h : e ≠ d) : (s.setDie d x).die e = s.die e := by
  simp [State.die, State.setDie, Map.getD_put_ne _ _ _ h]

/-- A die becomes due after those that wait. -/
theorem State.makeDue_eq (s : State) (d : Nat) (h : s.retrainable d = true) (hd : (s.die d).due = none) :
    (s.makeDue d).die d = { s.die d with due := some s.retrain.order } ∧ (s.makeDue d).retrain.order = s.retrain.order + 1 ∧
    (s.makeDue d).dict = s.dict ∧ ∀ e, e ≠ d → (s.makeDue d).die e = s.die e := by
  unfold State.makeDue
  simp only [h, hd, Bool.not_true, Option.isSome_none, Bool.or_self, Bool.false_eq_true, if_false]
  exact ⟨s.die_setDie_self d _, trivial, rfl, fun e he => s.die_setDie_ne _ he⟩

theorem State.makeDue_same (s : State) (d : Nat) (h : s.retrainable d = false ∨ (s.die d).due ≠ none) : s.makeDue d = s := by
  unfold State.makeDue
  rcases h with h | h
  · simp [h]
  · simp [Option.isSome_iff_ne_none.2 h]

theorem State.makeDue_rd (s : State) (d k : Nat) : (s.makeDue d).rd k = s.rd k := by
  unfold State.makeDue
  dsimp only
  split <;> rfl

/-- The window of a die is no part of what makes it due. -/
theorem State.makeDue_window (s : State) (d : Nat) :
    ((s.makeDue d).die d).window = (s.die d).window ∧ ((s.makeDue d).die d).inRound = (s.die d).inRound := by
  by_cases h : s.retrainable d = true ∧ (s.die d).due = none
  · obtain ⟨hd, -⟩ := s.makeDue_eq d h.1 h.2
    rw [hd]
    exact ⟨rfl, rfl⟩
  · rw [s.makeDue_same d (by simpa [Classical.or_iff_not_imp_left] using h)]
    exact ⟨rfl, rfl⟩

/-! ### The end of a round -/

/-- The end of a round writes the record of the retraining's progress only. -/
theorem State.endRound_rd (s : State) {k : Nat} (h : k / 256 ≠ retrainRecord) : s.endRound.rd k = s.rd k := by
  have hk : ∀ i, i < 256 → k ≠ retrainRecord * 256 + i := fun i hi he => h (by omega)
  unfold State.endRound State.progFail State.progDone
  split
  · dsimp only
    split <;> simp only [Obj.progState, Obj.progResult, Obj.progPosition, State.rd_wr, hk _ (by decide : 1 < 256),
      hk _ (by decide : 3 < 256), hk _ (by decide : 5 < 256), if_false] <;> rfl
  · rfl

@[simp] theorem State.endRound_die (s : State) (d : Nat) : s.endRound.die d = s.die d := by
  unfold State.endRound State.progFail State.progDone
  split
  · dsimp only
    split <;> rfl
  · rfl

@[simp] theorem State.endRound_rings (s : State) : s.endRound.rings = s.rings := by
  unfold State.endRound State.progFail State.progDone
  split
  · dsimp only
    split <;> rfl
  · rfl

@[simp] theorem State.endRound_devMem (s : State) : s.endRound.devMem = s.devMem := by
  unfold State.endRound State.progFail State.progDone
  split
  · dsimp only
    split <;> rfl
  · rfl

/-- The objects of die `d` and the counters of retraining stand apart from each other and from the record of progress. -/
theorem dieKeys_apart (d : Nat) (hd : d < 84) :
    Obj.dieRetrains d ≠ Obj.retrains ∧ Obj.dieLastTrained d ≠ Obj.retrains ∧ Obj.dieRetrainFails d ≠ Obj.retrains ∧
    Obj.dieRetrainFails d ≠ Obj.retrainFails ∧ Obj.dieDegraded d ≠ Obj.retrainFails ∧
    (∀ k ∈ [Obj.retrains, Obj.retrainFails, Obj.dieRetrains d, Obj.dieLastTrained d, Obj.dieRetrainFails d, Obj.dieDegraded d],
      k / 256 ≠ retrainRecord) := by
  simp only [Obj.dieRetrains, Obj.dieLastTrained, Obj.dieRetrainFails, Obj.dieDegraded, Obj.retrains, Obj.retrainFails,
    retrainRecord, List.forall_mem_cons, List.not_mem_nil, false_implies, implies_true, and_true]
  omega

end Sys2Proof.Machine

namespace Sys2Proof
open Machine

theorem exec_retrainDue (s : State) (die : Fin 84) (why : DueReason) : exec (.retrainDue die why) s =
    .next (if (s.die die.val).window = none ∧ s.dueFor die.val why = true then s.makeDue die.val else s) := by
  rw [show exec (.retrainDue die why) s = execRetrainDue die why s from rfl, execRetrainDue]
  simp only [Bool.and_eq_true, Option.isNone_iff_eq_none]

/-- The machine after a window of die `d`, begun at `at'`, ended well (R457), but for the end of the round. -/
def windowWell (s : State) (d at' : Nat) : State :=
  let x : DieRun := { s.die d with window := none, inRound := false, trainedAt := s.clk.frames
                                   temp := toSigned 16 (s.rd (Obj.dieTemp d)), retries := 0 }
  let s := (((s.setDie d x).bump Obj.retrains).bump (Obj.dieRetrains d)).wr (Obj.dieLastTrained d) at'
  let s := s.wr (Obj.dieRetrainFails d) 0
  s.wr (Obj.progPosition retrainRecord) (s.rd (Obj.progPosition retrainRecord) + 1)

/-- The machine after a window of die `d` failed, with its counters (R459). -/
def windowLost (s : State) (d : Nat) : State :=
  ((s.setDie d { s.die d with window := none, inRound := false }).bump Obj.retrainFails).bump (Obj.dieRetrainFails d)

/-- What follows a failed window: the third gives the die up, an earlier one makes it due again (R459). -/
def windowNext (s : State) (d : Nat) : State :=
  let t := if s.rd (Obj.dieRetrainFails d) ≥ 3 then s.wr (Obj.dieDegraded d) 1 else s.makeDue d
  { t with retrain := { t.retrain with failed := true } }

theorem exec_retrainWindowEnd (s : State) (die : Fin 84) (ok : Bool) : exec (.retrainWindowEnd die ok) s =
    .next (match (s.die die).window with
      | none => s
      | some at' => if ok then (windowWell s die at').endRound else (windowNext (windowLost s die) die).endRound) := rfl

/-- What RETRAIN_WINDOW_END leaves of a die whose window ended well (R457). -/
theorem windowWell_spec (s : State) (die : Fin 84) (at' : Nat) :
    let t := (windowWell s die at').endRound
    t.rd Obj.retrains = Nat.min (s.rd Obj.retrains + 1) (maxOf Obj.retrains) ∧
      t.rd (Obj.dieRetrains die) = Nat.min (s.rd (Obj.dieRetrains die) + 1) (maxOf (Obj.dieRetrains die)) ∧
      t.rd (Obj.dieLastTrained die) = at' ∧ t.rd (Obj.dieRetrainFails die) = 0 ∧ t.rings = s.rings ∧ t.devMem = s.devMem ∧
      t.die die = { s.die die with window := none, inRound := false, trainedAt := s.clk.frames
                                   temp := toSigned 16 (s.rd (Obj.dieTemp die)), retries := 0 } := by
  obtain ⟨h1, h2, h3, -, -, h6⟩ := dieKeys_apart die.val die.isLt
  simp only [List.forall_mem_cons] at h6
  obtain ⟨k1, -, k3, k4, k5, -, -⟩ := h6
  have hp : ∀ k, k / 256 ≠ retrainRecord → k ≠ Obj.progPosition retrainRecord := by
    intro k hk he
    exact hk (by rw [he, Obj.progPosition]; omega)
  have h7 : Obj.dieRetrains die ≠ Obj.dieLastTrained die ∧ Obj.dieRetrains die ≠ Obj.dieRetrainFails die ∧
      Obj.dieLastTrained die ≠ Obj.dieRetrainFails die := by
    simp only [Obj.dieRetrains, Obj.dieLastTrained, Obj.dieRetrainFails]; omega
  refine ⟨?_, ?_, ?_, ?_, State.endRound_rings _, State.endRound_devMem _, ?_⟩
  · rw [State.endRound_rd _ k1]
    simp [windowWell, State.rd_wr, State.rd_bump, hp _ k1, h1.symm, h2.symm, h3.symm]
  · rw [State.endRound_rd _ k3]
    simp [windowWell, State.rd_wr, State.rd_bump, hp _ k3, h1, h7]
  · rw [State.endRound_rd _ k4]
    simp [windowWell, State.rd_wr, hp _ k4, h7]
  · rw [State.endRound_rd _ k5]
    simp [windowWell, State.rd_wr, hp _ k5]
  · rw [State.endRound_die]
    exact s.die_setDie_self die _

/-- The counter of a die's failures holds more than the three that count. -/
theorem three_le_maxOf_dieRetrainFails (d : Fin 84) : 3 ≤ maxOf (Obj.dieRetrainFails d) := by
  revert d
  decide

/-- What follows a failed window writes no object but the mark of a die given up. -/
theorem windowNext_rd (s : State) (d : Nat) {k : Nat} (h : k ≠ Obj.dieDegraded d) : (windowNext s d).rd k = s.rd k := by
  unfold windowNext
  dsimp only
  split
  · exact s.rd_wr_ne _ h
  · exact s.makeDue_rd d k

theorem windowNext_window (s : State) (d : Nat) :
    ((windowNext s d).die d).window = (s.die d).window ∧ ((windowNext s d).die d).inRound = (s.die d).inRound := by
  unfold windowNext
  dsimp only
  split
  · exact ⟨rfl, rfl⟩
  · exact s.makeDue_window d

theorem windowLost_rd (s : State) (die : Fin 84) :
    (windowLost s die).rd Obj.retrainFails = Nat.min (s.rd Obj.retrainFails + 1) (maxOf Obj.retrainFails) ∧
    (windowLost s die).rd (Obj.dieRetrainFails die) =
      Nat.min (s.rd (Obj.dieRetrainFails die) + 1) (maxOf (Obj.dieRetrainFails die)) := by
  obtain ⟨-, -, -, h, -⟩ := dieKeys_apart die.val die.isLt
  simp [windowLost, State.rd_bump, h, h.symm]

/-- What a failed window leaves is as retrainable as before. -/
theorem windowLost_retrainable (s : State) (die : Fin 84) : (windowLost s die).retrainable die = s.retrainable die := by
  have h : ∀ k ∈ [Obj.dieInService die, Obj.dieDegraded die], k ≠ Obj.retrainFails ∧ k ≠ Obj.dieRetrainFails die := by
    simp only [List.forall_mem_cons, List.not_mem_nil, false_implies, implies_true, and_true, Obj.dieInService, Obj.dieDegraded,
      Obj.retrainFails, Obj.dieRetrainFails]
    omega
  simp only [List.forall_mem_cons] at h
  obtain ⟨⟨h1, h2⟩, ⟨h3, h4⟩, -⟩ := h
  simp [State.retrainable, State.dieOn, State.rdB, windowLost, State.rd_bump, h1, h2, h3, h4]

/-- What RETRAIN_WINDOW_END leaves of a die whose window failed (R459). -/
theorem windowNext_spec (s : State) (die : Fin 84) :
    let t := (windowNext (windowLost s die) die).endRound
    t.rd Obj.retrainFails = Nat.min (s.rd Obj.retrainFails + 1) (maxOf Obj.retrainFails) ∧
      t.rd (Obj.dieRetrainFails die) = Nat.min (s.rd (Obj.dieRetrainFails die) + 1) (maxOf (Obj.dieRetrainFails die)) ∧
      (t.die die).window = none ∧ (t.die die).inRound = false ∧
      (2 ≤ s.rd (Obj.dieRetrainFails die) → t.rd (Obj.dieDegraded die) = 1) ∧
      (s.rd (Obj.dieRetrainFails die) < 2 → s.retrainable die = true → (s.die die).due = none →
        (t.die die).due = some s.retrain.order) := by
  obtain ⟨-, -, -, -, h5, h6⟩ := dieKeys_apart die.val die.isLt
  simp only [List.forall_mem_cons] at h6
  obtain ⟨-, k2, -, -, k5, k6, -⟩ := h6
  obtain ⟨hf, hd⟩ := windowLost_rd s die
  obtain ⟨hw, hi⟩ := windowNext_window (windowLost s die) die
  have hlost : (windowLost s die).die die = { s.die die with window := none, inRound := false } := s.die_setDie_self die _
  have h3 := three_le_maxOf_dieRetrainFails die
  have hne : Obj.dieRetrainFails die ≠ Obj.dieDegraded die := by
    simp only [Obj.dieRetrainFails, Obj.dieDegraded]; omega
  refine ⟨?_, ?_, ?_, ?_, fun h2 => ?_, fun h2 hr hdue => ?_⟩
  · rw [State.endRound_rd _ k2, windowNext_rd _ _ h5.symm, hf]
  · rw [State.endRound_rd _ k5, windowNext_rd _ _ hne, hd]
  · rw [State.endRound_die, hw, hlost]
  · rw [State.endRound_die, hi, hlost]
  · have : (windowLost s die).rd (Obj.dieRetrainFails die) ≥ 3 := hd ▸ Nat.le_min.2 ⟨by omega, h3⟩
    rw [State.endRound_rd _ k6, windowNext]
    simp only [if_pos this]
    exact State.rd_wr_self ..
  · have : ¬ (windowLost s die).rd (Obj.dieRetrainFails die) ≥ 3 :=
      Nat.not_le.2 (hd ▸ Nat.lt_of_le_of_lt (Nat.min_le_left _ _) (by omega))
    obtain ⟨hm, -⟩ := (windowLost s die).makeDue_eq die ((windowLost_retrainable s die).trans hr) (hlost ▸ hdue)
    rw [State.endRound_die, windowNext]
    simp only [if_neg this]
    exact congrArg DieRun.due hm

/-- Settles O50: each branch of the two commands, by what becomes of the die and of its counters. -/
theorem retraining : Obligations.Retraining := by
  refine ⟨fun s die why => ⟨fun h => ?_, fun h hr hd hw => ?_, fun h => ?_, by simp [State.dueFor], by simp [State.dueFor]⟩,
    fun s die at' h => ⟨⟨_, ?_, windowWell_spec s die at'⟩, ⟨_, ?_, windowNext_spec s die⟩⟩, fun s die ok h => ?_⟩
  · simp [exec_retrainDue, h]
  · exact ⟨_, by rw [exec_retrainDue, if_pos ⟨hw, h⟩], s.makeDue_eq _ hr hd⟩
  · rw [exec_retrainDue]
    split
    next hg => rw [s.makeDue_same _ (by simpa [hg.1] using h)]
    next => rfl
  · rw [exec_retrainWindowEnd, h]; rfl
  · rw [exec_retrainWindowEnd, h]; rfl
  · rw [exec_retrainWindowEnd, h]

end Sys2Proof

/-! SUPPORT. Memory errors, the patrol scrub and the CXL links (R460-R463, R466, R321). -/

namespace Sys2Proof.Machine

/-! ### Objects of the memory errors -/

theorem poisonKeys_apart : Obj.lastPoisonAddr ≠ Obj.lastPoisonSpace ∧ Obj.tbufUncorrected ≠ Obj.lastPoisonAddr ∧
    Obj.tbufUncorrected ≠ Obj.lastPoisonSpace ∧ Obj.gddr7Uncorrected ≠ Obj.lastPoisonAddr ∧
    Obj.gddr7Uncorrected ≠ Obj.lastPoisonSpace ∧ Obj.gddr7Uncorrected ≠ Obj.gddr7Corrected ∧
    Obj.gddr7Uncorrected ≠ Obj.gddr7CrcRetries ∧ Obj.gddr7CrcRetries ≠ Obj.gddr7Corrected := by decide

theorem dieCorrected_apart (d : Nat) : Obj.gddr7CrcRetries ≠ Obj.dieCorrected d ∧ Obj.gddr7Uncorrected ≠ Obj.dieCorrected d := by
  simp only [Obj.gddr7CrcRetries, Obj.gddr7Uncorrected, Obj.dieCorrected]
  omega

/-- The objects of expander `x` and those of all memory stand apart. -/
theorem expKeys_apart (x : Nat) : (∀ k ∈ [Obj.expState x, Obj.expPoisoned x, Obj.expLinkDowns x],
      k ≠ Obj.cxlPoisoned ∧ k ≠ Obj.lastPoisonAddr ∧ k ≠ Obj.lastPoisonSpace) ∧
    Obj.expState x ≠ Obj.expPoisoned x ∧ Obj.expState x ≠ Obj.expLinkDowns x ∧ Obj.expPoisoned x ≠ Obj.expLinkDowns x ∧
    Obj.cxlPoisoned ≠ Obj.lastPoisonAddr ∧ Obj.cxlPoisoned ≠ Obj.lastPoisonSpace := by
  simp only [List.forall_mem_cons, List.not_mem_nil, false_implies, implies_true, and_true, Obj.expState, Obj.expPoisoned,
    Obj.expLinkDowns, Obj.cxlPoisoned, Obj.lastPoisonAddr, Obj.lastPoisonSpace]
  omega

/-! ### Errors of device memory (R460, R461) -/

/-- Poison of a line is noted in two objects; the others stand. -/
theorem State.poisonLine_rd (s : State) (a space : Nat) {k : Nat} (h1 : k ≠ Obj.lastPoisonAddr) (h2 : k ≠ Obj.lastPoisonSpace) :
    (s.poisonLine a space).rd k = s.rd k := by
  rw [State.poisonLine, State.lastPoison, State.rd_wr_ne _ _ h2, State.rd_wr_ne _ _ h1]
  rfl

/-- What an error of a memory die counts, and the line it poisons. -/
theorem State.gddr7Error_eq (s : State) {a d o : Nat} (r : Nat) (c : Bool) (hm : s.mapped a = true) (hd : s.dieOf a = some (d, o)) :
    ∃ n, s.gddr7Error a r c =
      let t := (((s.bump Obj.gddr7CrcRetries (Nat.min r 4)).bump (Obj.dieCorrected d) (Nat.min r 4 + n)).setDie d
        { s.die d with retries := (s.die d).retries + Nat.min r 4 }).bump Obj.gddr7Corrected n
      if c then t else (t.poisonLine a 2).bump Obj.gddr7Uncorrected :=
  ⟨b2n (c && Nat.min r 4 == 0), by simp only [State.gddr7Error, hm, hd, if_true]; rfl⟩

/-- A link that goes down, the expander in service (R466). -/
theorem execCxlLinkDown_spec (s : State) (x : Fin 8) (h : s.rd (Obj.expState x.val) = 1) :
    let lines := sumN ((s.expanderRanges x.val).map (fun r => r.2 / 64))
    ∃ t, execCxlLinkDown x s = .next t ∧ t.rd (Obj.expState x.val) = 2 ∧
      t.poison = (s.expanderRanges x.val).foldl (fun ps r => addPoison r.1 r.2 ps) s.poison ∧
      t.rd Obj.cxlPoisoned = Nat.min (s.rd Obj.cxlPoisoned + lines) (maxOf Obj.cxlPoisoned) ∧
      t.rd (Obj.expPoisoned x.val) = Nat.min (s.rd (Obj.expPoisoned x.val) + lines) (maxOf (Obj.expPoisoned x.val)) ∧
      t.rd (Obj.expLinkDowns x.val) = Nat.min (s.rd (Obj.expLinkDowns x.val) + 1) (maxOf (Obj.expLinkDowns x.val)) ∧
      t.devMem = s.devMem ∧ t.rings = s.rings := by
  obtain ⟨h1, h2, h3, h4, h5, h6⟩ := expKeys_apart x.val
  simp only [List.forall_mem_cons, List.not_mem_nil, false_implies, implies_true, and_true] at h1
  intro lines
  refine ⟨_, congrArg Host.Outcome.next (if_neg (by simp [h])), ?_⟩
  dsimp only
  split <;> simp [State.lastPoison, State.rd_wr, State.rd_bump, h1, h4, h5, h6, h2.symm, h3.symm, h4.symm,
    h1.1.1.symm, h1.2.1.1.symm, h1.2.2.1.symm] <;> exact ⟨rfl, rfl, rfl⟩

end Sys2Proof.Machine

namespace Sys2Proof
open Machine

/-- Settles O51: each tier's errors by their own function, the links by the state the expander is in. -/
theorem memoryErrors : Obligations.MemoryErrors := by
  refine ⟨fun s a r => ?_, fun s x => ⟨fun h => execCxlLinkDown_spec s x h, fun h => ?_, fun h => ?_, fun h => ?_⟩⟩
  · have hexec : ∀ tier c, exec (.memoryError tier a r c) s = execMemoryError tier a r c s := fun _ _ => rfl
    have hscrub : ∀ tier c, exec (.patrolScrub tier a c) s = execPatrolScrub tier a c s := fun _ _ => rfl
    obtain ⟨k1, k2, k3, k4, k5, k6, k7, k8⟩ := poisonKeys_apart
    simp only [hexec, hscrub, execMemoryError]
    refine ⟨fun hs hm => ?_, fun _ => rfl, fun h => ?_, fun h ok => ?_, fun h => ⟨_, rfl, ?_⟩, fun x h => ?_, fun hm d o hd => ?_,
      fun h => ?_, fun h c => ?_, fun h c => ?_⟩
    · simp [State.planeError, execPatrolScrub, hs, hm, State.poisonLine, State.lastPoison]
    · simp [State.tbufError, tbufSize, h]
    · simp [State.tbufError, tbufSize, h]
    · simp [State.tbufError, tbufSize, h, State.lastPoison, State.rd_bump, State.rd_wr, k1, k2, k3, k2.symm, k3.symm]
      rfl
    · simp [State.cxlError, h, State.poisonLine, State.lastPoison]
    · obtain ⟨j1, j2⟩ := dieCorrected_apart d
      obtain ⟨n, hn⟩ := s.gddr7Error_eq r true hm hd
      obtain ⟨m, hf⟩ := s.gddr7Error_eq r false hm hd
      refine ⟨⟨_, congrArg _ hn, rfl, ?_, ?_⟩, ⟨_, congrArg _ hf, rfl, ?_, ?_, ?_⟩⟩
      · simp [State.rd_bump, j1, k8]
      · exact congrArg DieRun.retries (State.die_setDie_self ..)
      · simp [State.rd_bump, State.poisonLine_rd, j2, k4, k5, k6, k7]
      · simp [State.rd_bump, State.rd_wr, State.poisonLine, State.lastPoison, k1, k4.symm]
      · simp [State.rd_bump, State.poisonLine, State.lastPoison, k5.symm]
    · refine ⟨by simp [State.brickError, h], fun hb => ?_⟩
      simp [State.brickError, h, hb]
    · simp [State.planeError, State.gddr7Error, h]
    · simp [State.cxlError, h]
  · exact congrArg Host.Outcome.next (if_pos (by simpa using h))
  · exact congrArg Host.Outcome.next (if_pos (by simpa using h))
  · exact congrArg Host.Outcome.next (if_neg (by simpa using h))

end Sys2Proof

/-! SUPPORT. The tie link: acknowledgements, replays, training (R474-R477). -/

namespace Sys2Proof.Machine

section
variable {s : State} {ack n : Nat} (hn : n = (ack + 4096 - (s.pair.acked + 4095) % 4096) % 4096)
include hn

/-- An acknowledgement of nothing that waits changes nothing. -/
theorem State.takeAck_none (h : n = 0 ∨ s.unacked < n) : s.takeAck ack = s := by
  rw [State.takeAck, ← hn, if_pos (by simpa using h)]

/-- An acknowledgement of `n` flits, which a leave's progress counts (R476, R500). -/
theorem State.takeAck_some (h0 : 0 < n) (h : n ≤ s.unacked) : s.takeAck ack =
    let more := ackedLeave (s.sent.drop s.pair.txBase) (s.pair.acked + n) - ackedLeave (s.sent.drop s.pair.txBase) s.pair.acked
    let taken := s.mapPair (fun p => { p with acked := p.acked + n, replays := 0 })
    if s.pair.leaving = 3 ∧ more ≠ 0 then taken.progAdd 0x1310 more else taken := by
  rw [State.takeAck, ← hn, if_neg (by simp; omega)]
  simp only [Bool.and_eq_true, beq_iff_eq, bne_iff_ne]
  rfl

end

@[simp] theorem State.takeAck_rxSeq (s : State) (ack : Nat) : (s.takeAck ack).pair.rxSeq = s.pair.rxSeq := by
  by_cases h : (ack + 4096 - (s.pair.acked + 4095) % 4096) % 4096 = 0 ∨
      s.unacked < (ack + 4096 - (s.pair.acked + 4095) % 4096) % 4096
  · rw [State.takeAck_none rfl h]
  · rw [State.takeAck_some rfl (by omega) (by omega)]
    dsimp only
    split <;> simp [State.progAdd, State.mapPair]

theorem State.replay_idle {s : State} (h : s.unacked = 0) : s.replay = s := if_pos h

theorem State.replay_again {s : State} (h : s.unacked ≠ 0) (hr : s.pair.replays < 8) : s.replay =
    ((s.mapPair (fun p => { p with replays := p.replays + 1 })).bump Obj.tieReplays).send (.tieReplay (s.pair.acked % 4096)) := by
  rw [State.replay, if_neg h, if_neg (Nat.not_le.2 hr)]

theorem State.replay_ninth {s : State} (h : s.unacked ≠ 0) (hr : 8 ≤ s.pair.replays) : s.replay = s.tieDrop := by
  rw [State.replay, if_neg h, if_pos hr]

/-- The objects of a link that goes down. -/
theorem State.tieDrop_rd (s : State) : s.tieDrop.rd Obj.tieState = 0 ∧ s.tieDrop.rd Obj.tieWidth = 0 ∧
    s.tieDrop.rd Obj.tieDowns = Nat.min (s.rd Obj.tieDowns + 1) (maxOf Obj.tieDowns) ∧
    (s.rd Obj.clockState = 3 → s.tieDrop.rd Obj.clockState = 4 ∧ s.tieDrop.rd Obj.coastedCourses = 0) ∧
    (s.rd Obj.clockState ≠ 3 → s.tieDrop.rd Obj.clockState = s.rd Obj.clockState) := by
  have hk : (∀ k ∈ [Obj.tieState, Obj.tieWidth, Obj.tieDowns, Obj.clockState, Obj.coastedCourses], k ≠ Obj.positionFlags) ∧
    (∀ k ∈ [Obj.tieState, Obj.tieWidth, Obj.tieDowns], k ≠ Obj.clockState ∧ k ≠ Obj.coastedCourses ∧ Obj.clockState ≠ k) ∧
    Obj.tieState ≠ Obj.tieWidth ∧ Obj.tieDowns ≠ Obj.tieState ∧ Obj.tieDowns ≠ Obj.tieWidth ∧
    Obj.clockState ≠ Obj.coastedCourses := by decide
  simp only [List.forall_mem_cons, List.not_mem_nil, false_implies, implies_true, and_true] at hk
  obtain ⟨⟨f1, f2, f3, f4, f5⟩, ⟨⟨a1, a2, a3⟩, ⟨b1, b2, b3⟩, c1, c2, c3⟩, h1, h2, h3, h4⟩ := hk
  unfold State.tieDrop
  by_cases h : s.rd Obj.clockState = 3
  · simp [State.rd_wr, State.rd_bump, State.rd_setFlag_ne, *]
  · simp [State.rd_wr, State.rd_bump, *]

/-- A flit that arrives whole while the link is up (R475). -/
theorem execTieFlit_whole {s : State} {flit : Bytes} (fixed : Bool) (hup : s.tieUp = true) (hl : flit.length = 256) :
    let c := if fixed then s.bump Obj.tieFecCorrected else s
    let kind := bits (field flit 0 2) 13 12
    let seq := bits (field flit 0 2) 11 0
    let u := c.takeAck (bits (field flit 2 2) 11 0)
    let ahead := (seq + 4096 - (s.pair.rxSeq + 1) % 4096) % 4096
    execTieFlit flit fixed s = .next (if field flit 240 8 ≠ crc64 (flit.take 240) then (c.bump Obj.tieCrcErrors).send (.tieNak s.pair.rxSeq)
      else if kind = 2 then u.replay else if kind ≠ 0 then u
      else if ahead = 0 then (u.mapPair (fun p => { p with rxSeq := seq })).send (.tieAck seq)
      else if ahead < 2048 then u.send (.tieNak s.pair.rxSeq) else u.send (.tieAck s.pair.rxSeq)) := by
  have hrx : (if fixed then s.bump Obj.tieFecCorrected else s).pair.rxSeq = s.pair.rxSeq := by cases fixed <;> rfl
  simp only [execTieFlit, hup, hl, Bool.not_true, bne_self_eq_false, Bool.or_self, Bool.false_eq_true, if_false, State.takeAck_rxSeq,
    hrx, bne_iff_ne, beq_iff_eq]

/-- A link that is down trains at x8 or x4 (R474). -/
theorem State.trainTie_up {s : State} (h : s.rd Obj.tieState = 0) {w : Nat} (hw : w = 4 ∨ w = 8) :
    (s.trainTie w).rd Obj.tieState = 2 ∧ (s.trainTie w).rd Obj.tieWidth = w ∧ (s.trainTie w).unacked = 0 ∧
    (s.trainTie w).pair.rxSeq = 4095 ∧ (s.trainTie w).pair.replays = 0 ∧ (s.trainTie w).rd Obj.role = s.rd Obj.role ∧
    (s.trainTie w).sent = s.sent ∧ (s.trainTie w).rings = s.rings := by
  have hk : Obj.tieState ≠ Obj.tieWidth ∧ Obj.tieState ≠ Obj.tieLatencyNs ∧ Obj.tieWidth ≠ Obj.tieLatencyNs ∧ Obj.role ≠ Obj.tieState ∧
    Obj.role ≠ Obj.tieWidth ∧ Obj.role ≠ Obj.tieLatencyNs := by decide
  obtain ⟨h1, h2, h3, h4, h5, h6⟩ := hk
  have hc : (s.rd Obj.tieState != 0 || !(w == 8 || w == 4)) = false := by rcases hw with rfl | rfl <;> simp [h]
  simp only [State.trainTie, hc, Bool.false_eq_true, if_false]
  refine ⟨?_, ?_, ?_, rfl, rfl, ?_, rfl, rfl⟩
  · simp [State.rd_wr, h1, h2]
  · simp [State.rd_wr, h3]
  · simp [State.unacked, State.mapPair, sumN]
  · simp [State.rd_wr, h4, h5, h6]
    rfl

end Sys2Proof.Machine

namespace Sys2Proof
open Machine

/-- Settles O52: the flit's branches in the order R475 asks for them, then replays, training and retraining. -/
theorem tieLink : Obligations.TieLink := by
  refine ⟨fun s flit fixed hup => ?_, fun s => ?_⟩
  · have hexec : exec (.tieFlit flit fixed) s = execTieFlit flit fixed s := rfl
    rw [hexec]
    refine ⟨fun hl => ?_, fun hl hc => ?_, fun hl hc => ?_, fun ack _ => ⟨fun h => ?_, fun h1 h2 => ⟨fun h => ?_, fun h3 h4 => ?_⟩⟩,
      ?_, fun h => State.replay_idle h, fun h hr => State.replay_again h hr, fun h hr => ?_⟩
    · exact congrArg Host.Outcome.next (if_pos (by simp [hl]))
    · rw [execTieFlit_whole fixed hup hl, if_pos hc]
    · rw [execTieFlit_whole fixed hup hl, if_neg (not_not_intro hc)]
      refine ⟨fun h => ?_, fun h0 h2 => ?_, fun h ha => ?_, fun h h1 h2 => ?_, fun h h1 => ?_⟩
      · rw [if_pos h]
      · rw [if_neg h2, if_pos h0]
      · rw [if_neg (by omega), if_neg (by omega), if_pos ha]
      · rw [if_neg (by omega), if_neg (by omega), if_neg (by omega), if_pos h2]
      · rw [if_neg (by omega), if_neg (by omega), if_neg (by omega), if_neg (by omega)]
    · exact State.takeAck_none rfl h
    · rw [State.takeAck_some rfl h1 h2]
      exact if_neg (fun hm => h.elim (· hm.1) hm.2)
    · rw [State.takeAck_some rfl h1 h2]
      exact if_pos ⟨h3, h4⟩
    · exact congrArg Host.Outcome.next (if_pos hup)
    · rw [State.replay_ninth h hr]
      exact s.tieDrop_rd
  · have hre : ∀ ok, exec (.tieRetrain ok) s = execTieRetrain ok s := fun _ => rfl
    have hb : (s.bump Obj.tieRetrains).rd Obj.tieWidth = s.rd Obj.tieWidth := s.rd_bump_ne _ (by decide)
    refine ⟨fun hp ht w hw => ⟨_, congrArg Host.Outcome.next (if_neg (Nat.not_lt.2 hp)), State.trainTie_up ht (by simpa using hw)⟩,
      fun w h => ?_, fun h => ?_, fun h hw => ?_, fun h hw => ?_, fun h ok => ⟨?_, ?_, fun flit => ?_⟩⟩
    · rw [show exec (.tieTraining w) s = execTieTraining w s from rfl, execTieTraining]
      split
      · rfl
      · exact congrArg Host.Outcome.next (if_pos (by simp; omega))
    · simp [hre, execTieRetrain, h]
    · simp [hre, execTieRetrain, h, hb, hw]
    · simp [hre, execTieRetrain, h, hb, hw]
    · exact congrArg Host.Outcome.next (if_pos (by simp [h]))
    · exact congrArg Host.Outcome.next (if_neg (by simp [h]))
    · exact congrArg Host.Outcome.next (if_pos (by simp [h]))

end Sys2Proof

/-! SUPPORT. Heartbeats, the watchdog and takeover (R484-R489). -/

namespace Sys2Proof.Machine

/-! ### Heartbeats sent (R484, R485) -/

/-- The leaf with its watchdog fed at the present tick. -/
def State.feed (s : State) : State := s.mapPair (fun p => { p with fedTick := some (s.rd Obj.position / 16) })

/-- The leaf once it has turned its heartbeat line and told of it. -/
def State.turn (s : State) : State :=
  (s.feed.mapPair (fun p => { p with hbOut := !s.pair.hbOut })).send (.heartbeatEdge (!s.pair.hbOut))

theorem State.beat_eq (s : State) : s.beat =
    if s.pair.failed then s else if s.rd Obj.role = 4 ∨ s.rd Obj.phase < 5 then s.feed
    else if s.tieUp then s.turn.send (.tie 1 0 s.heartbeatBody) else s.turn := by
  have hc : (s.feed.rd Obj.role == 4 || decide (s.feed.rd Obj.phase < 5)) = true ↔ s.rd Obj.role = 4 ∨ s.rd Obj.phase < 5 := by
    simp only [Bool.or_eq_true, decide_eq_true_eq, beq_iff_eq]
    rfl
  exact ite_of_iff Iff.rfl rfl (ite_of_iff hc rfl rfl)

/-! ### Heartbeats heard (R484-R489) -/

/-- The leaf as a heartbeat of role `role` and flags `flags` leaves it, before anything follows from them. -/
def State.hear (s : State) (body : Bytes) : State :=
  (s.wr Obj.partnerRole (field body 8 1)).mapPair (fun p =>
    { p with alive := true, gotMsg := p.gotMsg || decide (field body 0 8 = s.rd Obj.position / 16), flags := field body 9 1 })

theorem State.hear_rd (s : State) (body : Bytes) {k : Nat} (h : k ≠ Obj.partnerRole) : (s.hear body).rd k = s.rd k :=
  s.rd_wr_ne _ h

theorem State.hear_loses (s : State) (body : Bytes) (n : Nat) : (s.hear body).loses n = s.loses n := by
  simp only [State.loses, State.leadFrames, s.hear_rd body (show Obj.role ≠ Obj.partnerRole by decide),
    s.hear_rd body (show Obj.leafId ≠ Obj.partnerRole by decide)]
  rfl

/-- What follows from a heartbeat on a leaf that is not PAIRING. -/
theorem execHeartbeat_heard {s : State} {body : Bytes} (hup : s.tieUp = true) (hl : body.length = 16) (h4 : s.rd Obj.role ≠ 4)
    (h0 : s.rd Obj.role ≠ 0) (hr : field body 8 1 ≤ 4) :
    execHeartbeat body s = .next (
      if s.rd Obj.role = 1 ∧ field body 8 1 = 1 then
        if s.pair.relinquish then ((s.hear body).wr Obj.role 2).mapPair (fun p => { p with relinquish := false, released := false })
        else if bit (field body 9 1) 0 then s.hear body
        else if s.loses (field body 12 4) then (((s.hear body).wr Obj.role 0).wr Obj.pairFailReason 3).wr Obj.paired 0 else s.hear body
      else if s.rd Obj.role = 2 ∧ bit (field body 9 1) 0 ∧ s.rd Obj.clockState = 2 then (s.hear body).lead (s.clk.frames + 1)
      else if s.rd Obj.role = 2 ∧ s.rd Obj.partnerRole = 1 ∧ field body 8 1 ∈ [2, 3] then
        ((s.hear body).lead s.clk.frames).bump Obj.handovers
      else s.hear body) := by
  have k1 : Obj.role ≠ Obj.partnerRole ∧ Obj.clockState ≠ Obj.partnerRole := by decide
  rw [execHeartbeat, if_neg (by simp [hup, hl, h4, hr])]
  change Host.Outcome.next (ite _ _ (ite _ (ite _ _ (ite _ _ (ite ((s.hear body).loses _ = true) _ _))) (ite _ _ (ite _ _ _)))) = _
  rw [if_neg (by simpa using h0), s.hear_loses]
  refine congrArg Host.Outcome.next (ite_of_iff (by simp) rfl (ite_of_iff ?_ rfl (ite_of_iff (by simp [and_assoc]) rfl rfl)))
  rw [show ∀ t : State, t = s.hear body → t.rd Obj.clockState = s.rd Obj.clockState from
    fun t ht => ht ▸ s.hear_rd body (by decide)]
  · simp [and_assoc]
  · rfl

theorem State.loses_iff (s : State) {theirs : Nat} (h : theirs < 2 ^ 32) : s.loses theirs = true ↔
    2 ^ 31 < (s.leadFrames + 2 ^ 32 - theirs) % 2 ^ 32 ∨
      (((s.leadFrames + 2 ^ 32 - theirs) % 2 ^ 32 = 0 ∨ (s.leadFrames + 2 ^ 32 - theirs) % 2 ^ 32 = 2 ^ 31) ∧ s.rd Obj.leafId = 1) := by
  simp only [State.loses, Nat.mod_eq_of_lt h, Bool.or_eq_true, Bool.and_eq_true, decide_eq_true_eq, beq_iff_eq, gt_iff_lt]

/-! ### The watchdog and takeover (R485-R488) -/

theorem execWatchdogFail_fed {s : State} {t : Nat} (hc : 2 ≤ s.rd Obj.clockState) (ht : s.pair.fedTick = some t) :
    execWatchdogFail s = .next (if t = s.rd Obj.position / 16 ∨ (t + 1 = s.rd Obj.position / 16 ∧ s.rd Obj.position % 16 ≠ 15) then s
      else
        let dead := s.mapPair (fun p => { p with failed := true })
        dead.activeLanes.foldl (fun u n => u.restartLane n false) dead) := by
  have hcount : s.counting = true := decide_eq_true hc
  simp only [execWatchdogFail, ht, hcount]
  refine congrArg Host.Outcome.next (ite_of_iff ?_ rfl rfl)
  simp only [Bool.not_true, Bool.false_or, Bool.or_eq_true, Bool.and_eq_true, decide_eq_true_eq, bne_iff_ne]
  rfl

/-- A leaf that holds no shadow adopts none and loses what its partner had live and it has not bound (R498). -/
theorem State.adoptShadows_none {s : State} (h : s.pair.shadows = []) : s.adoptShadows.streams = s.streams ∧
    s.adoptShadows.rd Obj.streamsLost =
      Nat.min (s.rd Obj.streamsLost + (s.pair.partnerLive.filter (fun n => !s.isBound n)).length) (maxOf Obj.streamsLost) := by
  have h1 : Obj.streamsLost ≠ Obj.shadows ∧ Obj.streamsLost ≠ Obj.shadowUsed := by decide
  refine ⟨by simp [State.adoptShadows, h, State.countShadows, State.mapPair], ?_⟩
  simp [State.adoptShadows, h, State.countShadows, State.rd_bump, State.rd_wr, h1]

end Sys2Proof.Machine

namespace Sys2Proof
open Machine

/-- Settles O53: each command by the cases of its leaf's role, after what every heartbeat tells. -/
theorem heartbeats : Obligations.Heartbeats := by
  refine ⟨fun s => ⟨fun h => ?_, fun h hr => ?_, fun h hr hp => ⟨fun ht => ?_, fun ht => ?_⟩⟩, fun s body => ?_, fun s => ?_⟩
  · rw [s.beat_eq, if_pos h]
  · rw [s.beat_eq, if_neg (by simp [h]), if_pos hr]; rfl
  · rw [s.beat_eq, if_neg (by simp [h]), if_neg (by omega), if_pos ht]; rfl
  · rw [s.beat_eq, if_neg (by simp [h]), if_neg (by omega), if_neg (by simp [ht])]; rfl
  · have hexec : exec (.heartbeat body) s = execHeartbeat body s := rfl
    rw [hexec]
    refine ⟨rfl, fun h => congrArg Host.Outcome.next (if_pos (by simpa [or_assoc] using h)), fun hup hl hr => ?_, fun n hn => s.loses_iff hn⟩
    have heard := fun h4 h0 => execHeartbeat_heard hup hl h4 h0 hr
    refine ⟨fun h => ?_, fun h h1 => ?_, fun h h1 hq => ?_, fun h h1 hq hb => ?_, fun h h1 hq hb => ?_, fun h hb hc => ?_,
      fun h hb hp h1 => ?_, fun h hb hp => ?_⟩ <;> rw [heard (by omega) (by omega)]
    · rw [if_neg (by omega), if_neg (by omega), if_neg (by omega)]; rfl
    · rw [if_neg (by omega), if_neg (by omega), if_neg (by omega)]; rfl
    · rw [if_pos ⟨h, h1⟩, if_pos hq]; rfl
    · rw [if_pos ⟨h, h1⟩, if_neg (by simp [hq]), if_pos hb]; rfl
    · rw [if_pos ⟨h, h1⟩, if_neg (by simp [hq]), if_neg (by simp [hb])]; rfl
    · rw [if_neg (by omega), if_pos ⟨h, hb, hc⟩]; rfl
    · rw [if_neg (by omega), if_neg (by simp [hb]), if_pos ⟨h, hp, h1⟩]; rfl
    · rw [if_neg (by omega), if_neg (by simp [hb]), if_neg (by simp [hp])]; rfl
  · refine ⟨fun hc t ht => ⟨fun h => ?_, fun h h15 => ?_, fun h => ?_⟩, fun hr hp ht hf => ?_, fun h => ?_, fun hr hp ht => ?_,
      fun h => ?_, fun at' => ⟨State.rd_wr_self .., rfl, rfl⟩, ⟨?_, rfl, rfl, rfl⟩, State.adoptShadows_none⟩
    · exact (execWatchdogFail_fed hc ht).trans (congrArg _ (if_neg (by omega)))
    · exact (execWatchdogFail_fed hc ht).trans (congrArg _ (if_neg (by omega)))
    · exact (execWatchdogFail_fed hc ht).trans (congrArg _ (if_pos (by omega)))
    · exact congrArg Host.Outcome.next (if_pos (by simp [State.rdB, hr, hp, ht, hf]))
    · exact congrArg Host.Outcome.next (if_neg (by simp [State.rdB]; grind))
    · exact congrArg Host.Outcome.next (if_pos (by simp [State.rdB, hr, hp, ht]))
    · exact congrArg Host.Outcome.next (if_neg (by simp [State.rdB]; grind))
    · exact (State.rd_wr_ne _ _ (by decide)).trans (State.rd_wr_self ..)

end Sys2Proof

/-! SUPPORT. Pairing: the timeout, JOIN and the roles it gives (R482, R502, R529). -/

namespace Sys2Proof.Machine

/-- A leaf that has said hello says it once. -/
theorem State.joinHello_said {s : State} (h : s.pair.joinNonce ≠ []) : s.joinHello = s := by
  simp [State.joinHello, h]

/-- A further part of the report of a partner that this leaf has answered. -/
theorem execJoin_part {s : State} {tag : BitVec 32} {body : Bytes} (hup : s.tieUp = true) (hl : 56 < body.length)
    (hp : 5 ≤ s.rd Obj.phase) (hr : s.rd Obj.role ≤ 1) (hf : s.rd Obj.role = 0 → s.rd Obj.pairFailReason = 0)
    (hn : s.pair.joinNonce ≠ []) (ht : s.pair.theirNonce = body.take 16) :
    let data := (if s.pair.joinTag = tag.toNat then s.pair.joinData else []) ++ body.drop 56
    let whole := s.mapPair (fun p => { p with joinData := [], theirNonce := [] })
    execJoin tag body s = .next (if data.length < joinBytes then s.mapPair (fun p => { p with joinTag := tag.toNat, joinData := data })
      else if field body 16 32 ≠ s.rd Obj.firmwareDigest then (whole.wr Obj.firmwareMatch 0).pairFail 1
      else if whole.joinPasses data = false then whole.pairFail 2 else whole.pairWith (field body 48 1)) := by
  have hopen : (!s.tieUp || decide (body.length < 56) || decide (s.rd Obj.phase < 5) || decide (s.rd Obj.role > 1) ||
      (s.rd Obj.role == 0 && s.rd Obj.pairFailReason != 0)) = false := by
    simp [hup, hp, hr]
    exact ⟨by omega, hf⟩
  have hpart : (body.drop 56).isEmpty = false := by simp; omega
  simp only [execJoin, hopen, State.joinHello_said hn, ht, hpart, bne_self_eq_false, Bool.false_eq_true, if_false, bne_iff_ne,
    beq_iff_eq, Bool.not_eq_true', State.rd_mapPair]

/-- The reads of the partner's yield leave the objects of this leaf. -/
theorem State.foldl_tieSend_rd (es : List (Nat × Nat × Nat)) (f : Nat × Nat × Nat → Bytes) (s : State) (k : Nat) :
    (es.foldl (fun s e => s.tieSend 6 e.1 (f e)) s).rd k = s.rd k := by
  induction es generalizing s with
  | nil => rfl
  | cons e es ih =>
    rw [List.foldl_cons, ih, State.tieSend]
    split <;> rfl

/-- The state a pairing leaves before it reads the partner's yield. -/
theorem State.pairWith_rd (s : State) (theirs k : Nat) : (s.pairWith theirs).rd k =
    let t := (((s.wr Obj.paired 1).wr Obj.firmwareMatch 1).wr Obj.partnerRole theirs).mapPair
      (fun p => { p with silent := 0, gotMsg := true, gotEdge := true })
    (if s.rd Obj.role ≠ 0 then t
      else if theirs = 1 ∨ (theirs = 0 ∧ s.rd Obj.leafId = 1) then t.wr Obj.role 2
      else if theirs = 0 then t.lead t.clk.frames else t).rd k := by
  have hk : ∀ j ∈ [Obj.role, Obj.leafId], j ≠ Obj.paired ∧ j ≠ Obj.firmwareMatch ∧ j ≠ Obj.partnerRole := by decide
  simp only [List.forall_mem_cons] at hk
  obtain ⟨⟨r1, r2, r3⟩, ⟨l1, l2, l3⟩, -⟩ := hk
  rw [State.pairWith, State.foldl_tieSend_rd]
  simp [State.rd_wr, r1, r2, r3, l1, l2, l3]

end Sys2Proof.Machine

namespace Sys2Proof
open Machine

/-- Settles O57: the timeout, the parts of a JOIN one after another, and the roles by R482. -/
theorem pairings : Obligations.Pairings := by
  refine ⟨fun s ms hr hp hf => ⟨fun ha hm => ?_, fun h => ?_⟩, fun s tag body hup hl hp hr hf hn ht => ?_, fun s theirs => ?_⟩
  · exact congrArg Host.Outcome.next (if_pos (by simp [hr, hp, hf, ha, hm]))
  · exact congrArg Host.Outcome.next (if_neg (by simp [hr, hp, hf]; grind))
  · have hexec : exec (.join tag body) s = execJoin tag body s := rfl
    simp only [hexec, execJoin_part hup hl hp hr hf hn ht]
    refine ⟨fun h => ?_, fun h hd => ?_, fun h hd hj => ?_, fun h hd hj => ?_⟩
    · rw [if_pos h]
    · rw [if_neg (Nat.not_lt.2 h), if_pos hd]
    · rw [if_neg (Nat.not_lt.2 h), if_neg (not_not_intro hd), if_pos hj]
    · rw [if_neg (Nat.not_lt.2 h), if_neg (not_not_intro hd), if_neg (by simp [hj])]
  · have hk : ∀ j ∈ [Obj.paired, Obj.firmwareMatch, Obj.partnerRole], j ≠ Obj.role := by decide
    simp only [List.forall_mem_cons] at hk
    obtain ⟨h1, h2, h3, -⟩ := hk
    have h4 : Obj.paired ≠ Obj.firmwareMatch ∧ Obj.paired ≠ Obj.partnerRole ∧ Obj.firmwareMatch ≠ Obj.partnerRole := by decide
    have hlead : ∀ (t : State) (n k : Nat), (t.lead n).rd k = (t.wr Obj.role 1).rd k := fun _ _ _ => rfl
    simp only [State.pairWith_rd]
    refine ⟨?_, ?_, ?_, fun hr ht => ?_, fun hr ht hi => ?_, fun hr ht hi => ?_, fun hr => ?_⟩
    · repeat' split
      all_goals simp [hlead, State.rd_wr, h1, h4]
    · repeat' split
      all_goals simp [hlead, State.rd_wr, h2, h4]
    · repeat' split
      all_goals simp [hlead, State.rd_wr, h3]
    · simp [hr, ht]
    · simp [hr, ht, hi]
    · simp [hr, ht, hi, hlead]
    · simp [hr, State.rd_wr, h1.symm, h2.symm, h3.symm]

end Sys2Proof

/-! SUPPORT. Frames of the house clock: what an edge shows, and what a coasted frame leaves (R25, R27, R51, R572). -/

namespace Sys2Proof.Machine

/-! ### What an edge shows of the period it ends (R25, R40, R572) -/

/-- The branches of the reading of the bit clock. -/
theorem State.readBitClock_eq (s : State) (p n : Nat) : s.readBitClock p n =
    if s.stoppedIn p then s
    else if n = 64 ∨ n = 128 then
      ({ s with clk := { s.clk with badRatio := 0, goodRatio := s.clk.goodRatio + 1, ratioCounted := false } }).wr Obj.bitRatio n
    else ({ s with clk := { s.clk with badRatio := s.clk.badRatio + 1, goodRatio := 0 } }).wr Obj.bitRatio 0 := by
  simp [State.readBitClock]

theorem State.readBitClock_rd (s : State) (p n : Nat) {k : Nat} (h : k ≠ Obj.bitRatio) : (s.readBitClock p n).rd k = s.rd k := by
  rw [State.readBitClock_eq]
  split
  · rfl
  · split <;> exact State.rd_wr_ne _ _ h

/-- The reading of the bit clock counts no frame and no period. -/
theorem State.readBitClock_clk (s : State) (p n : Nat) : (s.readBitClock p n).clk.first = s.clk.first ∧
    (s.readBitClock p n).clk.frames = s.clk.frames ∧ (s.readBitClock p n).clk.badPeriods = s.clk.badPeriods := by
  rw [State.readBitClock_eq]
  split
  · exact ⟨rfl, rfl, rfl⟩
  · split <;> exact ⟨rfl, rfl, rfl⟩

@[simp] theorem State.sampleCmark_rd (s : State) (b : Bool) (k : Nat) : (s.sampleCmark b).rd k = s.rd k := by
  unfold State.sampleCmark
  split <;> rfl

theorem State.sampleCmark_clk (s : State) (b : Bool) : ∃ x y, (s.sampleCmark b).clk = { s.clk with cmarkPrev := x, cmarkNow := y } := by
  unfold State.sampleCmark
  split <;> exact ⟨_, _, rfl⟩

/-- The reading of the bit clock and the sample of CMARK_IN at an edge. -/
def State.readEdge (s : State) (e : Edge) : State := (s.readBitClock e.periodPs e.bitEdges).sampleCmark e.cmark

theorem State.readEdge_rd (s : State) (e : Edge) {k : Nat} (h : k ≠ Obj.bitRatio) : (s.readEdge e).rd k = s.rd k :=
  (State.sampleCmark_rd ..).trans (s.readBitClock_rd _ _ h)

theorem State.readEdge_fs (s : State) (e : Edge) : (s.readEdge e).fs = s.fs := s.readEdge_rd e (by decide)

/-- What the reading at an edge leaves of the clock's counts. -/
theorem State.readEdge_clk (s : State) (e : Edge) : (s.readEdge e).clk.first = s.clk.first ∧ (s.readEdge e).clk.frames = s.clk.frames ∧
    (s.readEdge e).clk.badPeriods = s.clk.badPeriods ∧
    (s.readEdge e).clk.badRatio = (s.readBitClock e.periodPs e.bitEdges).clk.badRatio ∧
    (s.readEdge e).clk.goodRatio = (s.readBitClock e.periodPs e.bitEdges).clk.goodRatio ∧
    (s.readEdge e).rd Obj.bitRatio = (s.readBitClock e.periodPs e.bitEdges).rd Obj.bitRatio := by
  obtain ⟨x, y, h⟩ := (s.readBitClock e.periodPs e.bitEdges).sampleCmark_clk e.cmark
  obtain ⟨h1, h2, h3⟩ := s.readBitClock_clk e.periodPs e.bitEdges
  simp only [State.readEdge, h, h1, h2, h3, State.sampleCmark_rd, and_self]

theorem State.judgePeriod_fits {s : State} {p : Nat} (h : periodFits s.fs p = true) : s.judgePeriod p =
    ({ s with clk := { s.clk with badPeriods := 0 } }).wr Obj.rateError (ofSigned 32 (rateError s.fs p)) := if_pos h

theorem State.judgePeriod_unfit {s : State} {p : Nat} (h : periodFits s.fs p = false) : s.judgePeriod p =
    ({ s with clk := { s.clk with badPeriods := s.clk.badPeriods + 1 } }).bump Obj.periodFaults := if_neg (by simp [h])

theorem State.judgePeriod_rd (s : State) (p : Nat) {k : Nat} (h1 : k ≠ Obj.rateError) (h2 : k ≠ Obj.periodFaults) :
    (s.judgePeriod p).rd k = s.rd k := by
  unfold State.judgePeriod
  split
  · exact State.rd_wr_ne _ _ h1
  · exact State.rd_wr_ne _ _ h2

theorem State.judgePeriod_clk (s : State) (p : Nat) : ∃ n, (s.judgePeriod p).clk = { s.clk with badPeriods := n } := by
  unfold State.judgePeriod
  split <;> exact ⟨_, rfl⟩

theorem State.stoppedIn_iff (s : State) (p : Nat) :
    s.stoppedIn p = true ↔ s.rd Obj.houseRateHz ≠ 0 ∧ 4 * 10 ^ 12 ≤ p * s.rd Obj.houseRateHz := by
  simp only [State.stoppedIn, Bool.and_eq_true, bne_iff_ne, decide_eq_true_eq]
  rfl

/-- A frame begins at an edge while LOCKED, once the edge is read and the period it ends judged (R25, R27, R572). -/
theorem execFrame_locked {s : State} (e : Edge) (hp : 5 ≤ s.rd Obj.phase) (hc : s.rd Obj.clockState = 2) : execFrame e s =
    .next (if s.clk.first = true ∧ s.clk.frames = 0 then ((s.readEdge e).judgePeriod e.periodPs).firstFrame e.lanes
      else ((s.readEdge e).judgePeriod e.periodPs).beginFrame (s.rd Obj.position) (s.rd Obj.position + 1) e.lanes) := by
  obtain ⟨hf, hn, -⟩ := s.readEdge_clk e
  obtain ⟨m, hclk⟩ := (s.readEdge e).judgePeriod_clk e.periodPs
  have hstate : (s.readEdge e).rd Obj.clockState = 2 := (s.readEdge_rd e (by decide)).trans hc
  have hpos : ((s.readEdge e).judgePeriod e.periodPs).pos = s.rd Obj.position :=
    (State.judgePeriod_rd _ _ (by decide) (by decide)).trans (s.readEdge_rd e (by decide))
  have hfirst : (((s.readEdge e).judgePeriod e.periodPs).clk.first && ((s.readEdge e).judgePeriod e.periodPs).clk.frames == 0) = true ↔
      s.clk.first = true ∧ s.clk.frames = 0 := by
    rw [hclk]
    simp [hf, hn]
  rw [execFrame, if_neg (Nat.not_lt.2 hp)]
  refine congrArg Host.Outcome.next ((if_pos (beq_iff_eq.2 hstate)).trans ?_)
  rw [← hpos]
  exact ite_of_iff hfirst rfl rfl

/-! ### Coasted frames (R51) -/

/-- A frame missed is a matter of the streams alone. -/
theorem State.missFrames_streams (s : State) (p : Nat) (lost : Nat → Bool) : ∃ m, s.missFrames p lost = { s with streams := m } := by
  have hfold : ∀ (ms : List Member) (s : State), ∃ m, ms.foldl (fun s m =>
      if (List.range m.channels).any (fun k => lost (nth 0 (s.groupSlots m.group) (m.first + k))) then s.missFrame m.stream p else s) s =
      { s with streams := m } := by
    intro ms
    induction ms with
    | nil => exact fun s => ⟨s.streams, rfl⟩
    | cons x xs ih =>
      intro s
      rw [List.foldl_cons]
      split
      · obtain ⟨m, hm⟩ := ih (s.missFrame x.stream p)
        exact ⟨m, hm⟩
      · exact ih s
  exact hfold _ s

/-- A change of some lanes, each once, is a change of those lanes alone. -/
theorem State.foldl_setLane (f : Nat → LaneRun → LaneRun) (ns : List Nat) (h : ns.Nodup) (s : State) :
    (∃ m, ns.foldl (fun s n => s.setLane n (f n (s.lane n))) s = { s with lanes := m }) ∧
    ∀ k, (ns.foldl (fun s n => s.setLane n (f n (s.lane n))) s).lane k = if k ∈ ns then f k (s.lane k) else s.lane k := by
  induction ns generalizing s with
  | nil => exact ⟨⟨s.lanes, rfl⟩, by simp⟩
  | cons n ns ih =>
    obtain ⟨hn, hns⟩ := List.nodup_cons.1 h
    obtain ⟨⟨m, hm⟩, hl⟩ := ih hns (s.setLane n (f n (s.lane n)))
    refine ⟨⟨m, hm⟩, fun k => (hl k).trans ?_⟩
    by_cases hk : k = n
    · subst hk
      simp [hn]
    · simp [hk, State.lane_setLane_ne _ _ hk]

/-- A frame whose output lanes shift on `n` edges only, once it has begun. -/
def State.cutLanes (u : State) (n : Nat) : State :=
  let t := (u.activeLanes.filter (fun k => u.rd (Obj.laneDirection k) == 2)).foldl (fun s k =>
    s.setLane k { s.lane k with out := (s.lane k).out.take n }) u
  t.missFrames t.pos (fun slot => decide (n < t.slotEnd slot))

theorem State.coastFrame_eq (s : State) (prev new n : Nat) (lanes : List (Fin 64 × List Bool)) :
    s.coastFrame prev new n lanes = (s.beginFrame prev new lanes).cutLanes n := rfl

/-- What is cut are the bits of the output lanes. -/
theorem State.cutLanes_spec (u : State) (n : Nat) : (u.cutLanes n).dict = u.dict ∧ (u.cutLanes n).rings = u.rings ∧
    (u.cutLanes n).joints = u.joints ∧ (u.cutLanes n).sent = u.sent ∧
      ∀ k, k < 64 → ((u.cutLanes n).lane k).out =
        if u.rd (Obj.laneDirection k) = 2 then (u.lane k).out.take n else (u.lane k).out := by
  have hnodup : (u.activeLanes.filter (fun k => u.rd (Obj.laneDirection k) == 2)).Nodup :=
    (List.nodup_range.filter _).filter _
  obtain ⟨⟨m, hm⟩, hl⟩ := State.foldl_setLane (fun _ l => { l with out := l.out.take n }) _ hnodup u
  obtain ⟨st, hst⟩ := State.missFrames_streams { u with lanes := m } ({ u with lanes := m } : State).pos
    (fun slot => decide (n < ({ u with lanes := m } : State).slotEnd slot))
  have ht : u.cutLanes n = { { u with lanes := m } with streams := st } := by
    rw [State.cutLanes, hm]
    exact hst
  rw [ht]
  refine ⟨rfl, rfl, rfl, rfl, fun k hk => ?_⟩
  have hlane : ({ { u with lanes := m } with streams := st } : State).lane k = ({ u with lanes := m } : State).lane k := rfl
  rw [hlane, ← hm, hl]
  simp only [State.activeLanes, List.mem_filter, List.mem_range, hk, true_and, bne_iff_ne, beq_iff_eq]
  by_cases h2 : u.rd (Obj.laneDirection k) = 2 <;> simp [h2]

end Sys2Proof.Machine

namespace Sys2Proof
open Machine

/-- Settles O41: the edge is read and judged before the frame begins; a coasted frame is one whose lanes are cut. -/
theorem frames : Obligations.Frames := by
  refine ⟨fun s e hp hc => ?_, fun s n lanes => ⟨fun h => ?_, fun h => ⟨_, ?_, State.cutLanes_spec _ _⟩⟩⟩
  · obtain ⟨hf, hn, hb, hbad, hgood, hratio⟩ := s.readEdge_clk e
    obtain ⟨m, hclk⟩ := (s.readEdge e).judgePeriod_clk e.periodPs
    have hjudge : ∀ k, k ≠ Obj.rateError → k ≠ Obj.periodFaults →
        ((s.readEdge e).judgePeriod e.periodPs).rd k = (s.readEdge e).rd k := fun k h1 h2 => State.judgePeriod_rd _ _ h1 h2
    have hexec := execFrame_locked e hp hc
    have hbits : ((s.readEdge e).judgePeriod e.periodPs).rd Obj.bitRatio = (s.readBitClock e.periodPs e.bitEdges).rd Obj.bitRatio ∧
        ((s.readEdge e).judgePeriod e.periodPs).clk.badRatio = (s.readBitClock e.periodPs e.bitEdges).clk.badRatio ∧
        ((s.readEdge e).judgePeriod e.periodPs).clk.goodRatio = (s.readBitClock e.periodPs e.bitEdges).clk.goodRatio := by
      rw [hclk, hjudge _ (by decide) (by decide)]
      exact ⟨hratio, hbad, hgood⟩
    refine ⟨fun h => hexec.trans (congrArg _ (if_neg h)), fun h1 h2 => hexec.trans (congrArg _ (if_pos ⟨h1, h2⟩)), fun h => ?_,
      s.stoppedIn_iff _, fun r hr he h => ?_, fun h1 h2 h => ?_, fun h => ?_, fun h => ?_⟩
    · obtain ⟨h1, h2, -⟩ := hbits
      rw [State.readBitClock_eq, if_pos h] at h1 h2
      exact ⟨h1, h2⟩
    · rw [State.readBitClock_eq, if_neg (by simp [h]), if_pos (by simpa [he] using hr)] at hbits
      obtain ⟨h1, h2, h3⟩ := hbits
      exact ⟨h1.trans ((State.rd_wr_self ..).trans he), h2, h3⟩
    · rw [State.readBitClock_eq, if_neg (by simp [h]), if_neg (by simp [h1, h2])] at hbits
      obtain ⟨h1, h2, h3⟩ := hbits
      exact ⟨h1.trans (State.rd_wr_self ..), h2, h3⟩
    · change ((s.readEdge e).judgePeriod e.periodPs).clk.badPeriods = 0 ∧
        ((s.readEdge e).judgePeriod e.periodPs).rd Obj.periodFaults = s.rd Obj.periodFaults ∧
        ((s.readEdge e).judgePeriod e.periodPs).rd Obj.rateError = _
      rw [State.judgePeriod_fits ((s.readEdge_fs e).symm ▸ h), s.readEdge_fs e]
      exact ⟨rfl, (State.rd_wr_ne _ _ (by decide)).trans (s.readEdge_rd e (by decide)), State.rd_wr_self ..⟩
    · change ((s.readEdge e).judgePeriod e.periodPs).clk.badPeriods = _ ∧
        ((s.readEdge e).judgePeriod e.periodPs).rd Obj.periodFaults = _
      rw [State.judgePeriod_unfit ((s.readEdge_fs e).symm ▸ h)]
      refine ⟨congrArg (· + 1) hb, (State.rd_bump_self ..).trans ?_⟩
      exact congrArg (fun n => Nat.min (n + 1) (maxOf Obj.periodFaults)) (s.readEdge_rd e (by decide))
  · exact congrArg Host.Outcome.next (if_pos (by simp [h]))
  · exact congrArg Host.Outcome.next (if_neg (by simp at h; simp; omega))

end Sys2Proof

/-! SUPPORT. The lock of the house clock at another rate, and what it does to a stream marked bound that has no residency (R7, R24). -/

namespace Sys2Proof.Machine

/-- A FEED whose final entry is not written. -/
def openFeed : Cmd := { counter := 0, desc := [2] }

/-- A machine that has counted 1,024 periods of 48 kHz, with a FEED fetched of a stream that is marked bound while its
STREAM_RESIDENCY, the object by which R7's refusal tells a bound stream, is zero. -/
def unhousedStream : State :=
  { dict := [(Obj.clockState, 1)], clk := { acq := 1024, acqRate := 48000 }
    rings := [(0, { cmds := [openFeed] })], streams := [(0, { bound := true })] }

/-- The lock leaves that FEED as it was. -/
theorem lockAcquired_unhousedStream : ∃ t, exec .lockAcquired unhousedStream = .next t ∧ (t.ring 0).cmds = [openFeed] :=
  ⟨_, rfl, rfl⟩

theorem unhousedStream_rates : unhousedStream.rd Obj.clockState = 1 ∧
    unhousedStream.rd Obj.houseRateHz ≠ unhousedStream.clk.acqRate ∧
    unhousedStream.rd (Obj.planRateHz (unhousedStream.rd (Obj.streamPlan 0))) ≠ unhousedStream.clk.acqRate := by decide

end Sys2Proof.Machine

namespace Sys2Proof
open Machine

/-- Refutes O40: the statement asks the stream's own mark whether it is bound, the machine its STREAM_RESIDENCY; where the two differ,
a lock at another rate leaves a FEED of the stream unended. -/
theorem not_acquisition : ¬ Obligations.Acquisition := by
  rintro ⟨-, -, hlock⟩
  obtain ⟨h1, h2, h3⟩ := unhousedStream_rates
  obtain ⟨t, ht, hcmds⟩ := lockAcquired_unhousedStream
  obtain ⟨u, hu, ⟨-, -, -, -, -, -, hrate⟩, -⟩ := (hlock unhousedStream).1 h1 (Nat.le_refl _)
  obtain rfl : t = u := Host.Outcome.next.inj (ht.symm.trans hu)
  have hfinal := hrate h2 0 rfl rfl h3 openFeed (hcmds ▸ List.mem_singleton_self _) (.inl rfl)
  exact Bool.false_ne_true hfinal

end Sys2Proof

/-! SUPPORT. What the end of a command touches: the ring it is on, its completion entries and their counters (R144, R145, R154). -/

namespace Sys2Proof.Machine

/-- `t` is `s` but for ring `n`, host memory, the count of missed deadlines and the objects that count ring `n`'s entries. -/
structure RingFrame (n : Nat) (s t : State) : Prop where
  shape : ∃ d rs h m, t = { s with dict := d, rings := rs, hostMem := h, missed := m }
  rd : ∀ k, k ≠ Obj.streamCplTail n → k ≠ Obj.streamEntriesLost n → k ≠ Obj.noticesSkipped → t.rd k = s.rd k
  ring : ∀ m, m ≠ n → t.ring m = s.ring m

namespace RingFrame
variable {n : Nat} {s t u : State}

theorem refl (n : Nat) (s : State) : RingFrame n s s := ⟨⟨s.dict, s.rings, s.hostMem, s.missed, rfl⟩, fun _ _ _ _ => rfl, fun _ _ => rfl⟩

theorem trans (h : RingFrame n s t) (h' : RingFrame n t u) : RingFrame n s u := by
  obtain ⟨d, rs, m, k, rfl⟩ := h.shape
  obtain ⟨d', rs', m', k', rfl⟩ := h'.shape
  exact ⟨⟨d', rs', m', k', rfl⟩, fun k h1 h2 h3 => (h'.rd k h1 h2 h3).trans (h.rd k h1 h2 h3),
    fun m hm => (h'.ring m hm).trans (h.ring m hm)⟩

theorem setRing (s : State) (n : Nat) (x : Ring) : RingFrame n s (s.setRing n x) :=
  ⟨⟨s.dict, s.rings.put n x, s.hostMem, s.missed, rfl⟩, fun _ _ _ _ => rfl, fun _ hm => s.ring_setRing_ne x hm⟩

theorem wr (s : State) {n k : Nat} (v : Nat) (hk : k ∈ [Obj.streamCplTail n, Obj.streamEntriesLost n, Obj.noticesSkipped]) :
    RingFrame n s (s.wr k v) :=
  ⟨⟨s.dict.put k v, s.rings, s.hostMem, s.missed, rfl⟩, fun j h1 h2 h3 => s.rd_wr_ne v (by
    rintro rfl
    simp [h1, h2, h3] at hk), fun _ _ => rfl⟩

theorem hostWrite (s : State) (n a : Nat) (bs : Bytes) : RingFrame n s (s.hostWrite a bs) :=
  ⟨⟨_, _, _, _, rfl⟩, fun _ _ _ _ => rfl, fun _ _ => rfl⟩

theorem putEntry (s : State) (n : Nat) (e : Entry) : RingFrame n s (s.putEntry n e) :=
  trans (hostWrite s n _ _) (wr (k := Obj.streamCplTail n) _ _ (List.mem_cons_self ..))

theorem putFinal (s : State) (n : Nat) (c : Cmd) (f : Final) : RingFrame n s (s.putFinal n c f) := by
  unfold State.putFinal
  split
  · exact wr s _ (by simp)
  · dsimp only
    refine trans (putEntry s n (s.entryOf c false f.status (f.position.getD s.pos) f.detail f.aux)) ?_
    split
    · exact ⟨⟨_, _, _, _, rfl⟩, fun _ _ _ _ => rfl, fun _ _ => rfl⟩
    · exact refl n _

theorem drainList (n : Nat) (cs : List Cmd) (s : State) : RingFrame n s (drainList n s cs) := by
  induction cs generalizing s with
  | nil => exact setRing s n _
  | cons c cs ih =>
    unfold Machine.drainList
    split
    · exact setRing s n _
    · exact trans (putFinal s n c _) (ih _)

theorem putIndexError (s : State) (n : Nat) : RingFrame n s (s.putIndexError n) := by
  unfold State.putIndexError
  dsimp only
  split
  · split
    · exact trans (setRing s n _) (putEntry _ n _)
    · exact trans (setRing s n _) (wr _ _ (by simp))
  · exact refl n s

theorem drain (s : State) (n : Nat) : RingFrame n s (s.drain n) := trans (drainList n _ s) (putIndexError _ n)

/-- The end of a command. -/
theorem finish (s : State) (n counter status : Nat) (position : Option Nat) (detail aux : Nat) :
    RingFrame n s (s.finish n counter status position detail aux) := trans (setRing s n _) (drain _ n)

end RingFrame

end Sys2Proof.Machine

/-! SUPPORT. What a restart of lanes and a change of muting touch (R25, R397): the lanes, their own objects, the frames missed. -/

namespace Sys2Proof.Machine

/-- An object that no restart of a lane writes. -/
def notLane (k : Nat) : Prop := k / 256 < 0x6000 ∨ 0x6040 ≤ k / 256 ∨ k % 256 ∉ [0x04, 0x06, 0x0C, 0x0D, 0x13]

/-- `t` is `s` but for lanes, streams' missed frames and the objects that lanes report in. -/
structure LaneFrames (s t : State) : Prop where
  shape : ∃ d l m, t = { s with dict := d, lanes := l, streams := m }
  rd : ∀ k, notLane k → t.rd k = s.rd k

/-- The objects that a restart of lane `n` writes. -/
def laneKeys (n : Nat) : List Nat :=
  [Obj.laneState n, Obj.laneDriving n, Obj.laneMutedFrames n, Obj.laneCsRx0 n, Obj.laneCsRx1 n]

theorem ne_laneKey {n k j : Nat} (hn : n < 64) (hk : notLane k) (hj : j ∈ laneKeys n) : k ≠ j := by
  rintro rfl
  simp only [laneKeys, List.mem_cons, List.not_mem_nil, or_false, Obj.laneState, Obj.laneDriving, Obj.laneMutedFrames, Obj.laneCsRx0,
    Obj.laneCsRx1] at hj
  simp only [notLane, List.mem_cons, List.not_mem_nil, or_false] at hk
  omega

namespace LaneFrames
variable {s t u : State} {n : Nat}

theorem refl (s : State) : LaneFrames s s := ⟨⟨s.dict, s.lanes, s.streams, rfl⟩, fun _ _ => rfl⟩

theorem trans (h : LaneFrames s t) (h' : LaneFrames t u) : LaneFrames s u := by
  obtain ⟨d, l, m, rfl⟩ := h.shape
  obtain ⟨d', l', m', rfl⟩ := h'.shape
  exact ⟨⟨d', l', m', rfl⟩, fun k hk => (h'.rd k hk).trans (h.rd k hk)⟩

theorem setLane (s : State) (n : Nat) (x : LaneRun) : LaneFrames s (s.setLane n x) :=
  ⟨⟨s.dict, s.lanes.put n x, s.streams, rfl⟩, fun _ _ => rfl⟩

theorem wr (s : State) {k : Nat} (v : Nat) (hn : n < 64) (hk : k ∈ laneKeys n) : LaneFrames s (s.wr k v) :=
  ⟨⟨s.dict.put k v, s.lanes, s.streams, rfl⟩, fun _ hj => s.rd_wr_ne v (ne_laneKey hn hj hk)⟩

theorem foldl {α : Type} (f : State → α → State) (xs : List α) (h : ∀ x ∈ xs, ∀ s, LaneFrames s (f s x)) (s : State) :
    LaneFrames s (xs.foldl f s) := by
  induction xs generalizing s with
  | nil => exact refl s
  | cons x xs ih =>
    exact trans (h x (List.mem_cons_self ..) s) (ih (fun y hy => h y (List.mem_cons_of_mem _ hy)) _)

end LaneFrames

/-! ### One lane -/

/-- A lane is muted for its own sake: by R397, while it is not resumed. -/
def State.held (s : State) (n : Nat) : Bool := (s.lane n).muted

/-- A step of a lane's restart: the frame, the lane's own muting and that of the others. -/
structure LaneStep (n : Nat) (s t : State) (held : Bool) : Prop where
  frame : LaneFrames s t
  own : t.held n = held
  others : ∀ j, j ≠ n → t.held j = s.held j

theorem LaneStep.setLane (s : State) (n : Nat) (x : LaneRun) : LaneStep n s (s.setLane n x) x.muted :=
  ⟨.setLane s n x, by simp [State.held], fun j hj => by rw [State.held, State.lane_setLane_ne _ _ hj]; rfl⟩

theorem LaneStep.wr {n : Nat} (s : State) {k : Nat} (v : Nat) (hn : n < 64) (hk : k ∈ laneKeys n) :
    LaneStep n s (s.wr k v) (s.held n) := ⟨.wr s v hn hk, rfl, fun _ _ => rfl⟩

theorem LaneStep.trans {n : Nat} {s t u : State} {a b : Bool} (h : LaneStep n s t a) (h' : LaneStep n t u b) : LaneStep n s u b :=
  ⟨h.frame.trans h'.frame, h'.own, fun j hj => (h'.others j hj).trans (h.others j hj)⟩

/-- A further step that leaves the lane's own muting. -/
theorem LaneStep.keep {n : Nat} {s t u : State} {a : Bool} (h : LaneStep n s t a) (h' : LaneStep n t u (t.held n)) : LaneStep n s u a :=
  ⟨h.frame.trans h'.frame, h'.own.trans h.own, fun j hj => (h'.others j hj).trans (h.others j hj)⟩

theorem LaneStep.ite {n : Nat} {s t u : State} {a : Bool} {c : Prop} [Decidable c] (h : LaneStep n s t a) (h' : LaneStep n s u a) :
    LaneStep n s (if c then t else u) a := by
  split <;> assumption

theorem LaneStep.refl (n : Nat) (s : State) : LaneStep n s s (s.held n) := ⟨.refl s, rfl, fun _ _ => rfl⟩

/-- Lanes are muted for their own sake by an AES3 ratio that gives no second channel (R397). -/
def State.aes64 (s : State) (n : Nat) : Bool := s.isAes n && s.rd Obj.bitRatio == 64

theorem LaneStep.laneStatus {s : State} {n : Nat} (hn : n < 64) (hd : s.rd (Obj.laneDirection n) ≠ 0) :
    LaneStep n s (s.laneStatus n) (s.aes64 n || s.held n) := by
  have hset : LaneStep n s (s.setLane n (if s.aes64 n then { s.lane n with muted := true } else s.lane n)) (s.aes64 n || s.held n) := by
    have h := LaneStep.setLane s n (if s.aes64 n then { s.lane n with muted := true } else s.lane n)
    cases ha : s.aes64 n
    · rw [ha] at h; exact h
    · rw [ha] at h; exact h
  have hwr : ∀ (t : State) (a b : Nat), LaneStep n t ((t.wr (Obj.laneState n) a).wr (Obj.laneDriving n) b) (t.held n) :=
    fun t a b => (LaneStep.wr t a hn (by simp [laneKeys])).trans (LaneStep.wr _ b hn (by simp [laneKeys]))
  unfold State.laneStatus
  have hdir : (s.rd (Obj.laneDirection n) == 0) = false := beq_eq_false_iff_ne.2 hd
  simp only [hdir, bne, Bool.not_false, Bool.and_true, Bool.true_and, Bool.false_eq_true, if_false]
  have hall := fun a b => hset.keep (hwr _ a b)
  exact .ite ((hall _ _).keep (LaneStep.wr _ _ hn (by simp [laneKeys]))) (hall _ _)

theorem LaneStep.latchBlock (s : State) {n : Nat} (p : Nat) (hn : n < 64) : LaneStep n s (s.latchBlock n p) (s.held n) := by
  unfold State.latchBlock
  dsimp only
  split
  · exact .refl n s
  · refine LaneStep.trans (t := if (s.rd (Obj.laneDirection n) == 1 && !s.isAes n) = true then
      (s.wr (Obj.laneCsRx0 n) (s.lane n).cs0).wr (Obj.laneCsRx1 n) (s.lane n).cs1 else s) (a := s.held n) ?_ (.setLane _ n _)
    split
    · exact (LaneStep.wr s _ hn (by simp [laneKeys])).keep (LaneStep.wr _ _ hn (by simp [laneKeys]))
    · exact .refl n s

theorem LaneStep.driveLane (s : State) (n p : Nat) (w0 w1 : Nat × Bool) : LaneStep n s (s.driveLane n p w0 w1) (s.held n) := by
  unfold State.driveLane
  dsimp only
  split
  · exact .setLane s n _
  · split <;> exact .setLane s n _

/-- The restart of a lane (R397): beside the lane's own objects, it holds muted an AES3 lane that has no second channel. -/
theorem LaneStep.restartLane (s : State) {n : Nat} (hn : n < 64) : LaneStep n s (s.restartLane n false)
    ((s.rd (Obj.laneDirection n) != 0 && s.aes64 n) || s.held n) := by
  unfold State.restartLane
  simp only [Bool.false_eq_true, if_false]
  by_cases hd : s.rd (Obj.laneDirection n) = 0
  · have h : LaneStep n s ((s.wr (Obj.laneState n) 0).wr (Obj.laneDriving n) 0) (s.held n) :=
      (LaneStep.wr s _ hn (by simp [laneKeys])).keep (LaneStep.wr _ _ hn (by simp [laneKeys]))
    simpa [hd] using h
  · have h : ∀ a p, LaneStep n s (((s.laneStatus n).wr (Obj.laneMutedFrames n) a).latchBlock n p) (s.aes64 n || s.held n) :=
      fun a p => ((LaneStep.laneStatus hn hd).keep (LaneStep.wr _ _ hn (by simp [laneKeys]))).keep (.latchBlock _ p hn)
    simp only [beq_iff_eq, hd, if_false, bne_iff_ne.2 hd, Bool.true_and]
    split
    · exact (h _ _).keep (.setLane _ n _)
    · exact (h _ _).keep (.driveLane _ n _ _ _)

/-! ### All lanes -/

theorem notLane_sub {i c : Nat} (hc : c < 256) (h : c ∉ [0x04, 0x06, 0x0C, 0x0D, 0x13]) : notLane (i * 256 + c) :=
  .inr (.inr (by rwa [show (i * 256 + c) % 256 = c by omega]))

/-- An object of index below the lanes'. -/
theorem notLane_low {k : Nat} (h : k < 0x6000 * 256) : notLane k := .inl (by omega)

/-- No restart of a lane changes which lanes are active or which are AES3. -/
theorem LaneFrames.lane_objects {s t : State} (h : LaneFrames s t) (k : Nat) :
    t.rd (Obj.laneDirection k) = s.rd (Obj.laneDirection k) ∧ t.isAes k = s.isAes k ∧ t.aes64 k = s.aes64 k := by
  have hd := h.rd (Obj.laneDirection k) (notLane_sub (by decide) (by decide))
  have hf := h.rd (Obj.laneFormat k) (notLane_sub (by decide) (by decide))
  have hg := h.rd (Obj.formatFraming (s.rd (Obj.laneFormat k))) (notLane_sub (by decide) (by decide))
  have hr := h.rd Obj.bitRatio (notLane_low (by decide))
  have ha : t.isAes k = s.isAes k := by rw [State.isAes, State.framing, hf, hg]; rfl
  exact ⟨hd, ha, by rw [State.aes64, State.aes64, ha, hr]⟩

theorem State.lt_of_mem_activeLanes {s : State} {n : Nat} (h : n ∈ s.activeLanes) : n < 64 :=
  List.mem_range.1 (List.mem_filter.1 h).1

/-- A restart of active lanes is a frame of lanes. -/
theorem LaneFrames.restartLanes (s u : State) : LaneFrames u (s.activeLanes.foldl (fun u n => u.restartLane n false) u) :=
  .foldl _ _ (fun _ hn t => (LaneStep.restartLane t (State.lt_of_mem_activeLanes hn)).frame) u

/-- What a change of muting does with one lane. -/
def State.remuteLane (s t : State) (n : Nat) : State :=
  let u := t.restartLane n false
  if s.laneMuted n == t.laneMuted n then u
  else if t.laneMuted n then u.bump (Obj.laneMutedFrames n) else u.lower (Obj.laneMutedFrames n) 1

theorem State.remute_eq (s t : State) : s.remute t = (s.activeLanes.foldl s.remuteLane t).missMuted s.pos := rfl

theorem LaneStep.remuteLane (s t : State) {n : Nat} (hn : n < 64) : LaneStep n t (s.remuteLane t n)
    ((t.rd (Obj.laneDirection n) != 0 && t.aes64 n) || t.held n) := by
  have h := LaneStep.restartLane t hn
  exact .ite h (.ite (h.keep (LaneStep.wr _ _ hn (by simp [laneKeys]))) (h.keep (LaneStep.wr _ _ hn (by simp [laneKeys]))))

theorem State.foldl_remuteLane (s : State) (ns : List Nat) (hns : ∀ n ∈ ns, n < 64) (t : State) :
    LaneFrames t (ns.foldl s.remuteLane t) ∧ ∀ k, (ns.foldl s.remuteLane t).held k =
      ((decide (k ∈ ns) && (t.rd (Obj.laneDirection k) != 0 && t.aes64 k)) || t.held k) := by
  induction ns generalizing t with
  | nil => exact ⟨.refl t, fun k => by simp⟩
  | cons n ns ih =>
    have hstep := LaneStep.remuteLane s t (hns n (List.mem_cons_self ..))
    obtain ⟨hf, hh⟩ := ih (fun m hm => hns m (List.mem_cons_of_mem _ hm)) (s.remuteLane t n)
    refine ⟨hstep.frame.trans hf, fun k => (hh k).trans ?_⟩
    obtain ⟨hd, -, ha⟩ := hstep.frame.lane_objects k
    rw [hd, ha]
    by_cases hk : k = n
    · subst hk
      rw [hstep.own]
      simp only [List.mem_cons, true_or, decide_true, Bool.true_and]
      cases decide (k ∈ ns) <;> cases (t.rd (Obj.laneDirection k) != 0 && t.aes64 k) <;> rfl
    · rw [hstep.others k hk]
      simp [hk]

/-- A change of muting, as a frame of lanes, and what it leaves of each lane's own muting. -/
theorem State.remute_spec (s t : State) : LaneFrames t (s.remute t) ∧ ∀ k, (s.remute t).held k =
    ((decide (k ∈ s.activeLanes) && (t.rd (Obj.laneDirection k) != 0 && t.aes64 k)) || t.held k) := by
  obtain ⟨hf, hh⟩ := s.foldl_remuteLane s.activeLanes (fun _ hn => State.lt_of_mem_activeLanes hn) t
  obtain ⟨m, hm⟩ := (s.activeLanes.foldl s.remuteLane t).missFrames_streams s.pos
    (fun slot => (s.activeLanes.foldl s.remuteLane t).laneMuted (slot / 2))
  rw [s.remute_eq, State.missMuted, hm]
  exact ⟨hf.trans ⟨⟨_, _, m, rfl⟩, fun _ _ => rfl⟩, hh⟩

end Sys2Proof.Machine

/-! SUPPORT. Loss of the house clock, faults of the bit clock and the end of a coast (R25, R47-R52, R397, R572). -/

namespace Sys2Proof.Machine

/-! ### Bits of a word -/

/-- A bit that has been set is set. -/
theorem bit_setBit_true (v k : Nat) : bit (setBit v k true) k = true := by
  have hpos : 0 < 2 ^ k := Nat.two_pow_pos k
  have hle : v / 2 ^ k % 2 * 2 ^ k ≤ v :=
    Nat.le_trans (Nat.mul_le_mul_right _ (Nat.mod_le _ _)) (Nat.div_mul_le_self v (2 ^ k))
  have hdiv : (v - v / 2 ^ k % 2 * 2 ^ k + 2 ^ k) / 2 ^ k = v / 2 ^ k - v / 2 ^ k % 2 + 1 := by
    rw [Nat.add_div_right _ hpos, Nat.mul_comm, Nat.sub_mul_div_of_le _ _ _ (by rwa [Nat.mul_comm])]
  simp only [bit, setBit, if_true, hdiv, beq_iff_eq]
  omega

/-! ### The source of time (R47, R50) -/

/-- The machine with another state of the clock. -/
def State.setClk (s : State) (c : Clock) : State := { s with clk := c }

@[simp] theorem State.rd_setClk (s : State) (c : Clock) (k : Nat) : (s.setClk c).rd k = s.rd k := rfl

/-- The loss counted, and its source of time chosen, before a leading leaf releases its lanes. -/
def State.lose (s : State) : State :=
  let t := ((s.bump Obj.clockLossCount).wr Obj.coastedCourses 0).setClk { s.clk with acq := 0, badPeriods := 0 }
  if s.lends then (t.wr Obj.clockState 3).setFlag 1 true else (t.wr Obj.clockState 4).setFlag 0 true

/-- A paired leading leaf gives its lanes up (R50). -/
def State.releaseLanes (s : State) : State :=
  let t := s.mapPair (fun p => { p with released := true, relinquish := true })
  t.activeLanes.foldl (fun u n => u.restartLane n false) (t.tieSend 1 0 t.heartbeatBody)

theorem lossKeys_apart : (∀ k ∈ [Obj.clockLossCount, Obj.coastedCourses, Obj.clockState, Obj.position, Obj.role, Obj.paired],
      k ≠ Obj.positionFlags) ∧ (∀ k ∈ [Obj.clockLossCount, Obj.coastedCourses, Obj.position, Obj.role, Obj.paired], k ≠ Obj.clockState) ∧
    (∀ k ∈ [Obj.clockLossCount, Obj.position, Obj.role, Obj.paired], k ≠ Obj.coastedCourses) ∧
    (∀ k ∈ [Obj.position, Obj.role, Obj.paired], k ≠ Obj.clockLossCount) := by decide

/-- What the loss leaves of the objects that R47 names. -/
theorem State.lose_rd (s : State) : s.lose.rd Obj.clockLossCount = Nat.min (s.rd Obj.clockLossCount + 1) (maxOf Obj.clockLossCount) ∧
    s.lose.rd Obj.coastedCourses = 0 ∧ s.lose.rd Obj.clockState = (if s.lends then 3 else 4) ∧
    bit (s.lose.rd Obj.positionFlags) (if s.lends then 1 else 0) = true ∧
    (∀ k ∈ [Obj.position, Obj.role, Obj.paired], s.lose.rd k = s.rd k) := by
  obtain ⟨h1, h2, h3, h4⟩ := lossKeys_apart
  simp only [List.forall_mem_cons, List.not_mem_nil, false_implies, implies_true, and_true] at h1 h2 h3 h4 ⊢
  unfold State.lose
  cases s.lends <;>
    simp [State.setFlag, State.rd_wr, State.rd_bump, h1, h2, h3, h4, bit_setBit_true]

theorem State.lose_clk (s : State) : s.lose.clk = { s.clk with acq := 0, badPeriods := 0 } ∧ s.lose.sent = s.sent := by
  unfold State.lose
  cases s.lends <;> exact ⟨rfl, rfl⟩

theorem State.chooseTime_eq (s : State) : s.chooseTime = if s.rd Obj.role = 1 ∧ s.rd Obj.paired ≠ 0 then s.lose.releaseLanes else s.lose := by
  obtain ⟨-, -, -, -, h⟩ := s.lose_rd
  simp only [List.forall_mem_cons] at h
  obtain ⟨-, hr, hp, -⟩ := h
  refine ite_of_iff ?_ rfl rfl
  change (s.lose.rd Obj.role == 1 && s.lose.rd Obj.paired != 0) = true ↔ _
  simp [hr, hp]

theorem State.releaseLanes_spec (s : State) : s.releaseLanes.clk = s.clk ∧ s.releaseLanes.pair.released = true ∧
    s.releaseLanes.pair.relinquish = true ∧ ∀ k, k < 0x6000 * 256 → s.releaseLanes.rd k = s.rd k := by
  have hsent : ∀ (t : State) (b : Bytes), (t.tieSend 1 0 b).clk = t.clk ∧ (t.tieSend 1 0 b).pair = t.pair ∧
      ∀ k, (t.tieSend 1 0 b).rd k = t.rd k := by
    intro t b
    unfold State.tieSend
    split <;> exact ⟨rfl, rfl, fun _ => rfl⟩
  have h := LaneFrames.restartLanes (s.mapPair (fun p => { p with released := true, relinquish := true }))
    ((s.mapPair (fun p => { p with released := true, relinquish := true })).tieSend 1 0
      (s.mapPair (fun p => { p with released := true, relinquish := true })).heartbeatBody)
  obtain ⟨d, l, m, ht⟩ := h.shape
  obtain ⟨hc, hp, hr⟩ := hsent (s.mapPair (fun p => { p with released := true, relinquish := true }))
    (s.mapPair (fun p => { p with released := true, relinquish := true })).heartbeatBody
  unfold State.releaseLanes
  refine ⟨by rw [ht]; exact hc, by rw [ht]; exact congrArg PairRun.released hp, by rw [ht]; exact congrArg PairRun.relinquish hp,
    fun k hk => (h.rd k (notLane_low hk)).trans (hr k)⟩

/-- What a loss leaves (R47-R50). -/
theorem State.chooseTime_spec (s : State) :
    s.chooseTime.rd Obj.clockLossCount = Nat.min (s.rd Obj.clockLossCount + 1) (maxOf Obj.clockLossCount) ∧
    s.chooseTime.rd Obj.coastedCourses = 0 ∧ s.chooseTime.rd Obj.position = s.rd Obj.position ∧
    s.chooseTime.clk.badPeriods = 0 ∧ s.chooseTime.clk.acq = 0 ∧ s.chooseTime.rd Obj.clockState = (if s.lends then 3 else 4) ∧
    bit (s.chooseTime.rd Obj.positionFlags) (if s.lends then 1 else 0) = true ∧
    (s.rd Obj.role = 1 → s.rd Obj.paired ≠ 0 → s.chooseTime.pair.released = true ∧ s.chooseTime.pair.relinquish = true) ∧
    (s.rd Obj.role ≠ 1 → s.chooseTime.sent = s.sent) := by
  obtain ⟨h1, h2, h3, h4, h5⟩ := s.lose_rd
  obtain ⟨hclk, hsent⟩ := s.lose_clk
  obtain ⟨rclk, rrel, rrlq, rrd⟩ := s.lose.releaseLanes_spec
  have hpos := h5 _ (List.mem_cons_self ..)
  rw [s.chooseTime_eq]
  split
  next h =>
    rw [rrd _ (by decide), rrd _ (by decide), rrd _ (by decide), rrd _ (by decide), rrd _ (by decide), rclk, hclk]
    exact ⟨h1, h2, hpos, rfl, rfl, h3, h4, fun _ _ => ⟨rrel, rrlq⟩, fun hn => absurd h.1 hn⟩
  next h =>
    rw [hclk]
    exact ⟨h1, h2, hpos, rfl, rfl, h3, h4, fun hr hp => absurd ⟨hr, hp⟩ h, fun _ => hsent⟩

theorem State.lends_iff (s : State) : s.lends = true ↔ (s.rd Obj.paired ≠ 0 ∧ s.tieUp = true) ∧
    (bit s.pair.flags 3 = true ∨ (s.rd Obj.role = 2 ∧ 4 ≤ s.clk.leadState)) := by
  simp [State.lends, State.rdB]

/-! ### Lanes that resume (R397) -/

/-- A run of frames with an invalid ratio, seen for the first time (R25). -/
theorem execBitClockFault_due {s : State} (hc : 2 ≤ s.rd Obj.clockState) (hb : 0 < s.clk.badRatio) (hr : s.clk.ratioCounted = false) :
    execBitClockFault s = .next ((s.bump Obj.bitClockFaults).remute
      ((s.bump Obj.bitClockFaults).setClk { s.clk with ratioCounted := true, bitMuted := true })) :=
  congrArg Host.Outcome.next (if_pos (by simp [State.counting, hc, hb, hr]))

/-- What LANE_RESUME does with one lane: it stays muted where it cannot run at the ratio. -/
def State.resumeLane (t : State) (n : Nat) : State :=
  t.setLane n { t.lane n with muted := (t.lane n).muted && t.isAes n && t.rd Obj.bitRatio != 128 }

theorem State.foldl_resumeLane (ns : List Nat) (t : State) : (∃ m, ns.foldl State.resumeLane t = { t with lanes := m }) ∧
    ∀ k, (ns.foldl State.resumeLane t).held k =
      if k ∈ ns then t.held k && t.isAes k && t.rd Obj.bitRatio != 128 else t.held k := by
  induction ns generalizing t with
  | nil => exact ⟨⟨t.lanes, rfl⟩, fun k => by simp⟩
  | cons n ns ih =>
    obtain ⟨⟨m, hm⟩, hh⟩ := ih (t.resumeLane n)
    refine ⟨⟨m, hm⟩, fun k => (hh k).trans ?_⟩
    have hobj : (t.resumeLane n).isAes k = t.isAes k ∧ (t.resumeLane n).rd Obj.bitRatio = t.rd Obj.bitRatio := ⟨rfl, rfl⟩
    have hstep := LaneStep.setLane t n { t.lane n with muted := (t.lane n).muted && t.isAes n && t.rd Obj.bitRatio != 128 }
    rw [hobj.1, hobj.2]
    by_cases hk : k = n
    · subst hk
      rw [show (t.resumeLane k).held k = _ from hstep.own]
      simp only [State.held, List.mem_cons, true_or, if_true]
      split
      · cases (t.lane k).muted <;> cases t.isAes k <;> cases t.rd Obj.bitRatio != 128 <;> rfl
      · rfl
    · rw [show (t.resumeLane n).held k = t.held k from hstep.others k hk]
      simp [hk]

/-! ### The end of a coast (R52) -/

/-- What the end of a coast does with a live stream that is bound: it is halted, its chunks end. -/
def State.haltStream (s : State) (n : Nat) : State :=
  let s := s.wr (Obj.streamStreamFlags n) (setBit (s.rd (Obj.streamStreamFlags n)) 1 true)
  (s.ring n).cmds.foldl (fun s c => match c.chunk with
    | some k => s.finish n c.counter St.missed (some k.position) k.frames 0
    | none => s) s

/-- `t` is `s` but for rings and objects of the streams, and no stream's halt is taken back. -/
structure HaltFrame (s t : State) : Prop where
  clk : t.clk = s.clk
  clock : t.rd Obj.clockState = s.rd Obj.clockState
  halt : ∀ n, bit (s.rd (Obj.streamStreamFlags n)) 1 = true → bit (t.rd (Obj.streamStreamFlags n)) 1 = true

theorem HaltFrame.refl (s : State) : HaltFrame s s := ⟨rfl, rfl, fun _ h => h⟩

theorem HaltFrame.trans {s t u : State} (h : HaltFrame s t) (h' : HaltFrame t u) : HaltFrame s u :=
  ⟨h'.clk.trans h.clk, h'.clock.trans h.clock, fun n hn => h'.halt n (h.halt n hn)⟩

theorem RingFrame.halts {n : Nat} {s t : State} (h : RingFrame n s t) : HaltFrame s t := by
  have hrd : ∀ k, k ≠ Obj.streamCplTail n → k ≠ Obj.streamEntriesLost n → k ≠ Obj.noticesSkipped → t.rd k = s.rd k := h.rd
  obtain ⟨d, rs, m, k, ht⟩ := h.shape
  have hflags : ∀ m, Obj.streamStreamFlags m ≠ Obj.streamCplTail n ∧ Obj.streamStreamFlags m ≠ Obj.streamEntriesLost n ∧
      Obj.streamStreamFlags m ≠ Obj.noticesSkipped := by
    intro m
    simp only [Obj.streamStreamFlags, Obj.streamCplTail, Obj.streamEntriesLost, Obj.noticesSkipped]
    omega
  have hclock : Obj.clockState ≠ Obj.streamCplTail n ∧ Obj.clockState ≠ Obj.streamEntriesLost n ∧
      Obj.clockState ≠ Obj.noticesSkipped := by
    simp only [Obj.clockState, Obj.streamCplTail, Obj.streamEntriesLost, Obj.noticesSkipped]
    omega
  exact ⟨by rw [ht], hrd _ hclock.1 hclock.2.1 hclock.2.2, fun m hm => by
    rw [hrd _ (hflags m).1 (hflags m).2.1 (hflags m).2.2]; exact hm⟩

theorem HaltFrame.foldl {α : Type} {f : State → α → State} (h : ∀ s x, HaltFrame s (f s x)) (xs : List α) (s : State) :
    HaltFrame s (xs.foldl f s) := by
  induction xs generalizing s with
  | nil => exact .refl s
  | cons x xs ih => exact (h s x).trans (ih _)

/-- A stream that is halted stays so, whatever streams are halted after it. -/
theorem State.haltStream_spec (s : State) (n : Nat) :
    HaltFrame s (s.haltStream n) ∧ bit ((s.haltStream n).rd (Obj.streamStreamFlags n)) 1 = true := by
  have hwr : HaltFrame s (s.wr (Obj.streamStreamFlags n) (setBit (s.rd (Obj.streamStreamFlags n)) 1 true)) := by
    refine ⟨rfl, s.rd_wr_ne _ ?_, fun m hm => ?_⟩
    · simp only [Obj.clockState, Obj.streamStreamFlags]; omega
    · rw [State.rd_wr]
      split
      · exact bit_setBit_true _ _
      · exact hm
  have hends := HaltFrame.foldl (f := fun (s : State) (c : Cmd) => match c.chunk with
    | some k => s.finish n c.counter St.missed (some k.position) k.frames 0
    | none => s) (fun s c => by
      split
      · exact (RingFrame.finish s n c.counter _ _ _ _).halts
      · exact .refl s)
    ((s.wr (Obj.streamStreamFlags n) (setBit (s.rd (Obj.streamStreamFlags n)) 1 true)).ring n).cmds
    (s.wr (Obj.streamStreamFlags n) (setBit (s.rd (Obj.streamStreamFlags n)) 1 true))
  refine ⟨hwr.trans hends, hends.halt n ?_⟩
  rw [State.rd_wr_self]
  exact bit_setBit_true _ _

theorem State.foldl_haltStream (ns : List Nat) (s : State) : HaltFrame s (ns.foldl State.haltStream s) ∧
    ∀ n ∈ ns, bit ((ns.foldl State.haltStream s).rd (Obj.streamStreamFlags n)) 1 = true := by
  induction ns generalizing s with
  | nil => exact ⟨.refl s, by simp⟩
  | cons n ns ih =>
    obtain ⟨hf, hb⟩ := s.haltStream_spec n
    obtain ⟨hfs, hbs⟩ := ih (s.haltStream n)
    refine ⟨hf.trans hfs, fun m hm => ?_⟩
    rcases List.mem_cons.1 hm with rfl | hm
    · exact hfs.halt _ hb
    · exact hbs m hm

theorem Map.mem_of_find {α : Type} {m : Map α} {k : Nat} (h : (m.find k).isSome = true) : k ∈ m.map (·.1) := by
  induction m with
  | nil => simp at h
  | cons e m ih =>
    obtain ⟨j, v⟩ := e
    simp only [Map.find] at h
    split at h
    · simp [*]
    · split at h
      · simp at h
      · exact List.mem_cons_of_mem _ (ih h)

/-- What the end of a coast leaves (R52). -/
theorem execCoastExpired_spec {s : State} (h : s.coastOver = true) : ∃ t, execCoastExpired s = .next t ∧ t.clk.coastHalt = true ∧
    (s.rd Obj.clockState = 4 → t.rd Obj.clockState = 5) ∧ (s.rd Obj.clockState ≠ 4 → t.rd Obj.clockState = s.rd Obj.clockState) ∧
    (∀ n, n < 32768 → (s.rings.find n).isSome = true → s.rd (Obj.streamClass n) = 0 → (s.stream n).bound = true →
      bit (t.rd (Obj.streamStreamFlags n)) 1 = true) := by
  obtain ⟨w, hw⟩ : ∃ w, w = if s.rd Obj.clockState = 4 then s.wr Obj.clockState 5 else s := ⟨_, rfl⟩
  obtain ⟨live, hlive⟩ : ∃ l, l = (w.rings.map (·.1)).filter (fun n => w.rd (Obj.streamClass n) == 0 && (w.stream n).bound) := ⟨_, rfl⟩
  obtain ⟨u, hu⟩ : ∃ u, u = live.foldl State.haltStream w := ⟨_, rfl⟩
  have hexec : execCoastExpired s = .next (u.remute (u.setClk { u.clk with coastHalt := true })) := by
    subst hu hlive hw
    simp only [execCoastExpired, h, Bool.not_true, Bool.false_eq_true, if_false, beq_iff_eq]
    rfl
  obtain ⟨hframe, hbits⟩ := w.foldl_haltStream live
  rw [← hu] at hframe hbits
  obtain ⟨hlanes, -⟩ := u.remute_spec (u.setClk { u.clk with coastHalt := true })
  obtain ⟨d, l, m, ht⟩ := hlanes.shape
  have hclock : (u.remute (u.setClk { u.clk with coastHalt := true })).rd Obj.clockState = w.rd Obj.clockState :=
    (hlanes.rd _ (notLane_low (by decide))).trans hframe.clock
  refine ⟨_, hexec, by rw [ht]; rfl, fun h4 => ?_, fun h4 => ?_, fun n hn hr hc hb => ?_⟩
  · rw [hclock, hw, if_pos h4]
    exact State.rd_wr_self ..
  · rw [hclock, hw, if_neg h4]
  · have hsame : w.rings = s.rings ∧ w.rd (Obj.streamClass n) = s.rd (Obj.streamClass n) ∧ w.stream n = s.stream n := by
      rw [hw]
      split
      · refine ⟨rfl, s.rd_wr_ne _ ?_, rfl⟩
        simp only [Obj.clockState, Obj.streamClass]; omega
      · exact ⟨rfl, rfl, rfl⟩
    have hmem : n ∈ live := by
      rw [hlive, List.mem_filter, hsame.1, hsame.2.1, hsame.2.2]
      exact ⟨Map.mem_of_find hr, by simp [hc, hb]⟩
    rw [hlanes.rd _ (.inr (.inl (by simp only [Obj.streamStreamFlags]; omega)))]
    exact hbits n hmem

end Sys2Proof.Machine

namespace Sys2Proof
open Machine

/-- Settles O43: a loss by its source of time, a fault and a resumption by the lanes, the end of a coast by the streams it halts. -/
theorem clockLosses : Obligations.ClockLosses := by
  refine ⟨fun s => ⟨fun hc hb => ?_, fun hc hb => ?_, fun hc hf lost => ?_, fun hc hf lost => ?_, fun hc => ⟨fun lost => ?_, ?_⟩⟩,
    fun s hc => ⟨fun hb hr => ⟨?_, ?_⟩, fun h => ?_, fun hp hg => ?_, fun h => ?_⟩,
    fun s => ⟨fun h => execCoastExpired_spec h, fun h => ?_, ?_⟩⟩
  · obtain ⟨h1, h2, h3, h4, h5, h6, h7, h8, h9⟩ := s.chooseTime_spec
    refine ⟨_, congrArg Host.Outcome.next (if_pos (by simp [hc, hb])), rfl, h1, h2, h3, h4, h5, fun h => ?_, fun h => ?_, h8, h9⟩
    · rw [if_pos (s.lends_iff.2 h)] at h6 h7
      exact ⟨h6, h7⟩
    · rw [if_neg (mt s.lends_iff.1 h)] at h6 h7
      exact ⟨h6, h7⟩
  · exact congrArg Host.Outcome.next (if_neg (by simp [hb]))
  · exact congrArg Host.Outcome.next ((if_neg (by simp [hc])).trans (if_pos (by simp [hf])))
  · exact congrArg Host.Outcome.next ((if_neg (by simp [hc])).trans (if_neg (by simp; omega)))
  · exact congrArg Host.Outcome.next (if_pos (by simp [hc]))
  · exact congrArg Host.Outcome.next (if_neg (by simp [hc]))
  · exact execBitClockFault_due hc hb hr
  · obtain ⟨hf, -⟩ := (s.bump Obj.bitClockFaults).remute_spec
      ((s.bump Obj.bitClockFaults).setClk { s.clk with ratioCounted := true, bitMuted := true })
    obtain ⟨d, l, m, ht⟩ := hf.shape
    refine ⟨_, execBitClockFault_due hc hb hr, by rw [ht]; rfl, ?_, fun k => ?_, by rw [ht]; rfl, by rw [ht]; rfl⟩
    · exact (hf.rd _ (notLane_low (by decide))).trans (State.rd_bump_self ..)
    · rw [ht]
      rfl
  · exact congrArg Host.Outcome.next (if_neg (by simp; grind))
  · obtain ⟨⟨m, hm⟩, hres⟩ := State.foldl_resumeLane s.activeLanes (s.setClk { s.clk with bitMuted := false })
    obtain ⟨hf, hh⟩ := s.remute_spec (s.activeLanes.foldl State.resumeLane (s.setClk { s.clk with bitMuted := false }))
    obtain ⟨d, l, st, ht⟩ := hf.shape
    refine ⟨s.remute (s.activeLanes.foldl State.resumeLane (s.setClk { s.clk with bitMuted := false })),
      congrArg Host.Outcome.next (if_pos (by simp [State.counting, hc, State.pos, State.courseLen, hp, hg])),
      by rw [ht, hm]; rfl, by rw [ht, hm]; rfl, by rw [ht, hm]; rfl, by rw [ht, hm]; rfl, fun k hk hd => ?_⟩
    have hactive : k ∈ s.activeLanes := List.mem_filter.2 ⟨List.mem_range.2 hk, bne_iff_ne.2 hd⟩
    have hobj : ∀ t, t = s.activeLanes.foldl State.resumeLane (s.setClk { s.clk with bitMuted := false }) →
        t.rd (Obj.laneDirection k) = s.rd (Obj.laneDirection k) ∧ t.aes64 k = s.aes64 k := by
      intro t h
      rw [h, hm]
      exact ⟨rfl, rfl⟩
    have hheld := hh k
    rw [hres, (hobj _ rfl).1, (hobj _ rfl).2, if_pos hactive, decide_eq_true hactive, bne_iff_ne.2 hd] at hheld
    refine hheld.trans ?_
    change (true && (true && (s.isAes k && s.rd Obj.bitRatio == 64)) || (s.lane k).muted && s.isAes k && s.rd Obj.bitRatio != 128) = _
    cases s.isAes k <;> simp
  · exact congrArg Host.Outcome.next (if_neg (by simp [State.pos, State.courseLen]; grind))
  · exact congrArg Host.Outcome.next (if_pos (by simp [h]))
  · simp [State.coastOver, State.pos, State.courseLen, and_assoc]

end Sys2Proof

/-! SUPPORT. The host link and the aperture (R117-R123, R126, R449, R462, R501). -/

namespace Sys2Proof.Machine

/-! ### The link (R117) -/

theorem linkKeys_apart : Obj.linkRate ≠ Obj.linkWidth ∧ Obj.linkRate ≠ Obj.linkDegraded ∧ Obj.linkWidth ≠ Obj.linkDegraded ∧
    (∀ k ∈ [Obj.statusEnable, Obj.linkRate, Obj.linkWidth], k ≠ Obj.hostDetaches) ∧ Obj.statusEnable ≠ Obj.linkRate ∧
    Obj.statusEnable ≠ Obj.linkWidth := by decide

theorem State.linkUp_open {s : State} {rate width : Nat} (h : s.host = false) (hr : rate ∈ [4, 5, 6]) (hw : width ∈ [4, 8, 16]) :
    s.linkUp rate width =
      { ((s.wr Obj.linkRate rate).wr Obj.linkWidth width).wr Obj.linkDegraded (b2n (rate != 6 || width != 16)) with host := true } :=
  if_neg (by simp at hr hw; simp [h]; omega)

theorem State.linkUp_rd {s : State} {rate width : Nat} (h : s.host = false) (hr : rate ∈ [4, 5, 6]) (hw : width ∈ [4, 8, 16]) :
    (s.linkUp rate width).rd Obj.linkRate = rate ∧ (s.linkUp rate width).rd Obj.linkWidth = width ∧
    ((s.linkUp rate width).rd Obj.linkDegraded = 0 ↔ rate = 6 ∧ width = 16) ∧
    ∀ k, k ≠ Obj.linkRate → k ≠ Obj.linkWidth → k ≠ Obj.linkDegraded → (s.linkUp rate width).rd k = s.rd k := by
  obtain ⟨h1, h2, h3, -⟩ := linkKeys_apart
  have hrd : ∀ k, (s.linkUp rate width).rd k =
      (((s.wr Obj.linkRate rate).wr Obj.linkWidth width).wr Obj.linkDegraded (b2n (rate != 6 || width != 16))).rd k := by
    intro k; rw [State.linkUp_open h hr hw]; rfl
  simp only [hrd]
  refine ⟨by simp [State.rd_wr, h1, h2], by simp [State.rd_wr, h3], ?_, fun k k1 k2 k3 => by simp [State.rd_wr, k1, k2, k3]⟩
  rw [State.rd_wr_self]
  by_cases hr6 : rate = 6 <;> by_cases hw16 : width = 16 <;> simp [b2n, hr6, hw16]

/-! ### Detachment (R119) -/

/-- The rings whose commands end at a detachment, ended. -/
def State.endRings (s : State) : State :=
  ((s.rings.map (·.1)).filter (fun n => s.rdB (Obj.streamRingEnable n) || s.ringState n != 0)).foldl (fun s n => s.detachRing n) s

/-- The machine without its host. -/
def State.unhost (s : State) : State := { s with host := false, requests := [] }

@[simp] theorem State.rd_unhost (s : State) (k : Nat) : s.unhost.rd k = s.rd k := rfl

theorem State.detach_spec (s : State) (linkDown : Bool) : (s.detach linkDown).host = false ∧ (s.detach linkDown).requests = [] ∧
    (s.detach linkDown).rd Obj.statusEnable = 0 ∧
    (s.detach linkDown).rd Obj.hostDetaches = Nat.min (s.endRings.rd Obj.hostDetaches + 1) (maxOf Obj.hostDetaches) ∧
    (linkDown = true → (s.detach linkDown).rd Obj.linkRate = 0 ∧ (s.detach linkDown).rd Obj.linkWidth = 0) ∧
    (s.detach linkDown).rings = s.endRings.rings ∧ (s.detach linkDown).streams = s.endRings.streams ∧
    (s.detach linkDown).hostMem = s.endRings.hostMem ∧ (s.detach linkDown).joints = s.endRings.joints := by
  obtain ⟨h1, -, -, h4, h5, h6⟩ := linkKeys_apart
  simp only [List.forall_mem_cons] at h4
  obtain ⟨k1, k2, k3, -⟩ := h4
  have heq : s.detach linkDown = (if linkDown then ((s.endRings.wr Obj.statusEnable 0).unhost.wr Obj.linkRate 0).wr Obj.linkWidth 0
      else (s.endRings.wr Obj.statusEnable 0).unhost).bump Obj.hostDetaches := rfl
  rw [heq]
  cases linkDown
  · refine ⟨rfl, rfl, ?_, ?_, nofun, rfl, rfl, rfl, rfl⟩ <;> simp [State.rd_bump, State.rd_wr, k1, k1.symm]
  · refine ⟨rfl, rfl, ?_, ?_, fun _ => ⟨?_, ?_⟩, rfl, rfl, rfl, rfl⟩ <;>
      simp [State.rd_bump, State.rd_wr, h1, h5, h6, k1, k2, k3, k1.symm, k2.symm, k3.symm]

/-! ### The aperture (R123, R449, R462) -/

theorem leBytes_getElem? {n i : Nat} (v : Nat) (h : i < n) : (leBytes n v)[i]? = some (BitVec.ofNat 8 (v / 2 ^ (8 * i))) := by
  induction n generalizing v i with
  | zero => omega
  | succ n ih =>
    cases i with
    | zero => simp [leBytes]
    | succ i =>
      rw [leBytes, List.getElem?_cons_succ, ih _ (by omega), Nat.div_div_eq_div_mul, Nat.mul_add, Nat.pow_add, Nat.mul_comm (2 ^ _)]

/-- What a write through the aperture leaves of device memory (R449). -/
theorem State.apertureWrite_spec (s : State) (a : Nat) (bs : Bytes) (h : s.devMem.wf = true) :
    (∃ m, s.apertureWrite a bs = { s with devMem := m }) ∧ (s.apertureWrite a bs).devMem.wf = true ∧
    ∀ c, (s.apertureWrite a bs).devMem.read c =
      if s.mapped c = true then (if a ≤ c then bs[c - a]?.getD (s.devMem.read c) else s.devMem.read c) else s.devMem.read c := by
  induction bs generalizing s a with
  | nil => exact ⟨⟨s.devMem, rfl⟩, h, fun c => by simp [State.apertureWrite]⟩
  | cons b bs ih =>
    obtain ⟨t, ht⟩ : ∃ t, t = if s.mapped a then { s with devMem := s.devMem.write a b } else s := ⟨_, rfl⟩
    have hsame : (∃ m, t = { s with devMem := m }) ∧ t.devMem.wf = true ∧
        ∀ c, t.devMem.read c = if c = a ∧ s.mapped a = true then b else s.devMem.read c := by
      rw [ht]
      split
      next hm => exact ⟨⟨_, rfl⟩, Memory.write_wf _ _ _ h, fun c => by simp [Memory.read_write _ _ _ _ h, hm]⟩
      next hm => exact ⟨⟨_, rfl⟩, h, fun c => by simp [hm]⟩
    obtain ⟨⟨m, hm⟩, hwf, hread⟩ := hsame
    obtain ⟨⟨m', hm'⟩, hwf', hread'⟩ := ih t (a + 1) hwf
    have hstep : s.apertureWrite a (b :: bs) = t.apertureWrite (a + 1) bs := by rw [ht]; rfl
    rw [hstep]
    refine ⟨⟨m', by rw [hm', hm]⟩, hwf', fun c => ?_⟩
    rw [hread', hread, show t.mapped c = s.mapped c by rw [hm]; rfl]
    rcases Nat.lt_trichotomy c a with hc | rfl | hc
    · simp [Nat.not_le.2 hc, show ¬ a + 1 ≤ c by omega, show c ≠ a by omega]
    · simp [Nat.not_succ_le_self]
    · simp [show a + 1 ≤ c by omega, show a ≤ c by omega, show c ≠ a by omega, show c - a = c - (a + 1) + 1 by omega]

/-- Where no line of a range is poisoned, nothing is repaired. -/
theorem State.repair_clean {s : State} {a n : Nat} (h : poisonIn s.poison a n = none) : s.repair a n = s := by
  have hnone : ∀ r ∈ s.poison, overlaps a n r.1 r.2 = false := by
    unfold poisonIn at h
    split at h
    next hmap =>
      intro r hr
      have := List.map_eq_nil_iff.1 hmap
      simpa using List.filter_eq_nil_iff.1 this r hr
    next => simp at h
  have hlines : s.poisonedLines a n = [] := by
    unfold State.poisonedLines
    rw [List.flatMap_eq_nil_iff]
    intro r hr
    simp [hnone r hr]
  unfold State.repair
  rw [hlines]
  split <;> rfl

end Sys2Proof.Machine

namespace Sys2Proof
open Machine

/-- Settles O26: the link's objects as it comes up, and what detachment leaves once the rings have ended. -/
theorem hostLink : Obligations.HostLink := by
  refine ⟨fun s rate width hh hp hr hrate hwidth => ?_, fun s how hh => ?_, fun _ => rfl⟩
  · obtain ⟨h1, h2, h3, h4⟩ := State.linkUp_rd hh hrate hwidth
    refine ⟨s.linkUp rate width, congrArg Host.Outcome.next (if_neg (by simp [hr]; omega)), ?_, h1, h2, h3, ?_, ?_, ?_, h4⟩ <;>
      rw [State.linkUp_open hh hrate hwidth] <;> rfl
  · obtain ⟨h1, h2, h3, h4, h5, h6, h7, h8, h9⟩ := s.detach_spec (how != .d3hot)
    exact ⟨_, congrArg Host.Outcome.next (if_pos hh), h1, h2, h3, h4, fun h => h5 (by simpa using h), h6, h7, h8, h9⟩

/-- Settles O27: a write byte by byte where addresses are mapped, a read of what stands there. -/
theorem apertureAccesses : Obligations.ApertureAccesses := by
  intro s offset width hh hlen base
  have hopen : ¬ (!s.host || decide (offset + width > 16 * GiB)) = true := by simp [hh, hlen]
  refine ⟨fun v hr hwf he => ?_, fun v hr he => ?_, fun v hr => ?_, fun he => ?_, fun he hp => ?_⟩
  · obtain ⟨⟨m, hm⟩, hwf', hread⟩ := s.apertureWrite_spec base (leBytes width v) hwf
    refine ⟨{ s.apertureWrite base (leBytes width v) with poison := (s.apertureWrite base (leBytes width v)).cleaned base width },
      congrArg Host.Outcome.next ((if_neg hopen).trans ((if_neg (by simp [hr])).trans (if_neg (by simp [State.rdB, he])))),
      hwf', fun i hi hmap => ?_, fun i hi hmap => ?_, fun a ha => ?_, by rw [hm], by rw [hm], by rw [hm]⟩
    · exact (hread _).trans (by simp [hmap, leBytes_getElem? v hi])
    · exact (hread _).trans (by simp [hmap])
    · refine (hread a).trans ?_
      split
      · split
        · rw [List.getElem?_eq_none (by rw [leBytes_length]; omega)]
          rfl
        · rfl
      · rfl
  · exact congrArg Host.Outcome.next ((if_neg hopen).trans ((if_neg (by simp [hr])).trans (if_pos (by simp [State.rdB, he]))))
  · exact congrArg Host.Outcome.next ((if_neg hopen).trans (if_pos (by simp [hr])))
  · refine congrArg Host.Outcome.next ((if_neg hopen).trans ?_)
    have hb : s.rdB Obj.apertureEnable = false := by simp [State.rdB, he]
    simp only [State.apertureRead, hb, Bool.false_eq_true, if_false, Bool.not_false, if_true]
    rfl
  · have hb : s.rdB Obj.apertureEnable = true := by simp [State.rdB, he]
    have hr : s.apertureRead offset width =
        ((List.range width).map (fun i => if s.mapped (base + i) then s.devMem.read (base + i) else 0), s) := by
      simp only [State.apertureRead, hb, if_true]
      rw [State.repair_clean hp, hp]
      simp only [hb, Bool.not_true, Bool.false_eq_true, if_false, Option.isSome_none]
      rfl
    refine ⟨(List.range width).map (fun i => if s.mapped (base + i) then s.devMem.read (base + i) else 0),
      congrArg Host.Outcome.next ((if_neg hopen).trans ?_), ?_, fun i hi => ?_⟩
    · dsimp only
      rw [hr]
      rfl
    · simp
    · simp [hi]

end Sys2Proof

/-! SUPPORT. Services of the management port, and how waiting accesses and stores end (R68, R87, R95-R103). -/

namespace Sys2Proof.Machine

/-! ### The services of the port (R95-R103) -/

theorem exec_stage (p : Path) (s : State) : exec (.stage p) s = .next (s.accessAs .stage p true) := rfl

/-- A datagram that asks for a staging is taken as the port takes datagrams. -/
theorem accessAs_stage {s : State} {d : Datagram} (held : Bool) (h : field d.body 3 1 = 5) :
    s.accessAs .stage (.mgmt d held) true = s.arrive d held true := by
  have hrow : s.rowOf (.mgmt d held) = .stage := by simp [State.rowOf, messageRow, h]
  rw [State.accessAs, hrow]
  rfl

theorem accessAs_stage_next {s : State} {d : Datagram} {rest : List Datagram} (h : field d.body 3 1 = 5) (hrx : s.rx = d :: rest) :
    s.accessAs .stage .mgmtNext true = ({ s with rx := rest }).datagram d true := by
  have hrow : s.rowOf .mgmtNext = .stage := by simp [State.rowOf, hrx, messageRow, h]
  have hnext : s.access .mgmtNext true = ({ s with rx := rest }).datagram d true := by
    simp only [State.access, State.takeNext, hrx]
  rw [State.accessAs, hrow, hnext]
  rfl

/-! ### The partner's answers (R87) -/

/-- An answer of the partner goes to the first page that waits for its tag. -/
theorem execDictResp_waiting {s : State} {page : Fin 66} {w : PartnerWait} {tag : BitVec 32} (body : Bytes) (hup : s.tieUp = true)
    (hw : (s.session page.val).partner = some w) (ht : w.tag = tag.toNat)
    (hfirst : ∀ j, j < page.val → ∀ v, (s.session j).partner = some v → v.tag ≠ tag.toNat) :
    execDictResp tag body s = .next (s.takeAnswer page.val w body) := by
  have hfind : ∀ f : Nat → Bool, (∀ i, f i = (s.session i).partner.any (fun v => v.tag == tag.toNat)) →
      (List.range 66).find? f = some page.val := by
    intro f hf
    rw [List.find?_range_eq_some]
    refine ⟨by simp [hf, hw, ht], List.mem_range.2 page.isLt, fun j hj => ?_⟩
    rw [hf]
    cases hp : (s.session j).partner with
    | none => rfl
    | some v => simpa using hfirst j hj v hp
  rw [execDictResp]
  rw [hfind _ (fun i => by cases (s.session i).partner <;> rfl)]
  simp only [hup, hw, Bool.not_true, Bool.false_eq_true, if_false]

/-- A segment's answer of the partner that reports no failure. -/
theorem takeAnswer_mailbox {s : State} {page : Nat} {w : PartnerWait} {body : Bytes} (hc : field body 0 4 = 0) (hm : w.mailbox = true)
    (hh : s.host = true) : s.takeAnswer page w body =
      let data := (body.drop 8).take (field body 4 4)
      let t := if w.write then s else s.hostWrite (w.buffer + w.moved) data
      let moved := if w.write then w.length else w.moved + data.length
      if w.left ≤ 1 then t.barDone page (cmdTag (s.session page).bar0.cmd) 0 (some moved)
      else t.setSession page { t.session page with partner := some { w with left := w.left - 1, moved := moved } } := by
  cases hw : w.write <;>
    simp only [State.takeAnswer, hc, hm, hh, hw, bne_self_eq_false, Bool.not_true, Bool.false_eq_true, if_false, Bool.not_false,
      Bool.true_and, Bool.false_and, if_true, slice]

/-! ### The end of a store (R68) -/

section
variable {s : State} {i : Nat} {values : Map Nat} (hs : s.flash.storing = some (i, values))
include hs

theorem execStoreDone_kept : execStoreDone true s = .next
    ((((({ s with flash := { s.flash with record := some ⟨values, recordDigest values⟩, storing := none, stores := s.flash.stores + 1 } } :
      State).wr Obj.storeCount (Nat.min (s.flash.stores + 1) 0xFFFFFFFF)).wr Obj.storeState 2)).setSession i
        { s.session i with lastResult := 0 }) := by
  simp only [execStoreDone, hs, if_true]

theorem execStoreDone_failed : execStoreDone false s = .next
    ((({ s with flash := { s.flash with storing := none } } : State).wr Obj.storeState 3).setSession i
      { s.session i with lastResult := Abort.storeFailed }) := by
  simp only [execStoreDone, hs, Bool.false_eq_true, if_false]

end

end Sys2Proof.Machine

namespace Sys2Proof
open Machine

/-- Settles O25: each service by its own condition; datagrams by whether the port accepts and has room for them. -/
theorem portServices : Obligations.PortServices := by
  refine ⟨fun s mac src dst hp => ⟨fun h => ?_, fun h => ?_⟩, fun s src dst payload hp h => ⟨?_, ?_⟩, fun s hp h => ?_,
    fun s k ns m hm => ⟨fun h => ?_, fun h => ?_⟩, fun s d ht => ⟨fun ha hl held => ?_, fun ha hl => ?_, fun ha held => ?_,
    fun rest hrx => ?_⟩⟩
  · exact congrArg Host.Outcome.next (if_pos (by simp [hp, h]))
  · exact congrArg Host.Outcome.next (if_neg (by simp [h]))
  · exact congrArg Host.Outcome.next (if_pos (by simp [hp, h]))
  · exact congrArg Host.Outcome.next (if_neg (by simp))
  · exact congrArg Host.Outcome.next (if_pos (by simp [hp, h]))
  · rw [show exec (.idleTimeout k ns) s = execIdleTimeout k ns s from rfl, execIdleTimeout]
    simp only [hm]
    exact congrArg Host.Outcome.next (if_pos (decide_eq_true h))
  · rw [show exec (.idleTimeout k ns) s = execIdleTimeout k ns s from rfl, execIdleTimeout]
    simp only [hm]
    exact congrArg Host.Outcome.next (if_neg (by simpa using h))
  · rw [exec_stage, accessAs_stage held ht, State.arrive, if_neg (by simp [ha]), if_pos (show s.rx.length ≥ rxSize from hl)]
  · rw [exec_stage, accessAs_stage true ht, State.arrive, if_neg (by simp [ha]),
      if_neg (show ¬ s.rx.length ≥ rxSize from Nat.not_le.2 hl), if_pos (by simp)]
  · rw [exec_stage, accessAs_stage held ht, State.arrive, if_pos (by simp [ha])]
  · rw [exec_stage, accessAs_stage_next ht hrx]

/-- Settles O22: an answer by the page that waits for it, a timeout by the time waited, a store by whether the flash took it. -/
theorem accessEnds : Obligations.AccessEnds := by
  refine ⟨fun s page w tag body hup hw ht hfirst => ?_, fun s page us w hw => ⟨fun h => ?_, fun h => ?_⟩, fun s i values hs => ⟨?_, ?_⟩⟩
  · have hexec : exec (.dictResp tag body) s = .next (s.takeAnswer page.val w body) := execDictResp_waiting body hup hw ht hfirst
    rw [hexec]
    refine ⟨fun hc => ?_, fun hc hm => ?_, fun hc hm hh => ⟨fun hl => ?_, fun hl => ?_⟩⟩
    · exact congrArg Host.Outcome.next (if_pos (by simpa using hc))
    · exact congrArg Host.Outcome.next ((if_neg (by simpa using hc)).trans (if_pos (by simp [hm])))
    · rw [takeAnswer_mailbox hc hm hh, if_pos hl]
    · rw [takeAnswer_mailbox hc hm hh, if_neg (by omega)]
  · rw [show exec (.partnerTimeout page us) s = execPartnerTimeout page us s from rfl, execPartnerTimeout]
    simp only [hw]
    refine congrArg Host.Outcome.next (if_pos ?_)
    rcases h with ⟨hc, h⟩ | ⟨hc, h⟩ <;> simp [hc, h]
  · rw [show exec (.partnerTimeout page us) s = execPartnerTimeout page us s from rfl, execPartnerTimeout]
    simp only [hw]
    exact congrArg Host.Outcome.next (if_neg (by simp [h.1, h.2]))
  · exact ⟨_, execStoreDone_kept hs, rfl, rfl, (State.rd_wr_self ..), by rw [State.session_setSession_self], rfl, rfl, rfl⟩
  · exact ⟨_, execStoreDone_failed hs, rfl, rfl, (State.rd_wr_self ..), by rw [State.session_setSession_self], rfl, rfl⟩

end Sys2Proof

/-! SUPPORT. The fetch of a BIND at a counter that another command of the ring bears (R136, R155). -/

namespace Sys2Proof.Machine

/-- A BIND of a grout stream to plan slot 0. -/
def groutBind : Bytes := 1 :: List.replicate 23 0 ++ 2 :: List.replicate 39 0

/-- A machine with plan slot 0 loaded and a running ring that may fetch, on which a command bears the counter of CMD_HEAD; that command is
a BIND whose plan was not there. -/
def twinCounter : State :=
  (((({ host := true, plans := [(0, { image := [], digest := 0 })]
        rings := [(0, { cmdTail := 1, cmds := [{ counter := 0, desc := groutBind, planThere := false }] })] } : State).wr
    Obj.phase 6).wr (Obj.streamRingState 0) 1).wr (Obj.streamCmdLog2 0) 4).wr (Obj.streamCplLog2 0) 4

/-- A machine once it has taken a descriptor, before the checks of R138. -/
def State.withFetched (s : State) (n : RingId) (d : Bytes) : State :=
  (s.wr (Obj.streamCmdHead n.val) ((s.rd (Obj.streamCmdHead n.val) + 1) % 2 ^ 24)).setRing n.val { s.ring n.val with
    cmds := (s.ring n.val).cmds ++ [{ counter := s.rd (Obj.streamCmdHead n.val), desc := d, fetchedAt := s.clk.frames
                                      planThere := field d 0 1 != 1 || s.planLoaded (field d 16 4) }] }

/-- The machine with the fetched BIND on the ring beside the other command. -/
def twinFetched : State := twinCounter.withFetched 0 groutBind

theorem twinCounter_fetches : twinCounter.fetches 0 = true ∧ twinCounter.planLoaded (field groutBind 16 4) = true ∧
    (twinFetched.ring 0).cmds.length = 2 := by decide

/-- The checks of R138 pass for the BIND. -/
theorem twinFetched_checks : twinFetched.headCheck 0 groutBind = none ∧ (twinFetched.ring 0).bindBefore (twinCounter.rd (Obj.streamCmdHead 0)) = false ∧
    twinFetched.tailCheck 0 groutBind = none := by decide

/-- The machine refuses the BIND all the same, and the other command with it. -/
theorem fetch_twinCounter : ∃ t, exec (.commandFetch 0 (some groutBind)) twinCounter = .next t ∧ (t.ring 0).cmds = [] := ⟨_, rfl, rfl⟩

end Sys2Proof.Machine

namespace Sys2Proof
open Machine

/-- Refutes O29: where another command of the ring bears the counter of CMD_HEAD, the machine asks that one whether its plan was there,
and refuses a BIND whose own plan is loaded. -/
theorem not_fetching : ¬ Obligations.Fetching := by
  intro h
  obtain ⟨hfetch, hplan, htwo⟩ := twinCounter_fetches
  obtain ⟨hhd, hbefore, htail⟩ := twinFetched_checks
  obtain ⟨t, ht, hcmds⟩ := fetch_twinCounter
  obtain ⟨-, haccept, -⟩ := (h twinCounter 0).1 hfetch groutBind rfl
  have hu : exec (.commandFetch 0 (some groutBind)) twinCounter = .next twinFetched :=
    haccept hhd hbefore htail (by decide) (fun _ => hplan)
  have heq : t = twinFetched := Host.Outcome.next.inj (ht.symm.trans hu)
  rw [heq] at hcmds
  rw [hcmds] at htwo
  exact absurd htwo (by decide)

end Sys2Proof

/-! SUPPORT. Doorbells (R132-R134). -/

namespace Sys2Proof.Machine

theorem bell_toNat (n : RingId) {k : Nat} (h : k < 8) : (BitVec.ofNat 18 (8 * n.val + k)).toNat = 8 * n.val + k :=
  (BitVec.toNat_ofNat ..).trans (Nat.mod_eq_of_lt (by have : n.val < 32768 := n.isLt; omega))

theorem bellRing_ofNat (n : RingId) {k : Nat} (h : k < 8) : bellRing (BitVec.ofNat 18 (8 * n.val + k)) = n.val := by
  rw [bellRing, bell_toNat n h]
  omega

theorem bellAligned_ofNat (n : RingId) (wide : Bool) {k : Nat} (h : k < 8) :
    bellAligned (BitVec.ofNat 18 (8 * n.val + k)) wide = (wide && k == 0) := by
  rw [bellAligned, bell_toNat n h, show (8 * n.val + k) % 8 = k by omega]

theorem bits_63_52_ne_zero (w : BitVec 64) : bits w.toNat 63 52 ≠ 0 ↔ 2 ^ 52 ≤ w.toNat := by
  have := w.isLt
  simp only [bits]
  omega

/-- What makes the device discard a doorbell write (R132). -/
theorem State.bellDiscarded_iff (s : State) (n : Nat) (aligned : Bool) (w : BitVec 64) :
    s.bellDiscarded n aligned w.toNat = true ↔
      aligned = false ∨ 2 ^ 52 ≤ w.toNat ∨ (s.rd (Obj.streamRingState n) ≠ 1 ∧ s.rd (Obj.streamRingState n) ≠ 2) := by
  rw [← bits_63_52_ne_zero]
  simp [State.bellDiscarded, State.ringState, or_assoc]

/-- What makes a doorbell write an index error (R133). -/
theorem State.bellError_iff (s : State) (n w : Nat) : s.bellError n w = true ↔
    (bit w 48 = true ∧ 2 ^ s.rd (Obj.streamCmdLog2 n) < dist24 (w % 2 ^ 24) (s.rd (Obj.streamCmdHead n))) ∨
    (bit w 49 = true ∧ dist24 (s.rd (Obj.streamCplTail n)) (s.ring n).cplHead <
      dist24 (w / 2 ^ 24 % 2 ^ 24) (s.ring n).cplHead) := by
  simp [State.bellError, bellTail, bellHead, bits]

/-- A ring with the tail and head of a doorbell that it takes. -/
def Ring.takeBell (r : Ring) (w : Nat) : Ring :=
  { r with cmdTail := if bit w 48 then w % 2 ^ 24 else r.cmdTail
           cplHead := if bit w 49 then w / 2 ^ 24 % 2 ^ 24 else r.cplHead }

@[simp] theorem Ring.takeBell_halted (r : Ring) (w : Nat) : (r.takeBell w).halted = r.halted := rfl

theorem bellTail_eq (w : Nat) : bellTail w = w % 2 ^ 24 := by simp [bellTail, bits]
theorem bellHead_eq (w : Nat) : bellHead w = w / 2 ^ 24 % 2 ^ 24 := by simp [bellHead, bits]

theorem State.doorbell_error {s : State} {n : Nat} {w : BitVec 64} (hd : s.bellDiscarded n true w.toNat = false)
    (he : s.bellError n w.toNat = true) : s.doorbell n true w.toNat = s.indexError n := by
  rw [State.doorbell, if_neg (by simp [hd]), if_pos he]

/-- What the resume and abandon bits do in a ring that is HALTED (R134). -/
def State.endHalt (s : State) (n w : Nat) : State :=
  if s.ringState n == 2 then
    if bit w 51 then (match (s.ring n).halted with
      | some c => s.abandonCmd n c
      | none => s)
    else if bit w 50 then s.resumeRing n
    else s
  else s

/-- A doorbell write that a ring takes (R133, R134). -/
theorem State.doorbell_taken {s : State} {n : Nat} {w : BitVec 64} (hd : s.bellDiscarded n true w.toNat = false)
    (he : s.bellError n w.toNat = false) :
    s.doorbell n true w.toNat = (s.setRing n ((s.ring n).takeBell w.toNat)).endHalt n w.toNat := by
  rw [State.doorbell, if_neg (by simp [hd]), if_neg (by simp [he]), Ring.takeBell, ← bellTail_eq, ← bellHead_eq]
  rfl

/-- A doorbell row whose bit is set carries the write out (R132, R501). -/
theorem State.bellRow_set {s : State} {n : RingId} {wide : Bool} {w : BitVec 64} {k b : Nat} (hh : s.host = true)
    (hr : s.rd Obj.role ≠ 4) (hk : k < 8) (hb : bit w.toNat b = true) :
    s.bellRow (BitVec.ofNat 18 (8 * n.val + k)) wide w.toNat b = s.doorbell n.val (wide && k == 0) w.toNat := by
  rw [State.bellRow, bellRing_ofNat n hk, bellAligned_ofNat n wide hk, if_neg (by simp [hh, hr]), if_pos (by simp [hb])]

/-- What a read of a doorbell brings (R132). -/
theorem exec_read_bell {s : State} (hh : s.host = true) (o : BitVec 18) (wide : Bool) :
    exec (.read (.bell o wide)) s = .next (s.send (.barRead (s.bellRead o wide))) :=
  congrArg Host.Outcome.next ((if_pos rfl).trans (if_pos hh))

end Sys2Proof.Machine

namespace Sys2Proof
open Machine

/-- Each doorbell row is the same write, told by its bit. -/
theorem exec_bells {e : (BitVec 18 → Bool → BitVec 64 → Instr) × Nat}
    (he : e ∈ [(Instr.cmdTail, 48), (Instr.cplHead, 49), (Instr.resume, 50), (Instr.abandon, 51)]) (o : BitVec 18) (wide : Bool)
    (w : BitVec 64) (s : State) : exec (e.1 o wide w) s = .next (s.bellRow o wide w.toNat e.2) := by
  simp only [List.mem_cons, List.not_mem_nil, or_false] at he
  rcases he with rfl | rfl | rfl | rfl <;> rfl

/-- Settles O28: the four rows are one write, discarded, an index error, or taken. -/
theorem doorbells : Obligations.Doorbells := by
  intro e he s n w hh hr hb
  have hexec : ∀ wide k, k < 8 → exec (e.1 (BitVec.ofNat 18 (8 * n.val + k)) wide w) s =
      .next (s.doorbell n.val (wide && k == 0) w.toNat) := fun wide k hk => by
    rw [exec_bells he, State.bellRow_set hh hr hk hb]
  have hlive : w.toNat < 2 ^ 52 → s.rd (Obj.streamRingState n.val) = 1 ∨ s.rd (Obj.streamRingState n.val) = 2 →
      s.bellDiscarded n.val true w.toNat = false := fun hw hs => by
    rw [Bool.eq_false_iff, ne_eq, State.bellDiscarded_iff]
    rintro (h | h | h)
    · exact absurd h (by decide)
    · omega
    · exact hs.elim h.1 h.2
  have hnot := fun hp => Bool.eq_false_iff.2 (mt (State.bellError_iff s n.val w.toNat).1 hp)
  refine ⟨fun wide k hk h => ?_, fun wide k hk h => ?_, ?_, fun hw hs hp => ?_, fun hw hs hp ha c hc => ?_, fun hw hs hp ha hres => ?_,
    fun hw hs hp => ?_⟩
  · rw [hexec wide k hk]
    refine congrArg _ (if_pos ((s.bellDiscarded_iff _ _ _).2 ?_))
    rcases h with rfl | hk' | hw | hs
    · exact .inl rfl
    · exact .inl (by simp [hk'])
    · exact .inr (.inl hw)
    · exact .inr (.inr hs)
  · rw [exec_read_bell hh, State.bellRead, bellAligned_ofNat n wide hk]
    exact congrArg _ (congrArg _ (congrArg _ (if_neg (by rcases h with rfl | hk' <;> simp_all))))
  · rw [exec_read_bell hh, State.bellRead, bellAligned_ofNat n true (by decide), bellRing_ofNat n (by decide)]
    rfl
  · rw [hexec true 0 (by decide)]
    exact congrArg _ ((State.doorbell_taken (hlive hw (.inl hs)) (hnot hp)).trans (if_neg (by simp [State.ringState, hs])))
  · rw [hexec true 0 (by decide)]
    refine congrArg _ ((State.doorbell_taken (hlive hw (.inr hs)) (hnot hp)).trans ?_)
    refine (if_pos (by simp [State.ringState, hs])).trans ((if_pos ha).trans ?_)
    have hhalted : ((s.setRing n.val ((s.ring n.val).takeBell w.toNat)).ring n.val).halted = some c :=
      (congrArg Ring.halted (s.ring_setRing_self n.val _)).trans hc
    rw [hhalted]
    rfl
  · rw [hexec true 0 (by decide)]
    refine congrArg _ ((State.doorbell_taken (hlive hw (.inr hs)) (hnot hp)).trans ?_)
    exact (if_pos (by simp [State.ringState, hs])).trans ((if_neg (by simp [ha])).trans (if_pos hres))
  · rw [hexec true 0 (by decide)]
    exact congrArg _ (State.doorbell_error (hlive hw hs) ((State.bellError_iff ..).2 hp))

end Sys2Proof

/-! SUPPORT. Resets of the device (R535, R560-R562, R570). -/

namespace Sys2Proof.Machine

theorem Map.sortedFrom_del {α : Type} (m : Map α) (lo k : Nat) (h : Map.sortedFrom lo m = true) :
    Map.sortedFrom lo (Map.del m k) = true := by
  induction m generalizing lo with
  | nil => rfl
  | cons e m ih =>
    obtain ⟨x, v⟩ := e
    simp only [Map.sortedFrom, Bool.and_eq_true, decide_eq_true_eq] at h
    obtain ⟨hlo, hm⟩ := h
    simp only [Map.del]
    split
    · exact Map.sortedFrom_mono m hm (by omega)
    · simp [Map.sortedFrom, hlo, ih _ hm]

theorem Map.del_wf {α : Type} (m : Map α) (k : Nat) (h : Map.wf m = true) : Map.wf (Map.del m k) = true :=
  Map.sortedFrom_del m 0 k h

/-- The dictionary of a machine and its strapped reset values are in canonical form. -/
def State.DictOk (s : State) : Prop := Map.wf s.dict = true ∧ Map.wf s.rst = true

theorem State.DictOk.fix {s : State} (h : s.DictOk) (k v : Nat) : (s.fix k v).DictOk :=
  ⟨Map.del_wf _ _ h.1, by
    unfold State.fix
    dsimp only
    split
    · exact Map.del_wf _ _ h.2
    · exact Map.put_wf _ _ _ h.2⟩

theorem State.rd_fix {s : State} (h : s.DictOk) (k v j : Nat) : (s.fix k v).rd j = if j = k then v else s.rd j := by
  have hrst : ((s.fix k v).resetValue j) = if j = k then v else s.resetValue j := by
    simp only [State.resetValue, State.fix]
    by_cases hv : v = tableDefault k
    · rw [if_pos (by simpa using hv), Map.find_del _ _ _ h.2]
      by_cases hj : j = k <;> simp [hj, hv]
    · rw [if_neg (by simpa using hv), Map.find_put]
      by_cases hj : j = k <;> simp [hj]
  rw [State.rd, hrst, show (s.fix k v).dict = s.dict.del k from rfl, Map.find_del _ _ _ h.1]
  by_cases hj : j = k <;> simp [hj, State.rd]

/-- Reset values fixed one after another. -/
def State.fixAll (s : State) (l : List (Nat × Nat)) : State := l.foldl (fun s e => s.fix e.1 e.2) s

theorem State.rd_fixAll_other {s : State} (h : s.DictOk) {l : List (Nat × Nat)} {k : Nat} (hk : k ∉ l.map (·.1)) :
    (s.fixAll l).rd k = s.rd k := by
  induction l generalizing s with
  | nil => rfl
  | cons e l ih =>
    simp only [List.map_cons, List.mem_cons, not_or] at hk
    exact (ih (h.fix _ _) hk.2).trans ((State.rd_fix h _ _ _).trans (if_neg hk.1))

theorem State.rd_fixAll_mem {s : State} (h : s.DictOk) {l : List (Nat × Nat)} (hl : (l.map (·.1)).Nodup) {e : Nat × Nat}
    (he : e ∈ l) : (s.fixAll l).rd e.1 = e.2 := by
  induction l generalizing s with
  | nil => cases he
  | cons x l ih =>
    simp only [List.map_cons, List.nodup_cons] at hl
    rcases List.mem_cons.1 he with rfl | he
    · exact (State.rd_fixAll_other (h.fix _ _) hl.1).trans ((State.rd_fix h _ _ _).trans (if_pos rfl))
    · exact ih (h.fix _ _) hl.2 he

/-- What the straps fix (R563). -/
def strapValues (x : Straps) : List (Nat × Nat) :=
  [(Obj.leafId, b2n x.leafSel), (Obj.nodeId, x.nodeId.toNat),
   (Obj.macAddr, ofLE [0x02, 0x4D, 0x50, 0x60, 0x84, BitVec.ofNat 8 x.nodeId.toNat]),
   (Obj.ipv4Addr, ofLE [169, 254, 96, BitVec.ofNat 8 (100 + x.nodeId.toNat)]),
   (Obj.plcaRole, b2n (x.nodeId.toNat == 0)), (Obj.vioAudMv, if x.vioAudMv < 2550 then 1800 else 3300)]

theorem State.sampleStraps_eq (s : State) (x : Straps) : s.sampleStraps x = s.fixAll (strapValues x) := rfl

theorem strapValues_nodup (x : Straps) : ((strapValues x).map (·.1)).Nodup :=
  show [Obj.leafId, Obj.nodeId, Obj.macAddr, Obj.ipv4Addr, Obj.plcaRole, Obj.vioAudMv].Nodup by decide

/-- What a reset keeps of the machine. -/
def KeptByReset (s t : State) : Prop :=
  t.pending = s.pending ∧ t.hostMem = s.hostMem ∧ t.flash = s.flashKept ∧ t.root.fuses = s.root.fuses ∧
  t.root.vendorKey = s.root.vendorKey ∧ t.root.customer = s.root.customer ∧ t.sent = s.sent

/-- What a reset leaves of a machine's work. -/
def Fresh (t : State) : Prop :=
  t.rd Obj.phase = 0 ∧ t.rd (Obj.progState bringUp) = 1 ∧ t.rd Obj.clockState = 0 ∧
  t.rd Obj.position = 0 ∧ t.rd Obj.role = 0 ∧ t.host = false ∧ t.rings = [] ∧ t.streams = [] ∧ t.sessions = [] ∧
  t.bricks = [] ∧ t.joints = [] ∧ t.devMem = [] ∧ t.plans = [] ∧ t.members = []

theorem State.rd_restart (s : State) (cause : Nat) (b : Boot) (k : Nat) :
    (s.restart cause b).rd k = if k = Obj.lastResetCause then cause else State.reset.rd k :=
  State.rd_wr State.reset k Obj.lastResetCause cause

theorem State.restart_dictOk (s : State) (cause : Nat) (b : Boot) : (s.restart cause b).DictOk :=
  ⟨Map.put_wf _ _ _ rfl, rfl⟩

theorem State.restart_kept (s : State) (cause : Nat) (b : Boot) : KeptByReset s (s.restart cause b) :=
  ⟨rfl, rfl, rfl, rfl, rfl, rfl, rfl⟩

theorem State.restart_fresh (s : State) (cause : Nat) (b : Boot) : Fresh (s.restart cause b) := by
  refine ⟨?_, ?_, ?_, ?_, ?_, rfl, rfl, rfl, rfl, rfl, rfl, rfl, rfl, rfl⟩ <;>
    exact (State.rd_restart ..).trans rfl

/-- Sampling the straps leaves the work of a machine, but for the objects it fixes. -/
theorem State.sampleStraps_fresh {s : State} (h : s.DictOk) (x : Straps) (hf : Fresh s) : Fresh (s.sampleStraps x) := by
  obtain ⟨h1, h2, h3, h4, h5, hrest⟩ := hf
  have hrd : ∀ k ∉ [Obj.leafId, Obj.nodeId, Obj.macAddr, Obj.ipv4Addr, Obj.plcaRole, Obj.vioAudMv],
      (s.sampleStraps x).rd k = s.rd k := fun k hk => State.rd_fixAll_other (l := strapValues x) h hk
  exact ⟨(hrd _ (by decide)).trans h1, (hrd _ (by decide)).trans h2, (hrd _ (by decide)).trans h3, (hrd _ (by decide)).trans h4,
    (hrd _ (by decide)).trans h5, hrest⟩

theorem State.mortarDown_of_up {s : State} {link : Fin 56} (h : link.val ∉ s.boot.linksDown) :
    s.mortarDown link.val = { s with boot := { s.boot with linksDown := s.boot.linksDown ++ [link.val] } }.bump Obj.mortarLinksDown :=
  if_neg (by
    have := link.isLt
    have hlen : mortarLinks.length = 56 := by decide
    simp [h, hlen])

/-- A restart after which the straps are sampled (R535, R563). -/
theorem State.restart_strapped (s : State) (cause : Nat) (b : Boot) (x : Straps) :
    let t := (s.restart cause b).sampleStraps x
    KeptByReset s t ∧ Fresh t ∧ t.rd Obj.lastResetCause = cause ∧ t.boot = b ∧
    t.rd Obj.leafId = (if x.leafSel then 1 else 0) ∧ t.rd Obj.nodeId = x.nodeId.toNat ∧
    t.rd Obj.vioAudMv = (if x.vioAudMv < 2550 then 1800 else 3300) := by
  have hok := s.restart_dictOk cause b
  have hset := fun e he => State.rd_fixAll_mem hok (strapValues_nodup x) (e := e) he
  have hother : Obj.lastResetCause ∉ (strapValues x).map (·.1) :=
    show Obj.lastResetCause ∉ [Obj.leafId, Obj.nodeId, Obj.macAddr, Obj.ipv4Addr, Obj.plcaRole, Obj.vioAudMv] by decide
  exact ⟨s.restart_kept cause b, State.sampleStraps_fresh hok x (s.restart_fresh cause b),
    (State.rd_fixAll_other hok hother).trans ((State.rd_restart ..).trans (if_pos rfl)), rfl,
    hset (Obj.leafId, b2n x.leafSel) (by simp [strapValues]), hset (Obj.nodeId, x.nodeId.toNat) (by simp [strapValues]),
    hset (Obj.vioAudMv, if x.vioAudMv < 2550 then 1800 else 3300) (by simp [strapValues])⟩

end Sys2Proof.Machine

namespace Sys2Proof
open Machine

/-- Settles O59: every reset is a restart, after which a RESET samples the straps. -/
theorem resets : Obligations.Resets := by
  refine ⟨fun s => ⟨fun x released ok lost => ?_, ?_, fun d hd => ?_, fun d hd => ?_⟩,
    fun s => ⟨fun link h6 hl => ⟨?_, ?_⟩, fun link ok h => ?_, fun i low => ?_, rfl⟩⟩
  · obtain ⟨hkept, hfresh, hcause, hboot, hleaf, hnode, hvio⟩ := s.restart_strapped _ _ x
    refine ⟨_, rfl, hkept, hfresh, hcause.trans ?_, congrArg Boot.held hboot, congrArg Boot.tripped hboot,
      (congrArg Boot.hot hboot).trans ?_, hleaf, hnode, hvio⟩
    · cases ok <;> rfl
    · exact congrArg (· && decide (1000 < s.boot.hottest)) (Bool.not_not _)
  · exact ⟨_, rfl, s.restart_kept _ _, s.restart_fresh _ _, (State.rd_restart ..).trans (if_pos rfl), rfl⟩
  · exact congrArg Host.Outcome.next (if_pos hd)
  · exact ⟨s.restart 2 { s.boot with hottest := d, held := true, tripped := true }, congrArg Host.Outcome.next (if_neg (by omega)),
      s.restart_kept _ _, s.restart_fresh _ _, (State.rd_restart ..).trans (if_pos rfl), rfl, rfl⟩
  · exact congrArg Host.Outcome.next (if_neg (by simpa using ⟨h6, hl⟩))
  · exact ⟨_, congrArg Host.Outcome.next ((if_neg (by simpa using ⟨h6, hl⟩)).trans (State.mortarDown_of_up hl)), rfl, rfl⟩
  · exact congrArg Host.Outcome.next (if_pos (by simpa using h))
  · cases i <;> cases low <;> rfl

end Sys2Proof

/-! SUPPORT. Accesses of the dictionary through a BAR0 page (chapter 03). -/

namespace Sys2Proof.Machine

/-! ### The row of an object -/

/-- An object's row, from the rows of its index. -/
theorem State.object_of {s : State} {key : Nat} {rows : List ObjRow} {r : ObjRow} (hno : ¬ (0x2210 ≤ key / 256 ∧ key / 256 < 0x222F))
    (hg : objGroup (key / 256) = some rows)
    (hr : rows.find? (fun r => decide (r.sub ≤ key % 256 ∧ key % 256 < r.sub + r.n)) = some r) : s.object key = .ok r := by
  have hrows : s.indexRows (key / 256) = some rows := by
    unfold State.indexRows
    rw [if_neg (by simp; omega), hg]
  unfold State.object
  rw [hrows]
  dsimp only
  rw [hr]

/-! ### Checks -/

/-- One check fails among checks that pass. -/
theorem firstAbort_one {pre post : List (Bool × Nat)} {c : Nat} (hpre : ∀ e ∈ pre, e.1 = false) (hpost : ∀ e ∈ post, e.1 = false) :
    firstAbort (pre ++ (true, c) :: post) = c := by
  induction pre with
  | nil => simp [firstAbort, firstAbort_clear hpost]
  | cons e pre ih =>
    obtain ⟨b, x⟩ := e
    have hb : b = false := hpre (b, x) (List.mem_cons_self ..)
    rw [List.cons_append, firstAbort, hb, ih (fun e he => hpre e (List.mem_cons_of_mem _ he))]
    rfl

/-- A write through a page whose checks pass, and what its class makes of it. -/
theorem bar0_put {s : State} {page : Fin 66} {key : Nat} {cmd : BitVec 64} (data : BitVec 64) (flashOk : Bool) {r : ObjRow} {c : Nat}
    {u : State} (h : WindowOpen s page 2 key cmd) (ha : Admitted (s.taken page cmd data) page key r data.toNat)
    (hu : (s.taken page cmd data).put page.val key r data.toNat (leBytes r.ty.size data.toNat) flashOk = (c, u)) :
    s.barAccess page.val true cmd.toNat data.toNat flashOk =
      if c = 0 then u.answered page cmd none else (s.taken page cmd data).barDone page.val (cmdTag cmd.toNat) c none := by
  by_cases hc : c = 0
  · subst hc
    rw [if_pos rfl]
    exact bar0_write data flashOk h ha hu
  · rw [if_neg hc, barAccess_open data flashOk h (by decide)]
    have hsize : decide (data.toNat ≥ 2 ^ (8 * r.ty.size)) = false := decide_eq_false (Nat.not_le.mpr ha.fits)
    have hcode : ∀ fs : List (Bool × Nat), (∀ e ∈ fs, e.1 = false) → firstAbort (fs ++ (s.taken page cmd data).writeChecks page.val r ++
        (s.taken page cmd data).setChecks page.val key r data.toNat ++ [(c != 0, c)]) = c := by
      intro fs hf
      rw [show (c != 0) = true by simpa using hc]
      refine firstAbort_one (fun e he => ?_) (fun e he => by cases he)
      simp only [List.mem_append] at he
      rcases he with (he | he) | he
      · exact hf e he
      · exact ha.right e he
      · exact ha.value e he
    unfold State.barRun State.expedited
    dsimp only
    rw [h.op, h.key, h.clean, h.here, ha.row]
    simp only [ha.small, hsize, hu, Bool.false_and, Bool.not_false, Bool.and_false]
    rw [hcode _ (by simp)]
    simp [hc]

/-- A write of a WO object is admitted at its level with a value its row allows. -/
theorem admitted_wo {t : State} {page : Fin 66} {key : Nat} {r : ObjRow} {v : Nat} (hobj : t.object key = .ok r) (hw : r.acc = .wo)
    (hsmall : r.large = false) (hfits : v < 2 ^ (8 * r.ty.size)) (hlvl : t.levelOf page.val ≤ r.lvl)
    (hval : ∀ e ∈ t.valueChecks key r v, e.1 = false) : Admitted t page key r v where
  row := hobj
  small := hsmall
  fits := hfits
  right := by
    intro e he
    simp only [State.writeChecks, hw, anonymous_page, List.mem_cons, List.not_mem_nil, or_false] at he
    rcases he with rfl | rfl | rfl
    · rfl
    · exact decide_eq_false (by omega)
    · rfl
  value := by
    intro e he
    simp only [State.setChecks, hw] at he
    rw [if_neg (by decide)] at he
    rcases List.mem_append.1 he with he | he
    · exact hval e he
    · rw [List.mem_singleton.1 he]
      rfl

/-- The two outcomes of an action: its effect, or an abort code. -/
def State.actionEnd (t : State) (page : Fin 66) (cmd : BitVec 64) (x : Nat × State) : State :=
  if x.1 = 0 then x.2.answered page cmd none else t.barDone page.val (cmdTag cmd.toNat) x.1 none

/-- A row of the dictionary's actions through a page does the action and is answered with how it ended. -/
theorem page_action {s : State} {page : Fin 66} {key : Nat} {cmd data : BitVec 64} {row : Row} {r : ObjRow} (flashOk : Bool)
    (h : WindowOpen s page 2 key cmd) (hrow : expeditedRow 2 key = row) (hw : r.acc = .wo)
    (ha : Admitted (s.taken page cmd data) page key r data.toNat) :
    s.accessAs row (.bar0 page true cmd data) flashOk = (s.taken page cmd data).actionEnd page cmd
      ((s.taken page cmd data).action page.val key data.toNat (leBytes r.ty.size data.toNat) flashOk) := by
  rw [accessAs_bar0 data flashOk h (by decide) hrow]
  exact bar0_put data flashOk h ha (by unfold State.put; rw [hw])

@[simp] theorem State.rd_taken (s : State) (page : Fin 66) (cmd data : BitVec 64) (k : Nat) : (s.taken page cmd data).rd k = s.rd k := rfl

/-- A U8 object with a range takes the values of the range. -/
theorem valueChecks_range (t : State) {key : Nat} (hkey : key / 256 ≠ 0x4110 ∧ key / 256 ≠ 0x4111) (sub lvl v : Nat) (lo hi : Int)
    (h : lo ≤ v ∧ (v : Int) ≤ hi) : ∀ e ∈ t.valueChecks key ⟨sub, 1, .u8, .wo, lvl, 0, .range lo hi⟩ v, e.1 = false := by
  intro e he
  simp only [State.valueChecks, Ty.value, List.nil_append, List.mem_append, List.mem_cons, List.not_mem_nil, or_false] at he
  rcases he with (rfl | rfl) | rfl
  · exact decide_eq_false (by omega)
  · exact decide_eq_false (by omega)
  · simp [hkey]

end Sys2Proof.Machine

/-! SUPPORT. COMMIT_AT (R70, R71). -/

namespace Sys2Proof.Machine

theorem State.levelOf_page_le (s : State) (page : Fin 66) : s.levelOf page.val ≤ 2 := by
  have := page.isLt
  unfold State.levelOf
  rw [if_neg (c := (decide (66 ≤ page.val) && decide (page.val < 74)) = true)
    (by simp only [Bool.and_eq_true, decide_eq_true_eq]; omega)]
  split
  · decide
  · split <;> decide

/-- A write of COMMIT_AT asks for a commit. -/
theorem exec_commitAt {s : State} {page : Fin 66} {cmd data : BitVec 64} (h : WindowOpen s page 2 Obj.commitAt cmd) :
    exec (.commitAt (.bar0 page true cmd data)) s = .next ((s.taken page cmd data).actionEnd page cmd
      ((s.taken page cmd data).acceptCommit page.val data.toNat)) := by
  refine congrArg Host.Outcome.next ((page_action true h rfl (r := ⟨0x10, 1, .pos, .wo, 2, 0, .any⟩) rfl ?_).trans ?_)
  · exact admitted_wo (State.object_of (by decide) rfl rfl) rfl rfl data.isLt (State.levelOf_page_le _ _)
      (by rintro e he; rw [List.mem_singleton.1 he]; rfl)
  · rfl

/-- The checks of a commit (R71), in the order of their rows. -/
def State.commitChecks (t : State) (i v : Nat) : List (Bool × Nat) :=
  [(decide (t.rd Obj.phase < 6), Abort.wrongState), ((t.session i).pending.isSome, Abort.commitPending),
   (v % t.courseLen != 0, Abort.notBoundary), (v != 0 && decide (v ≤ t.pos), Abort.positionPassed),
   (decide (v > t.pos + 2 ^ 32), Abort.rangeHigh)]

/-- The machine once a session's staged set is its pending commit (R70). -/
def State.committed (t : State) (i v : Nat) : State :=
  ({ t with clk := { t.clk with order := t.clk.order + 1 } }).setSession i
    { t.session i with
      staged := []
      pending := some { position := if v == 0 then (t.pos / t.courseLen + 1) * t.courseLen else v, deferred := none
                        set := (t.session i).staged, order := t.clk.order, level := t.levelOf i } }

theorem State.acceptCommit_eq (t : State) (i v : Nat) : t.acceptCommit i v =
    if firstAbort (t.commitChecks i v) != 0 then (firstAbort (t.commitChecks i v), t) else (0, t.committed i v) := rfl

theorem State.acceptCommit_refused {t : State} {i v c : Nat} (hc : firstAbort (t.commitChecks i v) = c) (h0 : c ≠ 0) :
    t.acceptCommit i v = (c, t) := by
  rw [State.acceptCommit_eq, hc, if_pos (by simpa using h0)]

theorem State.actionEnd_refused (t u : State) (page : Fin 66) (cmd : BitVec 64) {c : Nat} (h0 : c ≠ 0) :
    t.actionEnd page cmd (c, u) = t.barDone page.val (cmdTag cmd.toNat) c none := if_neg h0

theorem State.actionEnd_done (t u : State) (page : Fin 66) (cmd : BitVec 64) :
    t.actionEnd page cmd (0, u) = u.answered page cmd none := if_pos rfl

end Sys2Proof.Machine

namespace Sys2Proof
open Machine

/-- Settles O18: a commit is accepted when none of its five checks fails, else refused with the one that does. -/
theorem commitAccepted : Obligations.CommitAccepted := by
  intro s page cmd data h
  dsimp only
  rw [exec_commitAt h]
  have refused : ∀ c, c ≠ 0 → firstAbort ((s.taken page cmd data).commitChecks page.val data.toNat) = c →
      (s.taken page cmd data).actionEnd page cmd ((s.taken page cmd data).acceptCommit page.val data.toNat) =
        (s.taken page cmd data).barDone page.val (cmdTag cmd.toNat) c none := fun c h0 hc => by
    rw [State.acceptCommit_refused hc h0, State.actionEnd_refused _ _ _ _ h0]
  have checks : (s.taken page cmd data).commitChecks page.val data.toNat =
      [(decide (s.rd Obj.phase < 6), Abort.wrongState), (((s.taken page cmd data).session page.val).pending.isSome, Abort.commitPending),
       (data.toNat % 2 ^ s.rd Obj.courseLog2 != 0, Abort.notBoundary),
       (data.toNat != 0 && decide (data.toNat ≤ s.rd Obj.position), Abort.positionPassed),
       (decide (data.toNat > s.rd Obj.position + 2 ^ 32), Abort.rangeHigh)] := rfl
  have phase : 6 ≤ s.rd Obj.phase → decide (s.rd Obj.phase < 6) = false := fun h => decide_eq_false (by omega)
  have ahead : data.toNat = 0 ∨ s.rd Obj.position < data.toNat →
      (data.toNat != 0 && decide (data.toNat ≤ s.rd Obj.position)) = false := fun h => by
    rcases h with h | h
    · rw [h]; rfl
    · rw [decide_eq_false (by omega), Bool.and_false]
  have near : data.toNat ≤ s.rd Obj.position + 2 ^ 32 → decide (data.toNat > s.rd Obj.position + 2 ^ 32) = false :=
    fun h => decide_eq_false (by omega)
  refine ⟨fun h6 hp hb hv hmax => congrArg _ ?_, fun h6 hp hb hv hmax => congrArg _ ?_, fun h6 hp hb hv hmax => congrArg _ ?_,
    fun h6 hp hb hv hmax => congrArg _ ?_, fun h6 hp hb h0 hv => congrArg _ ?_, fun h6 hp hb hv => congrArg _ ?_⟩
  · rw [State.acceptCommit_eq, checks, phase h6, hp, hb, ahead hv, near hmax]
    refine (State.actionEnd_done _ _ page cmd).trans ?_
    simp only [State.committed, beq_iff_eq, State.levelOf_taken]
    rfl
  all_goals refine refused _ (by decide) (checks ▸ ?_)
  · rw [decide_eq_true h6, hp, hb, ahead hv, near hmax]
    rfl
  · rw [phase h6, hp, hb, ahead hv, near hmax]
    rfl
  · rw [phase h6, hp, show (data.toNat % 2 ^ s.rd Obj.courseLog2 != 0) = true by simpa using hb, ahead (.inr hv), near hmax]
    rfl
  · rw [phase h6, hp, hb, decide_eq_true hv, near (by omega), show (data.toNat != 0) = true by simpa using h0]
    rfl
  · rw [phase h6, hp, hb, ahead (.inr (by omega)), decide_eq_true hv]
    rfl

end Sys2Proof

/-! SUPPORT. The actions of the dictionary (chapter 03 and the chapters of their units). -/

namespace Sys2Proof.Machine

/-- A WO object of one byte with a range: a write in the range at its level acts. -/
theorem page_range_action {s : State} {page : Fin 66} {key index sub lvl : Nat} {lo hi : Int} {cmd data : BitVec 64} {row : Row}
    {rows : List ObjRow} (flashOk : Bool) (h : WindowOpen s page 2 key cmd) (hrow : expeditedRow 2 key = row)
    (hindex : key / 256 = index) (hsub : key % 256 = sub)
    (hno : ¬ (0x2210 ≤ index ∧ index < 0x222F) ∧ index ≠ 0x4110 ∧ index ≠ 0x4111) (hg : objGroup index = some rows)
    (hr : rows.find? (fun r => decide (r.sub ≤ sub ∧ sub < r.sub + r.n)) = some ⟨sub, 1, .u8, .wo, lvl, 0, .range lo hi⟩)
    (hhi : hi < 256) (hlvl : s.levelOf page.val ≤ lvl) (hv : lo ≤ data.toNat ∧ (data.toNat : Int) ≤ hi) :
    s.accessAs row (.bar0 page true cmd data) flashOk = (s.taken page cmd data).actionEnd page cmd
      ((s.taken page cmd data).action page.val key data.toNat (leBytes 1 data.toNat) flashOk) := by
  subst hindex hsub
  refine page_action flashOk h hrow (r := ⟨key % 256, 1, .u8, .wo, lvl, 0, .range lo hi⟩) rfl ?_
  refine admitted_wo (State.object_of hno.1 hg hr) rfl rfl (show data.toNat < 256 by omega) ?_ ?_
  · rw [State.levelOf_taken]
    exact hlvl
  · exact valueChecks_range _ hno.2 _ _ _ _ _ hv

/-! ### Objects of numbered units -/

theorem objGroup_watch {n : Nat} (h : n < 16) : objGroup (0x3010 + n) = some rows3010 := by
  unfold objGroup
  repeat refine (if_neg (by omega)).trans ?_
  exact if_pos (by omega)

theorem objGroup_table {n : Nat} (h : n < 64) : objGroup (0x3410 + n) = some rows3410 := by
  unfold objGroup
  repeat refine (if_neg (by omega)).trans ?_
  exact if_pos (by omega)

theorem objGroup_plan {n : Nat} (h : n < 64) : objGroup (0x3310 + n) = some rows3310 := by
  unfold objGroup
  repeat refine (if_neg (by omega)).trans ?_
  exact if_pos (by omega)

theorem objGroup_group {n : Nat} (h : n < 64) : objGroup (0x6040 + n) = some rows6040 := by
  unfold objGroup
  repeat refine (if_neg (by omega)).trans ?_
  exact if_pos (by omega)

theorem objGroup_stream {n : Nat} (h : n < 32768) : objGroup (0x8000 + n) = some rows8000 := by
  unfold objGroup
  repeat refine (if_neg (by omega)).trans ?_
  exact if_pos (by omega)

/-- The keys of the actions on numbered units. -/
theorem unitKey {base sub n key : Nat} (h : key = (base + n) * 256 + sub) (hs : sub < 256) : key / 256 = base + n ∧ key % 256 = sub := by
  omega

theorem expeditedRow_watchClear {n : Nat} (h : n < 16) : expeditedRow 2 (Obj.watchClear n) = .clear := by
  have hindex : Obj.watchClear n / 256 = 0x3010 + n := by unfold Obj.watchClear; omega
  unfold expeditedRow writeRow
  dsimp only
  simp only [hindex, Nat.add_sub_cancel_left, beq_iff_eq, Bool.and_eq_true, decide_eq_true_eq]
  simp only [Obj.commitAt, Obj.discard, Obj.cancelPending, Obj.store, Obj.reanchor, Obj.forceClose, Obj.keyL0, Obj.keyL1, Obj.watchClear]
  refine (if_pos trivial).trans ?_
  repeat refine (if_neg (by omega)).trans ?_
  exact if_pos ⟨by omega, trivial⟩

theorem action_watchClear (s : State) (i v : Nat) (data : Bytes) (flashOk : Bool) (n : Nat) :
    s.action i (Obj.watchClear n) v data flashOk = (0, s.clearWatch n) := by
  have hindex : Obj.watchClear n / 256 = 0x3010 + n := by unfold Obj.watchClear; omega
  unfold State.action
  dsimp only
  simp only [hindex, Nat.add_sub_cancel_left, beq_iff_eq]
  simp only [Obj.commitAt, Obj.discard, Obj.cancelPending, Obj.store, Obj.reanchor, Obj.forceClose, Obj.keyL0, Obj.keyL1, Obj.watchClear]
  repeat refine (if_neg (by omega)).trans ?_
  exact if_pos trivial

theorem expeditedRow_tableUnload {n : Nat} (h : n < 64) : expeditedRow 2 (Obj.tableUnload n) = .unload := by
  have hindex : Obj.tableUnload n / 256 = 0x3410 + n := by unfold Obj.tableUnload; omega
  unfold expeditedRow writeRow
  dsimp only
  simp only [hindex, Nat.add_sub_cancel_left, beq_iff_eq, Bool.and_eq_true, decide_eq_true_eq]
  simp only [Obj.commitAt, Obj.discard, Obj.cancelPending, Obj.store, Obj.reanchor, Obj.forceClose, Obj.keyL0, Obj.keyL1, Obj.watchClear, Obj.tableUnload]
  refine (if_pos trivial).trans ?_
  repeat refine (if_neg (by omega)).trans ?_
  exact if_pos ⟨by omega, trivial⟩

theorem action_tableUnload (s : State) (i v : Nat) (data : Bytes) (flashOk : Bool) (n : Nat) :
    s.action i (Obj.tableUnload n) v data flashOk = if s.tableInUse n then (Abort.busy, s) else (0, s.emptyTable n) := by
  have hindex : Obj.tableUnload n / 256 = 0x3410 + n := by unfold Obj.tableUnload; omega
  unfold State.action
  dsimp only
  simp only [hindex, Nat.add_sub_cancel_left, beq_iff_eq]
  simp only [Obj.commitAt, Obj.discard, Obj.cancelPending, Obj.store, Obj.reanchor, Obj.forceClose, Obj.keyL0, Obj.keyL1, Obj.watchClear, Obj.tableUnload]
  repeat refine (if_neg (by omega)).trans ?_
  exact if_pos trivial

theorem expeditedRow_planUnload {n : Nat} (h : n < 64) : expeditedRow 2 (Obj.planUnload n) = .planUnload := by
  have hindex : Obj.planUnload n / 256 = 0x3310 + n := by unfold Obj.planUnload; omega
  unfold expeditedRow writeRow
  dsimp only
  simp only [hindex, Nat.add_sub_cancel_left, beq_iff_eq, Bool.and_eq_true, decide_eq_true_eq]
  simp only [Obj.commitAt, Obj.discard, Obj.cancelPending, Obj.store, Obj.reanchor, Obj.forceClose, Obj.keyL0, Obj.keyL1, Obj.watchClear, Obj.tableUnload, Obj.planUnload]
  refine (if_pos trivial).trans ?_
  repeat refine (if_neg (by omega)).trans ?_
  exact if_pos ⟨by omega, trivial⟩

theorem action_planUnload (s : State) (i v : Nat) (data : Bytes) (flashOk : Bool) (n : Nat) :
    s.action i (Obj.planUnload n) v data flashOk = if s.rd (Obj.planBoundStreams n) != 0 then (Abort.busy, s) else (0, s.emptyPlan n) := by
  have hindex : Obj.planUnload n / 256 = 0x3310 + n := by unfold Obj.planUnload; omega
  unfold State.action
  dsimp only
  simp only [hindex, Nat.add_sub_cancel_left, beq_iff_eq]
  simp only [Obj.commitAt, Obj.discard, Obj.cancelPending, Obj.store, Obj.reanchor, Obj.forceClose, Obj.keyL0, Obj.keyL1, Obj.watchClear, Obj.tableUnload, Obj.planUnload]
  repeat refine (if_neg (by omega)).trans ?_
  exact if_pos trivial

theorem expeditedRow_streamUnbind {n : Nat} (h : n < 32768) : expeditedRow 2 (Obj.streamUnbind n) = .unbind := by
  have hindex : Obj.streamUnbind n / 256 = 0x8000 + n := by unfold Obj.streamUnbind; omega
  unfold expeditedRow writeRow
  dsimp only
  simp only [hindex, Nat.add_sub_cancel_left, beq_iff_eq, Bool.and_eq_true, decide_eq_true_eq]
  simp only [Obj.commitAt, Obj.discard, Obj.cancelPending, Obj.store, Obj.reanchor, Obj.forceClose, Obj.keyL0, Obj.keyL1, Obj.watchClear, Obj.tableUnload, Obj.planUnload, Obj.groupSlipReanchor, Obj.streamUnbind]
  refine (if_pos trivial).trans ?_
  repeat refine (if_neg (by omega)).trans ?_
  exact if_pos ⟨by omega, trivial⟩

theorem action_streamUnbind (s : State) (i v : Nat) (data : Bytes) (flashOk : Bool) (n : Nat) :
    s.action i (Obj.streamUnbind n) v data flashOk = if s.ringState n != 0 then (Abort.wrongState, s) else (0, s.unbindStream n) := by
  have hindex : Obj.streamUnbind n / 256 = 0x8000 + n := by unfold Obj.streamUnbind; omega
  unfold State.action
  dsimp only
  simp only [hindex, Nat.add_sub_cancel_left, beq_iff_eq]
  simp only [Obj.commitAt, Obj.discard, Obj.cancelPending, Obj.store, Obj.reanchor, Obj.forceClose, Obj.keyL0, Obj.keyL1, Obj.watchClear, Obj.tableUnload, Obj.planUnload, Obj.streamUnbind]
  repeat refine (if_neg (by omega)).trans ?_
  exact if_pos trivial

theorem expeditedRow_groupSlipReanchor {n : Nat} (h : n < 64) : expeditedRow 2 (Obj.groupSlipReanchor n) = .slipReanchor := by
  have hindex : Obj.groupSlipReanchor n / 256 = 0x6040 + n := by unfold Obj.groupSlipReanchor; omega
  unfold expeditedRow writeRow
  dsimp only
  simp only [hindex, Nat.add_sub_cancel_left, beq_iff_eq, Bool.and_eq_true, decide_eq_true_eq]
  simp only [Obj.commitAt, Obj.discard, Obj.cancelPending, Obj.store, Obj.reanchor, Obj.forceClose, Obj.keyL0, Obj.keyL1, Obj.watchClear, Obj.tableUnload, Obj.planUnload, Obj.groupSlipReanchor]
  refine (if_pos trivial).trans ?_
  repeat refine (if_neg (by omega)).trans ?_
  exact if_pos ⟨by omega, trivial⟩

theorem action_groupSlipReanchor (s : State) (i v : Nat) (data : Bytes) (flashOk : Bool) (n : Nat) :
    s.action i (Obj.groupSlipReanchor n) v data flashOk = (0, s.setGroup n { s.group n with reanchor := true }) := by
  have hindex : Obj.groupSlipReanchor n / 256 = 0x6040 + n := by unfold Obj.groupSlipReanchor; omega
  unfold State.action
  dsimp only
  simp only [hindex, Nat.add_sub_cancel_left, beq_iff_eq]
  simp only [Obj.commitAt, Obj.discard, Obj.cancelPending, Obj.store, Obj.reanchor, Obj.forceClose, Obj.keyL0, Obj.keyL1, Obj.watchClear, Obj.tableUnload, Obj.planUnload, Obj.streamUnbind, Obj.groupSlipReanchor]
  repeat refine (if_neg (by omega)).trans ?_
  exact if_pos trivial

/-- Objects written zero read zero. -/
theorem State.rd_foldl_wr_zero (s : State) {ks : List Nat} {k : Nat} (h : k ∈ ks) : (ks.foldl (fun s k => s.wr k 0) s).rd k = 0 := by
  have keeps : ∀ (ks : List Nat) (s : State), s.rd k = 0 → (ks.foldl (fun s k => s.wr k 0) s).rd k = 0 := by
    intro ks
    induction ks with
    | nil => exact fun s h => h
    | cons j ks ih =>
      refine fun s h => ih _ ?_
      rw [State.rd_wr]
      split
      · rfl
      · exact h
  induction ks generalizing s with
  | nil => cases h
  | cons j ks ih =>
    rcases List.mem_cons.1 h with rfl | h
    · exact keeps ks _ (State.rd_wr_self ..)
    · exact ih _ h

theorem State.cancelCommit_none {t : State} {i : Nat} (h : (t.session i).pending = none) : t.cancelCommit i = (0, t) := by
  unfold State.cancelCommit
  dsimp only
  rw [h]

theorem State.cancelCommit_ahead {t : State} {i : Nat} {p : Pending} (h : (t.session i).pending = some p)
    (hp : t.rd Obj.position < p.deferred.getD p.position) :
    t.cancelCommit i = (0, t.setSession i { t.session i with pending := none }) := by
  unfold State.cancelCommit
  dsimp only
  rw [h]
  exact if_neg (Nat.not_le.2 hp)

/-- A write of SVN_ADVANCE at level 0 (R521). -/
theorem page_svnAdvance {s : State} {page : Fin 66} {cmd data : BitVec 64} (h : WindowOpen s page 2 Obj.svnAdvance cmd)
    (hl : s.levelOf page.val ≤ 0) (hv : data.toNat < 256) :
    s.accessAs .svnAdvance (.bar0 page true cmd data) true =
      (s.taken page cmd data).actionEnd page cmd ((s.taken page cmd data).advanceSvn data.toNat) :=
  page_action true h rfl (r := ⟨6, 1, .u8, .wo, 0, 0, .any⟩) rfl
    (admitted_wo (State.object_of (by decide) rfl rfl) rfl rfl hv (by rw [State.levelOf_taken]; exact hl)
      (by intro e he; rw [List.mem_singleton.1 he]; rfl))

theorem State.advanceSvn_ok {t : State} {v : Nat} (hv : t.rd Obj.fusedSvn < v ∧ v ≤ 64 ∧ v ≤ t.rd Obj.runningSvn) :
    t.advanceSvn v = (0, (((t.burn (fun f => { f with svn := v })).wr Obj.fusedSvn v).lowerSlot 0).lowerSlot 1) :=
  (if_neg (by omega)).trans (if_neg (by simp; omega))

/-- A write of BOOT_SLOT at level 0 (R524). -/
theorem page_bootSlot {s : State} {page : Fin 66} {cmd data : BitVec 64} (h : WindowOpen s page 2 Obj.bootSlot cmd)
    (hl : s.levelOf page.val ≤ 0) (hv : data.toNat ≤ 1) :
    s.accessAs .bootSlot (.bar0 page true cmd data) true =
      (({ s.taken page cmd data with flash := { (s.taken page cmd data).flash with control := data.toNat } }).wr Obj.bootSlot
        data.toNat).answered page cmd none := by
  refine (accessAs_bar0 data true h (by decide) rfl).trans ?_
  have hright : ∀ e ∈ (s.taken page cmd data).writeChecks page.val ⟨2, 1, .u8, .rw, 0, 0, .enum [0, 1]⟩, e.1 = false := by
    intro e he
    simp only [State.writeChecks, anonymous_page, State.levelOf_taken, List.mem_cons, List.not_mem_nil, or_false] at he
    rcases he with rfl | rfl | rfl
    · rfl
    · exact decide_eq_false (by omega)
    · rfl
  have hvalue : ∀ e ∈ (s.taken page cmd data).setChecks page.val Obj.bootSlot ⟨2, 1, .u8, .rw, 0, 0, .enum [0, 1]⟩ data.toNat,
      e.1 = false := by
    have hlist : (s.taken page cmd data).setChecks page.val Obj.bootSlot ⟨2, 1, .u8, .rw, 0, 0, .enum [0, 1]⟩ data.toNat =
        [(false, Abort.badEnum), (false, Abort.reservedBits), (false, Abort.stageFull)] := by
      rcases (by omega : data.toNat = 0 ∨ data.toNat = 1) with h | h <;> rw [h] <;> rfl
    rw [hlist]
    decide
  refine (bar0_put data true h ⟨State.object_of (by decide) rfl rfl, rfl, show data.toNat < 256 by omega, hright, hvalue⟩ rfl).trans ?_
  rfl

end Sys2Proof.Machine

namespace Sys2Proof
open Machine

/-- The value 1 lies in the range of an action that takes it alone. -/
theorem one_in_range {v : Nat} (h : v = 1) : (1 : Int) ≤ v ∧ (v : Int) ≤ 1 := by omega

/-- Settles O19: every action is admitted at its level with a value of its range, and is then carried out or refused. -/
theorem dictionaryActions : Obligations.DictionaryActions := by
  have hlow : ∀ {s : State} {page : Fin 66}, page.val < 2 → s.levelOf page.val ≤ 1 := fun {s page} hp => by
    rcases (by omega : page.val = 0 ∨ page.val = 1) with h | h <;> rw [h]
    · exact Nat.zero_le 1
    · exact Nat.le_refl 1
  refine ⟨fun e he s page cmd data h hl hc => ?_, fun s page cmd data n hv => ⟨fun hn h => ?_, fun hn h hp => ⟨fun hu => ?_, fun hu => ?_⟩,
    fun hn h hp => ⟨fun hu => ?_, fun hu => ?_⟩, fun hn h => ⟨fun hu => ?_, fun hu => ?_⟩, fun hn h hp => ?_⟩⟩
  · simp only [List.mem_cons, List.not_mem_nil, or_false] at he
    rcases he with rfl | rfl | rfl | rfl | rfl | rfl | rfl | rfl | rfl | rfl | rfl
    · refine congrArg Host.Outcome.next ((page_range_action true h rfl rfl rfl (by decide) rfl rfl (by decide) hl
        (one_in_range hc)).trans ?_)
      rfl
    · obtain ⟨hv, p, hp, hpos⟩ := hc
      refine congrArg Host.Outcome.next ((page_range_action true h rfl rfl rfl (by decide) rfl rfl (by decide) hl
        (one_in_range hv)).trans ?_)
      exact congrArg _ (State.cancelCommit_ahead hp hpos)
    · refine congrArg Host.Outcome.next ((page_range_action true h rfl rfl rfl (by decide) rfl rfl (by decide) hl
        (one_in_range hc.1)).trans ?_)
      exact congrArg _ (State.cancelCommit_none hc.2)
    · refine congrArg Host.Outcome.next ((page_range_action true h rfl rfl rfl (by decide) rfl rfl (by decide) hl
        (one_in_range hc.1)).trans ?_)
      exact congrArg _ (if_neg (by simpa using hc.2))
    · exact congrArg Host.Outcome.next (page_range_action true h rfl rfl rfl (by decide) rfl rfl (by decide) hl (one_in_range hc))
    · refine congrArg Host.Outcome.next (page_range_action true h rfl rfl rfl (by decide) rfl rfl (by decide) hl ?_)
      exact ⟨Int.natCast_nonneg _, Int.ofNat_le.2 hc⟩
    · refine congrArg Host.Outcome.next (page_range_action true h rfl rfl rfl (by decide) rfl rfl (by decide) hl ?_)
      exact ⟨Int.natCast_nonneg _, Int.ofNat_le.2 hc⟩
    · refine congrArg Host.Outcome.next ((page_range_action true h rfl rfl rfl (by decide) rfl rfl (by decide) hl
        (one_in_range hc.1)).trans ?_)
      exact congrArg _ (if_neg (by simpa using hc.2))
    · exact congrArg Host.Outcome.next (page_bootSlot h hl hc)
    · refine congrArg Host.Outcome.next ((page_svnAdvance h hl (Nat.lt_of_le_of_lt hc.2.1 (by decide))).trans ?_)
      exact congrArg _ (State.advanceSvn_ok hc)
  · obtain ⟨hindex, hsub⟩ := unitKey (base := 0x3010) (n := n) (sub := 0x0C) rfl (by decide)
    refine ⟨(s.taken page cmd data).clearWatch n, congrArg Host.Outcome.next ((page_range_action true h (expeditedRow_watchClear hn)
      hindex hsub (by omega) (objGroup_watch hn) rfl (by decide) (State.levelOf_page_le _ _) (one_in_range (congrArg BitVec.toNat hv))).trans ?_), ?_, rfl, rfl, rfl⟩
    · rw [action_watchClear]
      rfl
    · exact fun k hk => State.rd_foldl_wr_zero _ hk
  · obtain ⟨hindex, hsub⟩ := unitKey (base := 0x3410) (n := n) (sub := 0x1B) rfl (by decide)
    refine congrArg Host.Outcome.next ((page_range_action true h (expeditedRow_tableUnload hn) hindex hsub (by omega)
      (objGroup_table hn) rfl (by decide) (hlow hp) (one_in_range (congrArg BitVec.toNat hv))).trans ?_)
    rw [action_tableUnload, if_neg (by simp [hu])]
    rfl
  · obtain ⟨hindex, hsub⟩ := unitKey (base := 0x3410) (n := n) (sub := 0x1B) rfl (by decide)
    refine congrArg Host.Outcome.next ((page_range_action true h (expeditedRow_tableUnload hn) hindex hsub (by omega)
      (objGroup_table hn) rfl (by decide) (hlow hp) (one_in_range (congrArg BitVec.toNat hv))).trans ?_)
    rw [action_tableUnload, if_pos hu]
    rfl
  · obtain ⟨hindex, hsub⟩ := unitKey (base := 0x3310) (n := n) (sub := 0x16) rfl (by decide)
    refine congrArg Host.Outcome.next ((page_range_action true h (expeditedRow_planUnload hn) hindex hsub (by omega)
      (objGroup_plan hn) rfl (by decide) (hlow hp) (one_in_range (congrArg BitVec.toNat hv))).trans ?_)
    rw [action_planUnload, if_neg (by simp [hu])]
    rfl
  · obtain ⟨hindex, hsub⟩ := unitKey (base := 0x3310) (n := n) (sub := 0x16) rfl (by decide)
    refine congrArg Host.Outcome.next ((page_range_action true h (expeditedRow_planUnload hn) hindex hsub (by omega)
      (objGroup_plan hn) rfl (by decide) (hlow hp) (one_in_range (congrArg BitVec.toNat hv))).trans ?_)
    rw [action_planUnload, if_pos (by simp [hu])]
    rfl
  · obtain ⟨hindex, hsub⟩ := unitKey (base := 0x8000) (n := n) (sub := 0x0E) rfl (by decide)
    refine congrArg Host.Outcome.next ((page_range_action true h (expeditedRow_streamUnbind hn) hindex hsub (by omega)
      (objGroup_stream hn) rfl (by decide) (State.levelOf_page_le _ _) (one_in_range (congrArg BitVec.toNat hv))).trans ?_)
    rw [action_streamUnbind, if_neg (by simp [State.ringState, hu])]
    rfl
  · obtain ⟨hindex, hsub⟩ := unitKey (base := 0x8000) (n := n) (sub := 0x0E) rfl (by decide)
    refine congrArg Host.Outcome.next ((page_range_action true h (expeditedRow_streamUnbind hn) hindex hsub (by omega)
      (objGroup_stream hn) rfl (by decide) (State.levelOf_page_le _ _) (one_in_range (congrArg BitVec.toNat hv))).trans ?_)
    rw [action_streamUnbind, if_pos (by simp [State.ringState, hu])]
    rfl
  · obtain ⟨hindex, hsub⟩ := unitKey (base := 0x6040) (n := n) (sub := 0x10) rfl (by decide)
    refine congrArg Host.Outcome.next ((page_range_action true h (expeditedRow_groupSlipReanchor hn) hindex hsub (by omega)
      (objGroup_group hn) rfl (by decide) (hlow hp) (one_in_range (congrArg BitVec.toNat hv))).trans ?_)
    rw [action_groupSlipReanchor]
    rfl

end Sys2Proof

/-! SUPPORT. READ, DESCRIBE, READ_DEFAULT, READ_STAGED and WRITE through a BAR0 page (R60, R86, R88). -/

namespace Sys2Proof.Machine

/-- A check that passes is as no check. -/
theorem firstAbort_pass {b : Bool} {c : Nat} {l : List (Bool × Nat)} (h : b = false) : firstAbort ((b, c) :: l) = firstAbort l := by
  simp [firstAbort, h]

/-- A read of a page that fails one check (R60, R86). -/
theorem bar0_read_refused {s : State} {page : Fin 66} {key : Nat} {cmd : BitVec 64} (data : BitVec 64) {r : ObjRow} {c : Nat}
    (h : WindowOpen s page 1 key cmd) (hr : (s.taken page cmd data).object key = .ok r) (h0 : c ≠ 0)
    (hc : firstAbort [(r.large, Abort.useMailbox), (!r.large && decide (data.toNat ≥ 2 ^ (8 * r.ty.size)), Abort.sizeMismatch),
      (r.acc == .wo, Abort.notReadable)] = c) :
    s.barAccess page.val true cmd.toNat data.toNat true = (s.taken page cmd data).barDone page.val (cmdTag cmd.toNat) c none := by
  rw [barAccess_open data true h (by decide)]
  unfold State.barRun State.expedited
  dsimp only
  rw [h.op, h.key, h.clean, h.here, hr]
  simp only [show ((1 : Nat) == 2) = false from rfl, Bool.false_eq_true, if_false, beq_self_eq_true, Bool.true_or, Bool.and_true,
    Bool.true_and, List.cons_append, List.nil_append]
  rw [firstAbort_pass (show decide (1 = 0 ∨ 1 > 5) = false by decide), firstAbort_pass rfl, hc]
  simp [h0]

/-- Checks that fail with the same code. -/
theorem firstAbort_same {cs : List (Bool × Nat)} {c : Nat} (h : ∀ e ∈ cs, e.1 = true → e.2 = c) (hc : (true, c) ∈ cs) :
    firstAbort cs = c := by
  have step : ∀ cs : List (Bool × Nat), (∀ e ∈ cs, e.1 = true → e.2 = c) → firstAbort cs = c ∨ firstAbort cs = 0 := by
    intro cs
    induction cs with
    | nil => exact fun _ => .inr rfl
    | cons e cs ih =>
      obtain ⟨b, d⟩ := e
      intro h
      have hcs := ih (fun e he => h e (List.mem_cons_of_mem _ he))
      cases b with
      | false => simpa [firstAbort] using hcs
      | true =>
        have hd : d = c := h (true, d) (List.mem_cons_self ..) rfl
        rcases hcs with hcs | hcs <;> simp [firstAbort, hcs, hd]
  induction cs with
  | nil => cases hc
  | cons e cs ih =>
    have hcs := step cs (fun e he => h e (List.mem_cons_of_mem _ he))
    rcases List.mem_cons.1 hc with rfl | hc
    · rcases hcs with hcs | hcs <;> simp [firstAbort, hcs]
    · have := ih (fun e he => h e (List.mem_cons_of_mem _ he)) hc
      obtain ⟨b, d⟩ := e
      cases b with
      | false => simpa [firstAbort] using this
      | true => simp [firstAbort, this, show d = c from h (true, d) (List.mem_cons_self ..) rfl]

theorem stageIn_eq (set : List (Nat × Nat)) (key v : Nat) : stageIn set key v =
    if (∃ e ∈ set, e.1 = key) then set.map (fun e => if e.1 = key then (key, v) else e) else set ++ [(key, v)] := by
  have hnew : newEntry set key = true ↔ ¬ ∃ e ∈ set, e.1 = key := by
    rw [newEntry, Bool.not_eq_true', Bool.eq_false_iff, ne_eq, List.any_eq_true]
    simp only [beq_iff_eq]
  unfold stageIn
  by_cases h : ∃ e ∈ set, e.1 = key
  · rw [if_neg (fun hn => hnew.1 hn h), if_pos h]
    simp only [beq_iff_eq]
  · rw [if_pos (hnew.2 h), if_neg h]

/-- A write of a read-only object that fails no other check (R69). -/
theorem bar0_readOnly {s : State} {page : Fin 66} {key : Nat} {cmd : BitVec 64} (data : BitVec 64) {r : ObjRow}
    (h : WindowOpen s page 2 key cmd) (hr : (s.taken page cmd data).object key = .ok r) (hsmall : r.large = false)
    (hfits : data.toNat < 2 ^ (8 * r.ty.size)) (hro : r.acc = .ro) (hlvl : s.levelOf page.val ≤ r.lvl)
    (hval : ∀ e ∈ (s.taken page cmd data).setChecks page.val key r data.toNat, e.1 = false) :
    s.barAccess page.val true cmd.toNat data.toNat true =
      (s.taken page cmd data).barDone page.val (cmdTag cmd.toNat) Abort.notWritable none := by
  have hput : (s.taken page cmd data).put page.val key r data.toNat (leBytes r.ty.size data.toNat) true =
      (Abort.notWritable, s.taken page cmd data) := by
    unfold State.put
    rw [hro]
  have hwrite : (s.taken page cmd data).writeChecks page.val r = [(true, Abort.notWritable), (false, Abort.level),
      (false, Abort.notAuthenticated)] := by
    unfold State.writeChecks
    rw [hro, anonymous_page, State.levelOf_taken, decide_eq_false (Nat.not_lt.2 hlvl)]
    rfl
  rw [barAccess_open data true h (by decide)]
  unfold State.barRun State.expedited
  dsimp only
  rw [h.op, h.key, h.clean, h.here, hr]
  simp only [hput, hwrite, hsmall, decide_eq_false (Nat.not_le.2 hfits)]
  have hcode : ∀ fs : List (Bool × Nat), (∀ e ∈ fs, e.1 = false) →
      firstAbort (fs ++ [(true, Abort.notWritable), (false, Abort.level), (false, Abort.notAuthenticated)] ++
        (s.taken page cmd data).setChecks page.val key r data.toNat ++ [(Abort.notWritable != 0, Abort.notWritable)]) =
          Abort.notWritable := by
    refine fun fs hf => firstAbort_same (fun e he ht => ?_) (by simp)
    simp only [List.mem_append, List.mem_cons, List.not_mem_nil, or_false] at he
    rcases he with ((he | rfl | rfl | rfl) | he) | rfl
    · rw [hf e he] at ht; cases ht
    · rfl
    · cases ht
    · cases ht
    · rw [hval e he] at ht; cases ht
    · rfl
  rw [hcode _ (by simp)]
  rfl

end Sys2Proof.Machine

namespace Sys2Proof
open Machine

/-- READ, READ_STAGED, DESCRIBE and READ_DEFAULT through a page. -/
theorem page_reads {s : State} {page : Fin 66} {key : Nat} {cmd : BitVec 64} (data : BitVec 64) {r : ObjRow}
    (hr : (s.taken page cmd data).object key = .ok r) :
    ((r.large = false → data.toNat < 2 ^ (8 * r.ty.size)) → WindowOpen s page 1 key cmd → r.large = false → r.acc ≠ .wo →
      exec (.read (.bar0 page true cmd data)) s =
        .next ((s.taken page cmd data).answered page cmd (some ((s.taken page cmd data).get page.val key)))) ∧
    ((r.large = false → data.toNat < 2 ^ (8 * r.ty.size)) → WindowOpen s page 3 key cmd → r.large = false → r.acc ≠ .wo →
      exec (.readStaged (.bar0 page true cmd data)) s =
        .next ((s.taken page cmd data).answered page cmd (some ((s.taken page cmd data).getStaged page.val key r)))) ∧
    ((r.large = false → data.toNat < 2 ^ (8 * r.ty.size)) → WindowOpen s page 4 key cmd →
      exec (.describe (.bar0 page true cmd data)) s =
        .next ((s.taken page cmd data).answered page cmd (some ((s.taken page cmd data).describe page.val key r)))) ∧
    ((r.large = false → data.toNat < 2 ^ (8 * r.ty.size)) → WindowOpen s page 5 key cmd → r.large = false →
      exec (.readDefault (.bar0 page true cmd data)) s =
        .next ((s.taken page cmd data).answered page cmd (some ((s.taken page cmd data).resetValue key)))) ∧
    (¬ (r.large = false → data.toNat < 2 ^ (8 * r.ty.size)) → r.acc ≠ .wo → WindowOpen s page 1 key cmd →
      exec (.read (.bar0 page true cmd data)) s =
        .next ((s.taken page cmd data).barDone page.val (cmdTag cmd.toNat) Abort.sizeMismatch none)) ∧
    (WindowOpen s page 1 key cmd → r.large = true → r.acc ≠ .wo → exec (.read (.bar0 page true cmd data)) s =
      .next ((s.taken page cmd data).barDone page.val (cmdTag cmd.toNat) Abort.useMailbox none)) ∧
    (WindowOpen s page 1 key cmd → r.large = false → r.acc = .wo → exec (.read (.bar0 page true cmd data)) s =
      .next ((s.taken page cmd data).barDone page.val (cmdTag cmd.toNat) Abort.notReadable none)) := by
  refine ⟨fun hf h hl hw => ?_, fun hf h hl hw => ?_, fun hf h => ?_, fun hf h hl => ?_, fun hf hw h => ?_, fun h hl hw => ?_,
    fun h hl hw => ?_⟩
  · exact congrArg Host.Outcome.next ((accessAs_bar0 data true h (by decide) rfl).trans
      (bar0_read data true h (by decide) hr (fun _ => hl) hf (fun _ => hw)))
  · exact congrArg Host.Outcome.next ((accessAs_bar0 data true h (by decide) rfl).trans
      (bar0_read data true h (by decide) hr (fun _ => hl) hf (fun _ => hw)))
  · exact congrArg Host.Outcome.next ((accessAs_bar0 data true h (by decide) rfl).trans
      (bar0_read data true h (by decide) hr (fun hn => absurd rfl hn) hf (fun hn => absurd hn (by decide))))
  · exact congrArg Host.Outcome.next ((accessAs_bar0 data true h (by decide) rfl).trans
      (bar0_read data true h (by decide) hr (fun _ => hl) hf (fun hn => absurd hn (by decide))))
  · obtain ⟨hl, hbig⟩ := Classical.not_imp.1 hf
    refine congrArg Host.Outcome.next ((accessAs_bar0 data true h (by decide) rfl).trans
      (bar0_read_refused data h hr (by decide) ?_))
    simp [firstAbort, hl, hw, Nat.not_lt.1 hbig]
  · refine congrArg Host.Outcome.next ((accessAs_bar0 data true h (by decide) rfl).trans
      (bar0_read_refused data h hr (by decide) ?_))
    simp [firstAbort, hl, hw]
  · refine congrArg Host.Outcome.next ((accessAs_bar0 data true h (by decide) rfl).trans
      (bar0_read_refused data h hr (by decide) ?_))
    rw [hl, hw]
    by_cases hbig : data.toNat ≥ 2 ^ (8 * r.ty.size)
    · rw [decide_eq_true hbig]
      rfl
    · rw [decide_eq_false hbig]
      rfl

/-- WRITE through a page, as the object's class says. -/
theorem page_writes {s : State} {page : Fin 66} {key : Nat} {cmd : BitVec 64} (data : BitVec 64) {r : ObjRow}
    (h : WindowOpen s page 2 key cmd) (hrow : writeRow key .write = .write) :
    (Admitted (s.taken page cmd data) page key r data.toNat →
      (r.acc = .rw → exec (.write (.bar0 page true cmd data)) s =
        .next (((s.taken page cmd data).putRw page.val key data.toNat).answered page cmd none)) ∧
      (r.acc = .rws → exec (.write (.bar0 page true cmd data)) s =
        .next (((s.taken page cmd data).setSession page.val { (s.taken page cmd data).session page.val with
          staged := stageIn ((s.taken page cmd data).session page.val).staged key data.toNat }).answered page cmd none)) ∧
      (r.acc = .rwz → key ≠ Obj.jCorrected → data.toNat = 0 ∧ exec (.write (.bar0 page true cmd data)) s =
        .next (((s.taken page cmd data).wr key 0).answered page cmd none))) ∧
    ((s.taken page cmd data).object key = .ok r → r.large = false → data.toNat < 2 ^ (8 * r.ty.size) → r.acc = .ro →
      s.levelOf page.val ≤ r.lvl → (∀ e ∈ (s.taken page cmd data).setChecks page.val key r data.toNat, e.1 = false) →
      exec (.write (.bar0 page true cmd data)) s =
        .next ((s.taken page cmd data).barDone page.val (cmdTag cmd.toNat) Abort.notWritable none)) := by
  refine ⟨fun ha => ⟨fun hw => ?_, fun hw => ?_, fun hw hk => ?_⟩, fun hr hl hf hw hlvl hval => ?_⟩
  · exact congrArg Host.Outcome.next ((accessAs_bar0 data true h (by decide) hrow).trans
      (bar0_write data true h ha (by unfold State.put; rw [hw])))
  · refine congrArg Host.Outcome.next ((accessAs_bar0 data true h (by decide) hrow).trans
      (bar0_write data true h ha (u := (s.taken page cmd data).setSession page.val
          { (s.taken page cmd data).session page.val with
            staged := stageIn ((s.taken page cmd data).session page.val).staged key data.toNat })
        (by unfold State.put; rw [hw])) |>.trans ?_)
    rfl
  · have h0 : data.toNat = 0 := by
      have := ha.value (data.toNat != 0, Abort.nonzeroCounter) (by unfold State.setChecks; rw [hw]; exact List.mem_singleton_self _)
      simpa using this
    refine ⟨h0, congrArg Host.Outcome.next ((accessAs_bar0 data true h (by decide) hrow).trans
      (bar0_write data true h ha (by unfold State.put; rw [hw]; exact congrArg _ (if_neg (by simpa using hk)))))⟩
  · exact congrArg Host.Outcome.next ((accessAs_bar0 data true h (by decide) hrow).trans
      (bar0_readOnly data h hr hl hf hw hlvl hval))


/-- Settles O17: a read is answered or refused by one check, and a write does what the object's class says. -/
theorem dictionaryAccesses : Obligations.DictionaryAccesses := by
  refine ⟨fun s page key cmd data r => ?_, fun s page key cmd data r => ?_⟩
  all_goals dsimp only
  · intro hr
    exact page_reads data hr
  · intro h hrow
    rw [← stageIn_eq]
    exact page_writes data h hrow

end Sys2Proof

/-! SUPPORT. The root of trust and the defect log (R522, R525, R526, R545). -/

namespace Sys2Proof.Machine

@[simp] theorem Flash.control_setSlot (f : Flash) (k : Nat) (x : Option SlotImage) : (f.setSlot k x).control = f.control := by
  unfold Flash.setSlot
  split <;> rfl
@[simp] theorem Flash.log_setSlot (f : Flash) (k : Nat) (x : Option SlotImage) : (f.setSlot k x).log = f.log := by
  unfold Flash.setSlot
  split <;> rfl
theorem Flash.slot_setSlot (f : Flash) (k : Nat) (x : Option SlotImage) :
    (if k = 0 then (f.setSlot k x).slotA else (f.setSlot k x).slotB) = x := by
  unfold Flash.setSlot
  by_cases h : k = 0 <;> simp [h]

/-- A write of LOG_CLEAR (R545). -/
theorem exec_logClear {s : State} {page : Fin 66} {cmd data : BitVec 64} (h : WindowOpen s page 2 Obj.logClear cmd)
    (hl : s.levelOf page.val = 0) (hv : data.toNat < 2 ^ 16) (ok : Bool) :
    exec (.logClear (.bar0 page true cmd data) ok) s = .next ((s.taken page cmd data).actionEnd page cmd
      ((s.taken page cmd data).clearLog data.toNat ok)) :=
  congrArg Host.Outcome.next (page_action ok h rfl (r := ⟨3, 1, .u16, .wo, 0, 0, .any⟩) rfl
    (admitted_wo (State.object_of (by decide) rfl rfl) rfl rfl hv (Nat.le_of_eq ((State.levelOf_taken ..).trans hl))
      (by intro e he; rw [List.mem_singleton.1 he]; rfl)))

/-- The machine once an update's image lies in its slot, as far as the flash took it (R522). -/
def State.imageWritten (s : State) (image : Bytes) (x : Option SlotImage) : State :=
  let t := ({ s with root := { s.root with update := none } }).wr (slotSvnKey s.idleSlot) (imageSvn (image.take 4096))
  { t with flash := t.flash.setSlot s.idleSlot x }

/-- The image of a slot as an update gives it. -/
def updateImage (image : Bytes) : SlotImage :=
  ⟨image.take 4096, shaNat (slice image 4096 (imageBytes (image.take 4096))), false⟩

/-- An update whose image passes. -/
def State.updatePassed (s : State) (image : Bytes) : State :=
  let t := s.imageWritten image (some (updateImage image))
  ((({ t with flash := { t.flash with control := s.idleSlot } }).wr (slotStateKey s.idleSlot) 1).wr Obj.bootSlot s.idleSlot).progDone
    updateRecord

theorem exec_fwUpdateDone_passed {s : State} {image : Bytes} (h : s.root.update = some image)
    (hw : 4096 + imageBytes (image.take 4096) ≤ image.length) (hs : s.slotState (updateImage image) = 1) :
    exec (.fwUpdateDone true) s = .next (s.updatePassed image) := by
  show execFwUpdateDone true s = _
  unfold execFwUpdateDone
  rw [h]
  dsimp only
  rw [if_neg (by decide)]
  refine congrArg Host.Outcome.next ((if_pos ?_).trans ?_)
  · rw [if_neg (by omega)]
    exact beq_iff_eq.2 hs
  · rw [if_pos (by simpa using hw)]
    rfl

theorem exec_fwUpdateDone_bad {s : State} {image : Bytes} (h : s.root.update = some image)
    (hb : ¬ 4096 + imageBytes (image.take 4096) ≤ image.length ∨ s.slotState (updateImage image) ≠ 1) :
    ∃ x code, exec (.fwUpdateDone true) s =
      .next ((((s.imageWritten image x).wr (slotStateKey s.idleSlot) 2).bump Obj.verifyFails).progFail updateRecord code) := by
  show ∃ x code, execFwUpdateDone true s = _
  unfold execFwUpdateDone
  rw [h]
  dsimp only
  rw [if_neg (by decide)]
  refine ⟨_, _, congrArg Host.Outcome.next ((if_neg ?_).trans rfl)⟩
  by_cases hw : 4096 + imageBytes (image.take 4096) ≤ image.length
  · rw [if_neg (by omega)]
    exact fun h => hb.elim (fun hn => hn hw) (fun hn => hn (beq_iff_eq.1 h))
  · rw [if_pos (by omega)]
    decide

theorem exec_fwUpdateDone_lost {s : State} {image : Bytes} (h : s.root.update = some image) :
    exec (.fwUpdateDone false) s =
      .next (((s.imageWritten image none).wr (slotStateKey s.idleSlot) 2).progFail updateRecord Abort.storeFailed) := by
  show execFwUpdateDone false s = _
  unfold execFwUpdateDone
  rw [h]
  rfl

/-- Reading an image that has been written. -/
theorem State.rd_imageWritten (s : State) (image : Bytes) (x : Option SlotImage) (k : Nat) : (s.imageWritten image x).rd k =
    if k = slotSvnKey s.idleSlot then imageSvn (image.take 4096) else s.rd k :=
  State.rd_wr ({ s with root := { s.root with update := none } }) k (slotSvnKey s.idleSlot) (imageSvn (image.take 4096))

theorem State.idleSlot_cases (s : State) : s.idleSlot = 0 ∨ s.idleSlot = 1 := by
  unfold State.idleSlot
  omega

/-- What an ended update leaves, but for the fate of its image. -/
def UpdateEnded (s t : State) (image : Bytes) (state : Nat) : Prop :=
  t.root.update = none ∧ t.rd (slotSvnKey s.idleSlot) = imageSvn (image.take 4096) ∧ t.rd (Obj.progState updateRecord) = state ∧
  t.rings = s.rings ∧ t.flash.log = s.flash.log

theorem State.rd_progDone (t : State) (i k : Nat) : (t.progDone i).rd k = if k = Obj.progResult i then 0 else
    if k = Obj.progPosition i then t.rd (Obj.progTotal i) else if k = Obj.progState i then 2 else t.rd k := by
  rw [State.progDone, State.rd_wr, State.rd_wr, State.rd_wr]

theorem State.rd_progFail (t : State) (i c k : Nat) : (t.progFail i c).rd k =
    if k = Obj.progResult i then c else if k = Obj.progState i then 3 else t.rd k := by
  rw [State.progFail, State.rd_wr, State.rd_wr]

theorem State.rd_updatePassed (s : State) (image : Bytes) (k : Nat) : (s.updatePassed image).rd k =
    if k = Obj.progResult updateRecord then 0 else
    if k = Obj.progPosition updateRecord then (s.updatePassed image).rd (Obj.progTotal updateRecord) else
    if k = Obj.progState updateRecord then 2 else if k = Obj.bootSlot then s.idleSlot else
    if k = slotStateKey s.idleSlot then 1 else if k = slotSvnKey s.idleSlot then imageSvn (image.take 4096) else s.rd k := by
  have htotal : (s.updatePassed image).rd (Obj.progTotal updateRecord) = _ := (State.rd_progDone _ _ _).trans
    ((if_neg (by decide)).trans ((if_neg (by decide)).trans (if_neg (by decide))))
  rw [htotal, State.updatePassed, State.rd_progDone]
  simp only [State.rd_wr]
  congr 4
  exact congrArg _ (State.rd_imageWritten s image (some (updateImage image)) k)

theorem State.rd_updateFailed (s : State) (image : Bytes) (x : Option SlotImage) (c k : Nat) :
    (((s.imageWritten image x).wr (slotStateKey s.idleSlot) 2).progFail updateRecord c).rd k =
    if k = Obj.progResult updateRecord then c else if k = Obj.progState updateRecord then 3 else
    if k = slotStateKey s.idleSlot then 2 else if k = slotSvnKey s.idleSlot then imageSvn (image.take 4096) else s.rd k := by
  rw [State.rd_progFail, State.rd_wr, State.rd_imageWritten]

theorem State.rd_updateBad (s : State) (image : Bytes) (x : Option SlotImage) (c k : Nat) :
    ((((s.imageWritten image x).wr (slotStateKey s.idleSlot) 2).bump Obj.verifyFails).progFail updateRecord c).rd k =
    if k = Obj.progResult updateRecord then c else if k = Obj.progState updateRecord then 3 else
    if k = Obj.verifyFails then Nat.min (s.rd Obj.verifyFails + 1) (maxOf Obj.verifyFails) else
    if k = slotStateKey s.idleSlot then 2 else if k = slotSvnKey s.idleSlot then imageSvn (image.take 4096) else s.rd k := by
  have hfails : ((s.imageWritten image x).wr (slotStateKey s.idleSlot) 2).rd Obj.verifyFails = s.rd Obj.verifyFails := by
    rw [State.rd_wr, State.rd_imageWritten]
    rcases s.idleSlot_cases with h | h <;> rw [h] <;> rfl
  rw [State.rd_progFail, State.rd_bump, hfails, State.rd_wr, State.rd_imageWritten]

theorem State.updatePassed_spec (s : State) (image : Bytes) :
    UpdateEnded s (s.updatePassed image) image 2 ∧ (s.updatePassed image).flash.control = s.idleSlot ∧
    (if s.idleSlot = 0 then (s.updatePassed image).flash.slotA else (s.updatePassed image).flash.slotB) = some (updateImage image) ∧
    (s.updatePassed image).rd (slotStateKey s.idleSlot) = 1 ∧ (s.updatePassed image).rd Obj.bootSlot = s.idleSlot := by
  refine ⟨⟨rfl, ?_, ?_, rfl, Flash.log_setSlot ..⟩, rfl, Flash.slot_setSlot s.flash s.idleSlot (some (updateImage image)), ?_, ?_⟩
  all_goals
    rw [State.rd_updatePassed]
    rcases s.idleSlot_cases with h | h <;> rw [h] <;> rfl

theorem State.updateBad_spec (s : State) (image : Bytes) (x : Option SlotImage) (c : Nat) :
    let t := (((s.imageWritten image x).wr (slotStateKey s.idleSlot) 2).bump Obj.verifyFails).progFail updateRecord c
    UpdateEnded s t image 3 ∧ t.flash.control = s.flash.control ∧ t.rd (slotStateKey s.idleSlot) = 2 ∧
    t.rd Obj.verifyFails = Nat.min (s.rd Obj.verifyFails + 1) (maxOf Obj.verifyFails) := by
  refine ⟨⟨rfl, ?_, ?_, rfl, Flash.log_setSlot ..⟩, Flash.control_setSlot .., ?_, ?_⟩
  all_goals
    rw [State.rd_updateBad]
    rcases s.idleSlot_cases with h | h <;> rw [h] <;> rfl

theorem State.updateLost_spec (s : State) (image : Bytes) (c : Nat) :
    let t := ((s.imageWritten image none).wr (slotStateKey s.idleSlot) 2).progFail updateRecord c
    UpdateEnded s t image 3 ∧ t.flash.control = s.flash.control ∧
    (if s.idleSlot = 0 then t.flash.slotA else t.flash.slotB) = none ∧ t.rd (slotStateKey s.idleSlot) = 2 := by
  refine ⟨⟨rfl, ?_, ?_, rfl, Flash.log_setSlot ..⟩, Flash.control_setSlot .., Flash.slot_setSlot s.flash s.idleSlot none, ?_⟩
  all_goals
    rw [State.rd_updateFailed]
    rcases s.idleSlot_cases with h | h <;> rw [h] <;> rfl

end Sys2Proof.Machine


namespace Sys2Proof
open Machine

/-- The three ends of LOG_CLEAR. -/
theorem logClear_ends (s : State) (page : Fin 66) (cmd data : BitVec 64) (h : WindowOpen s page 2 Obj.logClear cmd)
    (hl : s.levelOf page.val = 0) (hv : data.toNat < 2 ^ 16) :
    let t := s.taken page cmd data
    let p := Path.bar0 page true cmd data
    let k := data.toNat
    let written (log : List (Unit' × Nat × Nat)) : State :=
      ({ t with flash := t.flash.writeLog log }).wr Obj.logCount log.length
    let refused (code : Nat) : Out := .next (t.barDone page.val (cmdTag cmd.toNat) code none)
    (k = 0xFFFF → exec (.logClear p true) s = .next ((written []).answered page cmd none)) ∧
    (k < s.flash.log.length → k ≠ 0xFFFF →
      exec (.logClear p true) s = .next ((written (s.flash.log.eraseIdx k)).answered page cmd none) ∧
      exec (.logClear p false) s = refused Abort.storeFailed) ∧
    (s.flash.log.length ≤ k → k ≠ 0xFFFF → ∀ ok, exec (.logClear p ok) s = refused Abort.rangeHigh) := by
  dsimp only
  simp only [exec_logClear h hl hv]
  refine ⟨fun hk => congrArg Host.Outcome.next ?_, fun hlt hk => ⟨congrArg Host.Outcome.next ?_, congrArg Host.Outcome.next ?_⟩,
    fun hle hk ok => congrArg Host.Outcome.next ?_⟩
  · have : (s.taken page cmd data).clearLog data.toNat true = _ := (if_neg (by simp [hk])).trans (if_neg (by decide))
    rw [this, if_pos (by simp [hk])]
    rfl
  · have : (s.taken page cmd data).clearLog data.toNat true = _ :=
      (if_neg (by simp [State.taken, hk]; exact hlt)).trans (if_neg (by decide))
    rw [this, if_neg (by simp [hk])]
    rfl
  · have : (s.taken page cmd data).clearLog data.toNat false = _ :=
      (if_neg (by simp [State.taken, hk]; exact hlt)).trans (if_pos (by decide))
    rw [this]
    rfl
  · have : (s.taken page cmd data).clearLog data.toNat ok = _ := if_pos (by simp [hk]; exact hle)
    rw [this]
    rfl

/-- Settles O58: an update ends by what its image and the flash come to, a bottom tree is ready once, and the log is cleared by entry. -/
theorem rootOfTrust : Obligations.RootOfTrust := by
  refine ⟨fun s image hi => ⟨fun hw hs => ⟨_, exec_fwUpdateDone_passed hi hw hs, s.updatePassed_spec image⟩, fun hb => ?_,
      ⟨_, exec_fwUpdateDone_lost hi, s.updateLost_spec image _⟩⟩,
    fun s => ⟨fun hn ok => ?_, fun h0 ht hb => congrArg Host.Outcome.next (if_pos ?_),
      fun h => congrArg Host.Outcome.next (if_neg ?_)⟩, logClear_ends⟩
  · obtain ⟨x, code, hexec⟩ := exec_fwUpdateDone_bad hi hb
    exact ⟨_, hexec, s.updateBad_spec image x code⟩
  · show execFwUpdateDone ok s = _
    unfold execFwUpdateDone
    rw [hn]
  · simp [h0, hb, Option.isSome_iff_ne_none, ht]
  · rcases h with h | h | h <;> simp [h]

end Sys2Proof

/-! SUPPORT. What a transfer between host and device memory copies (R355, R361). -/

namespace Sys2Proof.Machine

theorem cutRuns_one {lo hi n : Nat} (a : Nat) (h : hi ≤ n) : cutRuns lo hi 0 [(a, n)] = if lo < hi then [(a + lo, hi - lo)] else [] := by
  simp [cutRuns, Nat.min_eq_left h]

theorem Memory.readBytes_length (m : Memory) (a n : Nat) : (m.readBytes a n).length = n := by
  induction n generalizing a with
  | zero => rfl
  | succ n ih => simp [Memory.readBytes, ih]

/-- Bytes written to a whole run, where nothing of it is in doubt. -/
theorem State.writeRuns_one (s : State) (space a : Nat) (bs : Bytes) {lo hi n : Nat} (h : hi ≤ n) (hb : bs.length = hi - lo) :
    s.writeRuns space [] (cutRuns lo hi 0 [(a, n)]) bs =
      if lo < hi then (if space == 0 then s.hostWrite (a + lo) bs else s.devWrite (a + lo) bs) else s := by
  rw [cutRuns_one a h]
  split
  · simp [State.writeRuns, List.take_of_length_le (Nat.le_of_eq hb)]
  · rfl

theorem State.readRuns_one (s : State) (space b : Nat) {lo hi n : Nat} (h : hi ≤ n) :
    s.readRuns space (cutRuns lo hi 0 [(b, n)]) = (if space == 0 then s.hostMem else s.devMem).readBytes (b + lo) (hi - lo) := by
  rw [cutRuns_one b h]
  split
  · simp [State.readRuns]
  · rw [show hi - lo = 0 by omega]
    simp [State.readRuns, Memory.readBytes]

/-- A memory that takes bytes in a place, and no other. -/
theorem Memory.place_spec (m : Memory) (a : Nat) (bs : Bytes) {lo hi : Nat} (hw : m.wf = true) (hb : bs.length = hi - lo) (hlt : lo < hi) :
    (m.writeBytes (a + lo) bs).readBytes (a + lo) (hi - lo) = bs ∧
    ∀ y, y < a + lo ∨ a + hi ≤ y → (m.writeBytes (a + lo) bs).read y = m.read y :=
  ⟨by rw [← hb]; exact Memory.readBytes_writeBytes m (a + lo) bs hw,
   fun y hy => Memory.read_writeBytes_outside m (a + lo) y bs hw (by omega)⟩

theorem ownOverlap_other {d : Bytes} (h : descSpace d false ≠ descSpace d true) : ownOverlap d = [] :=
  if_pos (by simp [h])

/-- A transfer from device memory to host memory. -/
theorem State.copy_out (s : State) (d : Bytes) (data : HostRead) (lo hi plan stream chunk : Nat) (hd : descSpace d true = 0)
    (hs : descSpace d false ∈ [1, 2, 3]) : s.copy d [] data lo hi plan stream chunk =
      s.writeRuns 0 [] (cutRuns lo hi 0 (sideRuns d true)) (s.readRuns (descSpace d false) (cutRuns lo hi 0 (sideRuns d false))) := by
  have h0 : descSpace d false ≠ 0 := fun h => by rw [h] at hs; revert hs; decide
  have h4 : descSpace d false ≠ 4 := fun h => by rw [h] at hs; revert hs; decide
  unfold State.copy
  dsimp only
  rw [hd, if_neg (by decide), ownOverlap_other (by rw [hd]; exact h0), if_neg (by simpa using h0), if_neg (by simpa using h4)]
  rfl

/-- A transfer from host memory to device memory. -/
theorem State.copy_in (s : State) (d : Bytes) (data : HostRead) (lo hi plan stream chunk : Nat) (hd : descSpace d true ∈ [1, 2, 3])
    (hs : descSpace d false = 0) : s.copy d [] data lo hi plan stream chunk =
      s.writeRuns (descSpace d true) [] (cutRuns lo hi 0 (sideRuns d true)) (padTo (hi - lo) (data.bytes.drop lo)) := by
  have h0 : descSpace d true ≠ 0 := fun h => by rw [h] at hd; revert hd; decide
  have h4 : descSpace d true ≠ 4 := fun h => by rw [h] at hd; revert hd; decide
  unfold State.copy
  dsimp only
  rw [hs, if_neg (by simpa using h4), ownOverlap_other (by rw [hs]; exact h0.symm), if_pos (by decide)]
  rfl

theorem padTo_take {n : Nat} {bs : Bytes} (h : n ≤ bs.length) : padTo n bs = bs.take n := by
  rw [padTo, List.take_append_of_le_length h]

end Sys2Proof.Machine

namespace Sys2Proof
open Machine

/-- Settles O36: with one run on each side, the bytes read go in order to their place, and nowhere else. -/
theorem transferCopies : Obligations.TransferCopies := by
  intro s d data lo hi n a b plan stream chunk hlo hhi hsrc hdst hhost hdev
  refine ⟨fun hh hd hs => ?_, fun hd hs hlen => ?_⟩
  · rw [State.copy_out s d data lo hi plan stream chunk hd hs, hsrc, hdst, State.readRuns_one s _ b hhi,
      if_neg (fun h => by rw [beq_iff_eq.1 h] at hs; revert hs; decide), State.writeRuns_one s 0 a _ hhi (Memory.readBytes_length ..)]
    rcases Nat.lt_or_ge lo hi with hlt | hge
    · obtain ⟨hread, hother⟩ := Memory.place_spec s.hostMem a _ hhost (Memory.readBytes_length s.devMem (b + lo) (hi - lo)) hlt
      rw [if_pos hlt, if_pos (by decide), State.hostWrite, if_pos hh]
      exact ⟨hread, hother, rfl, rfl, rfl⟩
    · rw [if_neg (by omega), show hi - lo = 0 by omega]
      exact ⟨rfl, fun _ _ => rfl, rfl, rfl, rfl⟩
  · have hbytes : padTo (hi - lo) (data.bytes.drop lo) = (data.bytes.drop lo).take (hi - lo) :=
      padTo_take (by rw [List.length_drop]; omega)
    have hlength : ((data.bytes.drop lo).take (hi - lo)).length = hi - lo := by
      rw [List.length_take, List.length_drop]
      omega
    rw [State.copy_in s d data lo hi plan stream chunk hd hs, hdst, hbytes, State.writeRuns_one s _ a _ hhi hlength,
      if_neg (c := (descSpace d true == 0) = true) (fun h => by rw [beq_iff_eq.1 h] at hd; revert hd; decide)]
    rcases Nat.lt_or_ge lo hi with hlt | hge
    · obtain ⟨hread, hother⟩ := Memory.place_spec s.devMem a _ hdev hlength hlt
      rw [if_pos hlt]
      exact ⟨hread, hother, rfl, rfl, rfl⟩
    · rw [if_neg (by omega), show hi - lo = 0 by omega]
      exact ⟨rfl, fun _ _ => rfl, rfl, rfl, rfl⟩

end Sys2Proof

/-! SUPPORT. The final entry of a command (R144, R145, R154). -/

namespace Sys2Proof.Machine

/-- A command that has ended. -/
def Cmd.ended (c : Cmd) (f : Final) : Cmd := { c with phase := .ended, halt := none, final := some f }

/-- A command ends: the ring holds it with its final entry to be written. -/
theorem State.finish_head {s : State} {n : Nat} {c : Cmd} {rest : List Cmd} (hcmds : (s.ring n).cmds = c :: rest) (hf : c.final = none)
    (hrest : ∀ x ∈ rest, x.counter ≠ c.counter ∧ x.final = none) (status detail aux : Nat) (position : Option Nat) :
    s.finish n c.counter status position detail aux =
      (s.setRing n { s.ring n with cmds := c.ended ⟨status, position, detail, aux⟩ :: rest }).drain n := by
  have htail : rest.map (fun x => if x.counter == c.counter then
      if x.final.isSome then x else x.ended ⟨status, position, detail, aux⟩ else x) = rest := by
    exact (List.map_congr_left (g := fun x => x) (fun x hx => if_neg (by simpa using (hrest x hx).1))).trans (List.map_id' _)
  have hmap : (s.ring n).cmds.map (fun x => if x.counter == c.counter then
      if x.final.isSome then x else x.ended ⟨status, position, detail, aux⟩ else x) = c.ended ⟨status, position, detail, aux⟩ :: rest := by
    rw [hcmds, List.map_cons, htail, if_pos (beq_self_eq_true _), if_neg (by simp [hf])]
  rw [← hmap]
  rfl

/-- Commands that have not ended stay in their ring. -/
theorem drainList_waiting (s : State) (n : Nat) {cs : List Cmd} (h : ∀ x ∈ cs, x.final = none) :
    drainList n s cs = s.setRing n { s.ring n with cmds := cs } := by
  cases cs with
  | nil => rfl
  | cons c cs =>
    rw [drainList, h c (List.mem_cons_self ..)]

theorem State.putIndexError_none {s : State} {n : Nat} (h : (s.ring n).errEntry = false) : s.putIndexError n = s :=
  if_neg (by simp [h])

/-- The first command of a ring, once it has ended, leaves it with its entry written. -/
theorem State.drain_ended {s : State} {n : Nat} {c : Cmd} {rest : List Cmd} {f : Final} (hcmds : (s.ring n).cmds = c :: rest)
    (hf : c.final = some f) (hl : c.lost = false) (hrest : ∀ x ∈ rest, x.final = none) (he : (s.ring n).errEntry = false)
    (hs : f.status ≠ St.missed) :
    s.drain n = (s.putEntry n (s.entryOf c false f.status (f.position.getD s.pos) f.detail f.aux)).setRing n
      { s.ring n with cmds := rest } := by
  have hput : s.putFinal n c f = s.putEntry n (s.entryOf c false f.status (f.position.getD s.pos) f.detail f.aux) :=
    (if_neg (by simp [hl])).trans (if_neg (by simpa using hs))
  have hring : (s.putEntry n (s.entryOf c false f.status (f.position.getD s.pos) f.detail f.aux)).ring n = s.ring n := rfl
  rw [State.drain, hcmds, drainList, hf]
  dsimp only
  rw [hput, drainList_waiting _ n hrest, hring]
  exact State.putIndexError_none (by rw [State.ring_setRing_self]; exact he)

/-- The bytes of an entry that is no notice (R145). -/
theorem Entry.bytes_final (op status index tag position detail aux tail log : Nat) (coasted : Bool) :
    (Entry.bytes ⟨op, status, false, coasted, aux, index, tag, position, detail⟩ (phaseOf log tail)) =
      leBytes 1 op ++ leBytes 1 status ++ leBytes 1 ((if tail / 2 ^ log % 2 = 0 then 1 else 0) + (if coasted then 4 else 0)) ++
      leBytes 1 aux ++ leBytes 4 (index % 2 ^ 24) ++ leBytes 8 tag ++ leBytes 8 position ++ leBytes 8 detail := by
  have hphase : phaseOf log tail + 2 * b2n false + 4 * b2n coasted =
      (if tail / 2 ^ log % 2 = 0 then 1 else 0) + (if coasted then 4 else 0) := by
    unfold phaseOf b2n
    rcases Nat.mod_two_eq_zero_or_one (tail / 2 ^ log) with h | h <;> rw [h] <;> cases coasted <;> rfl
  rw [Entry.bytes, hphase]

theorem Entry.bytes_length (e : Entry) (phase : Nat) : (e.bytes phase).length = 32 := by
  simp [Entry.bytes]

end Sys2Proof.Machine

namespace Sys2Proof
open Machine

/-- What the entry at CPL_TAIL leaves. -/
theorem putEntry_spec {s : State} (n : Nat) (e : Entry) (hh : s.host = true) (hwf : s.hostMem.wf = true) :
    let tail := s.rd (Obj.streamCplTail n)
    let log := s.rd (Obj.streamCplLog2 n)
    let slot := s.rd (Obj.streamCplBase n) + 32 * (tail % 2 ^ log)
    let t := s.putEntry n e
    t.hostMem.readBytes slot 32 = e.bytes (phaseOf log tail) ∧
    (∀ a, a < slot ∨ slot + 32 ≤ a → t.hostMem.read a = s.hostMem.read a) ∧
    t.hostMem.wf = true ∧ t.rd (Obj.streamCplTail n) = (tail + 1) % 2 ^ 24 ∧
    (∀ k, k ≠ Obj.streamCplTail n → t.rd k = s.rd k) := by
  intro tail log slot t
  have hmem : t.hostMem = s.hostMem.writeBytes slot (e.bytes (phaseOf log tail)) := if_pos hh
  have hlen := Entry.bytes_length e (phaseOf log tail)
  rw [hmem]
  refine ⟨?_, fun a ha => Memory.read_writeBytes_outside _ _ _ _ hwf (by rw [hlen]; exact ha), Memory.writeBytes_wf _ _ _ hwf,
    State.rd_wr_self .., fun k hk => State.rd_wr_ne _ _ hk⟩
  have := Memory.readBytes_writeBytes s.hostMem slot (e.bytes (phaseOf log tail)) hwf
  rwa [hlen] at this

/-- Settles O30: the ring's first command ends, its entry is written, and nothing else is. -/
theorem finalEntry : Obligations.FinalEntry := by
  intro s n c rest status detail aux position hcmds hf hl he hwf hh hrest hs
  dsimp only
  have hfinish := State.finish_head hcmds hf hrest status detail aux position
  have hdrain := State.drain_ended (s := s.setRing n { s.ring n with cmds := c.ended ⟨status, position, detail, aux⟩ :: rest }) (n := n)
    (c := c.ended ⟨status, position, detail, aux⟩) (rest := rest) (f := ⟨status, position, detail, aux⟩) (by rw [State.ring_setRing_self])
    rfl hl (fun x hx => (hrest x hx).2) (by rw [State.ring_setRing_self]; exact he) hs
  rw [hfinish, hdrain, ← Entry.bytes_final]
  obtain ⟨hentry, hother, hcanon, htail, hrd⟩ := putEntry_spec
    (s := s.setRing n { s.ring n with cmds := c.ended ⟨status, position, detail, aux⟩ :: rest }) n
    ⟨c.op, status, false, bit (s.rd Obj.positionFlags) 0, aux, c.counter, c.tag, position.getD s.pos, detail⟩ hh hwf
  refine ⟨hentry, hother, hcanon, htail, ?_, fun m hm => ?_, hrd, rfl, rfl, rfl, rfl, rfl⟩
  · rw [State.ring_setRing_self]
  · rw [State.ring_setRing_ne _ _ hm]
    exact State.ring_setRing_ne _ _ hm

end Sys2Proof

/-! SUPPORT. How ring commands start and end; page requests (R126, R131, R139, R152, R153, R157). -/

namespace Sys2Proof.Machine

/-- The first command of a ring that has not started. -/
theorem Ring.next_eq {r : Ring} {before after : List Cmd} {c : Cmd} (h : r.cmds = before ++ c :: after)
    (hb : ∀ x ∈ before, x.phase ≠ .fetched) (hc : c.phase = .fetched) : r.next = some c := by
  rw [Ring.next, h, List.find?_append, List.find?_eq_none.2 (fun x hx => by simpa using hb x hx)]
  simp [hc]

/-- The command that starts, when it is the next one and of the opcode asked for. -/
theorem State.startCmd_next {s : State} {n op : Nat} {c : Cmd} (hnext : (s.ring n).next = some c) (hop : c.op = op)
    (hring : s.rd (Obj.streamRingState n) ≠ 2) (hu : c.unchecked = false)
    (hfence : op = 11 → (s.ring n).cmds.head?.map (·.counter) = some c.counter) :
    s.startCmd n op = (some c, s.begin n c.counter) := by
  have hstart : s.startable n op = some c := by
    unfold State.startable
    dsimp only
    rw [hnext]
    dsimp only
    rw [if_neg (by simp [hop, hu, State.ringState, hring]), if_neg (by simpa using hfence)]
  unfold State.startCmd
  rw [hstart]
  exact if_neg (by simp [hu])

/-- A command that starts is marked as active in its place. -/
theorem State.begin_eq {s : State} {n : Nat} {before after : List Cmd} {c : Cmd} (h : (s.ring n).cmds = before ++ c :: after)
    (hu : c.unchecked = false) (hother : ∀ x ∈ before ++ after, x.counter ≠ c.counter) :
    s.begin n c.counter = s.setRing n { s.ring n with cmds := before ++ { c with phase := .active } :: after } := by
  have hsame : ∀ l : List Cmd, (∀ x ∈ l, x.counter ≠ c.counter) →
      l.map (fun x => if x.counter == c.counter then { x with phase := .active, unchecked := false } else x) = l := fun l hl =>
    (List.map_congr_left (g := fun x => x) (fun x hx => if_neg (by simpa using hl x hx))).trans (List.map_id' _)
  have hmap : (s.ring n).cmds.map (fun x => if x.counter == c.counter then { x with phase := .active, unchecked := false } else x) =
      before ++ { c with phase := .active } :: after := by
    rw [h, List.map_append, List.map_cons, hsame before (fun x hx => hother x (List.mem_append_left _ hx)),
      hsame after (fun x hx => hother x (List.mem_append_right _ hx)), if_pos (beq_self_eq_true _), ← hu]
  rw [← hmap]
  rfl

/-- What a CANCEL ends (R157). -/
theorem State.cancelChunks_congr (s : State) (n : Nat) {p q : Cmd → Bool} (h : ∀ x, p x = q x) :
    s.cancelChunks n p = ((s.ring n).cmds.filter q).foldl (fun s c =>
      s.finish n c.counter St.cancelled (some ((c.chunk.map (·.position)).getD 0))) s := by
  rw [State.cancelChunks, show p = q from funext h]

theorem State.any_request {s : State} {id : Nat} : s.requests.any (fun q => q.id == id) = true ↔ ∃ q ∈ s.requests, q.id = id := by
  simp [List.any_eq_true]

end Sys2Proof.Machine

namespace Sys2Proof
open Machine

/-- Settles O31: a command starts as the ring's next one; FENCE, NOTE and CANCEL end as they started, and responses end requests. -/
theorem ringCommands : Obligations.RingCommands := by
  refine ⟨fun s n op before after c hcmds hb hc hop hring hu hfence hother => ?_, fun s n c t => ⟨fun h => ?_, fun h => ?_, fun h => ?_⟩,
    fun s id code => ⟨fun hq => ⟨fun hcode => ?_, fun hcode => ?_, fun h0 h1 => ?_, ?_⟩, fun hq => ⟨?_, ?_⟩⟩⟩
  · rw [← State.begin_eq hcmds hu hother]
    refine State.startCmd_next (Ring.next_eq hcmds hb hc) hop hring hu (fun h11 => ?_)
    rw [hcmds, hfence h11]
    rfl
  · show execFence n s = _
    unfold execFence
    rw [show s.startCmd n.val 11 = (some c, t) from h]
    rfl
  · show execNote n s = _
    unfold execNote
    rw [show s.startCmd n.val 12 = (some c, t) from h]
    rfl
  · show execCancel n s = _
    unfold execCancel
    dsimp only
    rw [show s.startCmd n.val 5 = (some c, t) from h]
    refine congrArg Host.Outcome.next (congrArg (fun u => State.finish u n.val c.counter St.done) (State.cancelChunks_congr _ _ fun x => ?_))
    unfold Cmd.pendingFrom
    have hbefore : (fun x : Cmd => x.counter != c.counter) = (fun x : Cmd => decide (x.counter ≠ c.counter)) :=
      funext fun x => (decide_not (p := x.counter = c.counter)).symm
    rw [hbefore]
    refine Eq.trans ?_ (Bool.and_assoc _ _ _).symm
    cases x.chunk with
    | none => rfl
    | some k => rfl
  · refine congrArg Host.Outcome.next ((if_neg (by simp [State.any_request.2 hq])).trans ((if_pos (by simp [hcode])).trans ?_))
    simp only [ne_eq, decide_not]
    rfl
  · exact congrArg Host.Outcome.next ((if_neg (by simp [State.any_request.2 hq])).trans ((if_neg (by simp [hcode])).trans (if_pos (by simp [hcode]))))
  · have hn0 : code.toNat ≠ 0 := fun h => h0 (BitVec.eq_of_toNat_eq h)
    have hn1 : code.toNat ≠ 1 := fun h => h1 (BitVec.eq_of_toNat_eq h)
    exact congrArg Host.Outcome.next ((if_neg (by simp [State.any_request.2 hq])).trans ((if_neg (by simpa using hn0)).trans
      (if_neg (by simpa using hn1))))
  · exact congrArg Host.Outcome.next (if_pos (State.any_request.2 hq))
  · exact congrArg Host.Outcome.next (if_pos (by simpa using hq))
  · exact congrArg Host.Outcome.next (if_neg (by simpa using hq))

end Sys2Proof

/-! SUPPORT. AES3 subframes and capture writes (R404, R405, R422, R423). -/

namespace Sys2Proof.Machine

/-- The objects of an AES3 input lane that a subframe writes besides its error counters. -/
def aesKeys (n : Nat) : List Nat :=
  [Obj.laneForeignCount n, Obj.laneState n, Obj.laneCsRx0 n, Obj.laneCsRx1 n, Obj.laneCrccErrors n, Obj.laneRxBlockPhase n]

/-- `t` is `s` but for lane `n` and some objects of it. -/
structure AesFrame (n : Nat) (s t : State) : Prop where
  shape : ∃ d l, t = { s with dict := d, lanes := l }
  rd : ∀ k ∉ aesKeys n, t.rd k = s.rd k
  lane : ∀ m, m ≠ n → t.lane m = s.lane m

namespace AesFrame
variable {n : Nat} {s t u : State}

theorem refl (n : Nat) (s : State) : AesFrame n s s := ⟨⟨s.dict, s.lanes, rfl⟩, fun _ _ => rfl, fun _ _ => rfl⟩

theorem trans (h : AesFrame n s t) (h' : AesFrame n t u) : AesFrame n s u := by
  obtain ⟨d, l, rfl⟩ := h.shape
  obtain ⟨d', l', rfl⟩ := h'.shape
  exact ⟨⟨d', l', rfl⟩, fun k hk => (h'.rd k hk).trans (h.rd k hk), fun m hm => (h'.lane m hm).trans (h.lane m hm)⟩

theorem setLane (s : State) (n : Nat) (x : LaneRun) : AesFrame n s (s.setLane n x) :=
  ⟨⟨s.dict, s.lanes.put n x, rfl⟩, fun _ _ => rfl, fun _ hm => s.lane_setLane_ne x hm⟩

theorem wr (s : State) {n k : Nat} (v : Nat) (hk : k ∈ aesKeys n) : AesFrame n s (s.wr k v) :=
  ⟨⟨s.dict.put k v, s.lanes, rfl⟩, fun _ hj => s.rd_wr_ne v (fun h => hj (h ▸ hk)), fun _ _ => rfl⟩

theorem ite {c : Prop} [Decidable c] (h : AesFrame n s t) (h' : AesFrame n s u) : AesFrame n s (if c then t else u) := by
  split <;> assumption

theorem storeBlock (s : State) {n k : Nat} (bs : Option (List Bool)) (hk : k ∈ aesKeys n) : AesFrame n s (s.storeBlock n k bs) := by
  unfold State.storeBlock
  split
  · exact refl n s
  · split
    · exact refl n s
    · dsimp only
      split
      · exact wr s _ (by simp [aesKeys])
      · exact wr s _ hk

theorem aesStart (s : State) (n phase : Nat) (good : Bool) : AesFrame n s (s.aesStart n phase good) := by
  unfold State.aesStart
  dsimp only
  exact trans (trans (ite (wr s (k := Obj.laneForeignCount n) _ (by simp [aesKeys])) (refl n s))
    (ite (wr _ (k := Obj.laneState n) _ (by simp [aesKeys])) (refl n _))) (setLane _ n _)

end AesFrame

theorem State.aesStart_muted (s : State) (n phase : Nat) (good : Bool) : ((s.aesStart n phase good).lane n).muted = (s.lane n).muted := by
  unfold State.aesStart
  dsimp only
  rw [State.lane_setLane_self]

/-- The start of a subframe of preamble `pre`: but for the second of a frame it is the start of a frame. -/
def State.aesBegin (s : State) (n : Nat) (sub : Subframe) : State :=
  if sub.preamble.val = 1 then s else s.aesStart n sub.phase (!sub.violation)

/-- A subframe that fails its checks, counted. -/
def State.aesCount (s : State) (n : Nat) (bad invalid : Bool) : State :=
  let t := if bad then s.bump (Obj.laneParityErrors n) else s
  if invalid then t.bump (Obj.laneSamplesInvalid n) else t

/-- The channel status blocks that end at the start of a block. -/
def State.aesBlock (s : State) (n pre : Nat) (a : AesIn) : State :=
  let t := if pre == 2 then (s.storeBlock n (Obj.laneCsRx0 n) a.bits0).storeBlock n (Obj.laneCsRx1 n) a.bits1 else s
  if pre == 2 then t.wr (Obj.laneRxBlockPhase n) (blockIndex (t.rd (Obj.laneBlockAnchor n)) a.at') else t

theorem AesFrame.aesBlock (s : State) (n pre : Nat) (a : AesIn) : AesFrame n s (s.aesBlock n pre a) :=
  trans (ite (trans (storeBlock s _ (by simp [aesKeys])) (storeBlock _ _ (by simp [aesKeys]))) (refl n s))
    (ite (wr _ (k := Obj.laneRxBlockPhase n) _ (by simp [aesKeys])) (refl n _))

theorem AesFrame.aesBegin (s : State) (n : Nat) (sub : Subframe) : AesFrame n s (s.aesBegin n sub) := ite (refl n s) (aesStart s n _ _)

theorem State.aesBegin_muted (s : State) (n : Nat) (sub : Subframe) : ((s.aesBegin n sub).lane n).muted = (s.lane n).muted := by
  unfold State.aesBegin
  split
  · rfl
  · exact s.aesStart_muted n _ _

/-- Counting a bad subframe writes its two counters. -/
theorem State.aesCount_spec (s : State) (n : Nat) (bad invalid : Bool) :
    (∃ d, s.aesCount n bad invalid = { s with dict := d }) ∧ ∀ k, (s.aesCount n bad invalid).rd k =
      if k = Obj.laneSamplesInvalid n ∧ invalid = true then
        Nat.min (s.rd (Obj.laneSamplesInvalid n) + 1) (maxOf (Obj.laneSamplesInvalid n))
      else if k = Obj.laneParityErrors n ∧ bad = true then
        Nat.min (s.rd (Obj.laneParityErrors n) + 1) (maxOf (Obj.laneParityErrors n))
      else s.rd k := by
  have hne : Obj.laneSamplesInvalid n ≠ Obj.laneParityErrors n := by simp only [Obj.laneSamplesInvalid, Obj.laneParityErrors]; omega
  cases bad <;> cases invalid <;> refine ⟨⟨_, rfl⟩, fun k => ?_⟩ <;> simp [State.aesCount, State.rd_bump, hne]

/-- A subframe that fails its parity or its biphase coding. -/
def aesBad (sub : Subframe) : Bool := sub.violation || (natBits 28 sub.slots.toNat).foldl (fun a b => a != b) false

/-- The sample that a subframe gives a lane (R404). -/
def State.aesSample (s : State) (n : Nat) (sub : Subframe) (muted : Bool) : AesSample :=
  let a := (s.lane n).aes
  let one := sub.preamble.val != 1
  ⟨a.at', if one then 0 else 1, keepBits (s.sampleBits n) (sub.slots.toNat % 2 ^ 24 * 256), aesBad sub || sub.slots.getLsbD (28 - 4),
    sub.slots.getLsbD (29 - 4), sub.slots.getLsbD (30 - 4),
    if one then sub.preamble.val == 2 else (a.got.find? (fun x => x.pos == a.at' && x.chan == 0)).any (·.z),
    muted || (s.lane n).muted⟩

/-- What a lane keeps of a subframe (R404). -/
def State.aesKept (s : State) (n : Nat) (sub : Subframe) (pos : Nat) (muted : Bool) : AesIn :=
  let a := (s.lane n).aes
  let pre := sub.preamble.val
  let one := pre != 1
  let c := sub.slots.getLsbD (30 - 4)
  { a with
    good := if one then (if sub.violation then 0 else a.good) else if sub.violation || !a.first then 0 else a.good + 1
    bits0 := if pre == 2 then some [c] else if pre == 0 then a.bits0.map (· ++ [c]) else a.bits0
    bits1 := if pre == 2 then some [] else if pre == 1 then a.bits1.map (· ++ [c]) else a.bits1
    first := one && !sub.violation
    got := (a.got.filter (fun y => decide (y.pos + 5 > pos))) ++ [s.aesSample n sub muted] }

/-- A subframe of an input lane taken in, from its start on. -/
def State.aesTake (s : State) (n : Nat) (sub : Subframe) : State :=
  let c := s.aesCount n (aesBad sub) (aesBad sub || sub.slots.getLsbD (28 - 4))
  let d := c.aesBlock n sub.preamble.val (c.lane n).aes
  d.setLane n { c.lane n with aes := c.aesKept n sub d.pos d.clk.bitMuted }

theorem exec_aes3Subframe {s : State} {lane : Fin 64} (sub : Subframe) (hc : 2 ≤ s.rd Obj.clockState)
    (hd : s.rd (Obj.laneDirection lane.val) = 1) (ha : s.isAes lane.val = true) :
    exec (.aes3Subframe lane sub) s = .next ((s.aesBegin lane.val sub).aesTake lane.val sub) := by
  have hbegin : (if (sub.preamble.val != 1) = true then s.aesStart lane.val sub.phase (!sub.violation) else s) =
      s.aesBegin lane.val sub := by
    unfold State.aesBegin
    by_cases h : sub.preamble.val = 1 <;> simp [h]
  rw [← hbegin]
  have hopen : (!s.counting || s.rd (Obj.laneDirection lane.val) != 1 || !s.isAes lane.val) = false := by
    simp [State.counting, hc, hd, ha]
  exact congrArg Host.Outcome.next (if_neg (Bool.eq_false_iff.1 hopen))

/-- What taking a subframe in leaves. -/
theorem State.aesTake_spec (s : State) (n : Nat) (sub : Subframe) :
    let t := s.aesTake n sub
    let invalid := aesBad sub || sub.slots.getLsbD (28 - 4)
    (∃ d l, t = { s with dict := d, lanes := l }) ∧ (∀ m, m ≠ n → t.lane m = s.lane m) ∧
    (∃ c, (∃ d, c = { s with dict := d }) ∧ (∀ k, k ≠ Obj.laneSamplesInvalid n → k ≠ Obj.laneParityErrors n → c.rd k = s.rd k) ∧
      (t.lane n).aes.got.getLast? = some (c.aesSample n sub s.clk.bitMuted)) ∧
    t.rd (Obj.laneParityErrors n) = (if aesBad sub then Nat.min (s.rd (Obj.laneParityErrors n) + 1) (maxOf (Obj.laneParityErrors n))
      else s.rd (Obj.laneParityErrors n)) ∧
    t.rd (Obj.laneSamplesInvalid n) = (if invalid then
      Nat.min (s.rd (Obj.laneSamplesInvalid n) + 1) (maxOf (Obj.laneSamplesInvalid n)) else s.rd (Obj.laneSamplesInvalid n)) := by
  intro t invalid
  obtain ⟨⟨d, hd⟩, hrd⟩ := s.aesCount_spec n (aesBad sub) invalid
  have hframe : AesFrame n (s.aesCount n (aesBad sub) invalid) t := .trans (.aesBlock _ n _ _) (.setLane _ n _)
  obtain ⟨⟨d', l', hshape⟩, hkeep, hlane⟩ := hframe
  have hne : Obj.laneSamplesInvalid n ≠ Obj.laneParityErrors n := by simp only [Obj.laneSamplesInvalid, Obj.laneParityErrors]; omega
  have hkeys : Obj.laneParityErrors n ∉ aesKeys n ∧ Obj.laneSamplesInvalid n ∉ aesKeys n := by
    simp only [aesKeys, Obj.laneForeignCount, Obj.laneState, Obj.laneCsRx0, Obj.laneCsRx1, Obj.laneCrccErrors, Obj.laneRxBlockPhase,
      Obj.laneParityErrors, Obj.laneSamplesInvalid, List.mem_cons, List.not_mem_nil, or_false]
    omega
  refine ⟨⟨d', l', by rw [hshape, hd]⟩, fun m hm => by rw [hlane m hm, hd]; rfl,
    ⟨_, ⟨d, hd⟩, fun k h1 h2 => by rw [hrd, if_neg (by simp [h1]), if_neg (by simp [h2])], ?_⟩, ?_, ?_⟩
  · show ((State.setLane _ n _).lane n).aes.got.getLast? = _
    rw [State.lane_setLane_self]
    have hclk : ((s.aesCount n (aesBad sub) invalid).aesBlock n sub.preamble.val
        ((s.aesCount n (aesBad sub) invalid).lane n).aes).clk = s.clk := by
      obtain ⟨⟨d'', l'', hblock⟩, -, -⟩ := AesFrame.aesBlock (s.aesCount n (aesBad sub) invalid) n sub.preamble.val
        ((s.aesCount n (aesBad sub) invalid).lane n).aes
      rw [hblock, hd]
    rw [← hclk]
    exact List.getLast?_concat ..
  · rw [hkeep _ hkeys.1, hrd, if_neg (by simp [hne.symm])]
    simp
  · rw [hkeep _ hkeys.2, hrd]
    simp [hne]

/-- A lane's format is not among the objects of its lane that a subframe writes, nor is the sample size of any format. -/
theorem State.sampleBits_congr {s t : State} {n : Nat} (_ : n < 64) (hrd : ∀ k ∉ aesKeys n, k ≠ Obj.laneSamplesInvalid n →
    k ≠ Obj.laneParityErrors n → t.rd k = s.rd k) : t.sampleBits n = s.sampleBits n := by
  have hformat : t.rd (Obj.laneFormat n) = s.rd (Obj.laneFormat n) := by
    refine hrd _ ?_ ?_ ?_ <;> simp only [aesKeys, Obj.laneForeignCount, Obj.laneState, Obj.laneCsRx0, Obj.laneCsRx1, Obj.laneCrccErrors,
      Obj.laneRxBlockPhase, Obj.laneParityErrors, Obj.laneSamplesInvalid, Obj.laneFormat, List.mem_cons, List.not_mem_nil, or_false] <;> omega
  unfold State.sampleBits
  rw [hformat]
  refine hrd _ ?_ ?_ ?_ <;> simp only [aesKeys, Obj.laneForeignCount, Obj.laneState, Obj.laneCsRx0, Obj.laneCsRx1, Obj.laneCrccErrors,
    Obj.laneRxBlockPhase, Obj.laneParityErrors, Obj.laneSamplesInvalid, Obj.formatSampleBits, List.mem_cons, List.not_mem_nil, or_false] <;> omega

/-! ### Capture writes -/

/-- The bytes of a captured frame (R422). -/
def State.captureBytes (s : State) (g : Nat) (j : Joint) : Bytes :=
  (match (j.takeFrame (s.captureWords g)).1 with
    | some ws => (ws.flatMap (fun v => [v % 2 ^ 32, v / 2 ^ 32])).take (s.groupSlots g).length
    | none => List.replicate (s.groupSlots g).length (if s.rd (Obj.groupInputWord g) == 0 then 1 else 0)).flatMap (leBytes 4)

/-- Where a captured frame goes. -/
def State.captureAddr (s : State) (g p : Nat) : Nat :=
  s.rd (Obj.groupCaptureBase g) + p % 2 ^ s.rd (Obj.groupCaptureLog2 g) * 4 * (s.groupSlots g).length

/-- A group that captures, with its joint and its oldest frame. -/
structure Captures (s : State) (g key p : Nat) (rest : List (Nat × Bool)) (j : Joint) : Prop where
  joint : (s.group g).joint = some key
  frame : ∃ late, (s.group g).frames = (p, late) :: rest
  found : s.joints.find key = some j

/-- The machine once a group's oldest frame is out of its joint and its queue. -/
def State.captured (s : State) (g key : Nat) (rest : List (Nat × Bool)) (j : Joint) : State :=
  ({ s with joints := s.joints.put key (j.takeFrame (s.captureWords g)).2 }).setGroup g { s.group g with frames := rest }

theorem exec_captureWrite {s : State} {group : Fin 64} {key p : Nat} {rest : List (Nat × Bool)} {j : Joint}
    (h : Captures s group.val key p rest j) (b : Bool) : exec (.captureWrite group b) s = .next (
      let host := s.rd (Obj.groupCaptureSpace group.val) == 0
      if !s.rdB (Obj.groupCaptureEnable group.val) || (host && (!s.host || s.rd Obj.role == 4)) || s.waitsPage (32768 + group.val) 0 then s
      else if host && !b then s.pageFault (32768 + group.val) 0 p (s.captureAddr group.val p)
      else ((if host then (s.captured group.val key rest j).hostWrite (s.captureAddr group.val p) (s.captureBytes group.val j)
        else (s.captured group.val key rest j).devWrite (s.captureAddr group.val p) (s.captureBytes group.val j)).wr
          (Obj.groupCapturePosition group.val) (p + 1))) := by
  obtain ⟨hj, ⟨late, hf⟩, hk⟩ := h
  show execCaptureWrite group b s = _
  unfold execCaptureWrite
  dsimp only
  rw [hj, hf]
  dsimp only
  rw [hk, ← hj]
  rfl

/-- A group that does not capture, or whose host is away, writes nothing. -/
theorem captureWrite_shut {s : State} {group : Fin 64} {key p : Nat} {rest : List (Nat × Bool)} {j : Joint}
    (h : Captures s group.val key p rest j) (b : Bool)
    (hs : s.rd (Obj.groupCaptureEnable group.val) = 0 ∨ (s.rd (Obj.groupCaptureSpace group.val) = 0 ∧ s.host = false)) :
    exec (.captureWrite group b) s = .next s :=
  (exec_captureWrite h b).trans (congrArg Host.Outcome.next (if_pos (by
    rcases hs with hs | ⟨hs, hh⟩
    · simp [State.rdB, hs]
    · simp [hs, hh])))

/-- A capture into host memory. -/
theorem captureWrite_host {s : State} {group : Fin 64} {key p : Nat} {rest : List (Nat × Bool)} {j : Joint}
    (h : Captures s group.val key p rest j) (he : s.rd (Obj.groupCaptureEnable group.val) ≠ 0)
    (hs : s.rd (Obj.groupCaptureSpace group.val) = 0) (hh : s.host = true) (hr : s.rd Obj.role ≠ 4)
    (hw : s.waitsPage (32768 + group.val) 0 = false) :
    exec (.captureWrite group false) s = .next (s.pageFault (32768 + group.val) 0 p (s.captureAddr group.val p)) ∧
    exec (.captureWrite group true) s = .next (((s.captured group.val key rest j).hostWrite (s.captureAddr group.val p)
      (s.captureBytes group.val j)).wr (Obj.groupCapturePosition group.val) (p + 1)) := by
  have hopen : ¬ (!s.rdB (Obj.groupCaptureEnable group.val) || ((s.rd (Obj.groupCaptureSpace group.val) == 0) &&
      (!s.host || s.rd Obj.role == 4)) || s.waitsPage (32768 + group.val) 0) = true := by simp [State.rdB, he, hh, hr, hw]
  refine ⟨(exec_captureWrite h false).trans (congrArg Host.Outcome.next ((if_neg hopen).trans (if_pos (by simp [hs])))),
    (exec_captureWrite h true).trans (congrArg Host.Outcome.next ((if_neg hopen).trans ((if_neg (by simp)).trans ?_)))⟩
  rw [if_pos (by simp [hs])]

/-- A capture into device memory. -/
theorem captureWrite_device {s : State} {group : Fin 64} {key p : Nat} {rest : List (Nat × Bool)} {j : Joint}
    (h : Captures s group.val key p rest j) (he : s.rd (Obj.groupCaptureEnable group.val) ≠ 0)
    (hs : s.rd (Obj.groupCaptureSpace group.val) ≠ 0) (hw : s.waitsPage (32768 + group.val) 0 = false) :
    exec (.captureWrite group true) s = .next (((s.captured group.val key rest j).devWrite (s.captureAddr group.val p)
      (s.captureBytes group.val j)).wr (Obj.groupCapturePosition group.val) (p + 1)) := by
  refine (exec_captureWrite h true).trans (congrArg Host.Outcome.next ((if_neg (by simp [State.rdB, he, hs, hw])).trans
    ((if_neg (by simp)).trans ?_)))
  rw [if_neg (by simp [hs])]

end Sys2Proof.Machine

namespace Sys2Proof
open Machine

/-- The subframes of an input lane. -/
theorem subframe_taken (s : State) (lane : Fin 64) (sub : Subframe) (hc : 2 ≤ s.rd Obj.clockState)
    (hd : s.rd (Obj.laneDirection lane.val) = 1) (ha : s.isAes lane.val = true) :
    let n := lane.val
    let u := if sub.preamble.val = 1 then s else s.aesStart n sub.phase (!sub.violation)
    let bitOf (k : Nat) : Bool := sub.slots.getLsbD (k - 4)
    let bad := sub.violation || (natBits 28 sub.slots.toNat).foldl (fun a b => a != b) false
    ∃ t z, exec (.aes3Subframe lane sub) s = .next t ∧
      (t.lane n).aes.got.getLast? = some ⟨(u.lane n).aes.at', if sub.preamble.val = 1 then 1 else 0,
        keepBits (s.sampleBits n) (sub.slots.toNat % 2 ^ 24 * 256), bad || bitOf 28, bitOf 29, bitOf 30, z,
        s.clk.bitMuted || (s.lane n).muted⟩ ∧
      t.rd (Obj.laneParityErrors n) =
        (if bad then Nat.min (s.rd (Obj.laneParityErrors n) + 1) (maxOf (Obj.laneParityErrors n)) else s.rd (Obj.laneParityErrors n)) ∧
      t.rd (Obj.laneSamplesInvalid n) = (if bad || bitOf 28 then
        Nat.min (s.rd (Obj.laneSamplesInvalid n) + 1) (maxOf (Obj.laneSamplesInvalid n)) else s.rd (Obj.laneSamplesInvalid n)) ∧
      (∀ m, m ≠ n → t.lane m = s.lane m) ∧ t.rings = s.rings ∧ t.joints = s.joints ∧ t.hostMem = s.hostMem := by
  intro n u bitOf bad
  obtain ⟨⟨d, l, hu⟩, hrd, hlane⟩ := AesFrame.aesBegin s n sub
  obtain ⟨⟨d', l', ht⟩, hothers, ⟨c, ⟨d'', hcshape⟩, hcrd, hgot⟩, hparity, hinvalid⟩ := (s.aesBegin n sub).aesTake_spec n sub
  have hkeys : Obj.laneParityErrors n ∉ aesKeys n ∧ Obj.laneSamplesInvalid n ∉ aesKeys n := by
    simp only [aesKeys, Obj.laneForeignCount, Obj.laneState, Obj.laneCsRx0, Obj.laneCsRx1, Obj.laneCrccErrors, Obj.laneRxBlockPhase,
      Obj.laneParityErrors, Obj.laneSamplesInvalid, List.mem_cons, List.not_mem_nil, or_false]
    omega
  have hbits : c.sampleBits n = s.sampleBits n :=
    State.sampleBits_congr lane.isLt fun k h1 h2 h3 => (hcrd k h2 h3).trans (hrd k h1)
  have hclane : c.lane n = (s.aesBegin n sub).lane n := by rw [hcshape]; rfl
  rw [hrd _ hkeys.1] at hparity
  rw [hrd _ hkeys.2] at hinvalid
  obtain ⟨z, hz⟩ : ∃ z, c.aesSample n sub (s.aesBegin n sub).clk.bitMuted = ⟨(u.lane n).aes.at', if sub.preamble.val = 1 then 1 else 0,
      keepBits (s.sampleBits n) (sub.slots.toNat % 2 ^ 24 * 256), bad || bitOf 28, bitOf 29, bitOf 30, z,
      s.clk.bitMuted || (s.lane n).muted⟩ := by
    have hchan : (if (sub.preamble.val != 1) = true then 0 else 1) = if sub.preamble.val = 1 then 1 else 0 := by
      by_cases h : sub.preamble.val = 1 <;> simp [h]
    have hclk : (s.aesBegin n sub).clk = s.clk := by rw [hu]
    rw [State.aesSample, hbits, hclane, State.aesBegin_muted, hclk, hchan]
    exact ⟨_, rfl⟩
  refine ⟨_, z, exec_aes3Subframe sub hc hd ha, hgot.trans (congrArg some hz), hparity, hinvalid, fun m hm => (hothers m hm).trans (hlane m hm), ?_, ?_, ?_⟩
  all_goals rw [ht, hu]

/-- Settles O48: a subframe is taken in, a lane locks when its time has come, and a capture writes its oldest frame. -/
theorem laneEvents : Obligations.LaneEvents := by
  refine ⟨⟨subframe_taken, fun s lane sub h => ⟨?_, ?_, ?_⟩, fun s lane hd ha => ⟨fun hp hg => ?_, fun h => ?_, fun hf hk hpos => ?_,
    fun h => ?_⟩⟩, fun s group key p late rest j => ?_⟩
  · exact congrArg Host.Outcome.next (if_pos (by rcases h with h | h <;> simp [h]))
  · exact congrArg Host.Outcome.next (if_neg (by rcases h with h | h <;> simp [h]))
  · exact congrArg Host.Outcome.next (if_neg (by rcases h with h | h <;> simp [h]))
  · exact congrArg Host.Outcome.next (if_pos (by simp [hd, ha, hp, hg]))
  · exact congrArg Host.Outcome.next (if_neg (by rcases h with h | h <;> simp [hd, ha, h]))
  · exact congrArg Host.Outcome.next (if_pos (by simp [hd, ha, hf, hk, State.pos, State.courseLen, hpos]))
  · exact congrArg Host.Outcome.next (if_neg (h.elim (fun h => by simp [hd, ha, h]) fun h => by simp [hd, ha, Nat.not_le.2 h]))
  · intro g slots addr taken blank words bytes hj hf hk
    have hcap : Captures s g key p rest j := ⟨hj, ⟨late, hf⟩, hk⟩
    have hbytes : s.captureBytes g j = bytes := by
      cases hframe : (j.takeFrame (s.captureWords g)).1 <;>
        simp only [State.captureBytes, hframe, beq_iff_eq, bytes, words, taken, slots, blank]
    refine ⟨fun he b => captureWrite_shut hcap b (.inl he), fun he hs hh b => captureWrite_shut hcap b (.inr ⟨hs, hh⟩),
      fun he hs hh hr hw => ?_, fun he hs hw => ?_⟩
    · obtain ⟨hwait, hexec⟩ := captureWrite_host hcap he hs hh hr hw
      refine ⟨⟨_, hexec, ?_, rfl, State.rd_wr_self .., ?_, rfl, fun h hne => ?_, rfl⟩, hwait⟩
      · rw [hbytes]
        exact if_pos hh
      · exact congrArg GroupRun.frames (State.group_setGroup_self ..)
      · exact State.group_setGroup_ne _ _ hne
    · refine ⟨_, captureWrite_device hcap he hs hw, ?_, rfl, State.rd_wr_self .., ?_⟩
      · rw [hbytes]
        rfl
      · exact congrArg GroupRun.frames (State.group_setGroup_self ..)

end Sys2Proof

/-! SUPPORT. Digests and state images between the leaves (R491-R493, R498, R503). -/

namespace Sys2Proof.Machine

/-! ### Digests -/

/-- The machine once a digest message has told which streams the partner runs. -/
def State.heardDigest (s : State) (body : Bytes) : State :=
  s.mapPair (fun p => { p with partnerLive := (parseDigest body).map (·.stream)
                               partnerGens := (parseDigest body).map (fun e => (e.stream, e.gen)) })

theorem exec_digest {s : State} {body : Bytes} (ht : s.tieUp = true) (hl : body.length = 16 + 16 * field body 8 2) :
    exec (.digest body) s = .next (if s.course ≥ field body 0 8 + 3 then s.heardDigest body
      else match s.pair.own.find (field body 0 8) with
        | some own => (s.heardDigest body).compareDigests (field body 0 8) own (parseDigest body)
        | none => (s.heardDigest body).mapPair (fun p => { p with theirs := p.theirs.put (field body 0 8) (parseDigest body) })) :=
  congrArg Host.Outcome.next (if_neg (by simp [ht, hl]))

theorem startResync_rd (s : State) (n c k : Nat) : (s.startResync n c).rd k = s.rd k := by
  unfold State.startResync
  split <;> rfl

/-- Two entries of one stream, compared. -/
theorem compareDigests_same (s : State) (c : Nat) {a b : DigestEntry} (h : a.stream = b.stream) : s.compareDigests c [a] [b] =
    (if a.kind == 0 && b.kind == 0 && (a.gen != b.gen || a.digest != b.digest) then
      (((s.bump Obj.divergences).wr Obj.lastDivergedStream a.stream).wr Obj.lastDivergedCourse c).startResync a.stream c
    else s).bump Obj.unmatched 0 := by
  simp [State.compareDigests, h]

/-- Entries of two streams, each without its partner. -/
theorem compareDigests_other (s : State) (c : Nat) {a b : DigestEntry} (h : a.stream ≠ b.stream) : s.compareDigests c [a] [b] =
    (s.bump Obj.unmatched).bump Obj.unmatched 1 := by
  simp [State.compareDigests, h, Ne.symm h]

/-- Adding nothing to a counter below its greatest value leaves every object. -/
theorem State.rd_bump_zero (s : State) (j k : Nat) (h : s.rd k < maxOf k) : (s.bump k 0).rd j = s.rd j := by
  rw [State.rd_bump]
  split
  · subst_vars
    exact Nat.min_eq_left (Nat.le_of_lt h)
  · rfl

theorem compareDigests_spec (s : State) (c : Nat) (a b : DigestEntry) (hu : s.rd Obj.unmatched < maxOf Obj.unmatched)
    (hd : s.rd Obj.divergences < maxOf Obj.divergences) :
    let t := s.compareDigests c [a] [b]
    (a.stream = b.stream → a.kind = 0 → b.kind = 0 → a.gen ≠ b.gen ∨ a.digest ≠ b.digest →
      t.rd Obj.divergences = s.rd Obj.divergences + 1 ∧ t.rd Obj.lastDivergedStream = a.stream ∧ t.rd Obj.lastDivergedCourse = c ∧
      t.rd Obj.unmatched = s.rd Obj.unmatched) ∧
    (a.stream = b.stream → a.kind ≠ 0 ∨ b.kind ≠ 0 ∨ (a.gen = b.gen ∧ a.digest = b.digest) →
      t.rd Obj.divergences = s.rd Obj.divergences ∧ t.rd Obj.unmatched = s.rd Obj.unmatched) ∧
    (a.stream ≠ b.stream → t.rd Obj.divergences = s.rd Obj.divergences ∧
      t.rd Obj.unmatched = Nat.min (s.rd Obj.unmatched + 2) (maxOf Obj.unmatched)) := by
  intro t
  refine ⟨fun h ha hb hne => ?_, fun h heq => ?_, fun h => ?_⟩
  · have ht : t = _ := (compareDigests_same s c h).trans (by rw [if_pos (by rcases hne with hne | hne <;> simp [ha, hb, hne])])
    have hrd : ∀ k, k ≠ Obj.unmatched → t.rd k = if k = Obj.lastDivergedCourse then c else if k = Obj.lastDivergedStream then a.stream
        else if k = Obj.divergences then Nat.min (s.rd Obj.divergences + 1) (maxOf Obj.divergences) else s.rd k := fun k hk => by
      rw [ht, State.rd_bump, if_neg hk, startResync_rd, State.rd_wr, State.rd_wr, State.rd_bump]
    refine ⟨?_, hrd _ (by decide), hrd _ (by decide), ?_⟩
    · rw [hrd _ (by decide)]
      exact Nat.min_eq_left hd
    · have hsame : (((((s.bump Obj.divergences).wr Obj.lastDivergedStream a.stream).wr Obj.lastDivergedCourse c).startResync
          a.stream c)).rd Obj.unmatched = s.rd Obj.unmatched := by
        rw [startResync_rd, State.rd_wr, State.rd_wr, State.rd_bump]
        rfl
      rw [ht, State.rd_bump_zero _ _ _ (by rw [hsame]; exact hu), hsame]
  · have ht : t = s.bump Obj.unmatched 0 := (compareDigests_same s c h).trans (by
      rw [if_neg (by rcases heq with heq | heq | ⟨hg, hdig⟩ <;> simp_all)])
    rw [ht]
    exact ⟨State.rd_bump_zero _ _ _ hu, State.rd_bump_zero _ _ _ hu⟩
  · have ht : t = (s.bump Obj.unmatched).bump Obj.unmatched 1 := compareDigests_other s c h
    rw [ht, State.rd_bump_self, State.rd_bump_self]
    refine ⟨by rw [State.rd_bump_ne _ _ (by decide), State.rd_bump_ne _ _ (by decide)], ?_⟩
    show min (min (s.rd Obj.unmatched + 1) (maxOf Obj.unmatched) + 1) (maxOf Obj.unmatched) =
      min (s.rd Obj.unmatched + 2) (maxOf Obj.unmatched)
    omega

/-! ### State images -/

theorem exec_statePush {s : State} {body : Bytes} (ht : s.tieUp = true) (hl : 16 ≤ body.length) (hn : field body 0 2 < 32768) :
    exec (.statePush body) s = .next (if field body 2 1 > 2 then s
      else if bit (field body 3 1) 2 then
        (if s.rd Obj.role == 1 && s.isBound (field body 0 2) && s.rd (Obj.streamClass (field body 0 2)) == 0 then
          s.mapPair (fun p => { p with asked := p.asked.filter (fun q => q.stream != field body 0 2) ++
            [⟨field body 0 2, field body 8 8, field body 2 1, 0⟩] })
        else s)
      else
        match (if field body 2 1 == 2 && s.pair.resyncs.any (fun q => q.purpose == 2) then
          (s.progHold 0x1310 false).progAdd 0x1310 (body.length - 16) else s).takeSegment body with
        | (none, u) => u
        | (some image, u) =>
          if field body 2 1 == 0 then u.installResync (field body 0 2) image
          else if field body 2 1 == 1 then u.adoptImage (field body 0 2) image
          else u.installJoin (field body 0 2) image) := by
  have hopen : (!s.tieUp || decide (body.length < 16) || decide (field body 0 2 ≥ 32768) || decide (field body 2 1 > 2)) =
      decide (field body 2 1 > 2) := by
    rw [ht, decide_eq_false (by omega), decide_eq_false (by omega)]
    rfl
  exact congrArg Host.Outcome.next (ite_of_iff (by rw [hopen]; exact decide_eq_true_iff) rfl rfl)

end Sys2Proof.Machine

namespace Sys2Proof
open Machine

/-- Settles O54: digests are compared entry by entry, a state asked for is sent once, and what comes in is gathered and installed. -/
theorem stateCopies : Obligations.StateCopies := by
  refine ⟨⟨fun s body ht hl => ⟨fun hc => ?_, fun hc => ⟨fun own ho => ?_, fun ho => ?_⟩⟩, fun s body h => ?_, compareDigests_spec⟩,
    fun s n r hr => ⟨fun hrole ht hres hset hpos => ?_, fun h => ?_⟩, fun s body ht hl hn => ⟨fun hf hp => ⟨fun hr hres hcl => ?_, fun hr => ?_⟩,
      fun hf hp => ⟨fun u hu => ?_, fun image u hu => ?_⟩, fun hf hp => ⟨fun u hu => ?_, fun image u hu => ?_⟩, fun hp => ?_⟩,
    fun s body i => ⟨fun hi hfirst hoff hlast hlen => ?_, fun hi hfirst hoff => ?_⟩⟩
  · rw [exec_digest ht hl, if_pos hc]
    rfl
  · rw [exec_digest ht hl, if_neg (by omega), ho]
    rfl
  · rw [exec_digest ht hl, if_neg (by omega), ho]
    rfl
  · exact congrArg Host.Outcome.next (if_pos (by rcases h with h | h <;> simp [h]))
  · have hbound : s.isBound n.val = true ∧ s.rd (Obj.streamResidency n.val) ≠ 3 := by
      rcases List.mem_cons.1 hres with h | h
      · simp [State.isBound, h]
      · simp [State.isBound, List.mem_singleton.1 h]
    show execResyncStateTake n s = _
    unfold execResyncStateTake
    dsimp only
    rw [hr]
    exact congrArg Host.Outcome.next (if_neg (by simp [hrole, ht, hbound, hset, hpos]))
  · show execResyncStateTake n s = _
    unfold execResyncStateTake
    dsimp only
    rw [hr]
    exact congrArg Host.Outcome.next (if_pos (by rcases h with h | h <;> simp [h]))
  · rw [exec_statePush ht hl hn, if_neg (by omega), if_pos hf, if_pos (by simp [hr, hcl, State.isBound, hres])]
  · rw [exec_statePush ht hl hn, if_neg (by omega), if_pos hf, if_neg (by simp [hr])]
  · rw [exec_statePush ht hl hn, if_neg (by omega), if_neg (by simp [hf]), if_neg (c := (_ && _) = true) (by simp; omega), hu]
  · rw [exec_statePush ht hl hn, if_neg (by omega), if_neg (by simp [hf]), if_neg (c := (_ && _) = true) (by simp; omega), hu]
    refine congrArg Host.Outcome.next ?_
    rcases (by omega : field body 2 1 = 0 ∨ field body 2 1 = 1) with h | h <;> rw [h] <;> rfl
  · rw [exec_statePush ht hl hn, if_neg (by omega), if_neg (by simp [hf]), hp]
    refine congrArg Host.Outcome.next ?_
    simp only [beq_self_eq_true, Bool.true_and]
    rw [hu]
  · rw [exec_statePush ht hl hn, if_neg (by omega), if_neg (by simp [hf]), hp]
    refine congrArg Host.Outcome.next ?_
    simp only [beq_self_eq_true, Bool.true_and]
    rw [hu]
    rfl
  · rw [exec_statePush ht hl hn, if_pos hp]
  · unfold State.takeSegment
    dsimp only
    rw [if_neg (by simp [hfirst]), hi]
    dsimp only
    rw [if_neg (by simp [hoff]), if_pos hlast, if_pos (by simpa using hlen)]
  · unfold State.takeSegment
    dsimp only
    rw [if_neg (by simp [hfirst]), hi]
    exact if_pos (by simpa using hoff)

end Sys2Proof

/-! SUPPORT. Checkpoints of streams and the shadows a leaf keeps (R496, R498). -/

namespace Sys2Proof.Machine

/-- A checkpoint whose FEEDs are done and whose stream's state is not on the move may run. -/
def State.checkpointReady (t : State) (n counter : Nat) : Prop := t.feedsDone n counter = true ∧ t.rd (Obj.streamResidency n) ≠ 3

theorem State.runCheckpoint_waits {t : State} {n : Nat} {c : Cmd} (h : ¬ t.checkpointReady n c.counter) :
    t.runCheckpoint n c = t.begin n c.counter .waiting :=
  if_pos (by
    by_cases hf : t.feedsDone n c.counter = true
    · simp [show t.rd (Obj.streamResidency n) = 3 by simpa [State.checkpointReady, hf] using h]
    · simp [hf])

/-- What a checkpoint sends to the partner: nothing of a live stream (R496). -/
def State.sendCheckpoint (t : State) (n : Nat) : Bool × State :=
  if t.rd (Obj.streamClass n) == 0 then (true, t) else t.pushCheckpoint n (t.stateImage n)

theorem State.sendCheckpoint_live {t : State} {n : Nat} (h : t.rd (Obj.streamClass n) = 0) : t.sendCheckpoint n = (true, t) :=
  if_pos (by simp [h])

theorem State.sendCheckpoint_paired {t : State} {n : Nat} (h : t.rd (Obj.streamClass n) ≠ 0) (ht : t.tieUp = true)
    (hp : t.rd Obj.paired ≠ 0) : t.sendCheckpoint n =
      (true, (t.pushImage 5 3 n (t.stateImage n)).setStream n { t.stream n with autoAt := t.statePosition n }) :=
  (if_neg (by simp [h])).trans (if_pos (by simp [ht, State.rdB, hp]))

theorem State.sendCheckpoint_alone {t : State} {n : Nat} (h : t.rd (Obj.streamClass n) ≠ 0)
    (ht : t.tieUp = false ∨ t.rd Obj.paired = 0) : t.sendCheckpoint n = (false, t) :=
  (if_neg (by simp [h])).trans (if_neg (by rcases ht with h | h <;> simp [State.rdB, h]))

/-- A checkpoint whose buffer is too small. -/
theorem State.runCheckpoint_small {t : State} {n : Nat} {c : Cmd} (h : t.checkpointReady n c.counter) (hd : field c.desc 16 8 ≠ 0)
    (hs : field c.desc 24 4 < (t.stateImage n).length) :
    t.runCheckpoint n c = t.finish n c.counter St.check none Chk.checkpointSize 24 :=
  (if_neg (by simp [h.1, h.2])).trans (if_pos (by simp [hd, hs]))

/-- A checkpoint that runs. -/
theorem State.runCheckpoint_sent {t u : State} {n : Nat} {c : Cmd} {sent : Bool} (h : t.checkpointReady n c.counter)
    (hs : field c.desc 16 8 = 0 ∨ (t.stateImage n).length ≤ field c.desc 24 4) (hsend : t.sendCheckpoint n = (sent, u)) :
    t.runCheckpoint n c =
      if field c.desc 16 8 == 0 then (if sent then u.finishDone n c.counter else u.reject n c.counter Chk.partner 0xFF)
      else (u.begin n c.counter).setXfer n c.counter
        { Transfer.blank 0 with desc := t.stateImage n, map := u.windows, noPartner := !sent } := by
  rw [show sent = (t.sendCheckpoint n).1 by rw [hsend], show u = (t.sendCheckpoint n).2 by rw [hsend]]
  exact (if_neg (by simp [h.1, h.2])).trans (if_neg (by rcases hs with hs | hs <;> simp [hs]))

/-- Gathering a segment leaves the shadows. -/
theorem State.takeSegment_shadows {s u : State} {body : Bytes} {x : Option Bytes} (h : s.takeSegment body = (x, u)) :
    u.pair.shadows = s.pair.shadows := by
  rw [show u = (s.takeSegment body).2 by rw [h]]
  unfold State.takeSegment
  dsimp only
  split
  · rfl
  · split
    · rfl
    · split <;> rfl

theorem exec_checkpointMessage {s : State} {body : Bytes} (ht : s.tieUp = true) (hl : 16 ≤ body.length) (hn : field body 0 2 < 32768)
    (hp : field body 2 1 = 3) : execCheckpointMessage body s = .next (
      if bit (field body 3 1) 3 then s.dropHeld (field body 0 2) else match s.takeSegment body with
      | (none, u) => u
      | (some image, u) =>
        let old := (u.pair.shadows.getD (field body 0 2) []).length
        if u.rd Obj.shadowUsed - old + image.length > u.rd Obj.shadowBudget || image.length > u.poolFree + old then u
        else ((u.mapPair (fun p => { p with shadows := p.shadows.put (field body 0 2) image })).countShadows).bump
          Obj.checkpointsStored) :=
  congrArg Host.Outcome.next (if_neg (by simp [ht, hl, hn, hp]))

end Sys2Proof.Machine

namespace Sys2Proof
open Machine

/-- Settles O55: a checkpoint waits, is refused, is pushed or goes on as a transfer, and a shadow that fits is kept. -/
theorem checkpoints : Obligations.Checkpoints := by
  refine ⟨fun s n c t hstart hwait => ?_, fun s n c h => ?_, fun s body ht hl hn hp => ⟨fun hend => ?_, fun hend u hu => ?_,
    fun hend image u hu => ⟨fun hused hfree => ?_, fun hbig => ?_⟩⟩⟩
  · have hexec : exec (.checkpoint n) s = .next (t.runCheckpoint n.val c) := by
      show execCheckpoint n s = _
      unfold execCheckpoint
      dsimp only
      rw [hwait, show s.startCmd n.val 8 = (some c, t) from hstart]
    dsimp only
    rw [hexec]
    refine ⟨fun h => congrArg _ (State.runCheckpoint_waits h), fun h hd hs => congrArg _ ?_, fun h hd hc => congrArg _ ?_,
      fun h hd hc ht hp => congrArg _ ?_, fun h hd hc ht => congrArg _ ?_, fun h hd hs hc => congrArg _ ?_⟩
    · exact State.runCheckpoint_small h hd hs
    · rw [State.runCheckpoint_sent h (.inl hd) (State.sendCheckpoint_live hc), if_pos (by simp [hd]), if_pos rfl, State.finishDone]
    · rw [State.runCheckpoint_sent h (.inl hd) (State.sendCheckpoint_paired hc ht hp), if_pos (by simp [hd]), if_pos rfl, State.finishDone]
    · rw [State.runCheckpoint_sent h (.inl hd) (State.sendCheckpoint_alone hc ht), if_pos (by simp [hd]), if_neg (by decide), State.reject]
    · rw [State.runCheckpoint_sent h (.inr hs) (State.sendCheckpoint_live hc), if_neg (by simp [hd])]
      rfl
  · show execCheckpoint n s = _
    unfold execCheckpoint
    dsimp only
    rw [h]
  · refine (exec_checkpointMessage ht hl hn hp).trans (congrArg _ ?_)
    rw [if_pos hend]
    rfl
  all_goals
    refine (exec_checkpointMessage ht hl hn hp).trans (congrArg _ ?_)
    rw [if_neg (by simp [hend]), hu]
  · dsimp only
    rw [State.takeSegment_shadows hu]
    exact if_neg (by simp; omega)
  · dsimp only
    rw [State.takeSegment_shadows hu]
    exact if_pos (by simp; omega)

end Sys2Proof

/-! SUPPORT. Taking a ring out of service turns no other ring on (R120). -/

namespace Sys2Proof.Machine

/-- A step that leaves RING_ENABLE of ring `m` zero where it is. -/
def KeepsOff (m : Nat) (s t : State) : Prop := s.rd (Obj.streamRingEnable m) = 0 → t.rd (Obj.streamRingEnable m) = 0

namespace KeepsOff
variable {m : Nat} {s t u : State}

theorem refl (m : Nat) (s : State) : KeepsOff m s s := id
theorem trans (h : KeepsOff m s t) (h' : KeepsOff m t u) : KeepsOff m s u := h' ∘ h
theorem of_dict (h : t.dict = s.dict) (hr : t.rst = s.rst) : KeepsOff m s t := fun h0 => by
  rw [← h0]
  unfold State.rd State.resetValue
  rw [h, hr]

theorem wr_ne (s : State) {k : Nat} (v : Nat) (hk : Obj.streamRingEnable m ≠ k) : KeepsOff m s (s.wr k v) := fun h =>
  (s.rd_wr_ne v hk).trans h

theorem wr_zero (s : State) (k : Nat) : KeepsOff m s (s.wr k 0) := fun h => by
  rw [State.rd_wr]
  split
  · rfl
  · exact h

theorem ite {c : Prop} [Decidable c] (h : KeepsOff m s t) (h' : KeepsOff m s u) : KeepsOff m s (if c then t else u) := by
  split <;> assumption

theorem foldl {α : Type} {f : State → α → State} (h : ∀ s x, KeepsOff m s (f s x)) (xs : List α) (s : State) :
    KeepsOff m s (xs.foldl f s) := by
  induction xs generalizing s with
  | nil => exact refl m s
  | cons x xs ih => exact (h s x).trans (ih _)

theorem ring {n : Nat} (h : RingFrame n s t) : KeepsOff m s t := fun h0 =>
  (h.rd _ (by simp only [Obj.streamRingEnable, Obj.streamCplTail]; omega) (by simp only [Obj.streamRingEnable, Obj.streamEntriesLost]; omega)
    (by simp only [Obj.streamRingEnable, Obj.noticesSkipped]; omega)).trans h0

theorem setRingState (s : State) (n v : Nat) : KeepsOff m s (s.setRingState n v) :=
  wr_ne s v (by simp only [Obj.streamRingEnable, Obj.streamRingState]; omega)

theorem haltPosition (s : State) (n v : Nat) : KeepsOff m s (s.wr (Obj.streamHaltPosition n) v) :=
  wr_ne s v (by simp only [Obj.streamRingEnable, Obj.streamHaltPosition]; omega)

theorem announce (s : State) (n : Nat) : KeepsOff m s (s.announce n) := by
  unfold State.announce
  split
  · exact refl m s
  · split
    · exact refl m s
    · split
      · exact refl m s
      · have hput : ∀ (t : State) (x : Ring), KeepsOff m s t → ∀ v, KeepsOff m s
            (((t.setRing n x).setRingState n 2).wr (Obj.streamHaltPosition n) v) := fun t x h v =>
          ((h.trans (of_dict rfl rfl)).trans (setRingState _ n 2)).trans (haltPosition _ n v)
        exact hput _ _ (ite (ring (RingFrame.putEntry s n _)) (wr_ne s _ (by simp only [Obj.streamRingEnable, Obj.noticesSkipped]; omega))) _

theorem clearHalt (s : State) (n counter : Nat) : KeepsOff m s (s.clearHalt n counter) := by
  unfold State.clearHalt
  dsimp only
  split
  · have hresume : ∀ t : State, KeepsOff m s t → KeepsOff m s ((if t.ringState n == 2 then t.setRingState n 1 else t).announce n) :=
      fun t h => h.trans ((ite (setRingState t n 1) (refl m t)).trans (announce _ n))
    exact hresume _ (trans (of_dict rfl rfl) (haltPosition _ n 0))
  · exact of_dict rfl rfl

theorem foldl_zero (ks : List Nat) (s : State) : KeepsOff m s (ks.foldl (fun s k => s.wr k 0) s) := foldl (fun s k => wr_zero s k) ks s

theorem emptySlot (s : State) (kind slot first count : Nat) : KeepsOff m s (s.emptySlot kind slot first count) := by
  unfold State.emptySlot
  split
  · exact trans (t := { s with plans := s.plans.del slot }) (of_dict rfl rfl) (foldl_zero _ _)
  · split
    · exact (trans (t := { s with tables := s.tables.del slot }) (of_dict rfl rfl) (foldl_zero _ _)).trans
        (wr_ne _ _ (by simp only [Obj.streamRingEnable, Obj.pinBytes]; omega))
    · split
      · exact wr_ne s _ (by simp only [Obj.streamRingEnable, Obj.loadedMap]; omega)
      · exact foldl (f := fun s i => s.emptyBrick (first + i)) (fun s i => of_dict rfl rfl) _ s

theorem progCancel (s : State) (i : Nat) : KeepsOff m s (s.progCancel i) :=
  (wr_ne s 4 (by simp only [Obj.streamRingEnable, Obj.progState]; omega)).trans (wr_zero _ _)

theorem endLoad (s : State) (n : Nat) (c : Cmd) : KeepsOff m s (s.endLoad n c none) := by
  unfold State.endLoad
  dsimp only
  have hslot : KeepsOff m s { s.emptySlot (field c.desc 16 1) (field c.desc 18 2) (field c.desc 40 2) (field c.desc 42 2) with
      loads := (s.emptySlot (field c.desc 16 1) (field c.desc 18 2) (field c.desc 40 2) (field c.desc 42 2)).loads.filter
        (fun l => !(l.ring == n && l.counter == c.counter)) } := (emptySlot s _ _ _ _).trans (of_dict rfl rfl)
  split
  · exact hslot
  · exact hslot.trans (progCancel _ _)

theorem endIgnored (s : State) (n counter : Nat) (f : Final) : KeepsOff m s (s.endIgnored n counter f) := by
  unfold State.endIgnored
  exact foldl (f := fun (s : State) (x : Nat × Nat) => s.finish x.1 x.2 f.status f.position f.detail f.aux)
    (fun s x => ring (RingFrame.finish s x.1 x.2 _ _ _ _)) _ s

theorem mapJoints (s : State) (plan : Nat) (f : Joint → Joint) : KeepsOff m s (s.mapJoints plan f) := of_dict rfl rfl

theorem abandonCmd (s : State) (n counter : Nat) : KeepsOff m s (s.abandonCmd n counter) := by
  unfold State.abandonCmd
  split
  · exact refl m s
  · dsimp only
    refine trans ?_ (endIgnored _ n counter _)
    refine trans ?_ (ring (RingFrame.finish _ n counter _ _ _ _))
    have hopen : ∀ (q : List PageRequest) (f : Cmd → Cmd), KeepsOff m s (({ s.clearHalt n counter with requests := q }).mapCmd n counter f) :=
      fun q f => (clearHalt s n counter).trans (of_dict rfl rfl)
    split
    · exact (trans (hopen _ _) (ite (endLoad _ n _) (refl m _))).trans (mapJoints _ _ _)
    · exact trans (hopen _ _) (ite (endLoad _ n _) (refl m _))

theorem abandonHalted (s : State) (n : Nat) : KeepsOff m s (s.abandonHalted n) := by
  unfold State.abandonHalted
  exact foldl (f := fun (s : State) (c : Cmd) => s.abandonCmd n c.counter) (fun s c => abandonCmd s n c.counter) _ s

theorem disableRing (s : State) (n : Nat) : KeepsOff m s (s.disableRing n) := by
  have hoff : KeepsOff m s ((s.wr (Obj.streamRingEnable n) 0).setRing n { (s.wr (Obj.streamRingEnable n) 0).ring n with kept := false }) :=
    (wr_zero s _).trans (of_dict rfl rfl)
  exact (hoff.trans (ite (setRingState _ n 3) (refl m _))).trans (ite (refl m _) (abandonHalted _ n))

end KeepsOff

/-- A ring that is disabled reads so. -/
theorem State.disableRing_off (s : State) (n : Nat) : (s.disableRing n).rd (Obj.streamRingEnable n) = 0 := by
  have hrest : ∀ t : State, KeepsOff n t (if (if t.ringState n == 1 || t.ringState n == 2 then t.setRingState n 3 else t).ringState n == 5
      then (if t.ringState n == 1 || t.ringState n == 2 then t.setRingState n 3 else t)
      else (if t.ringState n == 1 || t.ringState n == 2 then t.setRingState n 3 else t).abandonHalted n) := fun t =>
    (KeepsOff.ite (KeepsOff.setRingState t n 3) (KeepsOff.refl n t)).trans (KeepsOff.ite (KeepsOff.refl n _) (KeepsOff.abandonHalted _ n))
  exact hrest ((s.wr (Obj.streamRingEnable n) 0).setRing n { s.ring n with kept := false }) (s.rd_wr_self _ _)

/-- Every ring of a list that is disabled reads so. -/
theorem State.foldl_disableRing_off (ns : List Nat) (s : State) {n : Nat} (h : n ∈ ns ∨ s.rd (Obj.streamRingEnable n) = 0) :
    (ns.foldl (fun s n => s.disableRing n) s).rd (Obj.streamRingEnable n) = 0 := by
  induction ns generalizing s with
  | nil => exact h.resolve_left (List.not_mem_nil)
  | cons m ns ih =>
    refine ih _ ?_
    rcases h with h | h
    · rcases List.mem_cons.1 h with rfl | h
      · exact .inr (s.disableRing_off n)
      · exact .inl h
    · exact .inr (KeepsOff.disableRing s m h)

end Sys2Proof.Machine

/-! SUPPORT. Leaving and rejoining a pair (R494, R500, R501, R503). -/

namespace Sys2Proof.Machine

/-- A write of LEAVE or SYNC_START with 1, at level 1. -/
theorem exec_leave {s : State} {page : Fin 66} {cmd data : BitVec 64} (h : WindowOpen s page 2 Obj.leave cmd) (hd : data = 1)
    (hl : s.levelOf page.val ≤ 1) : exec (.leave (.bar0 page true cmd data)) s =
      .next ((s.taken page cmd data).actionEnd page cmd (s.taken page cmd data).startLeave) :=
  congrArg Host.Outcome.next (page_range_action true h rfl rfl rfl (by decide) rfl rfl (by decide) hl (one_in_range (by rw [hd]; rfl)))

theorem exec_syncStart {s : State} {page : Fin 66} {cmd data : BitVec 64} (h : WindowOpen s page 2 Obj.syncStart cmd) (hd : data = 1)
    (hl : s.levelOf page.val ≤ 1) : exec (.syncStart (.bar0 page true cmd data)) s =
      .next ((s.taken page cmd data).actionEnd page cmd (s.taken page cmd data).startSync) :=
  congrArg Host.Outcome.next (page_range_action true h rfl rfl rfl (by decide) rfl rfl (by decide) hl (one_in_range (by rw [hd]; rfl)))

/-- A leave as it begins (R500). -/
def State.leaveBegun (t : State) : State := ((t.progStart 0x1310 0).progHold 0x1310 true).wr Obj.operation 1

theorem State.startLeave_eq (t : State) : t.startLeave =
    if t.rd Obj.role == 0 || t.rd Obj.role == 3 || t.rd Obj.partnerRole == 0 || t.rd Obj.partnerRole == 3 then (Abort.wrongState, t)
    else if !t.tieUp || !t.rdB Obj.paired then (Abort.partnerUnreachable, t)
    else (0, if t.rd Obj.role == 1 then t.leaveBegun.mapPair (fun p => { p with leaving := 1, handover := true })
      else t.leaveBegun.announceLeave) := rfl

/-- A leaf may leave when neither leaf is pairing or leaving. -/
theorem leaveRoles {a b : Nat} (ha : a ∉ [0, 3]) (hb : b ∉ [0, 3]) : (a == 0 || a == 3 || b == 0 || b == 3) = false := by
  simp at ha hb
  simp [ha, hb]

/-- What messages to the partner leave: everything but what is sent. -/
theorem foldl_tieSend (ns : List Nat) (f : Nat → Bytes) (t : State) :
    ns.foldl (fun s n => s.tieSend 4 0 (f n)) t =
      if t.tieUp then { t with sent := t.sent ++ ns.map (fun n => .tie 4 0 (f n)) } else t := by
  by_cases ht : t.tieUp = true
  · rw [if_pos ht]
    induction ns generalizing t with
    | nil => simp
    | cons n ns ih =>
      rw [List.foldl_cons, State.tieSend, if_pos ht, ih (t.send _) ht]
      simp [State.send]
  · rw [if_neg ht]
    induction ns with
    | nil => rfl
    | cons n ns ih => rw [List.foldl_cons, State.tieSend, if_neg ht, ih]

/-- A resynchronisation as it begins (R503). -/
def State.syncBegun (t : State) : State :=
  (((t.freeWord.2.progStart 0x1310 t.freeWord.1).progHold 0x1310 true).wr Obj.operation 2).mapPair (fun p =>
    { p with resyncs := p.resyncs.filter (fun q => q.purpose != 2) ++ t.pair.partnerLive.map (fun n => ⟨n, 0, 2, 0⟩) })

theorem State.startSync_live {t : State} (hr : t.rd Obj.role = 2) (hp : t.pair.partnerLive ≠ []) :
    t.startSync = (0, t.pair.partnerLive.foldl (fun s n => s.tieSend 4 0 (segmentBody n 2 4 0 0 [])) t.syncBegun) :=
  (if_neg (by simp [hr])).trans (if_neg (by simpa using hp))

theorem State.tieUp_wr (s : State) {k : Nat} (v : Nat) (hk : Obj.tieState ≠ k) : (s.wr k v).tieUp = s.tieUp := by
  rw [State.tieUp, State.rd_wr_ne _ _ hk, State.tieUp]

@[simp] theorem State.tieUp_mapPair (s : State) (f : PairRun → PairRun) : (s.mapPair f).tieUp = s.tieUp := rfl

theorem State.tieUp_leaveBegun (t : State) : t.leaveBegun.tieUp = t.tieUp := by
  simp only [State.leaveBegun, State.progHold, State.progStart]
  repeat rw [State.tieUp_wr _ _ (by decide)]

theorem State.syncBegun_spec (t : State) : t.syncBegun.rd Obj.operation = 2 ∧ t.syncBegun.rd (Obj.progState 0x1310) = 5 ∧
    t.syncBegun.tieUp = t.tieUp ∧ t.syncBegun.sent = t.sent := by
  have hrd : ∀ k, t.syncBegun.rd k = if k = Obj.operation then 2 else if k = Obj.progState 0x1310 then 5 else
      (t.freeWord.2.progStart 0x1310 t.freeWord.1).rd k := fun k => by
    rw [State.syncBegun, State.rd_mapPair, State.rd_wr, State.progHold, State.rd_wr]
    rfl
  refine ⟨hrd _, (hrd _).trans (if_neg (by decide)), ?_, rfl⟩
  show (((t.freeWord.2.progStart 0x1310 t.freeWord.1).progHold 0x1310 true).wr Obj.operation 2).tieUp = t.tieUp
  simp only [State.progHold, State.progStart]
  repeat rw [State.tieUp_wr _ _ (by decide)]
  rfl

/-- A command that has neither ended nor halted. -/
theorem State.busy_iff (s : State) : (s.rings.any (fun e => e.2.cmds.any (fun c => c.final.isNone && c.phase != .halted))) = true ↔
    ∃ e ∈ s.rings, ∃ c ∈ e.2.cmds, c.final = none ∧ c.phase ≠ .halted := by
  simp only [List.any_eq_true, Bool.and_eq_true, Option.isNone_iff_eq_none, bne_iff_ne]

/-- What a leaf that leaves has left once its streams are pushed (R501). -/
def State.leftNow (s : State) : State :=
  let on := (s.rings.map (·.1)).filter (fun n => s.rdB (Obj.streamRingEnable n))
  (((((on.foldl (fun s n => s.disableRing n) s).wr Obj.statusEnable 0).wr Obj.role 4).mapPair
    (fun p => { p with leaving := 4, leftFor := 0 })).progDone 0x1310)

theorem State.leftNow_spec (s : State) : s.leftNow.rd Obj.role = 4 ∧ s.leftNow.rd Obj.statusEnable = 0 ∧
    s.leftNow.pair.leaving = 4 ∧ s.leftNow.pair.leftFor = 0 ∧ s.leftNow.rd (Obj.progState 0x1310) = 2 ∧
    (∀ n, n < 32768 → (s.rings.find n).isSome = true → s.leftNow.rd (Obj.streamRingEnable n) = 0) := by
  have hrd : ∀ k, k ≠ Obj.progResult 0x1310 → k ≠ Obj.progPosition 0x1310 → s.leftNow.rd k = if k = Obj.progState 0x1310 then 2 else
      if k = Obj.role then 4 else if k = Obj.statusEnable then 0 else
        (((s.rings.map (·.1)).filter (fun n => s.rdB (Obj.streamRingEnable n))).foldl (fun s n => s.disableRing n) s).rd k := by
    intro k h1 h2
    rw [State.leftNow, State.rd_progDone, if_neg h1, if_neg h2, State.rd_mapPair, State.rd_wr, State.rd_wr]
  refine ⟨hrd _ (by decide) (by decide), hrd _ (by decide) (by decide), rfl, rfl, hrd _ (by decide) (by decide), fun n hn hf => ?_⟩
  have hkey : ∀ k, k < 0x800000 → Obj.streamRingEnable n ≠ k := fun k hk => by simp only [Obj.streamRingEnable]; omega
  rw [hrd _ (hkey _ (by decide)) (hkey _ (by decide)), if_neg (hkey _ (by decide)), if_neg (hkey _ (by decide)),
    if_neg (hkey _ (by decide))]
  refine State.foldl_disableRing_off _ s ?_
  by_cases h0 : s.rd (Obj.streamRingEnable n) = 0
  · exact .inr h0
  · exact .inl (List.mem_filter.2 ⟨Map.mem_of_find hf, by simp [State.rdB, h0]⟩)

end Sys2Proof.Machine

namespace Sys2Proof
open Machine

/-- Settles O56: a leave and a resynchronisation begin or are refused, and a leaf that leaves pushes, ends and detaches. -/
theorem leaves : Obligations.Leaves := by
  refine ⟨fun s page cmd data hd hl => ⟨fun h => ⟨fun hr => ?_, fun hr hp ht => ?_, fun hr hp ht hpd => ?_, fun hr hp ht hpd => ?_⟩,
      fun h => ⟨fun hr => ?_, fun hr hn => ?_, fun hr hn => ?_⟩⟩,
    fun s body ht hlen => ⟨fun h => ?_, fun h hr => ?_, fun h hr => ?_⟩,
    fun s n hleave hpush ht hres => ⟨fun hset => ?_, fun hset => ?_⟩,
    fun s => ⟨fun h => ?_, fun h1 h2 h3 => ⟨s.leftNow, ?_, s.leftNow_spec⟩, fun hr hf hh => ?_, fun h => ?_⟩⟩
  · rw [exec_leave h hd hl, State.startLeave_eq, if_pos, State.actionEnd_refused _ _ _ _ (by decide)]
    simp only [State.rd_taken, Bool.or_eq_true, beq_iff_eq]
    simp at hr
    omega
  · rw [exec_leave h hd hl, State.startLeave_eq, if_neg (by simpa using leaveRoles hr hp),
      if_pos (by rcases ht with h | h <;> simp [State.rdB, h, show (s.taken page cmd data).tieUp = s.tieUp from rfl]),
      State.actionEnd_refused _ _ _ _ (by decide)]
  · rw [exec_leave h hd hl, State.startLeave_eq, if_neg (by simpa using leaveRoles (a := s.rd Obj.role) (by simp [hr]) hp),
      if_neg (by simp [State.rdB, hpd, show (s.taken page cmd data).tieUp = true from ht]), State.actionEnd_done,
      if_pos (by simp [hr])]
    rfl
  · have htie : ((s.taken page cmd data).leaveBegun.wr Obj.role 3).tieUp = true := by
      rw [State.tieUp_wr _ _ (by decide), State.tieUp_leaveBegun]
      exact ht
    rw [exec_leave h hd hl, State.startLeave_eq, if_neg (by simpa using leaveRoles (a := s.rd Obj.role) (by simp [hr]) hp),
      if_neg (by simp [State.rdB, hpd, show (s.taken page cmd data).tieUp = true from ht]), State.actionEnd_done,
      if_neg (by simp [hr]), State.announceLeave, State.tieSend,
      State.tieUp_mapPair, if_pos htie]
    rfl
  · rw [exec_syncStart h hd hl, show (s.taken page cmd data).startSync = (Abort.wrongState, _) from if_pos (by simpa using hr),
      State.actionEnd_refused _ _ _ _ (by decide)]
  · rw [exec_syncStart h hd hl, show (s.taken page cmd data).startSync = (0, _) from
      (if_neg (by simp [hr])).trans (if_pos (List.isEmpty_iff.2 hn)), State.actionEnd_done]
  · rw [exec_syncStart h hd hl, State.startSync_live (t := s.taken page cmd data) hr hn, State.actionEnd_done]
    refine ⟨_, rfl, ?_⟩
    rw [foldl_tieSend]
    obtain ⟨hop, hstate, htie, hsent⟩ := (s.taken page cmd data).syncBegun_spec
    by_cases ht : s.tieUp = true
    · rw [if_pos (htie.trans ht)]
      exact ⟨hop, hstate, rfl, fun _ => by rw [hsent]; rfl⟩
    · rw [if_neg (fun h => ht (htie.symm.trans h))]
      exact ⟨hop, hstate, rfl, fun h => absurd h ht⟩
  · exact congrArg Host.Outcome.next ((if_neg (by simp [ht, hlen])).trans (if_pos (by simp [h])))
  · exact congrArg Host.Outcome.next ((if_neg (by simp [ht, hlen])).trans ((if_neg (by simp [h])).trans (if_pos (by simp [h, hr]))))
  · exact congrArg Host.Outcome.next ((if_neg (by simp [ht, hlen])).trans ((if_neg (by simp [h])).trans (if_neg (by simp [hr]))))
  · exact congrArg Host.Outcome.next (if_pos (by simp [hset]))
  · exact congrArg Host.Outcome.next (if_neg (by simp [hleave, hpush, ht, hset, hres]))
  · refine congrArg Host.Outcome.next (if_pos ?_)
    rcases h with h | h | ⟨e, he, c, hc, hf, hph⟩
    · simp [h]
    · simp [h]
    · rw [(State.busy_iff s).2 ⟨e, he, c, hc, hf, hph⟩, Bool.or_true]
  · refine congrArg Host.Outcome.next (if_neg ?_)
    rw [Bool.eq_false_iff.2 (mt (State.busy_iff s).1 h3)]
    simp [h1, h2]
  · exact congrArg Host.Outcome.next (if_pos (by simp [hr, hf, hh]))
  · exact congrArg Host.Outcome.next (if_neg (by
      rcases h with h | h | h
      · simp [h]
      · simp [Nat.not_le.2 h]
      · simp [h]))

end Sys2Proof

/-! SUPPORT. Joints, spilling and collectors (R342, R370, R371, R374, R377-R379, R381). -/

namespace Sys2Proof.Machine

/-! ### Spilling into the overflow region -/

/-- A step that leaves the objects and the memories. -/
structure Quiet (s t : State) : Prop where
  rd : ∀ k, t.rd k = s.rd k
  host : t.hostMem = s.hostMem
  dev : t.devMem = s.devMem

namespace Quiet
variable {s t u : State}
theorem refl (s : State) : Quiet s s := ⟨fun _ => rfl, rfl, rfl⟩
theorem trans (h : Quiet s t) (h' : Quiet t u) : Quiet s u :=
  ⟨fun k => (h'.rd k).trans (h.rd k), h'.host.trans h.host, h'.dev.trans h.dev⟩
theorem foldl {α : Type} {f : State → α → State} (h : ∀ s x, Quiet s (f s x)) (xs : List α) (s : State) : Quiet s (xs.foldl f s) := by
  induction xs generalizing s with
  | nil => exact refl s
  | cons x xs ih => exact (h s x).trans (ih _)
theorem spillChunk (s : State) (keys : List Nat) (n chunk : Nat) : Quiet s (s.spillChunk keys n chunk) := by
  refine foldl (fun s k => ?_) keys s
  split
  · exact ⟨fun _ => rfl, rfl, rfl⟩
  · exact refl s
end Quiet

/-! ### Commands that a spill ends -/

/-- Every command of a ring with a counter has ended. -/
def State.Ended (s : State) (n c : Nat) : Prop := ∀ x ∈ (s.ring n).cmds, x.counter = c → x.final.isSome = true

theorem drainList_sub (n : Nat) (cs : List Cmd) (s : State) : ∀ x ∈ ((drainList n s cs).ring n).cmds, x ∈ cs := by
  induction cs generalizing s with
  | nil =>
    intro x hx
    rw [drainList, State.ring_setRing_self] at hx
    exact hx
  | cons c cs ih =>
    intro x hx
    unfold drainList at hx
    split at hx
    · rw [State.ring_setRing_self] at hx
      exact hx
    · exact List.mem_cons_of_mem _ (ih _ x hx)

theorem putIndexError_cmds (s : State) (n : Nat) : ((s.putIndexError n).ring n).cmds = (s.ring n).cmds := by
  have hset : ∀ x : Ring, ((s.setRing n x).ring n).cmds = x.cmds := fun x => by rw [State.ring_setRing_self]
  unfold State.putIndexError
  dsimp only
  split
  · split
    · exact hset _
    · exact hset _
  · rfl

theorem drain_sub (s : State) (n : Nat) : ∀ x ∈ ((s.drain n).ring n).cmds, x ∈ (s.ring n).cmds := by
  intro x hx
  rw [State.drain, putIndexError_cmds] at hx
  exact drainList_sub n _ s x hx

/-- The end of a command ends it, and takes the end of no other away. -/
theorem State.Ended.finish (s : State) (n counter status : Nat) (position : Option Nat) (detail aux : Nat) {c : Nat}
    (h : c = counter ∨ s.Ended n c) : (s.finish n counter status position detail aux).Ended n c := by
  intro x hx hxc
  have hmap := drain_sub _ n x hx
  rw [State.mapCmd, State.ring_setRing_self] at hmap
  obtain ⟨y, hy, rfl⟩ := List.mem_map.1 hmap
  by_cases hyc : y.counter = counter
  · rw [if_pos (by simpa using hyc)]
    split
    · assumption
    · rfl
  · rw [if_neg (by simpa using hyc)] at hxc ⊢
    exact h.elim (fun h => absurd (hxc.trans h) hyc) (fun h => h y hy hxc)

theorem State.liveFault_shape (s : State) (n counter : Nat) :
    (∀ k, (s.liveFault n counter).rd k = s.rd k) ∧ (∀ m, (s.liveFault n counter).ring m = s.ring m) := by
  unfold State.liveFault
  split
  · exact ⟨fun _ => rfl, fun _ => rfl⟩
  · split
    · exact ⟨fun _ => rfl, fun _ => rfl⟩
    · dsimp only
      split
      · unfold State.tieSend
        split <;> exact ⟨fun _ => rfl, fun _ => rfl⟩
      · exact ⟨fun _ => rfl, fun _ => rfl⟩

theorem State.restoreCarried_shape (s : State) (n counter : Nat) :
    (∀ k, k < 0x800000 → (s.restoreCarried n counter).rd k = s.rd k) ∧ (∀ m, (s.restoreCarried n counter).ring m = s.ring m) := by
  unfold State.restoreCarried
  dsimp only
  split
  · exact ⟨fun _ _ => rfl, fun _ => rfl⟩
  · refine ⟨fun k hk => ?_, fun _ => rfl⟩
    rw [State.rd_wr_ne _ _ (by simp only [Obj.streamKvBlocksHeld]; omega), State.rd_wr_ne _ _ (by simp only [Obj.streamAttnPosition]; omega),
      State.rd_wr_ne _ _ (by simp only [Obj.streamTokenIndex]; omega)]
    rfl

/-- A chunk that ends as its stream is spilled without room. -/
theorem State.spillEnd_spec (s : State) (n c : Nat) :
    let t := (s.restoreCarried n c).deviceFault n c Obj.overflowFull
    (∀ k, k < 0x800000 → k ≠ Obj.noticesSkipped → t.rd k = s.rd k) ∧ ∀ d, d = c ∨ s.Ended n d → t.Ended n d := by
  intro t
  obtain ⟨hrd, hring⟩ := s.restoreCarried_shape n c
  obtain ⟨hrd', hring'⟩ := (s.restoreCarried n c).liveFault_shape n c
  have hframe := RingFrame.finish ((s.restoreCarried n c).liveFault n c) n c St.fault none Obj.overflowFull 0
  refine ⟨fun k hk hne => ?_, fun d hd => State.Ended.finish _ n c _ _ _ _ (hd.imp_right fun h x hx => h x ?_)⟩
  · rw [show t.rd k = _ from hframe.rd k (by simp only [Obj.streamCplTail]; omega) (by simp only [Obj.streamEntriesLost]; omega) hne, hrd', hrd k hk]
  · rwa [hring', hring] at hx

/-- The chunks of a spilled stream, each ended. -/
theorem State.foldl_spillEnd (n : Nat) (cs : List Nat) (s : State) :
    let t := cs.foldl (fun s c => (s.restoreCarried n c).deviceFault n c Obj.overflowFull) s
    (∀ k, k < 0x800000 → k ≠ Obj.noticesSkipped → t.rd k = s.rd k) ∧ ∀ d, d ∈ cs ∨ s.Ended n d → t.Ended n d := by
  induction cs generalizing s with
  | nil => exact ⟨fun _ _ _ => rfl, fun d h => h.resolve_left List.not_mem_nil⟩
  | cons c cs ih =>
    obtain ⟨hrd, hended⟩ := s.spillEnd_spec n c
    obtain ⟨hrd', hended'⟩ := ih ((s.restoreCarried n c).deviceFault n c Obj.overflowFull)
    refine ⟨fun k hk hne => (hrd' k hk hne).trans (hrd k hk hne), fun d hd => hended' d ?_⟩
    rcases hd with hd | hd
    · rcases List.mem_cons.1 hd with rfl | hd
      · exact .inr (hended d (.inl rfl))
      · exact .inl hd
    · exact .inr (hended d (.inr hd))

/-- A stream spilled into the overflow region. -/
theorem State.spillStream_fits {s : State} {keys : List Nat} {n : Nat}
    (h : s.overflowUsed + sumN ((s.chunksIn keys n).map (s.spillBytes keys n)) ≤ s.rd Obj.overflowBytes) :
    Quiet ((s.bump Obj.spills).bump Obj.spilledBytes (sumN ((s.chunksIn keys n).map (s.spillBytes keys n)))) (s.spillStream keys n) := by
  rw [show s.spillStream keys n = _ from if_pos h]
  refine Quiet.foldl (fun t c => ?_) _ _
  exact (Quiet.spillChunk t keys n c).trans ⟨fun _ => rfl, rfl, rfl⟩

/-- A stream spilled when there is no room. -/
theorem State.spillStream_full {s : State} {keys : List Nat} {n : Nat}
    (h : s.rd Obj.overflowBytes < s.overflowUsed + sumN ((s.chunksIn keys n).map (s.spillBytes keys n))) :
    ∃ t, (∀ k, t.rd k = (s.bump Obj.overflowFull).rd k) ∧ s.spillStream keys n =
      (s.chunksIn keys n).foldl (fun s c => (s.restoreCarried n c).deviceFault n c Obj.overflowFull) t := by
  refine ⟨_, ?_, if_neg (Nat.not_le.2 h)⟩
  refine (Quiet.foldl (fun t k => ?_) keys (s.bump Obj.overflowFull)).rd
  split
  · exact ⟨fun _ => rfl, rfl, rfl⟩
  · exact Quiet.refl t

theorem spillStream_spec (s : State) (keys : List Nat) (n : Nat) :
    let t := s.spillStream keys n
    let bytes := sumN ((s.chunksIn keys n).map (s.spillBytes keys n))
    (s.overflowUsed + bytes ≤ s.rd Obj.overflowBytes →
      t.rd Obj.spills = Nat.min (s.rd Obj.spills + 1) (maxOf Obj.spills) ∧
      t.rd Obj.spilledBytes = Nat.min (s.rd Obj.spilledBytes + bytes) (maxOf Obj.spilledBytes) ∧
      t.hostMem = s.hostMem ∧ t.devMem = s.devMem) ∧
    (s.rd Obj.overflowBytes < s.overflowUsed + bytes →
      t.rd Obj.overflowFull = Nat.min (s.rd Obj.overflowFull + 1) (maxOf Obj.overflowFull) ∧ t.rd Obj.spills = s.rd Obj.spills ∧
      ∀ c ∈ s.chunksIn keys n, ∀ x ∈ (t.ring n).cmds, x.counter = c → x.final.isSome = true) := by
  intro t bytes
  refine ⟨fun h => ?_, fun h => ?_⟩
  · have hq := State.spillStream_fits h
    refine ⟨?_, ?_, hq.host, hq.dev⟩
    · rw [hq.rd, State.rd_bump_ne _ _ (by decide), State.rd_bump_self]
    · rw [hq.rd, State.rd_bump_self, State.rd_bump_ne _ _ (by decide)]
  · obtain ⟨u, hu, ht⟩ := State.spillStream_full h
    obtain ⟨hrd, hended⟩ := State.foldl_spillEnd n (s.chunksIn keys n) u
    rw [show t = _ from ht]
    refine ⟨?_, ?_, fun c hc => hended c (.inl hc)⟩
    · rw [hrd _ (by decide) (by decide), hu, State.rd_bump_self]
    · rw [hrd _ (by decide) (by decide), hu, State.rd_bump_ne _ _ (by decide)]

/-! ### Events of one joint -/

/-- A write into a joint leaves collectors, rings and host memory. -/
theorem State.jointWrite_frame {s t : State} {key tag stream chunk : Nat} {ws : List Nat}
    (h : s.jointWrite key tag stream chunk ws = some t) : t.colls = s.colls ∧ t.rings = s.rings ∧ t.hostMem = s.hostMem := by
  unfold State.jointWrite at h
  split at h
  · cases h
  · split at h
    · cases h
      exact ⟨rfl, rfl, rfl⟩
    · cases h

/-- The machine once the open packet of a joint has been ended. -/
def State.endPacketAt (s : State) (key : Nat) : State :=
  match s.joints.find key with
  | some j => { s with joints := s.joints.put key j.endPacket }
  | none => s

theorem State.endPacketAt_frame (s : State) (key : Nat) : (s.endPacketAt key).colls = s.colls ∧ (s.endPacketAt key).rings = s.rings ∧
    (s.endPacketAt key).hostMem = s.hostMem := by
  unfold State.endPacketAt
  split <;> exact ⟨rfl, rfl, rfl⟩

theorem exec_collectorEmit {s : State} {group : Nat} {x x' : Collector} {p : Nat × Nat × Nat × List Nat} {j : Joint}
    (hx : s.colls.find group = some x) (ht : x.take = some (p, x')) (hj : s.joints.find x.target = some j) (ho : j.openLast = false) :
    (s.jointWrite x.target p.1 p.2.1 p.2.2.1 p.2.2.2 = none →
      exec (.collectorEmit group) s = .next (s.jointWait x.target p.2.1)) ∧
    (∀ t, s.jointWrite x.target p.1 p.2.1 p.2.2.1 p.2.2.2 = some t → ∃ u, exec (.collectorEmit group) s = .next u ∧
      u.colls = s.colls.put group x' ∧ u.rings = s.rings ∧ u.hostMem = s.hostMem) := by
  refine ⟨fun hw => ?_, fun t hw => ?_⟩
  · show execCollectorEmit group s = _
    unfold execCollectorEmit
    rw [hx]
    dsimp only
    rw [ht]
    dsimp only
    rw [hj]
    dsimp only
    rw [if_neg (by simp [ho]), hw]
  · obtain ⟨hcolls, hrings, hhost⟩ := State.jointWrite_frame hw
    have hexec : exec (.collectorEmit group) s =
        .next { t.endPacketAt x.target with colls := (t.endPacketAt x.target).colls.put group x' } := by
      show execCollectorEmit group s = _
      unfold execCollectorEmit
      rw [hx]
      dsimp only
      rw [ht]
      dsimp only
      rw [hj]
      dsimp only
      rw [if_neg (by simp [ho]), hw]
      rfl
    obtain ⟨hcolls', hrings', hhost'⟩ := t.endPacketAt_frame x.target
    exact ⟨_, hexec, by rw [← hcolls, ← hcolls'], hrings'.trans hrings, hhost'.trans hhost⟩

end Sys2Proof.Machine

namespace Sys2Proof
open Machine

/-- Settles O47: each event of a joint does the one thing its state calls for. -/
theorem jointEvents : Obligations.JointEvents := by
  refine ⟨fun s tile x j hj => ⟨fun hg hk => ⟨fun r j' hn => ?_, fun hn => ?_⟩, fun hk => ?_, fun tag w ws st c sp hrec => ⟨fun h0 hi => ?_, fun hi => ?_⟩,
      fun j' hj' => ?_, fun tag ws ended st c sp hrec => ?_⟩,
    fun s cycle => ⟨fun h => ?_, fun h hy => ?_, fun h n hy => ?_⟩, spillStream_spec,
    fun s group x hx => ⟨fun ht => ?_, fun p x' j ht hj ho => exec_collectorEmit hx ht hj ho⟩⟩
  · show execPacketStart tile x s = _
    unfold execPacketStart
    dsimp only
    rw [show s.joints.find (jointKey tile x) = some j from hj]
    dsimp only
    rw [if_neg (by simp [hg, hk]), hn]
    rfl
  · show execPacketStart tile x s = _
    unfold execPacketStart
    dsimp only
    rw [show s.joints.find (jointKey tile x) = some j from hj]
    dsimp only
    rw [if_neg (by simp [hg, hk]), hn]
  · show execPacketStart tile x s = _
    unfold execPacketStart
    dsimp only
    rw [show s.joints.find (jointKey tile x) = some j from hj]
    dsimp only
    rw [if_pos (by simp [hk])]
  · show execJointIdleTimeout tile x s = _
    unfold execJointIdleTimeout
    dsimp only
    rw [show s.joints.find (jointKey tile x) = some j from hj]
    dsimp only
    rw [hrec]
    exact congrArg Host.Outcome.next (if_neg (by simp; omega))
  · show execJointIdleTimeout tile x s = _
    unfold execJointIdleTimeout
    dsimp only
    rw [show s.joints.find (jointKey tile x) = some j from hj]
    dsimp only
    rw [hrec]
    exact congrArg Host.Outcome.next (if_pos (by simp; omega))
  · show execJointEccError tile x true s = _
    unfold execJointEccError
    dsimp only
    rw [show s.joints.find (jointKey tile x) = some j from hj]
    dsimp only
    rw [if_pos rfl, hj']
    rfl
  · show execJointEccError tile x false s = _
    unfold execJointEccError
    dsimp only
    rw [show s.joints.find (jointKey tile x) = some j from hj]
    dsimp only
    rw [if_neg (by decide), hrec]
    simp only [beq_iff_eq]
    rfl
  · exact congrArg Host.Outcome.next (if_pos (by simp; exact h))
  · refine congrArg Host.Outcome.next ((if_neg ?_).trans ?_)
    · rw [show s.waitCycle (dedup (cycle.map (fun e => jointKey e.1 e.2))) = true from h]
      decide
    · dsimp only
      rw [show State.youngest _ (State.streamsIn _ (dedup (cycle.map (fun e => jointKey e.1 e.2)))) = none from hy]
  · refine congrArg Host.Outcome.next ((if_neg ?_).trans ?_)
    · rw [show s.waitCycle (dedup (cycle.map (fun e => jointKey e.1 e.2))) = true from h]
      decide
    · dsimp only
      rw [show State.youngest _ (State.streamsIn _ (dedup (cycle.map (fun e => jointKey e.1 e.2)))) = some n from hy]
      rfl
  · show execCollectorEmit group s = _
    unfold execCollectorEmit
    rw [hx]
    dsimp only
    rw [ht]

end Sys2Proof

/-! SUPPORT. Curing and the brick code broadcast (R536-R547). -/

namespace Sys2Proof.Machine

/-! ### The units in service -/

/-- The tiles that a curing table leaves. -/
def mappedTiles (bad : Unit' → Bool) : List Bool := ((List.range 6).map (tileMapOf bad)).flatMap (fun m => m.map Option.isSome)

/-- The bricks of a tile position that a curing table leaves. -/
def mappedTileBricks (bad : Unit' → Bool) (st : Nat) : Option Nat → List Bool × Nat
  | none => (List.replicate 32 false, 0)
  | some p => brickMapOf bad st p

/-- The bricks that a curing table leaves. -/
def mappedBricks (bad : Unit' → Bool) : List Bool :=
  ((List.range 6).map (fun st => (nth [] ((List.range 6).map (tileMapOf bad)) st).map (mappedTileBricks bad st))).flatMap
    (fun m => m.flatMap (·.1))

/-- The gather units and the memory dies that a curing table leaves. -/
def mappedGathers (bad : Unit' → Bool) : List Bool := (List.range 6).map (fun st => !bad ⟨4, st, 0⟩)
def mappedDies (bad : Unit' → Bool) : List Bool :=
  (List.range 84).map (fun d => !bad ⟨5, d / 14, d⟩ && (List.range 16).any (fun i => !bad ⟨3, d / 14, i⟩))

/-- How many of a list are in service. -/
def countOn (bs : List Bool) : Nat := (bs.filter id).length

theorem countOn_all {bs : List Bool} (h : ∀ b ∈ bs, b = true) : countOn bs = bs.length := by
  exact congrArg List.length (List.filter_eq_self.2 h)

/-- The machine with the units of a curing table counted. -/
def State.unitsCounted (s : State) (bad : Unit' → Bool) : State :=
  ((((s.wr Obj.tilesEnabled (countOn (mappedTiles bad))).wr Obj.bricksEnabled (countOn (mappedBricks bad))).wr Obj.gatherUnits
    (countOn (mappedGathers bad))).wr Obj.gddr7Dies (countOn (mappedDies bad))).wr Obj.planeBytes (countOn (mappedTiles bad) * planeSize)

/-- The objects that mapping the units writes besides the counts. -/
def mapKeys : List Nat :=
  [Obj.tileMap, Obj.brickPresent, Obj.memdieMap, Obj.gatherMap, Obj.spareTilesLeft, Obj.spareBricksLeft, Obj.gddr7Bytes, Obj.interleavedBytes]

/-- No die's object is below the dies' records. -/
theorem State.rd_foldl_dies (s : State) (bs : List Bool) (ds : List Nat) {k : Nat} (hk : k < 0x404000 ∨ 0x500000 ≤ k) (hd : ∀ d ∈ ds, d < 84) :
    (ds.foldl (fun s d => (s.wr (Obj.dieInService d) (b2n (nth false bs d))).wr (Obj.dieDegraded d) 0) s).rd k = s.rd k := by
  induction ds generalizing s with
  | nil => rfl
  | cons d ds ih =>
    have hd84 := hd d (List.mem_cons_self ..)
    refine (ih _ (fun e he => hd e (List.mem_cons_of_mem _ he))).trans ?_
    rw [State.rd_wr_ne _ _ (by simp only [Obj.dieDegraded]; omega), State.rd_wr_ne _ _ (by simp only [Obj.dieInService]; omega)]

theorem State.rd_mapUnits (s : State) (bad : Unit' → Bool) {k : Nat} (hk : k ∉ mapKeys) (hd : k < 0x404000 ∨ 0x500000 ≤ k) :
    (s.mapUnits bad).rd k = (((s.unitsCounted bad).wr Obj.tileMap (mapBits (mappedTiles bad))).noteShort).rd k := by
  simp only [mapKeys, List.mem_cons, List.not_mem_nil, or_false, not_or] at hk
  obtain ⟨htile, hbrick, hdie, hgather, hspareT, hspareB, hbytes, hinter⟩ := hk
  refine (State.rd_wr_ne _ _ hinter).trans ((State.rd_wr_ne _ _ hbytes).trans ((State.rd_foldl_dies _ _ _ hd ?_).trans ?_))
  · exact fun d hd => List.mem_range.1 hd
  · exact (State.rd_wr_ne _ _ hspareB).trans ((State.rd_wr_ne _ _ hspareT).trans ((State.rd_wr_ne _ _ hgather).trans
      ((State.rd_wr_ne _ _ hdie).trans (State.rd_wr_ne _ _ hbrick))))

/-! ### A device without a defect -/

theorem mappedTiles_full : countOn (mappedTiles (fun _ => false)) = 96 := rfl
theorem mappedGathers_full : countOn (mappedGathers (fun _ => false)) = 6 := rfl
theorem mappedDies_full : countOn (mappedDies (fun _ => false)) = 84 := rfl

theorem tileMaps_full {st : Nat} (h : st < 6) :
    nth [] ((List.range 6).map (tileMapOf (fun _ => false))) st = (List.range 16).map some := by
  rcases (by omega : st = 0 ∨ st = 1 ∨ st = 2 ∨ st = 3 ∨ st = 4 ∨ st = 5) with rfl | rfl | rfl | rfl | rfl | rfl <;> rfl

theorem mappedBricks_eq : mappedBricks (fun _ => false) =
    (List.range 6).flatMap (fun _ => (List.range 16).flatMap (fun _ => List.replicate 32 true)) := by
  rw [mappedBricks, List.flatMap_map]
  refine congrArg List.flatten (List.map_congr_left fun st hst => ?_)
  rw [tileMaps_full (List.mem_range.1 hst), List.map_map, List.flatMap_map]
  rfl

theorem mappedBricks_full : countOn (mappedBricks (fun _ => false)) = 3072 := by
  rw [mappedBricks_eq, countOn_all]
  · simp only [List.length_flatMap, List.length_replicate, List.map_const', List.length_range, List.sum_replicate_nat]
  · simp only [List.mem_flatMap, List.mem_replicate]
    rintro b ⟨-, -, -, -, -, h⟩
    exact h

/-! ### Phase ends -/

theorem State.rd_endPhase (s : State) (k us j : Nat) (hj : j ≠ Obj.phaseTimes) : (s.endPhase k us).rd j =
    if j = Obj.progPosition bringUp then phasePoints (k + 1) else if j = Obj.phase then k + 1 else s.rd j := by
  rw [State.endPhase, State.rd_wr, State.rd_wr, State.rd_wr_ne _ _ hj]

/-! ### Curing -/

theorem State.rd_logDefects (s : State) (ok : Bool) (ds : List (Unit' × Nat)) {k : Nat} (h1 : k ≠ Obj.logCount) (h2 : k ≠ Obj.logOverflows) :
    (s.logDefects ok ds).rd k = s.rd k := by
  induction ds generalizing s with
  | nil => rfl
  | cons d ds ih =>
    unfold State.logDefects
    rw [ih]
    split
    · exact State.rd_bump_ne _ _ h2
    · split
      · rfl
      · exact State.rd_wr_ne _ _ h1

/-- The objects of the bring-up record that mapping the units leaves. -/
theorem State.rd_mapUnits_record (s : State) (bad : Unit' → Bool) {k : Nat} (hk : k ∉ mapKeys) (h : 0x500000 ≤ k) :
    (s.mapUnits bad).rd k = s.rd k := by
  rw [State.rd_mapUnits s bad hk (.inr h), State.noteShort]
  have hne : ∀ j, j < 0x500000 → k ≠ j := fun j hj => by omega
  rw [State.rd_wr_ne _ _ (hne _ (by decide)), State.rd_wr_ne _ _ (hne _ (by decide)), State.unitsCounted, State.rd_wr_ne _ _ (hne _ (by decide)),
    State.rd_wr_ne _ _ (hne _ (by decide)), State.rd_wr_ne _ _ (hne _ (by decide)), State.rd_wr_ne _ _ (hne _ (by decide)),
    State.rd_wr_ne _ _ (hne _ (by decide))]

/-- The machine with its units mapped and its defects logged. -/
def State.unitsCured (s : State) (r : CureResult) : State :=
  let failed := firstOfUnit (r.failed.filter (fun e => unitOk e.1))
  let known := dedup ((s.boot.fuseBad ++ s.flash.log.map (·.1)).filter unitOk)
  let late := failed.filter (fun e => !known.contains e.1)
  let passed := known.filter (fun u => !failed.any (fun e => e.1 == u))
  ((((s.mapUnits (fun u => known.contains u || failed.any (fun e => e.1 == u))).logDefects r.logWriteOk late).wr Obj.lateNew
    (Nat.min late.length 65535)).wr Obj.badPassed (Nat.min passed.length 65535))

/-- Why a cured device may not go on (R543). -/
def State.cureCause (u : State) (r : CureResult) : Nat :=
  if r.north then 1 else if r.south then 2 else if u.rd Obj.tilesEnabled == 0 then 3 else if u.rd Obj.gddr7Dies == 0 then 4 else 0

theorem State.cured_eq (s : State) (r : CureResult) (us : Nat) : s.cured r us =
    if (s.unitsCured r).cureCause r != 0 then
      ((s.unitsCured r).wr Obj.failCause ((s.unitsCured r).cureCause r)).progFail bringUp Abort.hardware
    else (s.unitsCured r).endPhase 3 us := rfl

theorem State.rd_unitsCured_phase (s : State) (r : CureResult) : (s.unitsCured r).rd Obj.phase = s.rd Obj.phase := by
  rw [State.unitsCured, State.rd_wr_ne _ _ (by decide), State.rd_wr_ne _ _ (by decide), State.rd_logDefects _ _ _ (by decide) (by decide),
    State.rd_mapUnits_record s _ (by decide) (by decide)]

/-- A device with a dead cavity fails. -/
theorem State.cured_dead (s : State) (r : CureResult) (us : Nat) (h : r.north = true ∨ r.south = true) :
    (s.cured r us).rd Obj.failCause = (if r.north then 1 else 2) ∧ (s.cured r us).rd (Obj.progState bringUp) = 3 ∧
    (s.cured r us).rd Obj.phase = s.rd Obj.phase := by
  have hcause : (s.unitsCured r).cureCause r = if r.north then 1 else 2 := by
    rcases h with h | h <;> simp [State.cureCause, h]
  have h0 : ((if r.north then 1 else 2 : Nat) != 0) = true := by cases r.north <;> rfl
  rw [State.cured_eq, hcause, if_pos h0]
  refine ⟨?_, ?_, ?_⟩
  · rw [State.rd_progFail, if_neg (by decide), if_neg (by decide), State.rd_wr_self]
  · rw [State.rd_progFail]
    rfl
  · rw [State.rd_progFail, if_neg (by decide), if_neg (by decide), State.rd_wr_ne _ _ (by decide), State.rd_unitsCured_phase]

/-- A device without a defect has all its units. -/
theorem State.unitsCured_full {s : State} {r : CureResult} (hf : r.failed = []) (hb : s.boot.fuseBad = []) (hl : s.flash.log = []) :
    s.unitsCured r = ((s.mapUnits (fun _ => false)).wr Obj.lateNew 0).wr Obj.badPassed 0 := by
  rw [State.unitsCured, hf, hb, hl]
  rfl

theorem State.mapUnits_flash (s : State) (bad : Unit' → Bool) : (s.mapUnits bad).flash = s.flash := by
  have hdies : ∀ (ds : List Nat) (f : Nat → Nat) (t : State),
      (ds.foldl (fun s d => (s.wr (Obj.dieInService d) (f d)).wr (Obj.dieDegraded d) 0) t).flash = t.flash := by
    intro ds f
    induction ds with
    | nil => exact fun t => rfl
    | cons d ds ih => exact fun t => ih _
  exact (State.wr_flash ..).trans ((State.wr_flash ..).trans ((hdies _ _ _).trans (((((((State.wr_flash ..).trans
    (State.wr_flash ..)).trans (State.wr_flash ..)).trans (State.wr_flash ..)).trans (State.wr_flash ..)).trans
    (State.wr_flash _ Obj.short _)).trans (((((State.wr_flash ..).trans (State.wr_flash ..)).trans (State.wr_flash ..)).trans
    (State.wr_flash ..)).trans ((State.wr_flash ..).trans (State.wr_flash ..))))))

/-- The counts of a device without a defect. -/
theorem State.rd_mapUnits_full (s : State) : (s.mapUnits (fun _ => false)).rd Obj.tilesEnabled = 96 ∧
    (s.mapUnits (fun _ => false)).rd Obj.bricksEnabled = 3072 ∧ (s.mapUnits (fun _ => false)).rd Obj.gatherUnits = 6 ∧
    (s.mapUnits (fun _ => false)).rd Obj.gddr7Dies = 84 ∧ (s.mapUnits (fun _ => false)).rd Obj.short = 0 := by
  have hcount : ∀ k, k ≠ Obj.tileMap → ((s.unitsCounted (fun _ => false)).wr Obj.tileMap (mapBits (mappedTiles (fun _ => false)))).rd k =
      if k = Obj.planeBytes then 96 * planeSize else if k = Obj.gddr7Dies then 84 else if k = Obj.gatherUnits then 6
      else if k = Obj.bricksEnabled then 3072 else if k = Obj.tilesEnabled then 96 else s.rd k := by
    intro k hk
    rw [State.rd_wr_ne _ _ hk, State.unitsCounted, State.rd_wr, State.rd_wr, State.rd_wr, State.rd_wr, State.rd_wr, mappedTiles_full,
      mappedBricks_full, mappedGathers_full, mappedDies_full]
  have hrd : ∀ k, k ∉ mapKeys → k < 0x404000 → k ≠ Obj.short → (s.mapUnits (fun _ => false)).rd k = _ := fun k hk hd hs =>
    (State.rd_mapUnits s _ hk (.inl hd)).trans ((State.rd_wr_ne _ _ hs).trans (hcount k (fun h => hk (h ▸ by decide))))
  refine ⟨(hrd _ (by decide) (by decide) (by decide)).trans rfl, (hrd _ (by decide) (by decide) (by decide)).trans rfl,
    (hrd _ (by decide) (by decide) (by decide)).trans rfl, (hrd _ (by decide) (by decide) (by decide)).trans rfl, ?_⟩
  rw [State.rd_mapUnits s _ (by decide) (.inl (by decide)), State.noteShort, State.rd_wr_self, hcount _ (by decide), hcount _ (by decide),
    hcount _ (by decide), hcount _ (by decide), hcount _ (by decide)]
  rfl

theorem State.cured_full {s : State} {r : CureResult} (us : Nat) (hf : r.failed = []) (hb : s.boot.fuseBad = []) (hl : s.flash.log = [])
    (hn : r.north = false) (hs : r.south = false) :
    (s.cured r us).rd Obj.phase = 4 ∧ (s.cured r us).rd Obj.tilesEnabled = 96 ∧ (s.cured r us).rd Obj.bricksEnabled = 3072 ∧
    (s.cured r us).rd Obj.gatherUnits = 6 ∧ (s.cured r us).rd Obj.gddr7Dies = 84 ∧ (s.cured r us).rd Obj.short = 0 ∧
    (s.cured r us).rd Obj.lateNew = 0 ∧ (s.cured r us).flash.log = [] := by
  obtain ⟨htiles, hbricks, hgathers, hdies, hshort⟩ := s.rd_mapUnits_full
  have hunits := State.unitsCured_full hf hb hl
  have hrd : ∀ k, k ≠ Obj.lateNew → k ≠ Obj.badPassed → (s.unitsCured r).rd k = (s.mapUnits (fun _ => false)).rd k := fun k h1 h2 => by
    rw [hunits, State.rd_wr_ne _ _ h2, State.rd_wr_ne _ _ h1]
  have hcause : (s.unitsCured r).cureCause r = 0 := by
    rw [State.cureCause, hn, hs, hrd _ (by decide) (by decide), hrd _ (by decide) (by decide), htiles, hdies]
    rfl
  rw [State.cured_eq, hcause, if_neg (by decide)]
  have hend : ∀ k, k ≠ Obj.phaseTimes → k ≠ Obj.progPosition bringUp → k ≠ Obj.phase →
      ((s.unitsCured r).endPhase 3 us).rd k = (s.unitsCured r).rd k := fun k h1 h2 h3 => by
    rw [State.rd_endPhase _ _ _ _ h1, if_neg h2, if_neg h3]
  have hkey : ∀ k, k < 0x200000 → ((s.unitsCured r).endPhase 3 us).rd k = (s.mapUnits (fun _ => false)).rd k := fun k hk => by
    have hne : ∀ j, 0x200000 ≤ j → k ≠ j := fun j hj => by omega
    rw [hend _ (hne _ (by decide)) (hne _ (by decide)) (hne _ (by decide)), hrd _ (hne _ (by decide)) (hne _ (by decide))]
  refine ⟨?_, (hkey _ (by decide)).trans htiles, (hkey _ (by decide)).trans hbricks, (hkey _ (by decide)).trans hgathers,
    (hkey _ (by decide)).trans hdies, (hkey _ (by decide)).trans hshort, ?_, ?_⟩
  · rw [State.rd_endPhase _ _ _ _ (by decide), if_neg (by decide), if_pos rfl]
  · rw [hend _ (by decide) (by decide) (by decide), hunits, State.rd_wr_ne _ _ (by decide), State.rd_wr_self]
  · rw [State.endPhase, State.wr_flash, State.wr_flash, State.wr_flash, hunits, State.wr_flash, State.wr_flash, State.mapUnits_flash, hl]

/-! ### The brick code broadcast -/

/-- Clearing a bit clears that bit and keeps the others. -/
theorem bit_setBit_false (v k j : Nat) : bit (setBit v k false) j = (bit v j && decide (j ≠ k)) := by
  have hbit : ∀ n i, bit n i = n.testBit i := fun n i => by
    rw [Nat.testBit_eq_decide_div_mod_eq, bit]
    rfl
  have hlt : v % 2 ^ k < 2 ^ k := Nat.mod_lt _ (Nat.two_pow_pos k)
  have hv : v = 2 ^ k * (v / 2 ^ k) + v % 2 ^ k := (Nat.div_add_mod v (2 ^ k)).symm
  have hset : setBit v k false = 2 ^ k * (v / 2 ^ k - v / 2 ^ k % 2) + v % 2 ^ k := by
    have hle : 2 ^ k * (v / 2 ^ k % 2) ≤ 2 ^ k * (v / 2 ^ k) := Nat.mul_le_mul_left _ (Nat.mod_le _ _)
    rw [setBit, if_neg (by decide), Nat.mul_comm (v / 2 ^ k % 2), Nat.mul_sub]
    omega
  rw [hbit, hbit, hset, Nat.testBit_two_pow_mul_add _ hlt]
  conv => rhs; rw [hv, Nat.testBit_two_pow_mul_add _ hlt]
  generalize v / 2 ^ k = q
  split
  · rw [decide_eq_true (by omega), Bool.and_true]
  · obtain ⟨i, rfl⟩ := Nat.exists_eq_add_of_le (Nat.le_of_not_lt ‹_›)
    rw [Nat.add_sub_cancel_left]
    cases i with
    | zero =>
      rw [Nat.testBit_zero, decide_eq_false (by omega)]
      simp
    | succ i =>
      rw [Nat.testBit_succ, Nat.testBit_succ, decide_eq_true (by omega), Bool.and_true]
      congr 1
      omega

theorem State.rd_fenceBrick (s : State) (b : Nat) {k : Nat} (h1 : k ≠ Obj.brickPresent) (h2 : k ≠ Obj.bricksEnabled) (h3 : k ≠ Obj.short) :
    (s.fenceBrick b).rd k = s.rd k := by
  unfold State.fenceBrick
  dsimp only
  split
  · rw [State.noteShort, State.rd_wr_ne _ _ h3, State.rd_lower, if_neg h2, State.rd_wr_ne _ _ h1]
    rfl
  · rfl

/-- A fenced brick is fenced and off, and no other brick is touched. -/
theorem State.fenceBrick_spec (s : State) (k j : Nat) :
    (s.fenceBrick k).brick j = (if j = k then { code := 255, fenced := true } else s.brick j) ∧
    bit ((s.fenceBrick k).rd Obj.brickPresent) j = (bit (s.rd Obj.brickPresent) j && decide (j ≠ k)) := by
  have hbrick : (s.setBrick k { code := 255, fenced := true }).brick j = if j = k then { code := 255, fenced := true } else s.brick j := by
    split
    · rw [‹j = k›, State.brick_setBrick_self]
    · exact State.brick_setBrick_ne _ _ ‹_›
  unfold State.fenceBrick
  dsimp only
  split
  · refine ⟨hbrick, ?_⟩
    rw [State.noteShort, State.rd_wr_ne _ _ (by decide), State.rd_lower, if_neg (by decide), State.rd_wr_self, bit_setBit_false]
    rfl
  · rename_i hoff
    refine ⟨hbrick, ?_⟩
    change bit (s.rd Obj.brickPresent) j = _
    by_cases hjk : j = k
    · have hj : bit (s.rd Obj.brickPresent) j = false := by
        rw [hjk]
        exact Bool.eq_false_iff.2 hoff
      rw [hj, Bool.false_and]
    · rw [decide_eq_true hjk, Bool.and_true]

/-- The machine with bricks fenced that took no image. -/
def State.bricksFenced (s : State) (ks : List Nat) : State := ks.foldl (fun s k => (s.fenceBrick k).bump Obj.bootFenced) s

theorem State.rd_bricksFenced (s : State) (ks : List Nat) {k : Nat} (h1 : k ≠ Obj.brickPresent) (h2 : k ≠ Obj.bricksEnabled)
    (h3 : k ≠ Obj.short) (h4 : k ≠ Obj.bootFenced) : (s.bricksFenced ks).rd k = s.rd k := by
  induction ks generalizing s with
  | nil => rfl
  | cons b ks ih => exact (ih _).trans ((State.rd_bump_ne _ _ h4).trans (s.rd_fenceBrick b h1 h2 h3))

theorem State.bricksFenced_off (s : State) (ks : List Nat) {j : Nat} (h : j ∈ ks ∨
    ((s.brick j).fenced = true ∧ bit (s.rd Obj.brickPresent) j = false)) :
    ((s.bricksFenced ks).brick j).fenced = true ∧ bit ((s.bricksFenced ks).rd Obj.brickPresent) j = false := by
  induction ks generalizing s with
  | nil => exact h.resolve_left (by simp)
  | cons k ks ih =>
    obtain ⟨hbrick, hbit⟩ := s.fenceBrick_spec k j
    refine ih _ ?_
    by_cases hk : j = k
    · refine .inr ⟨?_, ?_⟩
      · show ((s.fenceBrick k).brick j).fenced = true
        rw [hbrick, if_pos hk]
      · rw [State.rd_bump_ne _ _ (by decide), hbit, decide_eq_false (by simpa using hk), Bool.and_false]
    · refine h.imp (fun hj => (List.mem_cons.1 hj).resolve_left hk) (fun ⟨hf, hb⟩ => ⟨?_, ?_⟩)
      · show ((s.fenceBrick k).brick j).fenced = true
        rwa [hbrick, if_neg hk]
      · rw [State.rd_bump_ne _ _ (by decide), hbit, hb, Bool.false_and]

theorem mem_dedup {α : Type} [DecidableEq α] {xs : List α} {x : α} : x ∈ dedup xs ↔ x ∈ xs := by
  have hfold : ∀ (xs acc : List α), x ∈ xs.foldl (fun acc x => if acc.contains x then acc else acc ++ [x]) acc ↔ x ∈ acc ∨ x ∈ xs := by
    intro xs
    induction xs with
    | nil => simp
    | cons y ys ih =>
      intro acc
      rw [List.foldl_cons, ih]
      split
      · rename_i hy
        have hy : y ∈ acc := by simpa using hy
        simp only [List.mem_cons]
        constructor
        · exact fun h => h.imp id .inr
        · rintro (h | rfl | h)
          · exact .inl h
          · exact .inl hy
          · exact .inr h
      · simp [or_assoc]
  exact (hfold xs []).trans (by simp)

/-- The machine with the resends of the broadcast counted. -/
def State.resentNoted (s : State) (rounds resent : Nat) : State :=
  (s.wr Obj.bootResentPackets (Nat.min resent (2 ^ 32 - 1))).wr Obj.bootResendRounds (Nat.min rounds 3)

theorem State.broadcast_eq (s : State) (rounds resent : Nat) (failed : List Nat) (us : Nat) : s.broadcast rounds resent failed us =
    (((s.resentNoted rounds resent).bricksFenced ((dedup failed).filter (s.resentNoted rounds resent).brickOn)).endPhase 4 us).wr
      (Obj.progState bringUp) 5 := rfl

theorem State.broadcast_ends (s : State) (rounds resent : Nat) (failed : List Nat) (us : Nat) :
    (s.broadcast rounds resent failed us).rd Obj.phase = 5 ∧ (s.broadcast rounds resent failed us).rd (Obj.progState bringUp) = 5 ∧
    (s.broadcast rounds resent failed us).rd Obj.bootResendRounds = Nat.min rounds 3 ∧
    (s.broadcast rounds resent failed us).rd Obj.bootResentPackets = Nat.min resent (2 ^ 32 - 1) := by
  rw [State.broadcast_eq]
  refine ⟨?_, State.rd_wr_self .., ?_, ?_⟩
  · rw [State.rd_wr_ne _ _ (by decide), State.rd_endPhase _ _ _ _ (by decide), if_neg (by decide), if_pos rfl]
  · rw [State.rd_wr_ne _ _ (by decide), State.rd_endPhase _ _ _ _ (by decide), if_neg (by decide), if_neg (by decide),
      State.rd_bricksFenced _ _ (by decide) (by decide) (by decide) (by decide), State.resentNoted, State.rd_wr_self]
  · rw [State.rd_wr_ne _ _ (by decide), State.rd_endPhase _ _ _ _ (by decide), if_neg (by decide), if_neg (by decide),
      State.rd_bricksFenced _ _ (by decide) (by decide) (by decide) (by decide), State.resentNoted, State.rd_wr_ne _ _ (by decide),
      State.rd_wr_self]

theorem State.broadcast_fences (s : State) (rounds resent : Nat) {failed : List Nat} (us : Nat) {k : Nat} (hk : k ∈ failed)
    (hon : s.brickOn k = true) : ((s.broadcast rounds resent failed us).brick k).fenced = true ∧
    (s.broadcast rounds resent failed us).brickOn k = false := by
  have hpresent : (s.resentNoted rounds resent).rd Obj.brickPresent = s.rd Obj.brickPresent := by
    rw [State.resentNoted, State.rd_wr_ne _ _ (by decide), State.rd_wr_ne _ _ (by decide)]
  have hmem : k ∈ (dedup failed).filter (s.resentNoted rounds resent).brickOn := by
    refine List.mem_filter.2 ⟨mem_dedup.2 hk, ?_⟩
    rwa [State.brickOn, hpresent]
  obtain ⟨hf, hb⟩ := (s.resentNoted rounds resent).bricksFenced_off _ (.inl hmem)
  rw [State.broadcast_eq]
  refine ⟨hf, ?_⟩
  rw [State.brickOn, State.rd_wr_ne _ _ (by decide), State.rd_endPhase _ _ _ _ (by decide), if_neg (by decide), if_neg (by decide), hb,
    Bool.and_false]

/-! ### Fuses and flash (R520, R532) -/

/-- What the fuses fix, apart from the power steps. -/
def fuseValues (f : Fuses) : List (Nat × Nat) :=
  [(Obj.variant, f.variant), (Obj.powerLimitW, if f.variant == 2 then 2000 else if f.variant == 3 then 1400 else 2600),
   (Obj.clockMaxMhz, if f.variant == 3 then 1050 else 1250), (Obj.siliconRev, f.siliconRev),
   (Obj.powerCapW, if f.variant == 2 then 2000 else if f.variant == 3 then 1400 else 2600),
   (Obj.clockCapMhz, if f.variant == 3 then 1050 else 1250), (Obj.fusedSvn, f.svn), (Obj.customerKeyFused, b2n f.customerHash.isSome),
   (Obj.topLeavesUsed, f.topLeavesUsed), (Obj.deviceSerial, f.serial)]

theorem fuseValues_nodup (f : Fuses) : ((fuseValues f).map (·.1)).Nodup :=
  show [Obj.variant, Obj.powerLimitW, Obj.clockMaxMhz, Obj.siliconRev, Obj.powerCapW, Obj.clockCapMhz, Obj.fusedSvn, Obj.customerKeyFused,
    Obj.topLeavesUsed, Obj.deviceSerial].Nodup by decide

/-- What a power step of the fuses fixes. -/
def stepValues (k : Nat) (p : PowerStep) : List (Nat × Nat) :=
  [(Obj.stepVddMv k, p.vddMv), (Obj.stepEArrayPj k, p.eArray.toNat), (Obj.stepEFeedPj k, p.eFeed.toNat), (Obj.stepEGddr7Pj k, p.eGddr7.toNat),
   (Obj.stepEBrickPj k, p.eBrick.toNat), (Obj.stepStaticW k, p.staticW)]

theorem State.DictOk.fixAll {s : State} (h : s.DictOk) (l : List (Nat × Nat)) : (s.fixAll l).DictOk := by
  induction l generalizing s with
  | nil => exact h
  | cons e l ih => exact ih (h.fix _ _)

theorem State.fixAll_kept (s : State) (l : List (Nat × Nat)) : (s.fixAll l).rings = s.rings ∧ (s.fixAll l).flash = s.flash := by
  induction l generalizing s with
  | nil => exact ⟨rfl, rfl⟩
  | cons e l ih => exact ih _

/-- The power steps fix nothing outside their records. -/
theorem State.fixSteps_spec {s : State} (h : s.DictOk) (k : Nat) (ps : List PowerStep) (hps : k + ps.length ≤ 31) :
    (s.fixSteps k ps).DictOk ∧ (s.fixSteps k ps).rings = s.rings ∧ (s.fixSteps k ps).root = s.root ∧
    (s.fixSteps k ps).flash = s.flash ∧ ∀ j, j < 0x221000 ∨ 0x222F00 ≤ j → (s.fixSteps k ps).rd j = s.rd j := by
  induction ps generalizing s k with
  | nil => exact ⟨h, rfl, rfl, rfl, fun _ _ => rfl⟩
  | cons p ps ih =>
    rw [List.length_cons] at hps
    obtain ⟨hok, hrings, hroot, hflash, hrd⟩ := ih (h.fixAll (stepValues k p)) (k + 1) (by omega)
    refine ⟨hok, hrings, hroot, hflash, fun j hj => (hrd j hj).trans (State.rd_fixAll_other h ?_)⟩
    simp only [stepValues, List.map_cons, List.map_nil, List.mem_cons, List.not_mem_nil, or_false, not_or, Obj.stepVddMv, Obj.stepEArrayPj,
      Obj.stepEFeedPj, Obj.stepEGddr7Pj, Obj.stepEBrickPj, Obj.stepStaticW]
    omega

/-- The machine that has taken its fuses. -/
def State.fused (s : State) (f : Fuses) : State :=
  { s with root := { s.root with vendorKey := f.vendorKeyHash, customer := f.customerHash, fuses := some f }
           boot := { s.boot with fuseBad := f.bad } }

theorem State.readFuses_eq (s : State) (f : Fuses) : s.readFuses f = ((s.fixAll (fuseValues f)).fixSteps 0 (f.power.take 31)).fused f := rfl

theorem State.readFuses_spec {s : State} (h : s.DictOk) (f : Fuses) : (s.readFuses f).DictOk ∧ (s.readFuses f).rings = s.rings ∧
    (s.readFuses f).flash = s.flash ∧ (∀ e ∈ fuseValues f, (s.readFuses f).rd e.1 = e.2) ∧
    (s.readFuses f).root.vendorKey = f.vendorKeyHash ∧ (s.readFuses f).root.customer = f.customerHash ∧ (s.readFuses f).root.fuses = some f := by
  obtain ⟨hok, hrings, hroot, hflash, hrd⟩ := State.fixSteps_spec (h.fixAll (fuseValues f)) 0 (f.power.take 31) (by
    rw [List.length_take]
    omega)
  have hkeys : ∀ k ∈ (fuseValues f).map (·.1), k < 0x221000 ∨ 0x222F00 ≤ k :=
    show ∀ k ∈ [Obj.variant, Obj.powerLimitW, Obj.clockMaxMhz, Obj.siliconRev, Obj.powerCapW, Obj.clockCapMhz, Obj.fusedSvn,
      Obj.customerKeyFused, Obj.topLeavesUsed, Obj.deviceSerial], k < 0x221000 ∨ 0x222F00 ≤ k by decide
  have hset := fun e he => State.rd_fixAll_mem h (fuseValues_nodup f) (e := e) he
  have hfixed := s.fixAll_kept (fuseValues f)
  rw [State.readFuses_eq]
  generalize (s.fixAll (fuseValues f)) = u at hset hfixed hrings hflash hrd hok ⊢
  generalize u.fixSteps 0 (f.power.take 31) = t at hrings hflash hrd hok ⊢
  exact ⟨hok, hrings.trans hfixed.1, hflash.trans hfixed.2,
    fun e he => (hrd e.1 (hkeys _ (List.mem_map_of_mem he))).trans (hset e he), rfl, rfl, rfl⟩

theorem Flash.readLog_control (f : Flash) : f.readLog.control = f.control := by
  unfold Flash.readLog
  split <;> rfl

/-- What reading the flash fixes. -/
def flashValues (f : Flash) : List (Nat × Nat) := [(Obj.bootSlot, f.readLog.control), (Obj.storeCount, f.readLog.stores)]

/-- The machine with the defect log read. -/
def State.logRead (s : State) : State := { s with flash := s.flash.readLog }

theorem State.readFlash_eq (s : State) :
    s.readFlash = (s.logRead.fixAll (flashValues s.flash)).wr Obj.logCount s.flash.readLog.log.length := rfl

theorem State.rd_readFlash {s : State} (h : s.DictOk) {k : Nat} (hk : k ≠ Obj.logCount) :
    s.readFlash.rd k = if k = Obj.storeCount then s.flash.readLog.stores else if k = Obj.bootSlot then s.flash.control else s.rd k := by
  have hlog : s.logRead.DictOk := h
  rw [State.readFlash_eq, State.rd_wr_ne _ _ hk]
  refine (State.rd_fix (hlog.fix _ _) _ _ _).trans (ite_of_iff Iff.rfl rfl ((State.rd_fix hlog _ _ _).trans ?_))
  exact ite_of_iff Iff.rfl (Flash.readLog_control _) rfl

theorem State.fuseRead_spec {s : State} (h : s.DictOk) (g : Fuses) (us : Nat) :
    let t := ((s.readFuses g).readFlash).endPhase 0 us
    t.rd Obj.phase = 1 ∧ t.rd (Obj.progPosition bringUp) = 42 ∧ t.rd Obj.variant = g.variant ∧ t.rd Obj.siliconRev = g.siliconRev ∧
      t.rd Obj.fusedSvn = g.svn ∧ t.root.vendorKey = g.vendorKeyHash ∧ t.root.customer = g.customerHash ∧ t.root.fuses = some g ∧
      t.rd Obj.bootSlot = s.flash.control ∧ t.rings = s.rings := by
  obtain ⟨hok, hrings, hflash, hset, hvendor, hcustomer, hfuses⟩ := State.readFuses_spec h g
  generalize s.readFuses g = u at *
  have hrd : ∀ k, k ≠ Obj.phaseTimes → k ≠ Obj.logCount → (u.readFlash.endPhase 0 us).rd k =
      if k = Obj.progPosition bringUp then 42 else if k = Obj.phase then 1 else
      if k = Obj.storeCount then u.flash.readLog.stores else if k = Obj.bootSlot then u.flash.control else u.rd k := fun k h1 h2 => by
    rw [State.rd_endPhase _ _ _ _ h1, State.rd_readFlash hok h2]
    rfl
  refine ⟨(hrd _ (by decide) (by decide)).trans rfl, (hrd _ (by decide) (by decide)).trans rfl, ?_, ?_, ?_, hvendor, hcustomer, hfuses,
    ((hrd _ (by decide) (by decide)).trans rfl).trans (congrArg Flash.control hflash), hrings⟩
  · exact ((hrd _ (by decide) (by decide)).trans rfl).trans (hset (Obj.variant, _) (by simp [fuseValues]))
  · exact ((hrd _ (by decide) (by decide)).trans rfl).trans (hset (Obj.siliconRev, _) (by simp [fuseValues]))
  · exact ((hrd _ (by decide) (by decide)).trans rfl).trans (hset (Obj.fusedSvn, _) (by simp [fuseValues]))

/-! ### Verifying the firmware (R524) -/

theorem State.rd_noteSlot_phase (s : State) (k : Nat) (x : SlotImage) : (s.noteSlot k x).rd Obj.phase = s.rd Obj.phase := by
  have hkeys : slotSvnKey k ≠ Obj.phase ∧ slotStateKey k ≠ Obj.phase := by
    rw [slotSvnKey, slotStateKey]
    constructor <;> split <;> decide
  rw [State.noteSlot, State.rd_wr_ne _ _ (Ne.symm hkeys.1), State.rd_wr_ne _ _ (Ne.symm hkeys.2)]

/-- The machine with both slots looked at. -/
def State.slotsNoted (s : State) (a b : SlotImage) : State := (s.noteSlot 0 a).noteSlot 1 b

/-- The image of the slot that boots, and of the other one. -/
def bootImage (k : Nat) (a b : SlotImage) : SlotImage := if k = 0 then a else b
def spareImage (k : Nat) (a b : SlotImage) : SlotImage := if k = 0 then b else a

theorem State.verifySlots_eq (s : State) (x y : SlotImage) (us : Nat) : s.verifySlots x y false us =
    let a := s.flash.slotA.getD x
    let b := s.flash.slotB.getD y
    let k := s.flash.control % 2
    let noted := s.slotsNoted a b
    let counted := noted.bump Obj.verifyFails
    if noted.slotState (bootImage k a b) = 1 then noted.runSlot k (bootImage k a b) us
    else if counted.slotState (spareImage k a b) = 1 then (counted.bump Obj.bootFallbacks).runSlot (1 - k) (spareImage k a b) us
    else { counted.bump Obj.verifyFails with boot := { counted.boot with stuck := true } } := by
  have himage : ∀ (k : Nat) (a b : SlotImage), (if (k == 0) = true then a else b) = bootImage k a b := fun k a b => by
    cases k <;> rfl
  have htest : ∀ m : Nat, ((m == 1 && !false) = true) = (m = 1) := fun m => by simp
  have htest' : ∀ m : Nat, ((m == 1) = true) = (m = 1) := fun m => by simp
  unfold State.verifySlots
  dsimp only
  simp only [himage, htest, htest']
  rfl

theorem State.slotState_valid {s : State} {x : SlotImage} (hempty : x.empty = false) (hhead : headerOk x.head = true)
    (hvendor : s.vendorOk x.head = true) (hcustomer : s.customerOk x.head = true) (hsvn : s.rd Obj.fusedSvn ≤ imageSvn x.head)
    (hbody : x.bodyDigest = ofBE (slice x.head 32 32)) : s.slotState x = 1 := by
  rw [State.slotState, if_neg (by simp [hempty]), if_neg (by simp [hhead, hvendor, hcustomer]), if_neg (by omega), if_neg (by simp [hbody])]

theorem State.inPhase_phase {s : State} {k : Nat} (h : s.inPhase k = true) : s.rd Obj.phase = k := by
  simp only [State.inPhase, Bool.and_eq_true, beq_iff_eq] at h
  exact h.1.1.1

theorem State.inPhase_other {s : State} {k : Nat} (h : s.rd Obj.phase ≠ k) : s.inPhase k = false := by
  simp [State.inPhase, h]

theorem State.verifySlots_runs (s : State) (x y : SlotImage) (us : Nat)
    (h : (s.slotsNoted (s.flash.slotA.getD x) (s.flash.slotB.getD y)).slotState
      (bootImage (s.flash.control % 2) (s.flash.slotA.getD x) (s.flash.slotB.getD y)) = 1) :
    s.verifySlots x y false us = (s.slotsNoted (s.flash.slotA.getD x) (s.flash.slotB.getD y)).runSlot (s.flash.control % 2)
      (bootImage (s.flash.control % 2) (s.flash.slotA.getD x) (s.flash.slotB.getD y)) us := by
  rw [State.verifySlots_eq]
  exact if_pos h

theorem State.verifySlots_falls (s : State) (x y : SlotImage) (us : Nat)
    (h : (s.slotsNoted (s.flash.slotA.getD x) (s.flash.slotB.getD y)).slotState
      (bootImage (s.flash.control % 2) (s.flash.slotA.getD x) (s.flash.slotB.getD y)) ≠ 1)
    (hspare : ((s.slotsNoted (s.flash.slotA.getD x) (s.flash.slotB.getD y)).bump Obj.verifyFails).slotState
      (spareImage (s.flash.control % 2) (s.flash.slotA.getD x) (s.flash.slotB.getD y)) = 1) :
    s.verifySlots x y false us =
      (((s.slotsNoted (s.flash.slotA.getD x) (s.flash.slotB.getD y)).bump Obj.verifyFails).bump Obj.bootFallbacks).runSlot
        (1 - s.flash.control % 2) (spareImage (s.flash.control % 2) (s.flash.slotA.getD x) (s.flash.slotB.getD y)) us := by
  rw [State.verifySlots_eq]
  exact (if_neg h).trans (if_pos hspare)

theorem State.verifySlots_sticks (s : State) (x y : SlotImage) (us : Nat)
    (h : (s.slotsNoted (s.flash.slotA.getD x) (s.flash.slotB.getD y)).slotState
      (bootImage (s.flash.control % 2) (s.flash.slotA.getD x) (s.flash.slotB.getD y)) ≠ 1)
    (hspare : ((s.slotsNoted (s.flash.slotA.getD x) (s.flash.slotB.getD y)).bump Obj.verifyFails).slotState
      (spareImage (s.flash.control % 2) (s.flash.slotA.getD x) (s.flash.slotB.getD y)) ≠ 1) :
    (s.verifySlots x y false us).boot.stuck = true ∧ (s.verifySlots x y false us).rd Obj.phase = s.rd Obj.phase ∧
    (s.verifySlots x y false us).rings = s.rings := by
  rw [State.verifySlots_eq]
  refine (if_neg h).trans (if_neg hspare) ▸ ⟨rfl, ?_, rfl⟩
  refine (State.rd_bump_ne _ _ (by decide)).trans ((State.rd_bump_ne _ _ (by decide)).trans ?_)
  rw [State.slotsNoted, State.rd_noteSlot_phase, State.rd_noteSlot_phase]

end Sys2Proof.Machine

namespace Sys2Proof
open Machine

theorem exec_fuseRead_done {s : State} {f : Fuses} {us : Nat} (h : s.inPhase 0 = true) (hus : us ≤ 200000) :
    exec (.fuseRead f true us) s = .next (((s.readFuses (s.root.fuses.getD f)).readFlash).endPhase 0 us) :=
  congrArg Host.Outcome.next (if_neg (by simp [h]; omega))

theorem exec_fuseRead_idle {s : State} {f : Fuses} {us : Nat} {ok : Bool} (h : s.inPhase 0 = false ∨ ok = false ∨ 200000 < us) :
    exec (.fuseRead f ok us) s = .next s :=
  congrArg Host.Outcome.next (if_pos (by simpa [or_assoc] using h))

theorem exec_firmware_open {s : State} {x y : SlotImage} {us : Nat} (h : s.inPhase 1 = true ∧ s.boot.src = false ∧ s.boot.stuck = false) :
    exec (.firmwareVerification x y us) s = .next (s.verifySlots x y false us) :=
  congrArg Host.Outcome.next (if_neg (by simp [h]))

theorem exec_firmware_idle {s : State} {x y : SlotImage} {us : Nat} (h : ¬(s.inPhase 1 = true ∧ s.boot.src = false ∧ s.boot.stuck = false)) :
    exec (.firmwareVerification x y us) s = .next s :=
  congrArg Host.Outcome.next (if_pos (by
    cases h1 : s.inPhase 1 <;> cases h2 : s.boot.src <;> cases h3 : s.boot.stuck <;> simp_all))

/-- A bring-up phase is over when its command ends, and the next has begun. -/
theorem exec_ready_done {s : State} {us : Nat} (h : s.inPhase 5 = true) (hclock : s.rd Obj.clockState = 2)
    (hrole : s.rd Obj.role ≠ 0 ∨ s.rd Obj.pairFailReason ≠ 0) : exec (.ready us) s = .next ((s.endPhase 5 us).progDone bringUp) :=
  congrArg Host.Outcome.next (if_pos (by simpa [h, hclock] using hrole))

theorem exec_ready_idle {s : State} {us : Nat} (h : s.inPhase 5 = false ∨ s.rd Obj.clockState ≠ 2 ∨
    (s.rd Obj.role = 0 ∧ s.rd Obj.pairFailReason = 0)) : exec (.ready us) s = .next s :=
  congrArg Host.Outcome.next (if_neg (by
    simp only [Bool.and_eq_true, Bool.or_eq_true, beq_iff_eq, bne_iff_ne, ne_eq]
    rintro ⟨⟨h5, hc⟩, hr⟩
    rcases h with h | h | ⟨h1, h2⟩
    · exact absurd (h5.symm.trans h) (by decide)
    · exact h hc
    · exact hr.elim (· h1) (· h2)))

theorem ready_rd (s : State) (us : Nat) : let t := (s.endPhase 5 us).progDone bringUp
    t.rd Obj.phase = 6 ∧ t.rd (Obj.progState bringUp) = 2 ∧ t.rd (Obj.progPosition bringUp) = t.rd (Obj.progTotal bringUp) ∧
    t.rd Obj.role = s.rd Obj.role := by
  have hrd : ∀ k, ((s.endPhase 5 us).progDone bringUp).rd k = _ := fun k => State.rd_progDone _ _ k
  refine ⟨?_, ?_, ?_, ?_⟩
  · exact (hrd _).trans ((State.rd_endPhase _ _ _ _ (by decide)).trans rfl)
  · exact (hrd _).trans rfl
  · exact ((hrd _).trans rfl).trans ((hrd (Obj.progTotal bringUp)).trans rfl).symm
  · exact (hrd _).trans ((State.rd_endPhase _ _ _ _ (by decide)).trans rfl)

theorem exec_bootSrc_early {s : State} {x y : SlotImage} (h : s.rd Obj.phase ≤ 1) :
    exec (.bootSrc true x y) s = .next { s with
      boot := { s.boot with src := true, stuck := false }, flash := { s.flash with slotA := none, slotB := none } } :=
  congrArg Host.Outcome.next ((if_neg (by simpa using h)).trans (if_pos rfl))

theorem exec_bootSrc_low {s : State} {x y : SlotImage} (h : s.inPhase 1 = true) (hstuck : s.boot.stuck = false) :
    exec (.bootSrc false x y) s = .next (({ s.freeWord.2 with boot := { s.boot with src := false } } : State).verifySlots x y false
      (s.freeWord.1 % 2 ^ 32)) :=
  congrArg Host.Outcome.next ((if_neg (by simp [State.inPhase_phase h])).trans ((if_neg (by decide)).trans (if_neg (by
    show ¬((!s.inPhase 1 || s.boot.stuck) = true)
    simp [h, hstuck]))))

theorem exec_bootSrc_late {s : State} {x y : SlotImage} (high : Bool) (h : 1 < s.rd Obj.phase) :
    exec (.bootSrc high x y) s = .next s :=
  congrArg Host.Outcome.next (if_pos (by simpa using h))

theorem exec_phaseLimit_firmware {s : State} (r : CureResult) (x y : SlotImage) (t : TrainResult) (h : s.inPhase 1 = true)
    (hsrc : s.boot.src = false) (hstuck : s.boot.stuck = false) : exec (.phaseLimit r x y t) s =
      .next (s.freeWord.2.verifySlots x y true (500000 + s.freeWord.1 % 500001)) :=
  congrArg Host.Outcome.next ((if_pos h).trans (if_neg (by simp [hsrc, hstuck])))

/-- The limit of a later phase ends that phase alone. -/
theorem exec_phaseLimit_later {s : State} (r : CureResult) (x y : SlotImage) (t : TrainResult) (h : s.inPhase 1 = false) :
    exec (.phaseLimit r x y t) s = .next (if s.inPhase 2 then s.trained t 6000000 else if s.inPhase 3 then s.cured r 12000000
      else if s.inPhase 4 then s.broadcast 3 0 ((r.failed.filter (fun e => e.1.kind == 2)).map (fun e => e.1.index)) 400000 else s) :=
  congrArg Host.Outcome.next (if_neg (by simp [h]))

theorem fuseRead_settled (s : State) (f : Fuses) (us : Nat) : let g := s.root.fuses.getD f
    (s.inPhase 0 = true → us ≤ 200000 → s.rst.wf = true → s.dict.wf = true → ∃ t, exec (.fuseRead f true us) s = .next t ∧ t.rd Obj.phase = 1 ∧
      t.rd (Obj.progPosition bringUp) = 42 ∧ t.rd Obj.variant = g.variant ∧ t.rd Obj.siliconRev = g.siliconRev ∧
      t.rd Obj.fusedSvn = g.svn ∧ t.root.vendorKey = g.vendorKeyHash ∧ t.root.customer = g.customerHash ∧ t.root.fuses = some g ∧
      t.rd Obj.bootSlot = s.flash.control ∧ t.rings = s.rings) ∧
    (∀ ok, s.inPhase 0 = false ∨ ok = false ∨ 200000 < us → exec (.fuseRead f ok us) s = .next s) :=
  ⟨fun h hus hrst hdict => ⟨_, exec_fuseRead_done h hus, State.fuseRead_spec ⟨hdict, hrst⟩ _ us⟩, fun _ => exec_fuseRead_idle⟩

theorem broadcast_settled (s : State) (rounds resent us : Nat) (failed : List BrickId) :
    (s.inPhase 4 = true → ∃ t, exec (.brickCodeBroadcast rounds resent failed us) s = .next t ∧ t.rd Obj.phase = 5 ∧
      t.rd (Obj.progState bringUp) = 5 ∧ t.rd Obj.bootResendRounds = Nat.min rounds 3 ∧
      t.rd Obj.bootResentPackets = Nat.min resent (2 ^ 32 - 1) ∧ (rounds < 3 → t.bricks = s.bricks) ∧
      (3 ≤ rounds → ∀ k ∈ failed, s.brickOn k.val = true → (t.brick k.val).fenced = true ∧ t.brickOn k.val = false)) ∧
    (s.inPhase 4 = false → exec (.brickCodeBroadcast rounds resent failed us) s = .next s) := by
  refine ⟨fun h => ?_, fun h => congrArg Host.Outcome.next (if_neg (by simp [h]))⟩
  obtain ⟨hphase, hprog, hrounds, hresent⟩ := s.broadcast_ends rounds resent (if rounds ≥ 3 then failed.map (·.val) else []) us
  refine ⟨_, congrArg Host.Outcome.next (if_pos h), hphase, hprog, hrounds, hresent, fun hlt => ?_, fun hge k hk hon => ?_⟩
  · rw [if_neg (by omega)]
    rfl
  · rw [if_pos hge]
    exact s.broadcast_fences rounds resent us (List.mem_map_of_mem hk) hon

/-- Settles O60: each command of bring-up by its phase, the fuses by what they fix, curing by the counts of its maps, the broadcast by the
bricks it fences. -/
theorem bringUp : Obligations.BringUp := by
  unfold Obligations.BringUp
  refine ⟨⟨fuseRead_settled, fun s x y us => ?_⟩, fun s => ?_, fun s => ?_⟩
  · refine ⟨fun h hfirst => ?_, fun h hfirst hother => ?_, fun h hfirst hother => ?_, exec_firmware_idle,
      fun x _ hempty hhead hvendor hcustomer hsvn hbody => State.slotState_valid hempty hhead hvendor hcustomer hsvn hbody,
      fun h => ⟨exec_bootSrc_early h, fun h1 hstuck => ⟨_, _, exec_bootSrc_low h1 hstuck, rfl⟩⟩, fun h high => exec_bootSrc_late high h⟩
    · exact (exec_firmware_open h).trans (congrArg Host.Outcome.next (s.verifySlots_runs x y us hfirst))
    · exact (exec_firmware_open h).trans (congrArg Host.Outcome.next (s.verifySlots_falls x y us hfirst hother))
    · obtain ⟨hstuck, hphase, hrings⟩ := s.verifySlots_sticks x y us hfirst hother
      exact ⟨_, exec_firmware_open h, hstuck, hphase.trans (State.inPhase_phase h.1), hrings⟩
  · refine ⟨fun r us => ⟨fun h => congrArg Host.Outcome.next (if_pos h), fun h => congrArg Host.Outcome.next (if_neg (by simp [h]))⟩,
      fun r us hf hb hl hn hs h => ⟨_, congrArg Host.Outcome.next (if_pos h), State.cured_full us hf hb hl hn hs⟩,
      fun r us h hdead => ⟨_, congrArg Host.Outcome.next (if_pos h), s.cured_dead r us hdead⟩,
      fun r us h => congrArg Host.Outcome.next (if_neg (by simp [h])), broadcast_settled s⟩
  · refine ⟨fun us h hclock hrole => ?_, fun us => exec_ready_idle, fun r x y t => ⟨fun h hsrc hstuck => ?_, fun h => ?_, fun h => ?_,
      fun h => ?_, fun h => ?_⟩⟩
    · obtain ⟨hphase, hprog, hpos, hr⟩ := ready_rd s us
      exact ⟨_, exec_ready_done h hclock hrole, hphase, hprog, hpos, hr, rfl⟩
    · exact ⟨_, by omega, by omega, exec_phaseLimit_firmware r x y t h hsrc hstuck⟩
    · have h1 : s.inPhase 1 = false := State.inPhase_other (by rw [State.inPhase_phase h]; decide)
      rw [exec_phaseLimit_later r x y t h1, if_pos h]
      exact (congrArg Host.Outcome.next (if_pos h)).symm
    · have hne : ∀ k, k ≠ 3 → s.inPhase k = false := fun k hk => State.inPhase_other (by rw [State.inPhase_phase h]; exact Ne.symm hk)
      rw [exec_phaseLimit_later r x y t (hne 1 (by decide)), if_neg (by simp [hne]), if_pos h]
      exact (congrArg Host.Outcome.next (if_pos h)).symm
    · have hne : ∀ k, k ≠ 4 → s.inPhase k = false := fun k hk => State.inPhase_other (by rw [State.inPhase_phase h]; exact Ne.symm hk)
      rw [exec_phaseLimit_later r x y t (hne 1 (by decide)), if_neg (by simp [hne]), if_neg (by simp [hne]), if_pos h]
    · simp only [List.mem_cons, List.not_mem_nil, or_false, not_or] at h
      obtain ⟨h1, h2, h3, h4⟩ := h
      rw [exec_phaseLimit_later r x y t (State.inPhase_other h1), if_neg (by simp [State.inPhase_other h2]),
        if_neg (by simp [State.inPhase_other h3]), if_neg (by simp [State.inPhase_other h4])]

end Sys2Proof

/-! SUPPORT. Batches of the table gather (R245, R250-R255). -/

namespace Sys2Proof.Machine

/-! ### What a batch leaves -/

/-- A fold of steps each of which keeps a part keeps that part. -/
theorem foldl_keeps {α β γ : Type} (g : β → γ) {f : β → α → β} (h : ∀ b a, g (f b a) = g b) (l : List α) (b : β) :
    g (l.foldl f b) = g b := by
  induction l generalizing b with
  | nil => rfl
  | cons a l ih => exact (ih _).trans (h b a)

/-- The batches outstanding and the number of the next. -/
def State.batchBook (s : State) : Map Batch × Nat := (s.batches, s.batchNext)

theorem State.fetchRow_batchBook (s : State) (st slot row : Nat) : (s.fetchRow st slot row).batchBook = s.batchBook := by
  unfold State.fetchRow
  dsimp only
  split
  · rfl
  · split <;> rfl

theorem State.fetchBatch_batchBook (s : State) (st : Nat) (pairs : List (Nat × Nat)) : (s.fetchBatch st pairs).batchBook = s.batchBook := by
  refine (foldl_keeps State.batchBook (fun s p => ?_) _ _).trans (foldl_keeps State.batchBook
    (f := fun s (p : Nat × Nat) => s.bump (Obj.tableIndexFaults p.1)) (fun s p => rfl) _ s)
  split
  · rfl
  · exact s.fetchRow_batchBook ..

theorem State.watch_batchBook (s : State) (w : Nat) (c : Counts) : (s.watch w c).batchBook = s.batchBook := by
  unfold State.watch
  dsimp only
  split <;> rfl

theorem State.countNarrow_batchBook (s : State) (plan stream chunk tensor : Nat) (c : Counts) :
    (s.countNarrow plan stream chunk tensor c).batchBook = s.batchBook := by
  refine foldl_keeps State.batchBook (fun s w => ?_) _ _
  split
  · exact s.watch_batchBook ..
  · rfl

/-! ### Rows -/

/-- One row of weight one in its own format is copied (R252). -/
theorem State.lookup_copy (s : State) (t : Table) (r : Nat) (h : tableFormatOf t.header ≠ 6) :
    s.lookup t [(r, 0x3F800000)] (tableFormatOf t.header) = (s.tableRow t r, {}) := by
  have hcopy : ((0x3F800000#32 : F32) == 0x3F800000#32 && tableFormatOf t.header != 6 &&
      tableFormatOf t.header == tableFormatOf t.header) = true := by simp [h]
  exact (if_pos hcopy).trans (congrArg (fun row => (row, ({} : Counts))) (List.append_nil (s.tableRow t r)))

theorem State.tableRow_past (s : State) (t : Table) {r : Nat} (h : tableRowCount t.header ≤ r) :
    s.tableRow t r = List.replicate (tableRowLen t.header) 0 := if_pos h

/-! ### The batches of a ring in order -/

/-- Replacing the value of a key that stands keeps the order of the table. -/
theorem Map.put_standing {α : Type} (m : Map α) {lo k : Nat} {v : α} (w : α) (hm : Map.sortedFrom lo m = true) (h : m.find k = some v) :
    m.put k w = List.map (fun e => if e.1 = k then (k, w) else e) m ∧ ∀ e ∈ (m : List (Nat × α)), e.1 = k → e.2 = v := by
  induction m generalizing lo with
  | nil => cases h
  | cons e m ih =>
    obtain ⟨i, x⟩ := e
    simp only [Map.sortedFrom, Bool.and_eq_true, decide_eq_true_eq] at hm
    have hrest : i = k → ∀ e ∈ (m : List (Nat × α)), e.1 ≠ k := fun hik => by
      have hkeys : ∀ (m : Map α) (lo : Nat), Map.sortedFrom lo m = true → ∀ e ∈ (m : List (Nat × α)), lo ≤ e.1 := by
        intro m
        induction m with
        | nil => simp
        | cons e m ih =>
          intro lo hs y hy
          obtain ⟨j, z⟩ := e
          simp only [Map.sortedFrom, Bool.and_eq_true, decide_eq_true_eq] at hs
          rcases List.mem_cons.1 hy with rfl | hy
          · exact hs.1
          · exact Nat.le_of_lt (Nat.lt_of_le_of_lt hs.1 (ih _ hs.2 y hy))
      exact fun e he => by
        have := hkeys m (i + 1) hm.2 e he
        omega
    by_cases hik : i = k
    · subst hik
      have hx : x = v := by simpa [Map.find] using h
      refine ⟨?_, ?_⟩
      · rw [Map.put, if_pos rfl, List.map_cons, if_pos rfl]
        exact congrArg _ ((List.map_congr_left (fun e he => if_neg (hrest rfl e he))).trans (List.map_id m)).symm
      · intro e he hek
        rcases List.mem_cons.1 he with rfl | he
        · exact hx
        · exact absurd hek (hrest rfl e he)
    · have hki : k ≠ i := Ne.symm hik
      rw [Map.find, if_neg hki] at h
      have hlt : ¬k < i := fun hlt => by rw [if_pos hlt] at h; cases h
      rw [if_neg hlt] at h
      obtain ⟨hput, hval⟩ := ih hm.2 h
      refine ⟨?_, ?_⟩
      · rw [Map.put, if_neg hki, if_neg hlt, hput, List.map_cons, if_neg hik]
      · intro e he hek
        rcases List.mem_cons.1 he with rfl | he
        · exact absurd hek hik
        · exact hval e he hek

/-- The machine with the rows of a batch arrived. -/
def State.rowsArrived (s : State) (batch : Nat) (b : Batch) : State :=
  { s with batches := s.batches.put batch { b with arrived := true } }

theorem execRowFetchDone_eq {s : State} {batch : Nat} {b : Batch} (h : s.batches.find batch = some b) :
    execRowFetchDone batch s = .next (State.deliverBatches b.ring
      (List.filter (fun e => e.2.ring == b.ring) (s.rowsArrived batch b).batches) (s.rowsArrived batch b)) := by
  unfold execRowFetchDone
  rw [h]
  rfl

/-- The batches of a ring after the rows of one of them have arrived. -/
theorem rowsArrived_mine {s : State} {batch : Nat} {b : Batch} (hwf : s.batches.wf = true) (h : s.batches.find batch = some b) :
    List.filter (fun e => e.2.ring == b.ring) (s.rowsArrived batch b).batches =
      (List.filter (fun e => e.2.ring == b.ring) s.batches).map (fun e => if e.1 = batch then (batch, { b with arrived := true }) else e) := by
  obtain ⟨hput, hval⟩ := Map.put_standing s.batches { b with arrived := true } hwf h
  show List.filter (fun e => e.2.ring == b.ring) (s.batches.put batch { b with arrived := true }) = _
  rw [hput, List.filter_map]
  refine congrArg _ (List.filter_congr (fun e he => ?_))
  show ((if e.1 = batch then (batch, { b with arrived := true }) else e).2.ring == b.ring) = (e.2.ring == b.ring)
  split
  · rw [hval e he ‹_›]
  · rfl

/-- What a lookup makes: its output row, what narrowing counted, and its tensor. -/
def State.lookupOut (s : State) (l : Lookup) : (Bytes × Counts) × Nat :=
  match s.tables.find l.slot.val with
  | some t => (s.lookup t l.pairs l.outFormat.toNat, l.tensor)
  | none => (([], {}), l.tensor)

theorem State.lookupOut_row (s : State) (l : Lookup) :
    (s.lookupOut l).1.1 = ((s.tables.find l.slot.val).map (fun t => (s.lookup t l.pairs l.outFormat.toNat).1)).getD [] := by
  cases h : s.tables.find l.slot.val <;> simp only [State.lookupOut, h] <;> rfl

/-- The machine with the rows of a batch asked for and its tensors counted. -/
def State.batchAsked (s : State) (n plan counter st : Nat) (lookups : List Lookup) : State :=
  (lookups.map s.lookupOut).foldl (fun s o => s.countNarrow plan n counter o.2 o.1.2)
    (s.fetchBatch st (lookups.flatMap (fun l => l.pairs.map (fun p => (l.slot.val, p.1)))))

theorem State.batchAsked_batchBook (s : State) (n plan counter st : Nat) (lookups : List Lookup) :
    (s.batchAsked n plan counter st lookups).batchBook = s.batchBook :=
  (foldl_keeps State.batchBook (f := fun s (o : (Bytes × Counts) × Nat) => s.countNarrow plan n counter o.2 o.1.2)
    (fun s _ => s.countNarrow_batchBook ..) _ _).trans (s.fetchBatch_batchBook ..)

/-- A batch joins those outstanding. -/
def State.addBatch (s : State) (b : Batch) : State := { s with batches := s.batches.put s.batchNext b, batchNext := s.batchNext + 1 }

/-- The image of the plan that a ring's stream is bound to. -/
def State.ringImage (s : State) (n : Nat) : Bytes := ((s.plans.find (s.rd (Obj.streamPlan n))).map (·.image)).getD []

theorem execGatherLookup_eq {s : State} {n : RingId} {stage : Fin 8} {lookups : List Lookup} {c : Cmd} (hc : s.activeChunk n.val = some c)
    (hok : s.batchOk lookups = true) (hon : s.gatherOn (stackOfStage (s.ringImage n.val) stage.val) = true)
    (hstage : stage.val < planStages (s.ringImage n.val)) :
    ∃ poison, execGatherLookup n stage lookups s = .next ((s.batchAsked n.val (s.rd (Obj.streamPlan n.val)) c.counter
      (stackOfStage (s.ringImage n.val) stage.val) lookups).addBatch
        ⟨n.val, c.counter, stage.val, (lookups.map s.lookupOut).map (·.1.1), poison, false⟩) := by
  have hskip : ¬((!s.batchOk lookups || !s.gatherOn (stackOfStage (s.ringImage n.val) stage.val)
      || decide (planStages (s.ringImage n.val) ≤ stage.val)) = true) := by
    simp [hok, hon, hstage]
  unfold execGatherLookup
  dsimp only
  rw [hc]
  exact ⟨_, congrArg Host.Outcome.next (if_neg hskip)⟩

theorem State.batchOk_of {s : State} {lookups : List Lookup} (h1 : 1 ≤ lookups.length) (h256 : lookups.length ≤ 256)
    (hall : ∀ l ∈ lookups, (s.tables.find l.slot.val).isSome = true ∧ 1 ≤ l.pairs.length ∧ l.pairs.length ≤ 16 ∧
      outputFormat l.outFormat.toNat = true) : s.batchOk lookups = true := by
  have hsome : ∀ {α : Type} {l : List α}, 1 ≤ l.length → l.isEmpty = false := fun {α l} h => by
    cases l with
    | nil => cases h
    | cons => rfl
  have hlookups : lookups.all (fun l => (s.tables.find l.slot.val).isSome && !l.pairs.isEmpty && decide (l.pairs.length ≤ 16) &&
      outputFormat l.outFormat.toNat) = true := List.all_eq_true.2 (fun l hl => by
    obtain ⟨htable, hp1, hp16, hfmt⟩ := hall l hl
    simp [htable, hsome hp1, hp16, hfmt])
  rw [State.batchOk, hsome h1, decide_eq_true h256, hlookups]
  rfl

theorem addBatch_spec {s u : State} (h : u.batchBook = s.batchBook) (b : Batch) :
    (u.addBatch b).batches.find s.batchNext = some b ∧ (u.addBatch b).batchNext = s.batchNext + 1 ∧
    ∀ k, k ≠ s.batchNext → (u.addBatch b).batches.find k = s.batches.find k := by
  obtain ⟨hb, hn⟩ := Prod.mk.inj h
  show (u.batches.put u.batchNext b).find s.batchNext = some b ∧ u.batchNext + 1 = _ ∧
    ∀ k, _ → (u.batches.put u.batchNext b).find k = _
  rw [hb, hn]
  exact ⟨Map.find_put_self .., rfl, fun k hk => Map.find_put_ne _ _ hk⟩

/-! ### Delivery of the oldest batch -/

/-- The rows of a batch as packets of its ring. -/
def Batch.packets (b : Batch) : List (Nat × List Nat) := b.rows.map (fun r => (b.ring, (chunks 8 r).map ofLE))

section
variable {s : State} {k n : Nat} {b : Batch} {c : Cmd} {es : List (Nat × Batch)}

theorem batch_not_over (hc : s.cmd n b.counter = some c) (hfinal : c.final = none) :
    ¬((((s.cmd n b.counter).bind (·.final)).isSome || (s.cmd n b.counter).isNone) = true) := by
  simp [hc, hfinal]

theorem deliver_waits (hc : s.cmd n b.counter = some c) (hfinal : c.final = none) (harrived : b.arrived = false) :
    State.deliverBatches n ((k, b) :: es) s = s :=
  (if_neg (batch_not_over hc hfinal)).trans (if_pos (by simp [harrived]))

theorem deliver_poisoned {p : Nat × Nat} (hc : s.cmd n b.counter = some c) (hfinal : c.final = none) (harrived : b.arrived = true)
    (hp : b.poison = some p) : State.deliverBatches n ((k, b) :: es) s =
      ({ s with batches := s.batches.del k }).poisonHalt n b.counter c.saved p.1 p.2 := by
  refine (if_neg (batch_not_over hc hfinal)).trans ((if_neg (by simp [harrived])).trans ?_)
  dsimp only
  rw [hp, hc]
  exact rfl

theorem deliver_pushed {t : State} (hc : s.cmd n b.counter = some c) (hfinal : c.final = none) (harrived : b.arrived = true)
    (hp : b.poison = none) (ht : State.pushPackets n b.counter (s.linkJoints (s.rd (Obj.streamPlan n)) b.stage)
      (b.rows.map (fun r => (n, (chunks 8 r).map ofLE))) s = some t) :
    State.deliverBatches n ((k, b) :: es) s = State.deliverBatches n es { t with batches := t.batches.del k } := by
  refine (if_neg (batch_not_over hc hfinal)).trans ((if_neg (by simp [harrived])).trans ?_)
  dsimp only
  rw [hp]
  dsimp only
  rw [ht]

theorem deliver_full {key : Nat} {rest : List Nat} (hc : s.cmd n b.counter = some c) (hfinal : c.final = none) (harrived : b.arrived = true)
    (hp : b.poison = none) (ht : State.pushPackets n b.counter (s.linkJoints (s.rd (Obj.streamPlan n)) b.stage)
      (b.rows.map (fun r => (n, (chunks 8 r).map ofLE))) s = none)
    (hkeys : s.linkJoints (s.rd (Obj.streamPlan n)) b.stage = key :: rest) :
    State.deliverBatches n ((k, b) :: es) s = s.jointWait key n := by
  refine (if_neg (batch_not_over hc hfinal)).trans ((if_neg (by simp [harrived])).trans ?_)
  dsimp only
  rw [hp]
  dsimp only
  rw [ht, hkeys]
  exact rfl

end

end Sys2Proof.Machine

namespace Sys2Proof
open Machine

theorem gatherLookup_settled (s : State) (n : RingId) (stage : Fin 8) (lookups : List Lookup) (c : Cmd) (hc : s.activeChunk n.val = some c)
    (hstage : stage.val < planStages (s.ringImage n.val)) (hon : s.gatherOn (stackOfStage (s.ringImage n.val) stage.val) = true)
    (h1 : 1 ≤ lookups.length) (h256 : lookups.length ≤ 256)
    (hall : ∀ l ∈ lookups, (s.tables.find l.slot.val).isSome = true ∧ 1 ≤ l.pairs.length ∧ l.pairs.length ≤ 16 ∧
      outputFormat l.outFormat.toNat = true) :
    ∃ t b, exec (.gatherLookup n stage lookups) s = .next t ∧ t.batches.find s.batchNext = some b ∧ b.ring = n.val ∧
      b.counter = c.counter ∧ b.stage = stage.val ∧
      b.rows = lookups.map (fun l => ((s.tables.find l.slot.val).map (fun t => (s.lookup t l.pairs l.outFormat.toNat).1)).getD []) ∧
      b.arrived = false ∧ t.batchNext = s.batchNext + 1 ∧ ∀ k, k ≠ s.batchNext → t.batches.find k = s.batches.find k := by
  obtain ⟨poison, hexec⟩ := execGatherLookup_eq hc (State.batchOk_of h1 h256 hall) hon hstage
  obtain ⟨hfind, hnext, hother⟩ := addBatch_spec (s.batchAsked_batchBook n.val (s.rd (Obj.streamPlan n.val)) c.counter
    (stackOfStage (s.ringImage n.val) stage.val) lookups) ⟨n.val, c.counter, stage.val, (lookups.map s.lookupOut).map (·.1.1), poison, false⟩
  refine ⟨_, _, hexec, hfind, rfl, rfl, rfl, ?_, rfl, hnext, hother⟩
  exact (List.map_map ..).trans (List.map_congr_left (fun l _ => s.lookupOut_row l))

/-- Settles O39: a batch by what it leaves, its delivery by the oldest of its ring, a copied row by its one pair. -/
theorem gatherBatches : Obligations.GatherBatches := by
  unfold Obligations.GatherBatches
  refine ⟨fun s n stage lookups c hc => gatherLookup_settled s n stage lookups c hc, fun s batch b hwf hb => ⟨fun c hc hfinal hmine => ?_, ?_⟩,
    fun s t r out hout hne => ?_⟩
  · have hone := (rowsArrived_mine hwf hb).trans (congrArg _ hmine)
    rw [List.map_cons, if_pos rfl] at hone
    have hexec := (execRowFetchDone_eq hb).trans (congrArg (fun l => Host.Outcome.next (State.deliverBatches b.ring l _)) hone)
    refine ⟨fun hp => ⟨fun t ht => ?_, fun ht key rest hkeys => ?_⟩, fun p hp => ?_⟩
    · exact hexec.trans (congrArg Host.Outcome.next (deliver_pushed (b := { b with arrived := true }) hc hfinal rfl hp ht))
    · exact hexec.trans (congrArg Host.Outcome.next (deliver_full (b := { b with arrived := true }) hc hfinal rfl hp ht hkeys))
    · exact hexec.trans (congrArg Host.Outcome.next (deliver_poisoned (b := { b with arrived := true }) hc hfinal rfl hp))
  · intro j x rest c hmine hj hx hc hfinal
    have hring : x.ring = b.ring := by
      have hmem : (j, x) ∈ List.filter (fun e : Nat × Batch => e.2.ring == b.ring) s.batches := hmine ▸ List.mem_cons_self ..
      simpa using (List.mem_filter.1 hmem).2
    have hfirst := (rowsArrived_mine hwf hb).trans (congrArg _ hmine)
    rw [List.map_cons, if_neg hj] at hfirst
    have hexec := (execRowFetchDone_eq hb).trans (congrArg (fun l => Host.Outcome.next (State.deliverBatches b.ring l _)) hfirst)
    rw [hring] at hc
    exact hexec.trans (congrArg Host.Outcome.next (deliver_waits (s := s.rowsArrived batch b) hc hfinal hx))
  · subst hout
    exact ⟨s.lookup_copy t r hne, s.tableRow_past t⟩

end Sys2Proof

/-! SUPPORT. Management sessions: how they open and what their requests do (R104-R115). -/

namespace Sys2Proof.Machine

/-! ### Datagrams and their sessions -/

/-- A datagram that meets an empty queue is taken at once. -/
theorem accessAs_datagram {s : State} {d : Datagram} {row : Row} (ha : s.accepts d = true) (hrx : s.rx = []) (hrow : messageRow d.body = row) :
    s.accessAs row (.mgmt d false) true = s.datagram d true := by
  have hmine : (s.rowOf (.mgmt d false) == row) = true := by
    rw [beq_iff_eq]
    exact hrow
  rw [State.accessAs, if_pos hmine]
  refine (if_neg (by simp [ha])).trans ((if_neg ?_).trans (if_neg ?_)) <;> rw [hrx] <;> decide

/-- The checks that a datagram is a message of the protocol. -/
structure IsRequest (d : Datagram) : Prop where
  magic : field d.body 0 2 = 0x6084
  version : field d.body 2 1 = 1
  request : bit (field d.body 5 1) 0 = false

theorem datagram_opens {s : State} {d : Datagram} (h : IsRequest d) (ht : field d.body 3 1 = 1) (ok : Bool) :
    s.datagram d ok = s.openSession d :=
  (if_neg (by simp [h.magic, h.version])).trans ((if_neg (by simp [h.request])).trans (if_pos (by simp [ht])))

section
variable {s : State} {d : Datagram} {k : Fin 8} {m : Mgmt}

/-- A request to an open session is judged by its source, then by its trailer. -/
theorem datagram_session (h : IsRequest d) (ht : field d.body 3 1 ≠ 1) (hk : field d.body 4 1 = k.val)
    (hm : (s.session (66 + k.val)).mgmt = some m) (ok : Bool) :
    (¬(m.ip = d.ip.toNat ∧ m.port = d.port.toNat) → s.datagram d ok = s.bump Obj.rxDropped) ∧
    (m.ip = d.ip.toNat ∧ m.port = d.port.toNat → (¬ ∀ key, m.key = some key → trailerOk key d.body = true) →
      s.datagram d ok = s.bump Obj.macFailures) ∧
    (m.ip = d.ip.toNat ∧ m.port = d.port.toNat → (∀ key, m.key = some key → trailerOk key d.body = true) →
      s.datagram d ok = s.mgmtInOrder (66 + k.val) m d ok) := by
  have hheld : (if field d.body 4 1 < 8 then (s.session (66 + field d.body 4 1)).mgmt else none) = some m := by
    rw [hk, if_pos k.isLt, hm]
  unfold State.datagram
  dsimp only
  rw [if_neg (by simp [h.magic, h.version]), if_neg (by simp [h.request]), if_neg (by simpa using ht), hheld, hk]
  refine ⟨fun hsrc => if_pos ?_, fun ⟨hip, hport⟩ hbad => (if_neg (by simp [hip, hport])).trans ?_,
    fun ⟨hip, hport⟩ hgood => (if_neg (by simp [hip, hport])).trans ?_⟩
  · simp only [Bool.or_eq_true, bne_iff_ne]
    by_cases hip : m.ip = d.ip.toNat
    · exact .inr fun hport => hsrc ⟨hip, hport⟩
    · exact .inl hip
  · cases hkey : m.key with
    | none => exact absurd (fun key h => by rw [hkey] at h; cases h) hbad
    | some key =>
      refine if_neg (fun htrail => hbad (fun key' h => ?_))
      rw [hkey] at h
      cases h
      exact htrail
  · cases hkey : m.key with
    | none => exact rfl
    | some key => exact if_pos (hgood key hkey)

/-! ### Requests in sequence (R110) -/

/-- The session's record once it has taken a request in sequence. -/
def Mgmt.took (m : Mgmt) (seq now : Nat) : Mgmt := { m with seq := seq, fresh := false, idle := now }

/-- The machine once a session has taken a request in sequence. -/
def State.requested (s : State) (i : Nat) (m : Mgmt) (seq : Nat) : State :=
  s.setSession i { s.session i with mgmt := some (m.took seq s.clk.frames) }

/-- The session's record with the answer it keeps. -/
def Mgmt.keeping (m : Mgmt) (msg : Bytes) : Mgmt := { m with response := msg }

/-- The machine whose session keeps an answer. -/
def State.keepAnswer (s : State) (i : Nat) (m : Mgmt) (msg : Bytes) : State :=
  s.setSession i { s.session i with mgmt := some (m.keeping msg) }

/-- The answer to a request. -/
def answerOf (type k seq code : Nat) (body : Bytes) (key : Option Bytes) : Bytes :=
  mgmtMessage type k seq code (if code == 0 || type == 5 then body else []) key

theorem seq_next_ne {seq last : Nat} (h : seq = (last + 1) % 65536) : seq ≠ last := by omega

/-- The machine once a request has been acted on and answered: an open session keeps its answer. -/
def State.answerRequest (t : State) (i : Nat) (held : Option Bytes) (d : Datagram) (code : Nat) (body : Bytes) : State :=
  let msg := answerOf (field d.body 3 1) (i - 66) (field d.body 6 2) code body (held.or ((t.session i).mgmt.bind (·.key)))
  (match (t.session i).mgmt with
    | some n => t.keepAnswer i n msg
    | none => t).reply d msg

theorem mgmtInOrder_next {i : Nat} (hnext : field d.body 6 2 = (m.seq + 1) % 65536) {r : Nat × Bytes × State}
    (hact : (s.requested i m (field d.body 6 2)).mgmtAct i (field d.body 3 1) (m.took (field d.body 6 2) s.clk.frames) d.body
      (slice d.body 16 (field d.body 12 2)) true = r) :
    s.mgmtInOrder i m d true = r.2.2.answerRequest i m.key d r.1 r.2.1 := by
  obtain ⟨code, body, t⟩ := r
  unfold State.requested Mgmt.took at hact
  unfold State.mgmtInOrder
  dsimp only
  rw [if_neg (by simpa using seq_next_ne hnext), if_neg (by simp [← hnext]), hact]
  cases m.key <;> exact rfl

theorem mgmtInOrder_repeated {i : Nat} (h : field d.body 6 2 = m.seq) (ok : Bool) : s.mgmtInOrder i m d ok =
    (s.setSession i { s.session i with mgmt := some { m with idle := s.clk.frames } }).reply d m.response :=
  if_pos (by simp [h])

theorem mgmtInOrder_astray {i : Nat} (h : field d.body 6 2 ≠ m.seq) (h' : field d.body 6 2 ≠ (m.seq + 1) % 65536) (ok : Bool) :
    s.mgmtInOrder i m d ok = s.bump Obj.seqDiscards :=
  (if_neg (by simpa using h)).trans (if_pos (by simpa using h'))
end

/-- What an answered request leaves when the session is still open. -/
theorem answerRequest_open {t : State} {i : Nat} {n : Mgmt} (held : Option Bytes) (d : Datagram) (code : Nat) (body : Bytes)
    (hn : (t.session i).mgmt = some n) : let u := t.answerRequest i held d code body
    (u.session i).mgmt = some (n.keeping (answerOf (field d.body 3 1) (i - 66) (field d.body 6 2) code body (held.or n.key))) ∧
    (u.session i).level = (t.session i).level ∧ (u.session i).staged = (t.session i).staged ∧
    u.sent = t.sent ++ [.datagram d.toIp.toNat d.toPort.toNat d.ip.toNat d.port.toNat
      (answerOf (field d.body 3 1) (i - 66) (field d.body 6 2) code body (held.or n.key))] ∧
    u.dict = t.dict ∧ u.rings = t.rings ∧ u.hostMem = t.hostMem ∧ ∀ j, j ≠ i → u.session j = t.session j := by
  have heq : t.answerRequest i held d code body =
      (t.keepAnswer i n (answerOf (field d.body 3 1) (i - 66) (field d.body 6 2) code body (held.or n.key))).reply d
        (answerOf (field d.body 3 1) (i - 66) (field d.body 6 2) code body (held.or n.key)) := by
    simp only [State.answerRequest, hn, Option.bind_some]
  rw [heq]
  have hself : ∀ msg, ((t.keepAnswer i n msg).reply d msg).session i = { t.session i with mgmt := some (n.keeping msg) } :=
    fun msg => State.session_setSession_self ..
  refine ⟨?_, ?_, ?_, rfl, rfl, rfl, rfl, fun j hj => State.session_setSession_ne _ _ hj⟩ <;> rw [hself]

/-- What an answered request leaves when it has closed the session. -/
theorem answerRequest_closed {t : State} {i : Nat} (held : Option Bytes) (d : Datagram) (code : Nat) (body : Bytes)
    (hn : (t.session i).mgmt = none) : t.answerRequest i held d code body =
      t.reply d (answerOf (field d.body 3 1) (i - 66) (field d.body 6 2) code body held) := by
  simp only [State.answerRequest, hn, Option.bind_none, Option.or_none]

/-! ### A closed session -/

/-- What a session keeps when it closes. -/
def Session.closed (x : Session) : Session where
  pending := x.pending
  commitSeq := x.commitSeq
  lastResult := x.lastResult
  lastFailed := x.lastFailed
  lastPos := x.lastPos

theorem State.closeSession_spec (s : State) (i : Nat) : ((s.closeSession i).session i).mgmt = none ∧
    ((s.closeSession i).session i).level = 2 ∧ ((s.closeSession i).session i).staged = [] ∧
    ((s.closeSession i).session i).pending = (s.session i).pending ∧ ∀ j, j ≠ i → (s.closeSession i).session j = s.session j := by
  have hself : (s.closeSession i).session i = (s.session i).closed := State.session_setSession_self ..
  refine ⟨?_, ?_, ?_, ?_, fun j hj => State.session_setSession_ne _ _ hj⟩ <;> rw [hself] <;> rfl

/-! ### AUTH, STAGE and CLOSE -/

section
variable {s : State} {i type : Nat} {m : Mgmt} {dg body : Bytes}

theorem mgmtAct_auth (hh : firstAbort (headerChecks dg) = 0) : s.mgmtAct i 2 m dg body true = s.authBody i m body :=
  (if_neg (by simp [hh])).trans (if_pos rfl)

theorem mgmtAct_stage (hh : firstAbort (headerChecks dg) = 0) : s.mgmtAct i 5 m dg body true = s.stageBody i body :=
  (if_neg (by simp [hh])).trans ((if_neg (by decide)).trans ((if_neg (by decide)).trans rfl))

theorem mgmtAct_close (hh : firstAbort (headerChecks dg) = 0) : s.mgmtAct i 9 m dg [] true = (0, [], s.closeSession i) :=
  (if_neg (by simp [hh])).trans ((if_neg (by decide)).trans ((if_pos rfl).trans (if_pos rfl)))

/-- The key of the level that an AUTH asks for. -/
def State.levelKey (s : State) (level : Nat) : Bytes := leBytes 32 (s.rd (if level = 0 then Obj.keyL0 else Obj.keyL1))

/-- A session's record once it has been authenticated. -/
def Mgmt.authenticated (m : Mgmt) (ks : Bytes) : Mgmt := { m with authUsed := true, key := some ks }

/-- A session once it has been authenticated to a level. -/
def Session.authenticated (x : Session) (m : Mgmt) (level : Nat) (ks : Bytes) : Session :=
  { x with level := level, staged := [], mgmt := some (m.authenticated ks) }

/-- The codes of an AUTH to a level. -/
def State.sessionCodes (s : State) (k : Nat) (m : Mgmt) (level : Nat) : Bytes × Bytes × Bytes :=
  authCodes (s.levelKey level) m.nd m.nc (leBytes 6 (s.rd Obj.macAddr)) k level

theorem authBody_eq (hlen : body.length = 36) (hlevel : field body 0 1 ≤ 1) (hzero : field body 1 3 = 0) (hfirst : m.authUsed = false) :
    s.authBody i m body =
      if (allZero (s.levelKey (field body 0 1)) || slice body 4 32 != (s.sessionCodes (i - 66) m (field body 0 1)).1) = true then
        (Abort.notAuthenticated, [], (s.bump Obj.authFailures 1).closeSession i)
      else (0, (s.sessionCodes (i - 66) m (field body 0 1)).2.1, s.setSession i
        ((s.session i).authenticated m (field body 0 1) (s.sessionCodes (i - 66) m (field body 0 1)).2.2)) := by
  have hclear : firstAbort [(body.length != 36, Abort.sizeMismatch), (decide (field body 0 1 > 1), Abort.badEnum),
      (field body 1 3 != 0, Abort.reservedBits), (m.authUsed, Abort.wrongState)] = 0 := firstAbort_clear (by
    simp only [List.forall_mem_cons]
    exact ⟨by simp [hlen], by simpa using hlevel, by simp [hzero], hfirst, by simp⟩)
  have hkey : (if (field body 0 1 == 0) = true then Obj.keyL0 else Obj.keyL1) = if field body 0 1 = 0 then Obj.keyL0 else Obj.keyL1 :=
    ite_of_iff beq_iff_eq rfl rfl
  unfold State.authBody
  dsimp only
  rw [hclear, if_neg (by decide), hkey]
  rfl

/-- The entries of a STAGE. -/
def stagedEntries (body : Bytes) : List Bytes := (List.range (field body 0 1)).map (fun e => slice body (4 + 12 * e) 12)

theorem stageBody_clear (hlen : body.length = 4 + 12 * field body 0 1) (h1 : 1 ≤ field body 0 1) (h16 : field body 0 1 ≤ 16)
    (hzero : field body 1 3 = 0) : firstAbort [(body.length != 4 + 12 * field body 0 1, Abort.sizeMismatch),
      (field body 0 1 == 0, Abort.rangeLow), (decide (field body 0 1 > 16), Abort.rangeHigh), (field body 1 3 != 0, Abort.reservedBits)] = 0 :=
  firstAbort_clear (by
    simp only [List.forall_mem_cons]
    exact ⟨by simp [← hlen], by rw [beq_eq_false_iff_ne]; omega, by simpa using h16, by simp [hzero], by simp⟩)

theorem stageBody_ok {set : List (Nat × Nat)} (hlen : body.length = 4 + 12 * field body 0 1) (h1 : 1 ≤ field body 0 1)
    (h16 : field body 0 1 ≤ 16) (hzero : field body 1 3 = 0)
    (hset : s.stageEntries i (stagedEntries body) 0 (s.session i).staged = .ok set) :
    s.stageBody i body = (0, [0xFF, 0, 0, 0], s.setSession i { s.session i with staged := set }) := by
  unfold State.stageBody
  dsimp only
  rw [stageBody_clear hlen h1 h16 hzero, if_neg (by decide)]
  unfold stagedEntries at hset
  rw [hset]
  rfl

theorem stageBody_error {code e : Nat} (hlen : body.length = 4 + 12 * field body 0 1) (h1 : 1 ≤ field body 0 1)
    (h16 : field body 0 1 ≤ 16) (hzero : field body 1 3 = 0)
    (hset : s.stageEntries i (stagedEntries body) 0 (s.session i).staged = .error (code, e)) :
    s.stageBody i body = (code, leBytes 1 e ++ leBytes 3 0, s) := by
  unfold State.stageBody
  dsimp only
  rw [stageBody_clear hlen h1 h16 hzero, if_neg (by decide)]
  unfold stagedEntries at hset
  rw [hset]
end

/-! ### Requests that the port carries out -/

theorem RequestOpen.isRequest {s : State} {type : Nat} {k : Fin 8} {m : Mgmt} {d : Datagram} (h : RequestOpen s type k m d) :
    IsRequest d := ⟨h.magic, h.version, h.request⟩

theorem answerOf_kept {type code : Nat} (k seq : Nat) (body : Bytes) (key : Option Bytes) (h : code = 0 ∨ type = 5) :
    answerOf type k seq code body key = mgmtMessage type k seq code body key :=
  congrArg (mgmtMessage type k seq code · key) (if_pos (by simpa using h))

theorem answerOf_error {type code : Nat} (k seq : Nat) (body : Bytes) (key : Option Bytes) (h : code ≠ 0) (ht : type ≠ 5) :
    answerOf type k seq code body key = mgmtMessage type k seq code [] key :=
  congrArg (mgmtMessage type k seq code · key) (if_neg (by simp [h, ht]))

/-- A request in sequence on an open session is acted on and answered. -/
theorem request_taken {s : State} {type : Nat} {k : Fin 8} {m : Mgmt} {d : Datagram} {row : Row} (h : RequestOpen s type k m d) (ht : type ≠ 1)
    (hrow : messageRow d.body = row) {r : Nat × Bytes × State} {body : Bytes} (hbody : slice d.body 16 (field d.body 12 2) = body)
    (hact : (s.requested (66 + k.val) m (field d.body 6 2)).mgmtAct (66 + k.val) type (m.took (field d.body 6 2) s.clk.frames) d.body
      body true = r) :
    s.accessAs row (.mgmt d false) true = r.2.2.answerRequest (66 + k.val) m.key d r.1 r.2.1 := by
  rw [accessAs_datagram h.service h.queue hrow]
  subst hbody
  exact ((datagram_session h.isRequest (by rw [h.type]; exact ht) h.session h.held true).2.2 h.source h.trailer).trans
    (mgmtInOrder_next h.next (by rw [h.type]; exact hact))

theorem messageRow_auth {dg : Bytes} (h : field dg 3 1 = 2) : messageRow dg = .auth := by simp [messageRow, h]
theorem messageRow_stage {dg : Bytes} (h : field dg 3 1 = 5) : messageRow dg = .stage := by simp [messageRow, h]
theorem messageRow_close {dg : Bytes} (h : field dg 3 1 = 9) : messageRow dg = .close := by simp [messageRow, h]
theorem messageRow_open {dg : Bytes} (h : field dg 3 1 = 1) : messageRow dg = .mgmtOpen := by simp [messageRow, h]

section
variable {s : State} {k : Fin 8} {m : Mgmt} {d : Datagram}

/-- What a request leaves besides its session. -/
def OthersKept (s t : State) (i : Nat) : Prop := (∀ j, j ≠ i → t.session j = s.session j) ∧ t.rings = s.rings ∧ t.hostMem = s.hostMem

/-- The answer that a request brings. -/
def Answered (s t : State) (d : Datagram) (msg : Bytes) : Prop :=
  t.sent = s.sent ++ [.datagram d.toIp.toNat d.toPort.toNat d.ip.toNat d.port.toNat msg]

/-- A step that sets one session and leaves the rest that a request could touch. -/
structure SetsSession (s t : State) (i : Nat) (x : Session) : Prop where
  self : t.session i = x
  others : OthersKept s t i
  sent : t.sent = s.sent
  dict : t.dict = s.dict

theorem SetsSession.requested (s : State) (i : Nat) (m : Mgmt) (seq : Nat) :
    SetsSession s (s.requested i m seq) i { s.session i with mgmt := some (m.took seq s.clk.frames) } :=
  ⟨State.session_setSession_self .., ⟨fun _ hj => State.session_setSession_ne _ _ hj, rfl, rfl⟩, rfl, rfl⟩

theorem SetsSession.set {s t : State} {i : Nat} {x : Session} (h : SetsSession s t i x) (y : Session) : SetsSession s (t.setSession i y) i y := by
  obtain ⟨-, ⟨hj, hr, hm⟩, hsent, hdict⟩ := h
  exact ⟨State.session_setSession_self .., ⟨fun _ hne => (State.session_setSession_ne _ _ hne).trans (hj _ hne), hr, hm⟩, hsent, hdict⟩

/-- A request whose act sets its session anew. -/
theorem request_sets {t : State} {x : Session} {n : Mgmt} {code type : Nat} {body : Bytes} {i : Nat} (ht : field d.body 3 1 = type)
    (hset : SetsSession s t i x) (hn : x.mgmt = some n) (hok : code = 0 ∨ type = 5) :
    let u := t.answerRequest i m.key d code body
    let msg := mgmtMessage type (i - 66) (field d.body 6 2) code body (m.key.or n.key)
    (u.session i).mgmt = some (n.keeping msg) ∧ (u.session i).level = x.level ∧ (u.session i).staged = x.staged ∧
    Answered s u d msg ∧ u.dict = s.dict ∧ OthersKept s u i := by
  obtain ⟨hself, ⟨hkept, hkr, hkm⟩, hks, hkd⟩ := hset
  obtain ⟨hm, hlevel, hstaged, hsent, hdict, hrings, hmem, hothers⟩ :=
    answerRequest_open (t := t) (i := i) (n := n) m.key d code body (by rw [hself, hn])
  rw [ht, answerOf_kept _ _ _ _ hok] at hm hsent
  exact ⟨hm, hlevel.trans (congrArg _ hself), hstaged.trans (congrArg _ hself), hsent.trans (congrArg (· ++ _) hks), hdict.trans hkd,
    fun j hj => (hothers j hj).trans (hkept j hj), hrings.trans hkr, hmem.trans hkm⟩

/-- A request whose act closes the session. -/
theorem request_closes {u : State} (code : Nat) (body : Bytes) (i : Nat) (hothers : ∀ j, j ≠ i → u.session j = s.session j)
    (hsent : u.sent = s.sent) (hrings : u.rings = s.rings) (hmem : u.hostMem = s.hostMem) :
    let t := (u.closeSession i).answerRequest i m.key d code body
    let msg := answerOf (field d.body 3 1) (i - 66) (field d.body 6 2) code body m.key
    t = (u.closeSession i).reply d msg ∧ (t.session i).mgmt = none ∧ (t.session i).level = 2 ∧ (t.session i).staged = [] ∧
    (t.session i).pending = (u.session i).pending ∧ Answered s t d msg ∧ OthersKept s t i := by
  obtain ⟨hmgmt, hlevel, hstaged, hpending, hkept⟩ := u.closeSession_spec i
  have heq := answerRequest_closed m.key d code body hmgmt
  dsimp only
  rw [heq]
  exact ⟨rfl, hmgmt, hlevel, hstaged, hpending, congrArg (· ++ _) hsent, fun j hj => (hkept j hj).trans (hothers j hj), hrings, hmem⟩

end

end Sys2Proof.Machine

namespace Sys2Proof
open Machine

section
variable {s : State} {k : Fin 8} {m : Mgmt} {d : Datagram}

theorem auth_accepted {codes : Bytes × Bytes × Bytes} (h : RequestOpen s 2 k m d) {body : Bytes}
    (hbody : slice d.body 16 (field d.body 12 2) = body) (hlen : body.length = 36)
    (hlevel : field body 0 1 ≤ 1) (hzero : field body 1 3 = 0) (hfirst : m.authUsed = false)
    (hkey : allZero (s.levelKey (field body 0 1)) = false) (hcodes : s.sessionCodes k.val m (field body 0 1) = codes)
    (hmc : slice body 4 32 = codes.1) :
    ∃ t n, exec (.auth (.mgmt d false)) s = .next t ∧ (t.session (66 + k.val)).level = field body 0 1 ∧ (t.session (66 + k.val)).staged = [] ∧
      (t.session (66 + k.val)).mgmt = some n ∧ n.key = some codes.2.2 ∧ n.authUsed = true ∧ n.seq = field d.body 6 2 ∧
      Answered s t d (mgmtMessage 2 k.val (field d.body 6 2) 0 codes.2.1 (some (m.key.getD codes.2.2))) ∧ t.dict = s.dict ∧
      OthersKept s t (66 + k.val) := by
  have hact := (mgmtAct_auth (s := s.requested (66 + k.val) m (field d.body 6 2)) (i := 66 + k.val)
    (m := m.took (field d.body 6 2) s.clk.frames) (body := body) h.header).trans (authBody_eq hlen hlevel hzero hfirst)
  have hcodes' : (s.requested (66 + k.val) m (field d.body 6 2)).sessionCodes k.val (m.took (field d.body 6 2) s.clk.frames)
      (field body 0 1) = codes := hcodes
  have hopen : ¬((allZero (s.levelKey (field body 0 1)) || slice body 4 32 != codes.1) = true) := by
    rw [hkey, hmc]
    simp
  rw [Nat.add_sub_cancel_left, hcodes'] at hact
  have hexec := request_taken h (by decide) (messageRow_auth h.type) hbody (hact.trans (if_neg hopen))
  obtain ⟨hm, hlev, hst, hans, hdict, hothers⟩ := request_sets (s := s) (m := m) (d := d) (i := 66 + k.val) (code := 0) (body := codes.2.1)
    (x := ((s.requested (66 + k.val) m (field d.body 6 2)).session (66 + k.val)).authenticated (m.took (field d.body 6 2) s.clk.frames)
      (field body 0 1) codes.2.2) h.type ((SetsSession.requested ..).set _) rfl (.inl rfl)
  have hor : m.key.or (some codes.2.2) = some (m.key.getD codes.2.2) := by cases m.key <;> rfl
  rw [Nat.add_sub_cancel_left, show ((m.took (field d.body 6 2) s.clk.frames).authenticated codes.2.2).key = some codes.2.2 from rfl, hor] at hans
  exact ⟨_, _, congrArg Host.Outcome.next hexec, hlev, hst, hm, rfl, rfl, rfl, hans, hdict, hothers⟩

theorem auth_refused {codes : Bytes × Bytes × Bytes} (h : RequestOpen s 2 k m d) {body : Bytes}
    (hbody : slice d.body 16 (field d.body 12 2) = body) (hlen : body.length = 36)
    (hlevel : field body 0 1 ≤ 1) (hzero : field body 1 3 = 0) (hfirst : m.authUsed = false)
    (hcodes : s.sessionCodes k.val m (field body 0 1) = codes)
    (hbad : allZero (s.levelKey (field body 0 1)) = true ∨ slice body 4 32 ≠ codes.1) :
    ∃ t, exec (.auth (.mgmt d false)) s = .next t ∧ (t.session (66 + k.val)).mgmt = none ∧ (t.session (66 + k.val)).level = 2 ∧
      t.rd Obj.authFailures = Nat.min (s.rd Obj.authFailures + 1) (maxOf Obj.authFailures) ∧
      Answered s t d (mgmtMessage 2 k.val (field d.body 6 2) Abort.notAuthenticated [] m.key) ∧ OthersKept s t (66 + k.val) := by
  have hact := (mgmtAct_auth (s := s.requested (66 + k.val) m (field d.body 6 2)) (i := 66 + k.val)
    (m := m.took (field d.body 6 2) s.clk.frames) (body := body) h.header).trans (authBody_eq hlen hlevel hzero hfirst)
  have hcodes' : (s.requested (66 + k.val) m (field d.body 6 2)).sessionCodes k.val (m.took (field d.body 6 2) s.clk.frames)
      (field body 0 1) = codes := hcodes
  rw [Nat.add_sub_cancel_left, hcodes'] at hact
  have hshut : (allZero (s.levelKey (field body 0 1)) || slice body 4 32 != codes.1) = true := by simpa using hbad
  have hexec := request_taken h (by decide) (messageRow_auth h.type) hbody (hact.trans (if_pos hshut))
  obtain ⟨heq, hmgmt, hlev, -, -, hans, hothers⟩ := request_closes (s := s) (m := m) (d := d)
    (u := (s.requested (66 + k.val) m (field d.body 6 2)).bump Obj.authFailures 1) Abort.notAuthenticated [] (66 + k.val)
    (fun j hj => State.session_setSession_ne _ _ hj) rfl rfl rfl
  refine ⟨_, congrArg Host.Outcome.next hexec, hmgmt, hlev, ?_, ?_, hothers⟩
  · exact (congrArg (State.rd · Obj.authFailures) heq).trans (State.rd_bump_self ..)
  · rwa [h.type, Nat.add_sub_cancel_left, answerOf_error _ _ _ _ (by decide) (by decide)] at hans

theorem stage_taken (h : RequestOpen s 5 k m d) {body : Bytes} (hbody : slice d.body 16 (field d.body 12 2) = body)
    {code : Nat} {answer : Bytes} {t : State} {x : Session}
    (hact : (s.requested (66 + k.val) m (field d.body 6 2)).stageBody (66 + k.val) body = (code, answer, t))
    (ht : SetsSession s t (66 + k.val) x) (hx : x.mgmt = some (m.took (field d.body 6 2) s.clk.frames)) :
    ∃ t, exec (.stage (.mgmt d false)) s = .next t ∧ (t.session (66 + k.val)).staged = x.staged ∧
      Answered s t d (mgmtMessage 5 k.val (field d.body 6 2) code answer m.key) ∧ t.dict = s.dict ∧ OthersKept s t (66 + k.val) := by
  have hexec := request_taken h (by decide) (messageRow_stage h.type) hbody ((mgmtAct_stage h.header).trans hact)
  obtain ⟨-, -, hst, hans, hdict, hothers⟩ := request_sets (m := m) (d := d) (code := code) (body := answer) h.type ht hx (.inr rfl)
  have hor : m.key.or (m.took (field d.body 6 2) s.clk.frames).key = m.key := by
    show m.key.or m.key = m.key
    cases m.key <;> rfl
  rw [Nat.add_sub_cancel_left, hor] at hans
  exact ⟨_, congrArg Host.Outcome.next hexec, hst, hans, hdict, hothers⟩

theorem close_taken (h : RequestOpen s 9 k m d) (hbody : slice d.body 16 (field d.body 12 2) = []) :
    ∃ t, exec (.close (.mgmt d false)) s = .next t ∧ (t.session (66 + k.val)).mgmt = none ∧ (t.session (66 + k.val)).staged = [] ∧
      (t.session (66 + k.val)).level = 2 ∧ (t.session (66 + k.val)).pending = (s.session (66 + k.val)).pending ∧
      Answered s t d (mgmtMessage 9 k.val (field d.body 6 2) 0 [] m.key) ∧ t.dict = s.dict ∧ OthersKept s t (66 + k.val) := by
  have hexec := request_taken h (by decide) (messageRow_close h.type) hbody (mgmtAct_close h.header)
  obtain ⟨heq, hmgmt, hlev, hst, hpend, hans, hothers⟩ := request_closes (s := s) (m := m) (d := d)
    (u := s.requested (66 + k.val) m (field d.body 6 2)) 0 [] (66 + k.val)
    (fun j hj => State.session_setSession_ne _ _ hj) rfl rfl rfl
  rw [h.type, Nat.add_sub_cancel_left, answerOf_kept _ _ _ _ (.inl rfl)] at hans
  exact ⟨_, congrArg Host.Outcome.next hexec, hmgmt, hst, hlev,
    hpend.trans ((congrArg Session.pending (State.session_setSession_self ..)).trans rfl), hans, (congrArg State.dict heq).trans rfl, hothers⟩
end

/-- Settles O24: AUTH, STAGE and CLOSE by what their bodies do to the session, any other datagram by the check it fails. -/
theorem managementRequests : Obligations.ManagementRequests := by
  unfold Obligations.ManagementRequests
  refine ⟨fun s d k m type h => ⟨?_, ?_, ?_⟩, fun s d k m ha hrx hmagic hversion htype hk hreq hm => ?_⟩
  · rintro rfl hlen hlevel hzero hfirst
    exact ⟨fun hkey hmc => auth_accepted h rfl hlen hlevel hzero hfirst hkey rfl hmc,
      fun hbad => auth_refused h rfl hlen hlevel hzero hfirst rfl hbad⟩
  · rintro rfl hlen h1 h16 hzero
    have hset := SetsSession.requested s (66 + k.val) m (field d.body 6 2)
    have hself := hset.self
    have hstaged := congrArg (State.stageEntries (s.requested (66 + k.val) m (field d.body 6 2)) (66 + k.val)
      (stagedEntries (slice d.body 16 (field d.body 12 2))) 0) (congrArg Session.staged hself)
    exact ⟨fun set hok => stage_taken h rfl (stageBody_ok hlen h1 h16 hzero (hstaged.trans hok))
        (hset.set _) (congrArg Session.mgmt hself),
      fun code e herr _ => stage_taken (x := { s.session (66 + k.val) with mgmt := some (m.took (field d.body 6 2) s.clk.frames) }) h rfl
        (stageBody_error hlen h1 h16 hzero (hstaged.trans herr)) hset rfl⟩
  · rintro rfl hbody
    exact close_taken h hbody
  · have hd : IsRequest d := ⟨hmagic, hversion, hreq⟩
    obtain ⟨hstray, hforged, hmine⟩ := datagram_session hd (by rw [htype]; decide) hk hm true
    have hexec : exec (.stage (.mgmt d false)) s = .next (s.datagram d true) :=
      congrArg Host.Outcome.next (accessAs_datagram ha hrx (messageRow_stage htype))
    exact ⟨fun h => hexec.trans (congrArg Host.Outcome.next (hstray h)), fun h hbad => hexec.trans (congrArg Host.Outcome.next (hforged h hbad)),
      fun h hgood hne hne' => hexec.trans (congrArg Host.Outcome.next ((hmine h hgood).trans (mgmtInOrder_astray hne hne' true))),
      fun h hgood hseq => hexec.trans (congrArg Host.Outcome.next ((hmine h hgood).trans (mgmtInOrder_repeated hseq true)))⟩

end Sys2Proof

namespace Sys2Proof.Machine

/-! ### OPEN (R109) -/

section
variable {s : State} {d : Datagram}

/-- The session that an OPEN sets up. -/
def opened (d : Datagram) (now : Nat) (nd : Bytes) (k : Nat) : Mgmt :=
  { ip := d.ip.toNat, port := d.port.toNat, seq := field d.body 6 2, nc := slice d.body 16 (field d.body 12 2), nd := nd, fresh := true,
    authUsed := false, key := none, idle := now, response := mgmtMessage 1 k (field d.body 6 2) 0 nd none }

/-- A session once it has opened. -/
def Session.opened (x : Session) (m : Mgmt) : Session := { x with level := 2, mgmt := some m }

/-- Whether a session was opened by this OPEN. -/
def Mgmt.openedBy (m : Mgmt) (d : Datagram) : Bool :=
  m.fresh && m.ip == d.ip.toNat && m.port == d.port.toNat && m.nc == slice d.body 16 (field d.body 12 2)

/-- The first session that this OPEN opened. -/
def State.openedAlready (s : State) (d : Datagram) : Option Mgmt :=
  (List.range 8).findSome? (fun k => (s.session (66 + k)).mgmt.filter (fun m => m.openedBy d))

theorem openSession_eq (hclear : firstAbort (headerChecks d.body ++ [((slice d.body 16 (field d.body 12 2)).length != 16, Abort.sizeMismatch),
      (field d.body 4 1 != 255, Abort.badEnum)]) = 0) :
    (∀ m, s.openedAlready d = some m → s.openSession d = s.reply d m.response) ∧
    (s.openedAlready d = none → s.closedSession = none →
      s.openSession d = s.reply d (mgmtMessage 1 255 (field d.body 6 2) Abort.busy [] none)) ∧
    (∀ k, s.openedAlready d = none → s.closedSession = some k → s.openSession d =
      (s.entropy16.2.setSession (66 + k) ((s.session (66 + k)).opened (opened d s.clk.frames s.entropy16.1 k))).reply d
        (mgmtMessage 1 k (field d.body 6 2) 0 s.entropy16.1 none)) := by
  unfold State.openedAlready Mgmt.openedBy
  unfold State.openSession
  dsimp only
  rw [hclear, if_neg (by decide)]
  refine ⟨fun m hm => by rw [hm], fun hm hk => by rw [hm, hk], fun k hm hk => ?_⟩
  rw [hm, hk]
  exact rfl

theorem openedAlready_none (h : ∀ k m, ¬(k < 8 ∧ (s.session (66 + k)).mgmt = some m ∧ m.openedBy d = true)) : s.openedAlready d = none := by
  refine List.findSome?_eq_none_iff.2 (fun k hk => Option.filter_eq_none_iff.2 (fun m hm => ?_))
  exact fun ho => h k m ⟨List.mem_range.1 hk, hm, ho⟩

/-- Some session was opened by this OPEN when one was. -/
theorem openedAlready_some {k : Nat} {m : Mgmt} (hk : k < 8) (hm : (s.session (66 + k)).mgmt = some m) (ho : m.openedBy d = true) :
    ∃ j n, j < 8 ∧ (s.session (66 + j)).mgmt = some n ∧ n.openedBy d = true ∧ s.openedAlready d = some n := by
  have hsome : (s.openedAlready d).isSome = true := by
    rw [State.openedAlready, List.findSome?_isSome_iff]
    exact ⟨k, List.mem_range.2 hk, by simp [hm, ho]⟩
  obtain ⟨n, hn⟩ := Option.isSome_iff_exists.1 hsome
  obtain ⟨j, hj, hfilter⟩ := List.exists_of_findSome?_eq_some hn
  obtain ⟨hm', ho'⟩ := Option.filter_eq_some_iff.1 hfilter
  exact ⟨j, n, List.mem_range.1 hj, hm', ho', hn⟩

theorem closedSession_first {k : Nat} (hk : k < 8) (hnone : (s.session (66 + k)).mgmt = none)
    (hbusy : ∀ j, j < k → (s.session (66 + j)).mgmt ≠ none) : s.closedSession = some k := by
  refine List.find?_range_eq_some.2 ⟨by simp [hnone], List.mem_range.2 hk, fun j hj => ?_⟩
  simpa [Option.isSome_iff_ne_none] using hbusy j hj

theorem closedSession_none (h : ∀ j, j < 8 → (s.session (66 + j)).mgmt ≠ none) : s.closedSession = none :=
  List.find?_eq_none.2 (fun j hj => by simpa using h j (List.mem_range.1 hj))
end

end Sys2Proof.Machine

namespace Sys2Proof
open Machine

/-- Settles O23: an OPEN by whether a session took it before and which session is the first that is closed. -/
theorem managementOpen : Obligations.ManagementOpen := by
  unfold Obligations.ManagementOpen
  intro s d ha hrx dg hmagic hversion htype hsession hreq hheader hsize hlen p nc seq repeated
  have hbody : (slice d.body 16 (field d.body 12 2)) = nc := congrArg (fun n => (d.body.drop 16).take n) hsize
  have hclear : firstAbort (headerChecks d.body ++ [((slice d.body 16 (field d.body 12 2)).length != 16, Abort.sizeMismatch),
      (field d.body 4 1 != 255, Abort.badEnum)]) = 0 := firstAbort_clear (by
    intro e he
    rcases List.mem_append.1 he with he | he
    · exact hheader e he
    · have hnc : nc.length = 16 := by simp [nc, dg, hlen]
      simp only [List.mem_cons, List.not_mem_nil, or_false] at he
      rcases he with rfl | rfl
      · simp [hbody, hnc]
      · simpa using hsession)
  have hrep : ∀ k m, (k < 8 ∧ (s.session (66 + k)).mgmt = some m ∧ m.openedBy d = true) ↔ repeated k m := fun k m => by
    simp only [repeated, Mgmt.openedBy, hbody, Bool.and_eq_true, beq_iff_eq, and_assoc]
  have hexec : exec (.mgmtOpen p) s = .next (s.openSession d) := congrArg Host.Outcome.next
    ((accessAs_datagram ha hrx (messageRow_open htype)).trans (datagram_opens ⟨hmagic, hversion, hreq⟩ htype true))
  obtain ⟨hagain, hfull, hopen⟩ := openSession_eq (s := s) hclear
  refine ⟨fun hnew k hk hnone hbusy => ?_, fun hnew hall => ?_, fun k m hm hsame => ?_⟩
  · have hno := openedAlready_none (s := s) (d := d) (fun k m h => hnew k m ((hrep k m).1 h))
    have hself : ∀ (t : State) (x : Session) (msg : Bytes), ((t.setSession (66 + k) x).reply d msg).session (66 + k) = x :=
      fun t x msg => State.session_setSession_self ..
    refine ⟨_, opened d s.clk.frames s.entropy16.1 k, hexec.trans (congrArg Host.Outcome.next
      (hopen k hno (closedSession_first hk hnone hbusy))), ?_, ?_, rfl, rfl, rfl, hbody, rfl, rfl, rfl, rfl,
      fun j hj => State.session_setSession_ne _ _ hj, rfl, rfl⟩ <;> rw [hself] <;> rfl
  · exact hexec.trans (congrArg Host.Outcome.next (hfull (openedAlready_none (fun k m h => hnew k m ((hrep k m).1 h))) (closedSession_none hall)))
  · obtain ⟨hk, hheld, ho⟩ := (hrep k m).2 hm
    obtain ⟨j, n, hj, hn, hno, hfirst⟩ := openedAlready_some hk hheld ho
    rw [← hsame j n ((hrep j n).1 ⟨hj, hn, hno⟩)]
    exact hexec.trans (congrArg Host.Outcome.next (hagain n hfirst))

end Sys2Proof

/-! SUPPORT. Mailbox operations and their segments (R89-R92). -/

namespace Sys2Proof.Machine

/-! ### Mailbox operations -/

theorem padTo_self {n : Nat} {bs : Bytes} (h : bs.length = n) : padTo n bs = bs :=
  (padTo_take (Nat.le_of_eq h.symm)).trans (List.take_of_length_le (Nat.le_of_eq h))

section
variable {s : State} {page : Fin 66} {key : Nat} {write : Bool} {cmd mbox : BitVec 64} {desc buffer : Bytes}

/-- The checks of a mailbox operation, as the operation sees them. -/
def State.mailFaults (s : State) (page : Fin 66) (desc buffer : Bytes) : List (Bool × Nat) :=
  [(false, Abort.reservedBits)] ++ s.mboxChecks page.val desc (some buffer)

theorem mailFaults_clear (h : MailboxOpen s page key write cmd mbox desc buffer) :
    ∀ e ∈ (s.mailed page cmd mbox).mailFaults page desc buffer, e.1 = false := by
  intro e he
  rcases List.mem_append.1 he with he | he
  · rw [List.mem_singleton.1 he]
  · exact h.checks e he

/-- A mailbox operation that is open runs on the machine that has taken its registers. -/
theorem mboxAccess_open (h : MailboxOpen s page key write cmd mbox desc buffer) (ok : Bool) :
    s.mboxAccess page.val cmd.toNat mbox.toNat (some desc) (some buffer) ok =
      (s.mailed page cmd mbox).mboxRun page.val cmd.toNat desc (some buffer) [(false, Abort.reservedBits)] ok := by
  have hunread : firstAbort [(!(s.mailed page cmd mbox).mboxAllowed page.val rightRead mbox.toNat 32, Abort.protection),
      ((some desc).isNone || (s.mailed page cmd mbox).rd Obj.role == 4, Abort.mailboxFault)] = 0 := firstAbort_clear (by
    simp only [List.forall_mem_cons]
    refine ⟨?_, ?_, by simp⟩
    · exact congrArg Bool.not h.mine
    · exact (Bool.false_or _).trans (beq_eq_false_iff_ne.2 h.role))
  refine (if_neg (by simp [h.host, h.op])).trans ((if_neg (by simp [h.idle])).trans ?_)
  refine (if_neg (by rw [bne_iff_ne, ne_eq, Classical.not_not]; exact hunread)).trans ?_
  rw [padTo_self h.size, h.clean, h.base]
  rfl

theorem mboxRun_read (h : MailboxOpen s page key false cmd mbox desc buffer) (ok : Bool) {bytes : Bytes} {u : State} {code : Nat}
    (hr : (s.mailed page cmd mbox).segRead page.val (mboxSegment desc buffer) ((s.mailed page cmd mbox).mailFaults page desc buffer) =
      (code, bytes, u)) :
    (s.mailed page cmd mbox).mboxRun page.val cmd.toNat desc (some buffer) [(false, Abort.reservedBits)] ok =
      if code = 0 then (u.hostWrite (field desc 16 8) bytes).answered page cmd (some bytes.length)
      else u.barDone page.val (cmdTag cmd.toNat) code none := by
  have hdata : padTo (field desc 4 4) ((some buffer).getD []) = buffer := padTo_self h.whole
  unfold State.mailFaults at hr
  unfold State.mboxRun
  dsimp only
  rw [h.here, h.dir, hdata, if_neg (by decide), if_neg (by decide), hr]
  by_cases hc : code = 0
  · rw [if_pos hc, if_neg (by simp [hc])]
    rfl
  · rw [if_neg hc, if_pos (by simp [hc])]

theorem mboxRun_write (h : MailboxOpen s page key true cmd mbox desc buffer) (ok : Bool) {u : State} {code : Nat}
    (hr : (s.mailed page cmd mbox).segWrite page.val (mboxSegment desc buffer) ((s.mailed page cmd mbox).mailFaults page desc buffer) ok =
      (code, u)) :
    (s.mailed page cmd mbox).mboxRun page.val cmd.toNat desc (some buffer) [(false, Abort.reservedBits)] ok =
      if code = 0 then u.answered page cmd (some (field desc 4 4)) else u.barDone page.val (cmdTag cmd.toNat) code none := by
  have hdata : padTo (field desc 4 4) ((some buffer).getD []) = buffer := padTo_self h.whole
  unfold State.mailFaults at hr
  unfold State.mboxRun
  dsimp only
  rw [h.here, h.dir, hdata, if_neg (by decide), if_pos rfl, hr]
  by_cases hc : code = 0
  · rw [if_pos hc, if_pos (by simp [hc]), hc]
    rfl
  · rw [if_neg hc, if_neg (by simp [hc])]

/-- The row of a mailbox operation. -/
theorem rowOf_mailbox (h : MailboxOpen s page key write cmd mbox desc buffer) :
    s.rowOf (.mailbox page cmd mbox (some desc) (some buffer)) = segmentRow write (mboxLast desc) key :=
  (if_neg (by simp [h.here])).trans (by rw [h.dir, ← h.key]; rfl)

theorem accessAs_mailbox (h : MailboxOpen s page key write cmd mbox desc buffer) {row : Row}
    (hrow : segmentRow write (mboxLast desc) key = row) (ok : Bool) :
    s.accessAs row (.mailbox page cmd mbox (some desc) (some buffer)) ok =
      (s.mailed page cmd mbox).mboxRun page.val cmd.toNat desc (some buffer) [(false, Abort.reservedBits)] ok :=
  (if_pos (by rw [rowOf_mailbox h, hrow, beq_self_eq_true])).trans (mboxAccess_open h ok)

end

/-! ### Read segments (R90) -/

section
variable {s : State} {i : Nat} {g : Segment} {faults : List (Bool × Nat)} {r : ObjRow}

theorem segRead_ok {whole : Bytes} (hobj : s.object g.key = .ok r) (hacc : r.acc ≠ .wo) (hfaults : ∀ e ∈ faults, e.1 = false)
    (h : (g.first = true ∧ g.offset = 0 ∧ whole = s.bytesOf i g.key r) ∨
      (g.first = false ∧ (s.session i).snapshot = some (g.key, whole))) :
    s.segRead i g faults = (0, slice whole g.offset g.length,
      s.setSession i { s.session i with snapshot := if g.last then none else some (g.key, whole) }) := by
  have hacc' : (r.acc == .wo) = false := beq_eq_false_iff_ne.2 hacc
  have hclear : ∀ b, b = false → firstAbort ((r.acc == .wo, Abort.notReadable) :: (b, Abort.segmentSequence) :: faults) = 0 := fun b hb =>
    firstAbort_clear (by simp only [List.forall_mem_cons]; exact ⟨hacc', hb, hfaults⟩)
  unfold State.segRead
  rw [hobj]
  dsimp only
  rcases h with ⟨hfirst, hoff, rfl⟩ | ⟨hfirst, hsnap⟩
  · rw [hclear _ (by simp [hfirst, hoff]), if_neg (by decide), if_pos hfirst]
  · rw [hsnap, hclear _ (by simp [hfirst]), if_neg (by decide), if_neg (by simp [hfirst])]
    rfl

theorem segRead_stray (hobj : s.object g.key = .ok r) (hacc : r.acc ≠ .wo) (hfaults : ∀ e ∈ faults, e.1 = false)
    (hfirst : g.first = false) (h : ∀ whole, (s.session i).snapshot ≠ some (g.key, whole)) :
    s.segRead i g faults = (Abort.segmentSequence, [], s) := by
  have hacc' : (r.acc == .wo) = false := beq_eq_false_iff_ne.2 hacc
  have hcode : ∀ b, b = true → firstAbort ((r.acc == .wo, Abort.notReadable) :: (b, Abort.segmentSequence) :: faults) = Abort.segmentSequence :=
    fun b hb => by
      rw [hb, firstAbort_pass hacc']
      exact firstAbort_one (pre := []) (by simp) hfaults
  unfold State.segRead
  rw [hobj]
  dsimp only
  cases hsnap : (s.session i).snapshot with
  | none => rw [hcode _ (by simp [hfirst]), if_pos (by decide)]
  | some k =>
    obtain ⟨k, whole⟩ := k
    have hk : k ≠ g.key := fun hk => h whole (hk ▸ hsnap)
    rw [hcode _ (by simp [hfirst, hk]), if_pos (by decide)]

end

/-! ### Write segments (R91) -/

section
variable {s : State} {i : Nat} {g : Segment} {faults : List (Bool × Nat)} {r : ObjRow}

/-- The partial write that a segment goes on with. -/
def Segment.old (g : Segment) (held : Option Shadow) : Option Shadow :=
  if g.first then some ⟨g.key, g.total, []⟩ else held.filter (fun w => w.key == g.key)

/-- Whether a segment is out of sequence. -/
def Segment.astray (g : Segment) (old : Option Shadow) : Bool := old.isNone || g.offset != (old.map (fun w => w.data.length)).getD 0

/-- Whether a segment runs past the end of its object, or ends short of it. -/
def Segment.tooLong (g : Segment) (r : ObjRow) (old : Option Shadow) : Bool :=
  decide (g.offset + g.length > (old.map (fun w => w.total)).getD 0) ||
    (g.last && g.offset + g.length != (old.map (fun w => w.total)).getD 0) || decide ((old.map (fun w => w.total)).getD 0 > r.most)

/-- The bytes gathered with a segment. -/
def Segment.gathered (g : Segment) (old : Option Shadow) : Bytes := (old.map (fun w => w.data)).getD [] ++ g.data

/-- The checks of a write segment. -/
def State.segChecks (s : State) (i : Nat) (g : Segment) (r : ObjRow) (faults : List (Bool × Nat)) (astray tooLong : Bool) : List (Bool × Nat) :=
  faults ++ s.writeChecks i r ++
    [(r.ty != .domain && g.first && decide (g.total < r.ty.size), Abort.sizeMismatch),
     (g.first && s.heldElsewhere i g.key, Abort.domainBusy),
     (g.first && g.key == Obj.fwWrite && s.rd (Obj.progState updateRecord) == 1, Abort.busy),
     (astray, Abort.segmentSequence), (!astray && tooLong, Abort.segmentLength)]

/-- The machine with another partial write of a session. -/
def State.setShadow (s : State) (i : Nat) (w : Option Shadow) : State := s.setSession i { s.session i with shadow := w }

/-- The whole value that a last segment puts. -/
def State.putWhole (s : State) (i : Nat) (g : Segment) (r : ObjRow) (old : Option Shadow) (ok : Bool) : Nat × State :=
  if g.last && !g.astray old && !g.tooLong r old then
    (s.setShadow i none).put i g.key r (ofLE (g.gathered old)) (g.gathered old) ok
  else (0, s)

theorem segWrite_eq (hobj : s.object g.key = .ok r) (ok : Bool) {old : Option Shadow} (hold : g.old (s.session i).shadow = old) {code : Nat}
    (hcode : firstAbort (s.segChecks i g r faults (g.astray old) (g.tooLong r old) ++
      (if g.last && !g.astray old && !g.tooLong r old then
        ((s.putWhole i g r old ok).1 != 0, (s.putWhole i g r old ok).1) :: s.setChecks i g.key r (ofLE (g.gathered old)) else [])) = code) :
    s.segWrite i g faults ok =
      if (code != 0) = true then
        (code, if ((code == Abort.segmentSequence || code == Abort.segmentLength) && ((s.session i).shadow.map (·.key)) == some g.key) = true
          then s.setShadow i none else s)
      else if g.last = true then (0, (s.putWhole i g r old ok).2)
      else (0, s.setShadow i (some ⟨g.key, (old.map (fun w => w.total)).getD 0, g.gathered old⟩)) := by
  subst hold hcode
  unfold State.segWrite
  rw [hobj]
  rfl

/-- What a write segment needs besides its place in the sequence. -/
structure SegAllowed (s : State) (i : Nat) (g : Segment) (r : ObjRow) (faults : List (Bool × Nat)) : Prop where
  row : s.object g.key = .ok r
  faults : ∀ e ∈ faults, e.1 = false
  right : ∀ e ∈ s.writeChecks i r, e.1 = false
  size : g.first = true → r.ty = .domain ∨ r.ty.size ≤ g.total
  free : s.heldElsewhere i g.key = false
  idle : g.key = Obj.fwWrite → s.rd (Obj.progState updateRecord) ≠ 1

/-- Of the checks of an allowed segment none but those of its place can fail. -/
theorem SegAllowed.checks (h : SegAllowed s i g r faults) {astray tooLong : Bool} :
    ∃ pre, s.segChecks i g r faults astray tooLong =
      pre ++ [(astray, Abort.segmentSequence), (!astray && tooLong, Abort.segmentLength)] ∧ ∀ e ∈ pre, e.1 = false := by
  refine ⟨faults ++ s.writeChecks i r ++ [(r.ty != .domain && g.first && decide (g.total < r.ty.size), Abort.sizeMismatch),
     (g.first && s.heldElsewhere i g.key, Abort.domainBusy),
     (g.first && g.key == Obj.fwWrite && s.rd (Obj.progState updateRecord) == 1, Abort.busy)], ?_, fun e he => ?_⟩
  · rw [State.segChecks, List.append_assoc _ [_, _, _]]
    rfl
  rcases List.mem_append.1 he with he | he
  · rcases List.mem_append.1 he with he | he
    · exact h.faults e he
    · exact h.right e he
  · simp only [List.mem_cons, List.not_mem_nil, or_false] at he
    rcases he with rfl | rfl | rfl
    · cases hf : g.first with
      | false => simp
      | true => rcases h.size hf with hty | hsize
                · simp [hty]
                · simp [Nat.not_lt.2 hsize]
    · simp [h.free]
    · by_cases hk : g.key = Obj.fwWrite
      · simp [h.idle hk]
      · simp [hk]

theorem Segment.in_sequence {w : Shadow} (hoff : g.offset = w.data.length) : g.astray (some w) = false := by
  simp [Segment.astray, hoff]

theorem Segment.in_length {w : Shadow} (hoff : g.offset = w.data.length) (htotal : w.data.length + g.length ≤ w.total) (hmost : w.total ≤ r.most)
    (hlast : g.last = true → w.data.length + g.length = w.total) : g.tooLong r (some w) = false := by
  have hend : (g.last && w.data.length + g.length != w.total) = false := by
    cases hl : g.last with
    | false => rfl
    | true => simp [hlast hl]
  simp only [Segment.tooLong, Option.map_some, Option.getD_some, hoff]
  rw [hend, decide_eq_false (by omega), decide_eq_false (by omega)]
  rfl

/-- A segment in sequence gathers its bytes. -/
theorem segWrite_gathers {w : Shadow} (h : SegAllowed s i g r faults) (hold : g.old (s.session i).shadow = some w)
    (hoff : g.offset = w.data.length) (htotal : w.data.length + g.length ≤ w.total) (hmost : w.total ≤ r.most) (hlast : g.last = false)
    (ok : Bool) : s.segWrite i g faults ok = (0, s.setShadow i (some ⟨g.key, w.total, w.data ++ g.data⟩)) := by
  have hseq := Segment.in_sequence (g := g) hoff
  have hlen := Segment.in_length (r := r) hoff htotal hmost (fun hl => absurd (hlast.symm.trans hl) (by decide))
  obtain ⟨pre, hpre, hclear⟩ := h.checks (astray := false) (tooLong := false)
  refine (segWrite_eq h.row ok hold (code := 0) ?_).trans ((if_neg (by decide)).trans (if_neg (by simp [hlast])))
  rw [hseq, hlen, hlast, hpre, if_neg (by decide), List.append_nil]
  refine firstAbort_clear (fun e he => ?_)
  rcases List.mem_append.1 he with he | he
  · exact hclear e he
  · simp only [List.mem_cons, List.not_mem_nil, or_false] at he
    rcases he with rfl | rfl <;> rfl

/-- The last segment puts the whole value. -/
theorem segWrite_puts {w : Shadow} {u : State} (h : SegAllowed s i g r faults) (hold : g.old (s.session i).shadow = some w)
    (hoff : g.offset = w.data.length) (htotal : w.data.length + g.length = w.total) (hmost : w.total ≤ r.most) (hlast : g.last = true)
    (ok : Bool) (hset : ∀ e ∈ s.setChecks i g.key r (ofLE (w.data ++ g.data)), e.1 = false)
    (hput : (s.setShadow i none).put i g.key r (ofLE (w.data ++ g.data)) (w.data ++ g.data) ok = (0, u)) :
    s.segWrite i g faults ok = (0, u) := by
  have hseq := Segment.in_sequence (g := g) hoff
  have hlen := Segment.in_length (r := r) hoff (Nat.le_of_eq htotal) hmost (fun _ => htotal)
  have hwhole : (g.last && !g.astray (some w) && !g.tooLong r (some w)) = true := by rw [hlast, hseq, hlen]; rfl
  have hputs : s.putWhole i g r (some w) ok = (0, u) := (if_pos hwhole).trans hput
  obtain ⟨pre, hpre, hclear⟩ := h.checks (astray := false) (tooLong := false)
  refine (segWrite_eq h.row ok hold (code := 0) ?_).trans ((if_neg (by decide)).trans ((if_pos hlast).trans (by rw [hputs])))
  rw [if_pos hwhole, hseq, hlen, hpre, hputs]
  refine firstAbort_clear (fun e he => ?_)
  simp only [List.mem_append, List.mem_cons, List.not_mem_nil, or_false] at he
  rcases he with (he | rfl | rfl) | rfl | he
  · exact hclear e he
  · rfl
  · rfl
  · rfl
  · exact hset e he

/-- A segment out of sequence discards the partial write of its object. -/
theorem segWrite_stray (h : SegAllowed s i g r faults) (hfirst : g.first = false) (hlast : g.last = false)
    (hstray : ∀ w, (s.session i).shadow = some w → w.key ≠ g.key ∨ g.offset ≠ w.data.length) (ok : Bool) :
    s.segWrite i g faults ok =
      (Abort.segmentSequence, if (s.session i).shadow.map (·.key) = some g.key then s.setShadow i none else s) := by
  have hseq : g.astray (g.old (s.session i).shadow) = true := by
    rw [Segment.old, if_neg (by simp [hfirst])]
    cases hw : (s.session i).shadow with
    | none => rfl
    | some w =>
      by_cases hk : w.key = g.key
      · simp [Segment.astray, Option.filter, hk, (hstray w hw).resolve_left (not_not_intro hk)]
      · simp [Segment.astray, Option.filter, hk]
  obtain ⟨pre, hpre, hclear⟩ := h.checks (astray := true) (tooLong := g.tooLong r (g.old (s.session i).shadow))
  refine (segWrite_eq h.row ok rfl (code := Abort.segmentSequence) ?_).trans ((if_pos (by decide)).trans (congrArg _ ?_))
  · rw [hseq, hlast, hpre, if_neg (by simp), List.append_nil]
    exact firstAbort_one hclear (by simp)
  · exact ite_of_iff (by simp) rfl rfl

end

end Sys2Proof.Machine

namespace Sys2Proof
open Machine

theorem exec_segRead (p : Path) (s : State) : exec (.segRead p) s = .next (s.accessAs .segRead p true) := rfl

section
variable {s : State} {page : Fin 66} {key : Nat} {cmd mbox : BitVec 64} {desc buffer : Bytes} {r : ObjRow}

/-- Read segments by the snapshot they meet. -/
theorem mailbox_reads (h : MailboxOpen s page key false cmd mbox desc buffer) (hobj : (s.mailed page cmd mbox).object key = .ok r)
    (hacc : r.acc ≠ .wo) :
    (∀ whole, (mboxFirst desc = true ∧ field desc 8 4 = 0 ∧ whole = (s.mailed page cmd mbox).bytesOf page.val key r) ∨
        (mboxFirst desc = false ∧ ((s.mailed page cmd mbox).session page.val).snapshot = some (key, whole)) →
      exec (.segRead (.mailbox page cmd mbox (some desc) (some buffer))) s = .next
        ((((s.mailed page cmd mbox).setSession page.val { (s.mailed page cmd mbox).session page.val with
          snapshot := if mboxLast desc then none else some (key, whole) }).hostWrite (field desc 16 8)
            (slice whole (field desc 8 4) (field desc 4 4))).answered page cmd (some (slice whole (field desc 8 4) (field desc 4 4)).length))) ∧
    (mboxFirst desc = false → (∀ whole, ((s.mailed page cmd mbox).session page.val).snapshot ≠ some (key, whole)) →
      exec (.segRead (.mailbox page cmd mbox (some desc) (some buffer))) s =
        .next ((s.mailed page cmd mbox).barDone page.val (cmdTag cmd.toNat) Abort.segmentSequence none)) := by
  have hkey : (mboxSegment desc buffer).key = key := h.key
  have hexec := (exec_segRead _ s).trans (congrArg Host.Outcome.next (accessAs_mailbox h rfl true))
  refine ⟨fun whole hw => hexec.trans (congrArg Host.Outcome.next ?_), fun hfirst hno => hexec.trans (congrArg Host.Outcome.next ?_)⟩
  · have hread := segRead_ok (g := mboxSegment desc buffer) (whole := whole) (i := page.val) (by rw [hkey]; exact hobj) hacc
      (mailFaults_clear h) (by rw [hkey]; exact hw)
    rw [hkey] at hread
    exact (mboxRun_read h true hread).trans (if_pos rfl)
  · have hread := segRead_stray (g := mboxSegment desc buffer) (i := page.val) (by rw [hkey]; exact hobj) hacc
      (mailFaults_clear h) hfirst (by rw [hkey]; exact hno)
    exact (mboxRun_read h true hread).trans (if_neg (by decide))

theorem mailbox_allowed (h : MailboxOpen s page key true cmd mbox desc buffer) (hobj : (s.mailed page cmd mbox).object key = .ok r)
    (hright : ∀ e ∈ (s.mailed page cmd mbox).writeChecks page.val r, e.1 = false)
    (hsize : mboxFirst desc = true → r.ty = .domain ∨ r.ty.size ≤ field desc 12 4)
    (hfree : (s.mailed page cmd mbox).heldElsewhere page.val key = false)
    (hidle : key = Obj.fwWrite → (s.mailed page cmd mbox).rd (Obj.progState updateRecord) ≠ 1) :
    SegAllowed (s.mailed page cmd mbox) page.val (mboxSegment desc buffer) r ((s.mailed page cmd mbox).mailFaults page desc buffer) := by
  have hkey : (mboxSegment desc buffer).key = key := h.key
  exact ⟨by rw [hkey]; exact hobj, mailFaults_clear h, hright, hsize, by rw [hkey]; exact hfree, by rw [hkey]; exact hidle⟩

/-- A mailbox write by what its segment does. -/
theorem mailbox_writes (h : MailboxOpen s page key true cmd mbox desc buffer) {row : Row}
    (hrow : segmentRow true (mboxLast desc) key = row) {code : Nat} {u : State}
    (hr : (s.mailed page cmd mbox).segWrite page.val (mboxSegment desc buffer) ((s.mailed page cmd mbox).mailFaults page desc buffer) true =
      (code, u)) :
    s.accessAs row (.mailbox page cmd mbox (some desc) (some buffer)) true =
      if code = 0 then u.answered page cmd (some (field desc 4 4)) else u.barDone page.val (cmdTag cmd.toNat) code none :=
  (accessAs_mailbox h hrow true).trans (mboxRun_write h true hr)

/-- The partial write that a mailbox segment goes on with. -/
theorem mailbox_old (h : MailboxOpen s page key true cmd mbox desc buffer) {w : Shadow} (hw : (if mboxFirst desc then
      some ⟨key, field desc 12 4, []⟩ else ((s.mailed page cmd mbox).session page.val).shadow) = some w) (hk : w.key = key) :
    (mboxSegment desc buffer).old ((s.mailed page cmd mbox).session page.val).shadow = some w := by
  have hkey : (mboxSegment desc buffer).key = key := h.key
  rw [Segment.old, hkey]
  by_cases hf : mboxFirst desc = true
  · rw [if_pos hf] at hw
    exact (if_pos hf).trans hw
  · rw [if_neg hf] at hw
    refine (if_neg hf).trans ?_
    rw [hw]
    simp [Option.filter, hk]

end

/-- Settles O20: a segment read by the snapshot it meets, a segment written by the partial write that it goes on with. -/
theorem segments : Obligations.Segments := by
  unfold Obligations.Segments
  refine ⟨fun s page key cmd mbox desc buffer r h hobj hacc => ?_,
    fun s page key cmd mbox desc buffer r h hobj hright hfree hsize hidle => ?_⟩
  · obtain ⟨hok, hstray⟩ := mailbox_reads h hobj hacc
    exact ⟨fun hf ho => hok _ (.inl ⟨hf, ho, rfl⟩), fun hf whole hw => hok whole (.inr ⟨hf, hw⟩), hstray⟩
  · have hkey : (mboxSegment desc buffer).key = key := h.key
    have hallowed := mailbox_allowed h hobj hright hsize hfree hidle
    refine ⟨fun w hw hwk hoff htotal hmost => ⟨fun hlast => ?_, fun hlast htot hplain hset u hput => ?_⟩, fun hfirst hlast hstray => ?_⟩
    · have hseg := segWrite_gathers hallowed (mailbox_old h hw hwk) hoff htotal hmost hlast true
      rw [hkey] at hseg
      refine (congrArg Host.Outcome.next (mailbox_writes h (by rw [hlast]; rfl) hseg)).trans (congrArg Host.Outcome.next (if_pos rfl))
    · have hseg := segWrite_puts (u := u) hallowed (mailbox_old h hw hwk) hoff htot hmost hlast true (by rw [hkey]; exact hset)
        (by rw [hkey]; exact hput)
      refine (congrArg Host.Outcome.next (mailbox_writes h (by rw [hlast]; exact hplain) hseg)).trans
        (congrArg Host.Outcome.next (if_pos rfl))
    · have hseg := segWrite_stray hallowed hfirst hlast (by rw [hkey]; exact hstray) true
      rw [hkey] at hseg
      exact (congrArg Host.Outcome.next (mailbox_writes h (by rw [hlast]; rfl) hseg)).trans (congrArg Host.Outcome.next (if_neg (by decide)))

end Sys2Proof

/-! SUPPORT. Keys, updates, fuses and reports by one mailbox segment (R102, R522, R523, R527). -/

namespace Sys2Proof.Machine

/-- A session's own entry says nothing of the partial writes of others. -/
theorem State.heldElsewhere_setSession (s : State) (i key : Nat) (x : Session) :
    (s.setSession i x).heldElsewhere i key = s.heldElsewhere i key := by
  have hput : ∀ m : Map Session, List.any (m.put i x) (fun e => e.1 != i && (match e.2.shadow with
      | some w => w.key == key
      | none => false)) = List.any m (fun e => e.1 != i && (match e.2.shadow with
      | some w => w.key == key
      | none => false)) := by
    intro m
    induction m with
    | nil => simp [Map.put]
    | cons e m ih =>
      obtain ⟨j, y⟩ := e
      unfold Map.put
      split
      · subst_vars
        simp
      · split
        · simp
        · rw [List.any_cons, List.any_cons, ih]
  exact hput s.sessions

section
variable {s : State} {page : Fin 66} {key : Nat} {cmd mbox : BitVec 64} {desc buffer : Bytes} {r : ObjRow}

/-- An object that a mailbox segment acts on whole: a WO object of a level, of any value, that the segment's bytes fill. -/
structure ActsWhole (r : ObjRow) (level n : Nat) : Prop where
  acc : r.acc = .wo
  any : r.rng = .any
  type : r.ty = .domain ∨ r.ty = .oct n
  lvl : level ≤ r.lvl
  most : n ≤ r.most

theorem ActsWhole.values (t : State) {level n v : Nat} (h : ActsWhole r level n) (hkey : key / 256 ≠ 0x4110 ∧ key / 256 ≠ 0x4111) (i : Nat) :
    ∀ e ∈ t.setChecks i key r v, e.1 = false := by
  have hvalue : t.valueChecks key r v = [(false, Abort.reservedBits)] := by
    have hreserved : (key / 256 == 0x4110 || key / 256 == 0x4111) = false := by simp [hkey]
    unfold State.valueChecks
    dsimp only
    rw [h.any, hreserved, Bool.false_and]
    rcases h.type with hty | hty <;> rw [hty] <;> rfl
  intro e he
  rw [State.setChecks, h.acc, if_neg (by decide), hvalue] at he
  simp only [List.mem_append, List.mem_cons, List.not_mem_nil, or_false] at he
  rcases he with rfl | rfl <;> rfl

/-- Taking up a mailbox operation changes no session's level. -/
theorem levelOf_mailed (s : State) (page : Fin 66) (cmd mbox : BitVec 64) : (s.mailed page cmd mbox).levelOf page.val = s.levelOf page.val := by
  have h : ¬((decide (66 ≤ page.val) && decide (page.val < 74)) = true) := by
    have := page.isLt
    simp only [Bool.and_eq_true, decide_eq_true_eq]
    omega
  rw [State.levelOf, State.levelOf, if_neg h, if_neg h]

theorem mailbox_acts {row : Row} (h : MailboxOpen s page key true cmd mbox desc buffer) (hfirst : mboxFirst desc = true)
    (hlast : mboxLast desc = true) (hoff : field desc 8 4 = 0) (htotal : field desc 12 4 = buffer.length)
    (hfree : s.heldElsewhere page.val key = false) (hrow : writeRow key .segWrite = row) (hobj : (s.mailed page cmd mbox).object key = .ok r)
    (hacts : ActsWhole r (s.levelOf page.val) buffer.length) (hkey : key / 256 ≠ 0x4110 ∧ key / 256 ≠ 0x4111)
    (hidle : key = Obj.fwWrite → s.rd (Obj.progState updateRecord) ≠ 1) {u : State}
    (hact : ((s.mailed page cmd mbox).setShadow page.val none).action page.val key (ofLE buffer) buffer true = (0, u)) :
    s.accessAs row (.mailbox page cmd mbox (some desc) (some buffer)) true = u.answered page cmd (some buffer.length) := by
  have hright : ∀ e ∈ (s.mailed page cmd mbox).writeChecks page.val r, e.1 = false := by
    intro e he
    simp only [State.writeChecks, hacts.acc, anonymous_page, List.mem_cons, List.not_mem_nil, or_false] at he
    rcases he with rfl | rfl | rfl
    · rfl
    · exact decide_eq_false (Nat.not_lt.2 (Nat.le_trans (Nat.le_of_eq (levelOf_mailed s page cmd mbox)) hacts.lvl))
    · rfl
  have hsize : mboxFirst desc = true → r.ty = .domain ∨ r.ty.size ≤ field desc 12 4 := fun _ =>
    hacts.type.imp id (fun hty => by rw [hty, htotal]; exact Nat.le_refl _)
  have hallowed := mailbox_allowed h hobj hright hsize ((State.heldElsewhere_setSession ..).trans hfree) hidle
  have hn : (mboxSegment desc buffer).length = buffer.length := h.whole.symm
  have hseg := segWrite_puts (u := u) (w := ⟨key, field desc 12 4, []⟩) hallowed
    (mailbox_old h (if_pos hfirst) rfl) hoff (by rw [hn, htotal]; exact Nat.zero_add _) (by rw [htotal]; exact hacts.most) hlast true
    (hacts.values _ (by rw [show (mboxSegment desc buffer).key = key from h.key]; exact hkey) _)
    (by
      rw [show (mboxSegment desc buffer).key = key from h.key, State.put, hacts.acc]
      exact hact)
  refine (mailbox_writes h (by rw [hlast]; exact hrow) hseg).trans ((if_pos rfl).trans ?_)
  rw [← h.whole]

end

/-! ### Attestation (R527) -/

theorem reportBody_length (s : State) (nonce : Bytes) : (s.reportBody nonce).length = 96 := by
  have hpad : (padTo 32 nonce).length = 32 := by
    rw [padTo, List.length_take, List.length_append, List.length_replicate]
    omega
  simp only [State.reportBody, List.length_append, leBytes_length, hpad]

/-- The machine with a report counted. -/
def State.attested (s : State) : State :=
  let u := (s.lower Obj.bottomLeft 1).bump Obj.attestations
  if u.rd Obj.bottomLeft == 0 then u.burnLeaf else u

theorem State.attest_ok {s : State} (nonce : Bytes) (hstate : s.rd Obj.attestState = 1) (hleft : s.rd Obj.bottomLeft ≠ 0) :
    ∃ report, s.attest nonce = .ok (report, s.attested) ∧ report.take 96 = s.reportBody nonce := by
  refine ⟨s.reportBody nonce ++ padTo 5396 (Config.sign (s.root.topIndex.getD 0 * treeLeaves + (treeLeaves - s.rd Obj.bottomLeft))
    (s.reportBody nonce)), ?_, List.take_left' (reportBody_length s nonce)⟩
  exact (if_neg (by simp [hstate])).trans (if_neg (by simp [hstate, hleft]))

theorem State.rd_burnLeaf (s : State) : s.burnLeaf.rd Obj.bottomLeft = 0 ∧ s.burnLeaf.rd Obj.attestations = s.rd Obj.attestations := by
  unfold State.burnLeaf
  dsimp only
  split
  · exact ⟨State.rd_wr_self .., (State.rd_wr_ne _ _ (by decide)).trans (State.rd_wr_ne _ _ (by decide))⟩
  · refine ⟨State.rd_wr_self .., (State.rd_wr_ne _ _ (by decide)).trans ((State.rd_wr_ne _ _ (by decide)).trans
      ((State.rd_wr_ne _ _ (by decide)).trans rfl))⟩

theorem State.rd_attested (s : State) : s.attested.rd Obj.bottomLeft = s.rd Obj.bottomLeft - 1 ∧
    s.attested.rd Obj.attestations = Nat.min (s.rd Obj.attestations + 1) (maxOf Obj.attestations) := by
  have hleft : ((s.lower Obj.bottomLeft 1).bump Obj.attestations).rd Obj.bottomLeft = s.rd Obj.bottomLeft - 1 := by
    rw [State.rd_bump_ne _ _ (by decide), State.rd_lower, if_pos rfl]
  have hcount : ((s.lower Obj.bottomLeft 1).bump Obj.attestations).rd Obj.attestations =
      Nat.min (s.rd Obj.attestations + 1) (maxOf Obj.attestations) := by
    rw [State.rd_bump_self, State.rd_lower, if_neg (by decide)]
  unfold State.attested
  dsimp only
  split
  · rename_i hzero
    obtain ⟨hb, ha⟩ := ((s.lower Obj.bottomLeft 1).bump Obj.attestations).rd_burnLeaf
    exact ⟨hb.trans ((beq_iff_eq.1 hzero).symm.trans hleft), ha.trans hcount⟩
  · exact ⟨hleft, hcount⟩

theorem State.writeNonce_ok {s t : State} {i : Nat} {nonce report : Bytes} (h : s.attest nonce = .ok (report, t)) :
    s.writeNonce i nonce = (0, t.setSession i { t.session i with nonce := some nonce, report := report }) := by
  unfold State.writeNonce
  rw [h]

/-- The hash of the customer's key is fused when the running image bears it and none is fused yet (R523). -/
theorem State.fuseCustomer_ok {s : State} {hash : Bytes} (hsigned : countersigned s.root.running = true)
    (hhash : shaNat (slice s.root.running 120 56) = ofBE hash) (hnone : s.root.customer = none) :
    s.fuseCustomer hash = (0, ({ s with root := { s.root with customer := some (ofBE hash), fuses := s.root.fuses.map (fun (f : Fuses) =>
      { f with customerHash := some (ofBE hash) }) } } : State).wr Obj.customerKeyFused 1) :=
  (if_neg (by simp [hsigned, hhash])).trans (if_neg (by simp [hnone]))

end Sys2Proof.Machine

namespace Sys2Proof
open Machine

/-- Settles O21: each object is acted on whole by one segment, at its level. -/
theorem securityActions : Obligations.SecurityActions := by
  unfold Obligations.SecurityActions
  intro s page key cmd mbox desc buffer h hfirst hlast hoff htotal hfree t t' p answer
  have hlevel0 : page.val = 0 → s.levelOf page.val ≤ 0 := fun hp => by
    rw [hp]
    exact Nat.le_refl 0
  have hlevel1 : page.val < 2 → s.levelOf page.val ≤ 1 := fun hp => by
    rcases (by omega : page.val = 0 ∨ page.val = 1) with h | h <;> rw [h]
    · exact Nat.zero_le 1
    · exact Nat.le_refl 1
  have hsize : buffer.length ≤ 65536 := by
    have hlong : decide (field desc 4 4 > 65536) = false := 
      h.checks (decide (field desc 4 4 > 65536), Abort.rangeHigh) (.tail _ (.tail _ (.tail _ (.head _))))
    have := h.whole
    simp only [decide_eq_false_iff_not] at hlong
    omega
  refine ⟨?_, ?_, ?_, ?_, ?_⟩
  · rintro rfl hlen hp
    exact congrArg Host.Outcome.next (mailbox_acts (r := ⟨0x08, 1, .oct 32, .wo, 0, 0, .any⟩) h hfirst hlast hoff htotal hfree rfl
      (State.object_of (by decide) rfl rfl) ⟨rfl, rfl, .inr (by rw [hlen]), hlevel0 hp, by rw [hlen]; decide⟩ (by decide)
      (fun hk => absurd hk (by decide)) rfl)
  · rintro rfl hlen hp
    exact congrArg Host.Outcome.next (mailbox_acts (r := ⟨0x09, 1, .oct 32, .wo, 1, 0, .any⟩) h hfirst hlast hoff htotal hfree rfl
      (State.object_of (by decide) rfl rfl) ⟨rfl, rfl, .inr (by rw [hlen]), hlevel1 hp, by rw [hlen]; decide⟩ (by decide)
      (fun hk => absurd hk (by decide)) rfl)
  · rintro rfl hp hidle
    exact congrArg Host.Outcome.next (mailbox_acts (r := ⟨0x0B, 1, .domain, .wo, 0, 0, .any⟩) h hfirst hlast hoff htotal hfree rfl
      (State.object_of (by decide) rfl rfl) ⟨rfl, rfl, .inl rfl, hlevel0 hp, Nat.le_trans hsize (by decide)⟩ (by decide) (fun _ => hidle) rfl)
  · rintro rfl hlen hp hsigned hhash hnone
    exact congrArg Host.Outcome.next (mailbox_acts (r := ⟨0x0D, 1, .oct 32, .wo, 0, 0, .any⟩) h hfirst hlast hoff htotal hfree rfl
      (State.object_of (by decide) rfl rfl) ⟨rfl, rfl, .inr (by rw [hlen]), hlevel0 hp, by rw [hlen]; decide⟩ (by decide)
      (fun hk => absurd hk (by decide)) (State.fuseCustomer_ok (s := t') hsigned hhash hnone))
  · rintro rfl hlen hstate hleft
    obtain ⟨report, hattest, hbody⟩ := State.attest_ok (s := t') buffer hstate hleft
    obtain ⟨hb, ha⟩ := t'.rd_attested
    refine ⟨report, _, hattest, hbody, ha, hb, congrArg Host.Outcome.next (mailbox_acts (r := ⟨0x01, 1, .oct 32, .wo, 2, 0, .any⟩)
      h hfirst hlast hoff htotal hfree rfl (State.object_of (by decide) rfl rfl)
      ⟨rfl, rfl, .inr (by rw [hlen]), State.levelOf_page_le s page, by rw [hlen]; decide⟩ (by decide)
      (fun hk => absurd hk (by decide)) (State.writeNonce_ok hattest))⟩

end Sys2Proof

/-! SUPPORT. FEED, RENDER and FLUSH (R141, R142, R411-R413, R574). -/

namespace Sys2Proof.Machine

/-! ### A render to lanes (R412, R413) -/

/-- The member that a RENDER makes of its stream, before a cutoff of the ring ends it. -/
def State.laneMember (s : State) (n counter : Nat) (d : Bytes) (k : Nat) : Member :=
  { stream := n, counter := counter, group := s.rd (Obj.streamGroup n), first := field d 24 1, channels := field d 25 1, start := field d 16 8
    stop := field d 32 8, endAt := if field d 32 8 == 0 then s.knownEnd n (field d 16 8) else none
    joint := 64 * s.rd (Obj.groupHomeTile (s.rd (Obj.streamGroup n))) + k
    gain := 0, down := false, started := false, last := none, used := 0 }

/-- A member where the ring's input ends. -/
def Member.cutAt (m : Member) : Option Nat → Member
  | some e => m.endBy e
  | none => m

theorem Member.cutAt_keeps (m : Member) (e : Option Nat) : (m.cutAt e).stream = m.stream ∧ (m.cutAt e).counter = m.counter ∧
    (m.cutAt e).group = m.group ∧ (m.cutAt e).first = m.first ∧ (m.cutAt e).channels = m.channels ∧ (m.cutAt e).start = m.start ∧
    (e = none → (m.cutAt e).stop = m.stop) ∧ (m.cutAt e).joint = m.joint ∧ (m.cutAt e).started = m.started := by
  cases e with
  | none => exact ⟨rfl, rfl, rfl, rfl, rfl, rfl, fun _ => rfl, rfl, rfl⟩
  | some e =>
    unfold Member.cutAt Member.endBy
    dsimp only
    split <;> exact ⟨rfl, rfl, rfl, rfl, rfl, rfl, fun h => (by cases h), rfl, rfl⟩

/-- The words of a member's joint. -/
def State.laneWords (s : State) (n : Nat) (d : Bytes) : Nat := s.memberWords (s.rd (Obj.streamLead n)) (field d 25 1)

/-- The joint of a member. -/
def State.laneJoint (s : State) (n : Nat) (d : Bytes) : Joint :=
  { plan := s.rd (Obj.streamPlan n), link := 0, port := 0, maxPacket := s.laneWords n d, threshold := 0, reserve := s.laneWords n d
    limit := s.laneWords n d, idle := 0, group := some (s.rd (Obj.streamGroup n)) }

/-- A member of the same stream stops where a later one starts. -/
def Member.stopFor (x : Member) (n start : Nat) : Member := if x.stream == n then { x with stop := stopBefore x.stop start } else x

theorem Member.stopFor_own {x : Member} {n : Nat} (h : x.stream = n) (start : Nat) :
    x.stopFor n start = { x with stop := if x.stop = 0 then start else Nat.min x.stop start } := by
  rw [Member.stopFor, if_pos (beq_iff_eq.2 h), stopBefore]
  simp only [beq_iff_eq]

/-- The machine with a member and its joint. -/
def State.joinGroup (s : State) (at' : Nat) (j : Joint) (m : Member) : State :=
  { s with joints := s.joints.put at' j, members := s.members.map (fun x => x.stopFor m.stream m.start) ++ [m] }

/-- The machine with the members of a group counted. -/
def State.membersCounted (s : State) (g : Nat) : State := s.wr (Obj.groupMembers g) (s.members.filter (fun x => x.group == g)).length

theorem renderLane_joins {s : State} {n counter k : Nat} {d : Bytes}
    (hk : s.freeJoint (s.rd (Obj.groupHomeTile (s.rd (Obj.streamGroup n)))) = some k)
    (hroom : s.reservedWords (s.rd (Obj.groupHomeTile (s.rd (Obj.streamGroup n)))) + s.laneWords n d ≤ poolWords)
    (hon : s.tileOn (s.rd (Obj.groupHomeTile (s.rd (Obj.streamGroup n)))) = true) :
    s.renderLane n counter d = (s.joinGroup (64 * s.rd (Obj.groupHomeTile (s.rd (Obj.streamGroup n))) + k) (s.laneJoint n d)
      ((s.laneMember n counter d k).cutAt (s.ring n).cutoff)).membersCounted (s.rd (Obj.streamGroup n)) := by
  obtain ⟨hstream, -, -, -, -, hstart, -, -, -⟩ := (s.laneMember n counter d k).cutAt_keeps (s.ring n).cutoff
  unfold State.laneWords at hroom
  unfold State.joinGroup
  rw [hstream, hstart]
  unfold State.renderLane
  dsimp only
  rw [hk]
  refine (if_neg (by simp [hon]; omega)).trans ?_
  cases (s.ring n).cutoff <;> exact rfl

theorem renderLane_full {s : State} {n counter : Nat} {d : Bytes}
    (hk : s.freeJoint (s.rd (Obj.groupHomeTile (s.rd (Obj.streamGroup n)))) = none) :
    s.renderLane n counter d = s.finish n counter St.check none Chk.admission 0xFF := by
  unfold State.renderLane
  dsimp only
  rw [hk]
  rfl

/-- The machine whose stream's halt is shown no longer. -/
def State.haltUnshown (s : State) (n : Nat) : State :=
  s.wr (Obj.streamStreamFlags n) (setBit (s.rd (Obj.streamStreamFlags n)) 1 false)

theorem State.rd_haltUnshown (s : State) (n : Nat) {k : Nat} (h : k ≠ Obj.streamStreamFlags n) : (s.haltUnshown n).rd k = s.rd k :=
  State.rd_wr_ne _ _ h

theorem rd_haltUnshown_stream (s : State) (n : Nat) : (s.haltUnshown n).rd (Obj.streamGroup n) = s.rd (Obj.streamGroup n) ∧
    (s.haltUnshown n).rd (Obj.streamLead n) = s.rd (Obj.streamLead n) ∧ ∀ g, g < 64 →
      (s.haltUnshown n).rd (Obj.groupHomeTile g) = s.rd (Obj.groupHomeTile g) := by
  refine ⟨s.rd_haltUnshown n ?_, s.rd_haltUnshown n ?_, fun g hg => s.rd_haltUnshown n ?_⟩
  · simp only [Obj.streamGroup, Obj.streamStreamFlags]; omega
  · simp only [Obj.streamLead, Obj.streamStreamFlags]; omega
  · simp only [Obj.groupHomeTile, Obj.streamStreamFlags]; omega

theorem rd_haltUnshown_low (s : State) (n : Nat) {k : Nat} (h : k < 0x800000) : (s.haltUnshown n).rd k = s.rd k :=
  s.rd_haltUnshown n (by simp only [Obj.streamStreamFlags]; omega)

theorem laneWords_haltUnshown (s : State) (n : Nat) (d : Bytes) : (s.haltUnshown n).laneWords n d = s.laneWords n d := by
  obtain ⟨-, hlead, -⟩ := rd_haltUnshown_stream s n
  have hcourse : (s.haltUnshown n).courseLen = s.courseLen := congrArg (2 ^ ·) (rd_haltUnshown_low s n (by decide))
  simp only [State.laneWords, State.memberWords, State.memberPacket, hlead, hcourse]

end Sys2Proof.Machine

namespace Sys2Proof
open Machine

theorem exec_feed_starts {s t : State} {n : RingId} {c : Cmd} (h : Starts s n.val 2 c t) :
    exec (.feed n) s = .next (t.begin n.val c.counter .waiting) := by
  show execFeed n s = _
  unfold execFeed
  rw [h]

theorem exec_render_refused {s t : State} {n : RingId} {c : Cmd} {r : Refused} (h : Starts s n.val 3 c t)
    (hr : t.renderCheck n.val c.desc = some r) : exec (.render n) s = .next (t.refuse n.val c.counter r) := by
  show execRender n s = _
  unfold execRender
  dsimp only
  rw [h]
  dsimp only
  rw [hr]

theorem exec_render_passed {s t : State} {n : RingId} {c : Cmd} (h : Starts s n.val 3 c t)
    (hr : t.renderCheck n.val c.desc = none) : exec (.render n) s = .next (if (t.haltUnshown n.val).hostOutput n.val then
      (t.haltUnshown n.val).renderHost n.val c.counter c.desc else (t.haltUnshown n.val).renderLane n.val c.counter c.desc) := by
  show execRender n s = _
  unfold execRender
  dsimp only
  rw [h]
  dsimp only
  rw [hr]
  exact rfl

theorem exec_flush_starts {s t : State} {n : RingId} {c : Cmd} (h : Starts s n.val 4 c t) :
    exec (.flush n) s = .next (if (t.flushPackets n.val (field c.desc 16 8)).isEmpty then t.finishDone n.val c.counter else
      ({ t with joints := t.joints.mapV (fun k j => if (t.flushPackets n.val (field c.desc 16 8)).any (fun h => h.1 == k) then j.endPacket
        else j) }).mapCmd n.val c.counter (fun x => { x with flush := t.flushPackets n.val (field c.desc 16 8) })) := by
  show execFlush n s = _
  unfold execFlush
  dsimp only
  rw [h]

/-- Whether the packet of a flush has been taken. -/
def flushTaken (s : State) (h : Nat × Nat) : Bool :=
  match s.joints.find h.1 with
  | none => true
  | some j => j.taken h.2

theorem flushTaken_iff (s : State) (h : Nat × Nat) : flushTaken s h = true ↔ ∀ j, s.joints.find h.1 = some j → j.taken h.2 = true := by
  cases hj : s.joints.find h.1 <;> simp [flushTaken, hj]

theorem exec_flushDone_active {s : State} {n : RingId} {w : Cmd} (h : (s.ring n.val).cmds.find? (fun x => x.op == 4 && x.phase == .active) = some w) :
    exec (.flushDone n) s = .next (if w.flush.all (flushTaken s) then s.finishDone n.val w.counter else s) := by
  show execFlushDone n s = _
  unfold execFlushDone State.findCmd
  dsimp only
  rw [h]
  exact rfl

theorem renderLane_settled {s t : State} {n : RingId} {c : Cmd} (h : Starts s n.val 3 c t) (hr : t.renderCheck n.val c.desc = none)
    (hg : t.rd (Obj.streamGroup n.val) < 64) :
    exec (.render n) s = .next ((t.haltUnshown n.val).renderLane n.val c.counter c.desc) := by
  obtain ⟨hgroup, -, -⟩ := rd_haltUnshown_stream t n.val
  refine (exec_render_passed h hr).trans (congrArg Host.Outcome.next (if_neg ?_))
  rw [State.hostOutput, hgroup, beq_iff_eq]
  omega

/-- Settles O33: FEED by its start, RENDER by its checks and its group, FLUSH by the packets it meets. -/
theorem streamWork : Obligations.StreamWork := by
  unfold Obligations.StreamWork
  intro s n c t d g tile words shown hits
  refine ⟨fun h => exec_feed_starts h, fun h r hr => exec_render_refused h hr, fun h hr hg => ?_, fun h hr hg => ⟨fun k hk hon hroom => ?_, fun hk => ?_⟩,
    fun h => ⟨fun hnone => ?_, fun hsome => ?_⟩, fun w hw => ⟨fun hall => ?_, fun hex => ?_⟩⟩
  · obtain ⟨hgroup, -, -⟩ := rd_haltUnshown_stream t n.val
    refine (exec_render_passed h hr).trans (congrArg Host.Outcome.next (if_pos ?_))
    rw [State.hostOutput, hgroup, beq_iff_eq]
    exact hg
  · obtain ⟨hgroup, -, hhome⟩ := rd_haltUnshown_stream t n.val
    have htile : (t.haltUnshown n.val).rd (Obj.groupHomeTile ((t.haltUnshown n.val).rd (Obj.streamGroup n.val))) = tile := by
      rw [hgroup]
      exact hhome g hg
    have hwords : (t.haltUnshown n.val).laneWords n.val d = words := laneWords_haltUnshown t n.val d
    have hon' : (t.haltUnshown n.val).tileOn tile = true := by
      rw [State.tileOn, rd_haltUnshown_low t n.val (by decide)]
      exact hon
    have hjoin := renderLane_joins (s := t.haltUnshown n.val) (n := n.val) (counter := c.counter) (d := d)
      (by rw [htile]; exact hk) (by rw [htile, hwords]; exact hroom) (by rw [htile]; exact hon')
    rw [htile] at hjoin
    obtain ⟨hst, hco, hgr, hfi, hch, hsr, hstop, hjo, hsd⟩ := ((t.haltUnshown n.val).laneMember n.val c.counter d k).cutAt_keeps
      ((t.haltUnshown n.val).ring n.val).cutoff
    refine ⟨_, _, (renderLane_settled h hr hg).trans (congrArg Host.Outcome.next hjoin), List.getLast?_concat, hst, hco, hgr.trans hgroup,
      hfi, hch, hsr, hstop, hjo.trans (congrArg (64 * · + k) htile), hsd, fun x hx hxn => ?_,
      ⟨(t.haltUnshown n.val).laneJoint n.val d, Map.find_put_self .., hwords, hwords, rfl⟩, rfl, rfl⟩
    refine List.mem_append_left _ (List.mem_map.2 ⟨x, hx, ?_⟩)
    rw [hst, hsr]
    exact Member.stopFor_own hxn _
  · obtain ⟨hgroup, -, hhome⟩ := rd_haltUnshown_stream t n.val
    refine (renderLane_settled h hr hg).trans (congrArg Host.Outcome.next (renderLane_full ?_))
    rw [hgroup, hhome _ hg]
    exact hk
  · exact (exec_flush_starts h).trans (congrArg Host.Outcome.next (if_pos (by rw [List.isEmpty_iff]; exact hnone)))
  · exact (exec_flush_starts h).trans (congrArg Host.Outcome.next (if_neg (by rw [List.isEmpty_iff]; exact hsome)))
  · refine (exec_flushDone_active hw).trans (congrArg Host.Outcome.next (if_pos (List.all_eq_true.2 (fun x hx => ?_))))
    exact (flushTaken_iff s x).2 (hall x hx)
  · obtain ⟨x, hx, j, hj, hno⟩ := hex
    refine (exec_flushDone_active hw).trans (congrArg Host.Outcome.next (if_neg (fun hall => ?_)))
    exact absurd ((flushTaken_iff s x).1 (List.all_eq_true.1 hall x hx) j hj) (by simp [hno])

end Sys2Proof

/-! SUPPORT. PARK, WAKE and the moves of a stream's state (R295-R297, R300, R461). -/

namespace Sys2Proof.Machine

/-! ### A move begins -/

/-- What the record of a move shows as it starts. -/
theorem swapStart_rd (s : State) (n total : Nat) : (s.swapStart n total).rd (Obj.streamSwapState n) = 1 ∧
    (s.swapStart n total).rd (Obj.streamSwapTotal n) = total ∧
    (s.swapStart n total).rd (Obj.streamResidency n) = s.rd (Obj.streamResidency n) := by
  simp [State.swapStart, State.rd_wr, Obj.streamSwapState, Obj.streamSwapTotal, Obj.streamSwapPosition, Obj.streamSwapResult,
    Obj.streamResidency]

/-- A stream once its move out has begun. -/
def Stream.leaving (x : Stream) (tier addr : Nat) : Stream := { x with move := some ⟨1, false, tier, addr⟩, swapWas := none }

/-- A stream once its move in has begun. -/
def Stream.returning (x : Stream) (size : Nat) (parts : List (Nat × Nat)) : Stream :=
  { x with move := some ⟨2, false, 0, size⟩, wakeOrder := none, parts := parts }

theorem State.charge_keeps (s : State) (tier bytes : Nat) : (s.charge tier bytes).rings = s.rings ∧ (s.charge tier bytes).hostMem = s.hostMem ∧
    (∀ n, (s.charge tier bytes).stream n = s.stream n) := by
  unfold State.charge
  split <;> exact ⟨rfl, rfl, fun _ => rfl⟩

theorem State.choosePool_keeps (s : State) (tier size : Nat) : (s.choosePool tier size).2.rings = s.rings ∧
    (s.choosePool tier size).2.hostMem = s.hostMem := by
  unfold State.choosePool
  split <;> exact ⟨rfl, rfl⟩

/-- A move out begins where a tier has room (R295). -/
theorem moveOut_begins {s u : State} {n want : Nat} (h : s.moveOut n want = some u) :
    u.rd (Obj.streamResidency n) = 3 ∧ u.rd (Obj.streamSwapState n) = 1 ∧ u.rd (Obj.streamSwapTotal n) = s.recordSize n ∧
    (∃ tier addr, s.recordTier want (s.recordSize n) = some tier ∧ (u.stream n).move = some ⟨1, false, tier, addr⟩) ∧
    u.rings = s.rings ∧ u.hostMem = s.hostMem := by
  unfold State.moveOut at h
  dsimp only at h
  cases ht : s.recordTier want (s.recordSize n) with
  | none => rw [ht] at h; cases h
  | some tier =>
    rw [ht] at h
    obtain rfl := Option.some.inj h
    obtain ⟨hr, hm⟩ := s.choosePool_keeps tier (s.recordSize n)
    obtain ⟨hr', hm', -⟩ := (s.choosePool tier (s.recordSize n)).2.charge_keeps tier (s.recordSize n)
    obtain ⟨hstate, htotal, hres⟩ := swapStart_rd ((((s.choosePool tier (s.recordSize n)).2.charge tier (s.recordSize n)).setStream n
      ((((s.choosePool tier (s.recordSize n)).2.charge tier (s.recordSize n)).stream n).leaving tier
        (s.choosePool tier (s.recordSize n)).1)).wr (Obj.streamResidency n) 3) n (s.recordSize n)
    exact ⟨hres.trans (State.rd_wr_self ..), hstate, htotal, ⟨tier, (s.choosePool tier (s.recordSize n)).1, rfl,
      congrArg Stream.move (State.stream_setStream_self ..)⟩, hr'.trans hr, hm'.trans hm⟩

/-- A move in begins where slot, planes and pages have room (R296). -/
theorem moveIn_begins {s u : State} {n : Nat} (h : s.moveIn n = some u) :
    u.rd (Obj.streamResidency n) = 3 ∧ (u.stream n).wakeOrder = none ∧ u.rd (Obj.streamSwapState n) = 1 := by
  unfold State.moveIn at h
  dsimp only at h
  split at h
  · obtain ⟨v, -, rfl⟩ := Option.map_eq_some_iff.1 h
    obtain ⟨hstate, -, hres⟩ := swapStart_rd (((v.charge 0 (s.residentSize n)).setStream n
      (((v.charge 0 (s.residentSize n)).stream n).returning (s.residentSize n) (s.residentParts n))).wr (Obj.streamResidency n) 3) n
      (s.recordSize n)
    exact ⟨hres.trans (State.rd_wr_self ..), congrArg Stream.wakeOrder (State.stream_setStream_self ..), hstate⟩
  · cases h

/-! ### PARK and WAKE by the state they find (R295) -/

theorem runPark_resident {s : State} {n : Nat} (c : Cmd) (h : s.rd (Obj.streamResidency n) = 1) : s.runPark n c = s.tryPark n c :=
  if_pos (by simp [h])

theorem runPark_parked {s : State} {n : Nat} (c : Cmd) (h : s.rd (Obj.streamResidency n) = 2) :
    s.runPark n c = s.finish n c.counter St.done :=
  (if_neg (by simp [h])).trans (if_pos (by simp [h]))

theorem runPark_moving {s : State} {n : Nat} (c : Cmd) (h : s.rd (Obj.streamResidency n) = 3) {m : Move} (hm : (s.stream n).move = some m) :
    s.runPark n c = if m.dir != 2 then s.begin n c.counter .waiting
      else (s.setStream n { s.stream n with move := some { m with thenOut := true, tier := field c.desc 16 1 } }).begin n c.counter .waiting := by
  unfold State.runPark
  dsimp only
  rw [if_neg (by simp [h]), if_neg (by simp [h]), hm]

theorem tryPark_waits {s : State} {n : Nat} (c : Cmd) (h : s.pinned n = true ∨ s.stateSettled n = false) :
    s.tryPark n c = s.parkWait n c.counter :=
  if_pos (by simpa using h)

theorem tryPark_poisoned {s : State} {n : Nat} (c : Cmd) (hpin : s.pinned n = false) (hset : s.stateSettled n = true) {p : Nat × Nat}
    (hp : (s.readStop (s.moveReads n)).2 = some p) : s.tryPark n c = s.poisonHalt n c.counter c.saved p.1 p.2 := by
  unfold State.tryPark
  rw [if_neg (by simp [hpin, hset]), hp]

theorem tryPark_moves {s : State} {n : Nat} (c : Cmd) (hpin : s.pinned n = false) (hset : s.stateSettled n = true)
    (hp : (s.readStop (s.moveReads n)).2 = none) :
    (∀ u, s.moveOut n (field c.desc 16 1) = some u → s.tryPark n c = u.begin n c.counter .waiting) ∧
    (s.moveOut n (field c.desc 16 1) = none → s.tryPark n c = (s.finish n c.counter St.check none Chk.noRoom 16).swapBack n) := by
  unfold State.tryPark
  rw [if_neg (by simp [hpin, hset]), hp]
  exact ⟨fun u hu => by rw [hu], fun hu => by rw [hu]; exact rfl⟩

theorem rd_parkWait (s : State) (n counter : Nat) : (s.parkWait n counter).rd (Obj.streamSwapState n) = 5 :=
  State.rd_wr_self ..

/-- The PARKs of a stream that wait. -/
def State.parksWaiting (s : State) (n : Nat) : List Cmd := (s.ring n).cmds.filter (fun p => p.op == 6 && p.phase == .waiting)

theorem runWake_resident {s : State} {n : Nat} (c : Cmd) (h : s.rd (Obj.streamResidency n) = 1) :
    s.runWake n c = (((s.parksWaiting n).foldl (fun s p => s.finish n p.counter St.cancelled (some 0)) s).swapBack n).finish n c.counter St.done :=
  if_pos (by simp [h])

theorem runWake_parked {s : State} {n : Nat} (c : Cmd) (h : s.rd (Obj.streamResidency n) = 2) :
    (∀ p, (s.readStop (s.moveReads n)).2 = some p → s.runWake n c = s.poisonHalt n c.counter c.saved p.1 p.2) ∧
    ((s.readStop (s.moveReads n)).2 = none → ∀ u, s.moveIn n = some u → s.runWake n c = u.begin n c.counter .waiting) ∧
    ((s.readStop (s.moveReads n)).2 = none → s.moveIn n = none → s.runWake n c = (s.wakeWait n).begin n c.counter .waiting) := by
  unfold State.runWake
  dsimp only
  rw [if_neg (by simp [h]), if_pos (by simp [h])]
  exact ⟨fun p hp => by rw [hp], fun hp u hu => by rw [hp]; dsimp only; rw [hu], fun hp hu => by rw [hp]; dsimp only; rw [hu]⟩

theorem runWake_moving {s : State} {n : Nat} (c : Cmd) (h : s.rd (Obj.streamResidency n) = 3) {m : Move} (hm : (s.stream n).move = some m) :
    s.runWake n c = (if m.dir == 1 then s.setStream n { s.stream n with move := some { m with dir := 3 } } else s).begin n c.counter .waiting := by
  unfold State.runWake
  dsimp only
  rw [if_neg (by simp [h]), if_neg (by simp [h]), hm]

end Sys2Proof.Machine

namespace Sys2Proof
open Machine

theorem exec_park_begins {s t : State} {n : RingId} {c : Cmd} (h : Begins s n.val 6 c t) : exec (.park n) s = .next (t.runPark n.val c) := by
  show execPark n s = _
  unfold execPark
  rw [h]

theorem exec_wake_begins {s t : State} {n : RingId} {c : Cmd} (h : Begins s n.val 7 c t) : exec (.wake n) s = .next (t.runWake n.val c) := by
  show execWake n s = _
  unfold execWake
  rw [h]

/-- The WAKE that has waited longest begins when a slot is free. -/
theorem exec_wakeSlotTaken_first {s : State} {n : RingId} {o : Nat} (ho : (s.stream n.val).wakeOrder = some o)
    (hfirst : ∀ e ∈ s.streams, ∀ p, e.2.wakeOrder = some p → o ≤ p) (hp : (s.readStop (s.moveReads n.val)).2 = none) :
    exec (.wakeSlotTaken n) s = .next ((s.moveIn n.val).getD s) := by
  have hany : ¬(s.streams.any (fun e => match e.2.wakeOrder with
      | some p => decide (p < o)
      | none => false) = true) := by
    rw [List.any_eq_true]
    rintro ⟨e, he, hlt⟩
    cases hw : e.2.wakeOrder with
    | none => rw [hw] at hlt; cases hlt
    | some p =>
      rw [hw] at hlt
      have := hfirst e he p hw
      have : p < o := by simpa using hlt
      omega
  show execWakeSlotTaken n s = _
  unfold execWakeSlotTaken
  dsimp only
  rw [ho]
  refine congrArg Host.Outcome.next ((if_neg hany).trans ?_)
  rw [hp]

theorem exec_moveOutDone_out {s : State} {n : RingId} {m : Move} (hm : (s.stream n.val).move = some m) (h : m.dir = 1 ∨ m.dir = 3) :
    exec (.moveOutDone n) s = .next ((s.movedOut n.val m).retryWaiting n.val false) := by
  show execMoveOutDone n s = _
  unfold execMoveOutDone
  dsimp only
  rw [hm]
  exact congrArg Host.Outcome.next (if_pos (by simpa using h))

theorem exec_moveInDone_in {s : State} {n : RingId} {m : Move} (hm : (s.stream n.val).move = some m) (h : m.dir = 2) :
    exec (.moveInDone n) s = .next ((s.movedIn n.val m).retryWaiting n.val false) := by
  show execMoveInDone n s = _
  unfold execMoveInDone
  dsimp only
  rw [hm]
  exact congrArg Host.Outcome.next (if_pos (by simp [h]))

/-- Settles O34: PARK and WAKE by the residency that they find, the moves by what they begin with. -/
theorem streamMoves : Obligations.StreamMoves := by
  unfold Obligations.StreamMoves
  intro s n c t residency poison
  refine ⟨fun h => ⟨fun hres hpin hset hp => ?_, fun hres hpin hset p hp => ?_, fun hres hwait => ⟨?_, rd_parkWait ..⟩, fun hres => ?_,
      fun hres m hm => ⟨fun hdir => ?_, fun hdir => ?_⟩⟩,
    fun h => ⟨fun hres hnone => ?_, fun hres p hone => ?_, fun hres p hp => ?_, fun hres hp u hu => ?_, fun hres hp hu hw => ?_,
      fun hres m hm hdir => ?_⟩,
    fun h hres m hm hdir => ?_, fun want u hu => moveOut_begins hu, fun o ho hfirst hp => ⟨fun u hu => ?_, fun hu => ?_⟩,
    fun m hm => ⟨exec_moveOutDone_out hm, exec_moveInDone_in hm⟩⟩
  · have hexec := exec_park_begins h
    rw [runPark_resident c hres] at hexec
    obtain ⟨hmoves, hfull⟩ := tryPark_moves c hpin hset hp
    exact ⟨fun u hu => hexec.trans (congrArg Host.Outcome.next (hmoves u hu)), fun hu => hexec.trans (congrArg Host.Outcome.next (hfull hu))⟩
  · exact (exec_park_begins h).trans (congrArg Host.Outcome.next ((runPark_resident c hres).trans (tryPark_poisoned c hpin hset hp)))
  · exact (exec_park_begins h).trans (congrArg Host.Outcome.next ((runPark_resident c hres).trans (tryPark_waits c hwait)))
  · exact (exec_park_begins h).trans (congrArg Host.Outcome.next (runPark_parked c hres))
  · exact (exec_park_begins h).trans (congrArg Host.Outcome.next ((runPark_moving c hres hm).trans (if_pos (by simpa using hdir))))
  · exact (exec_park_begins h).trans (congrArg Host.Outcome.next ((runPark_moving c hres hm).trans (if_neg (by simp [hdir]))))
  · have hempty : t.parksWaiting n.val = [] := List.filter_eq_nil_iff.2 (fun x hx => by
      simp only [Bool.and_eq_true, beq_iff_eq]
      exact fun ⟨hop, hph⟩ => hnone x hx hph hop)
    refine (exec_wake_begins h).trans (congrArg Host.Outcome.next ((runWake_resident c hres).trans ?_))
    rw [hempty]
    rfl
  · refine (exec_wake_begins h).trans (congrArg Host.Outcome.next ((runWake_resident c hres).trans ?_))
    rw [State.parksWaiting, hone]
    rfl
  · exact (exec_wake_begins h).trans (congrArg Host.Outcome.next ((runWake_parked c hres).1 p hp))
  · exact (exec_wake_begins h).trans (congrArg Host.Outcome.next ((runWake_parked c hres).2.1 hp u hu))
  · refine (exec_wake_begins h).trans (congrArg Host.Outcome.next (((runWake_parked c hres).2.2 hp hu).trans ?_))
    exact congrArg (State.begin · n.val c.counter .waiting) (if_neg (by simp [hw]))
  · exact (exec_wake_begins h).trans (congrArg Host.Outcome.next ((runWake_moving c hres hm).trans
      (congrArg (State.begin · n.val c.counter .waiting) (if_pos (by simp [hdir])))))
  · exact (exec_wake_begins h).trans (congrArg Host.Outcome.next ((runWake_moving c hres hm).trans
      (congrArg (State.begin · n.val c.counter .waiting) (if_neg (by simpa using hdir)))))
  · obtain ⟨hres, hw, hs⟩ := moveIn_begins hu
    exact ⟨(exec_wakeSlotTaken_first ho hfirst hp).trans (by rw [hu]; rfl), hres, hw, hs⟩
  · exact (exec_wakeSlotTaken_first ho hfirst hp).trans (by rw [hu]; rfl)

end Sys2Proof

/-! SUPPORT. Transfers of the movers (R353, R354, R359, R361, R363, R364, R368). -/

namespace Sys2Proof.Machine

/-! ### A descriptor starts (R354, R359, R363) -/

section
variable {s : State} {n : Nat} {c : Cmd} {read : HostRead}

/-- The snapshot of a descriptor that a MOVE names. -/
def moveSnapshot (c : Cmd) (read : HostRead) : Bytes := padTo (field c.desc 24 4) read.bytes

/-- The transfer that runs a descriptor. -/
def runningXfer (d : Bytes) (context : Bool) (windows : List Nat) : Transfer :=
  { Transfer.blank 0 with desc := d, context := context, map := windows }

/-- No room for a descriptor: every context, or every short slot, is taken. -/
def State.moversFull (s : State) (short : Bool) : Bool :=
  if short then decide (s.shortInFlight ≥ shortSlots) else decide (s.contextsBusy ≥ hostContexts)

/-- The descriptor of a MOVE that has not begun can be read whole. -/
structure DescRead (s : State) (n : Nat) (c : Cmd) (read : HostRead) (short : Bool) : Prop where
  whole : hostStop s.windows n false (field c.desc 16 8) (field c.desc 24 4) read.missingAt read.poisonAt = none
  fresh : c.xfer = none
  short : descShort (padTo (field c.desc 24 4) read.bytes) = short

theorem startDesc_waits (h : DescRead s n c read false) (hfull : hostContexts ≤ s.contextsBusy) : s.startDesc n c read =
    { s.setXfer n c.counter { Transfer.blank 0 with order := s.waitNext } with waitNext := s.waitNext + 1 } := by
  unfold State.startDesc
  dsimp only
  rw [h.whole, h.fresh, h.short]
  exact if_pos (decide_eq_true hfull)

theorem startDesc_faults {short : Bool} {aux : Nat} (h : DescRead s n c read short) (hroom : s.moversFull short = false)
    (hfault : descFault (padTo (field c.desc 24 4) read.bytes) false = some aux) : s.startDesc n c read =
    (s.reject n c.counter Chk.descriptor aux).endIgnored n c.counter ⟨St.check, none, Chk.descriptor, aux⟩ := by
  have hroom' : ¬((if short = true then decide (s.shortInFlight ≥ shortSlots) else decide (s.contextsBusy ≥ hostContexts)) = true) :=
    Bool.eq_false_iff.1 hroom
  unfold State.startDesc
  dsimp only
  rw [h.whole, h.fresh, h.short, hfault]
  exact if_neg hroom'

theorem startDesc_runs {short : Bool} (h : DescRead s n c read short) (hroom : s.moversFull short = false)
    (hfault : descFault (padTo (field c.desc 24 4) read.bytes) false = none) (htier : tierFault (padTo (field c.desc 24 4) read.bytes) = none) :
    s.startDesc n c read = (if short then s.bump Obj.shortPathMoves else s).setXfer n c.counter
      (runningXfer (moveSnapshot c read) (!short) (if short then s.bump Obj.shortPathMoves else s).windows) := by
  have hroom' : ¬((if short = true then decide (s.shortInFlight ≥ shortSlots) else decide (s.contextsBusy ≥ hostContexts)) = true) :=
    Bool.eq_false_iff.1 hroom
  unfold State.startDesc
  dsimp only
  rw [h.whole, h.fresh, h.short, hfault, htier]
  exact if_neg hroom'

end

/-! ### A MOVE starts (R353, R368) -/

/-- Whether a named MOVE waits to run again. -/
def rearming (e : Nat × Cmd) : Bool := (e.2.xfer.map (·.rearm)).getD false

theorem runMove_first {s : State} {n : Nat} {c : Cmd} (read : HostRead) (h : s.movesNaming (field c.desc 16 8) = []) :
    s.runMove n c read = s.startDesc n c read :=
  if_pos (by rw [h]; rfl)

theorem runMove_rearms {s : State} {n : Nat} {c : Cmd} (read : HostRead) (h : s.movesNaming (field c.desc 16 8) ≠ [])
    (hnone : (s.movesNaming (field c.desc 16 8)).find? rearming = none) : s.runMove n c read =
      (s.setXfer n c.counter { Transfer.blank 0 with rearm := true }).bump Obj.rearms := by
  unfold rearming at hnone
  unfold State.runMove
  dsimp only
  rw [if_neg (by rw [List.isEmpty_iff]; exact h), hnone]

theorem runMove_ignored {s : State} {n : Nat} {c : Cmd} (read : HostRead) {p : Nat × Cmd}
    (hsome : (s.movesNaming (field c.desc 16 8)).find? rearming = some p) : s.runMove n c read =
      ((s.setXfer n c.counter { Transfer.blank 0 with ignored := some (p.1, p.2.counter) }).bump Obj.rearmsIgnored).mapCmd p.1 p.2.counter
        (fun k => { k with xfer := k.xfer.map (fun x => { x with ignores := x.ignores + 1 }) }) := by
  have hne : s.movesNaming (field c.desc 16 8) ≠ [] := fun h => by
    rw [h] at hsome
    cases hsome
  unfold rearming at hsome
  unfold State.runMove
  dsimp only
  rw [if_neg (by rw [List.isEmpty_iff]; exact hne), hsome]

/-! ### The end of a transfer (R361, R364) -/

theorem moveDone_ends {s : State} {n : Nat} {c : Cmd} {x : Transfer} {data : HostRead}
    (h : (s.repairSource x.desc).moveStop x.map n x.desc x.next data = none) : s.moveDone n c x data =
      ((((((s.repairSource x.desc).copy x.desc x.clash data x.next (descLength x.desc) 0 0 0).countMerges (descLength x.desc)).spreadClash
        n c.counter x.desc).setXfer n c.counter { x with next := descLength x.desc, context := false }).endMove n c.counter x.ignores) := by
  unfold State.moveDone
  dsimp only
  rw [h]

theorem moveDone_stops {s : State} {n : Nat} {c : Cmd} {x : Transfer} {data : HostRead} {st : MoveStop}
    (h : (s.repairSource x.desc).moveStop x.map n x.desc x.next data = some st) : s.moveDone n c x data =
      (((s.repairSource x.desc).copy x.desc x.clash data x.next st.byte 0 0 0).setXfer n c.counter { x with next := st.byte }).stopAt
        n c.counter st.byte st.space (st.addr, st.why) := by
  unfold State.moveDone
  dsimp only
  rw [h]

end Sys2Proof.Machine

namespace Sys2Proof
open Machine

theorem exec_move_starts {s t : State} {n : RingId} {c : Cmd} (read : HostRead) (h : Starts s n.val 9 c t)
    (hnone : ∀ x ∈ (s.ring n.val).cmds, ¬ (x.op = 9 ∧ x.phase = .active ∧ x.xfer = none ∧ x.final = none)) :
    exec (.move n read) s = .next (t.runMove n.val c read) := by
  have hfind : (s.ring n.val).cmds.find? (fun c => c.op == 9 && c.phase == .active && c.xfer.isNone && c.final.isNone) = none :=
    List.find?_eq_none.2 (fun x hx hp => hnone x hx (by simpa [and_assoc] using hp))
  show execMove n read s = _
  unfold execMove
  dsimp only
  rw [hfind]
  dsimp only
  rw [h]

/-- Whether a MOVE waits for a context for longer than another. -/
def waitsLonger (o : Nat) (k : Cmd) : Bool :=
  match k.waitsContext with
  | some p => decide (p < o)
  | none => false

theorem waitsLonger_iff (o : Nat) (k : Cmd) : waitsLonger o k = true ↔ ∃ p, k.waitsContext = some p ∧ p < o := by
  cases h : k.waitsContext <;> simp [waitsLonger, h]

theorem exec_moverStart_waiting {s : State} {n : RingId} {c : Cmd} {o : Nat} (read : HostRead)
    (hc : (s.ring n.val).cmds.find? (fun x => x.waitsContext.isSome) = some c) (ho : c.waitsContext = some o)
    (hpage : s.waitsPage n.val c.counter = false) : exec (.moverStart n read) s =
      .next (if s.rings.any (fun e => e.2.cmds.any (waitsLonger o)) = true then s else s.startDesc n.val c read) := by
  show execMoverStart n read s = _
  unfold execMoverStart
  dsimp only
  rw [hc]
  dsimp only
  rw [ho, hpage, Bool.false_or]
  exact rfl

theorem exec_rearmRun_waiting {s : State} {n : RingId} {c : Cmd} (read : HostRead)
    (hc : (s.ring n.val).cmds.find? (fun x => x.op == 9 && x.phase == .active && x.final.isNone &&
      ((x.xfer.map (·.rearm)).getD false)) = some c) (hpage : s.waitsPage n.val c.counter = false) : exec (.rearmRun n read) s =
      .next (if (s.movesNaming (field c.desc 16 8)).any (fun e => !(e.1 == n.val && e.2.counter == c.counter)) = true then s
        else s.startDesc n.val c read) := by
  show execRearmRun n read s = _
  unfold execRearmRun
  dsimp only
  rw [hc]
  dsimp only
  rw [hpage, Bool.false_or]

theorem exec_transferDone_move {s : State} {n : RingId} {c : Cmd} {x : Transfer} (data : HostRead)
    (hc : (s.ring n.val).cmds.find? (fun c => (c.op == 9 || c.op == 8) && c.phase == .active && c.final.isNone &&
      ((c.xfer.map (fun x => !x.desc.isEmpty)).getD false) && !s.waitsPage n.val c.counter) = some c)
    (hx : c.xfer = some x) (hop : c.op = 9) : exec (.transferDone n data) s = .next (s.moveDone n.val c x data) := by
  show execTransferDone n data s = _
  unfold execTransferDone
  dsimp only
  rw [hc]
  dsimp only
  rw [hx]
  exact congrArg Host.Outcome.next (if_pos (by simp [hop]))

theorem endMove_eq (t : State) (n counter ignores : Nat) : t.endMove n counter ignores =
    let f : Final := if 0 < ignores then ⟨St.rearm, none, ignores, 0⟩ else ⟨St.done, none, 0, 0⟩
    (t.finish n counter f.status f.position f.detail f.aux).endIgnored n counter f := rfl

/-- Settles O35: a MOVE by the others that name its descriptor, a descriptor by its snapshot, a transfer by where it stops. -/
theorem transfers : Obligations.Transfers := by
  unfold Obligations.Transfers
  refine ⟨⟨fun s n c t read h hnone => ⟨fun hempty => ?_, fun hne hall => ?_, fun p hp => ?_⟩,
    fun s n c o read hc ho hpage => ⟨fun hall => ?_, fun hex => ?_⟩, fun s n c read hc hpage => ⟨fun hall => ?_, fun hex => ?_⟩,
    fun s n c read hnew hread => ⟨fun hs hroom hfault htier => ?_, fun hs hroom hfault htier => ?_, fun hs hfull => ?_,
      fun aux hs hroom hfault => ?_⟩⟩,
    fun s n c x data hc hx hop => ⟨fun hstop => ?_, fun st hstop => ?_⟩⟩
  · exact (exec_move_starts read h hnone).trans (congrArg Host.Outcome.next (runMove_first read hempty))
  · refine (exec_move_starts read h hnone).trans (congrArg Host.Outcome.next (runMove_rearms read hne (List.find?_eq_none.2 ?_)))
    exact fun e he => by simp [rearming, hall e he]
  · exact (exec_move_starts read h hnone).trans (congrArg Host.Outcome.next (runMove_ignored read hp))
  · refine (exec_moverStart_waiting read hc ho hpage).trans (congrArg Host.Outcome.next (if_neg ?_))
    simp only [List.any_eq_true, waitsLonger_iff, not_exists, not_and]
    exact fun e he k hk p hp => Nat.not_lt.2 (hall e he k hk p hp)
  · refine (exec_moverStart_waiting read hc ho hpage).trans (congrArg Host.Outcome.next (if_pos ?_))
    simp only [List.any_eq_true, waitsLonger_iff]
    exact hex
  · refine (exec_rearmRun_waiting read hc hpage).trans (congrArg Host.Outcome.next (if_neg ?_))
    rw [List.any_eq_true]
    rintro ⟨e, he, hother⟩
    simp [hall e he] at hother
  · refine (exec_rearmRun_waiting read hc hpage).trans (congrArg Host.Outcome.next (if_pos ?_))
    obtain ⟨e, he, hother⟩ := hex
    exact List.any_eq_true.2 ⟨e, he, by simpa only [Bool.not_eq_true', Bool.and_eq_false_iff, beq_eq_false_iff_ne, ne_eq, Classical.not_and_iff_not_or_not] using hother⟩
  · exact startDesc_runs ⟨hread, hnew, hs⟩ (decide_eq_false (Nat.not_le.2 hroom)) hfault htier
  · exact startDesc_runs ⟨hread, hnew, hs⟩ (decide_eq_false (Nat.not_le.2 hroom)) hfault htier
  · exact startDesc_waits ⟨hread, hnew, hs⟩ hfull
  · exact startDesc_faults ⟨hread, hnew, hs⟩ (decide_eq_false (Nat.not_le.2 hroom)) hfault
  · exact (exec_transferDone_move data hc hx hop).trans (congrArg Host.Outcome.next ((moveDone_ends hstop).trans (endMove_eq ..)))
  · exact (exec_transferDone_move data hc hx hop).trans (congrArg Host.Outcome.next (moveDone_stops hstop))

end Sys2Proof

/-! SUPPORT. BIND, its admission and its time-out (R140, R291, R292, R301, R442, R443). -/

namespace Sys2Proof.Machine

section
variable {s u : State} {n : Nat} {c : Cmd}

theorem runBind_waits (h : s.rd (Obj.streamResidency n) = 3 ∨ s.runningBefore n c.counter = true) :
    s.runBind n c = s.begin n c.counter .waiting :=
  if_pos (by simpa using h)

/-- A BIND that does not wait is tried at once. -/
theorem runBind_tries (hres : s.rd (Obj.streamResidency n) ≠ 3) (hrun : s.runningBefore n c.counter = false) :
    (∀ r, s.bindTry n c.counter c.desc = .error r → s.runBind n c = s.bindRefuse n c.counter r) ∧
    (∀ u, s.bindTry n c.counter c.desc = .ok u → s.voicePoison c.desc ≠ none → s.runBind n c = s.bindPoisoned n c) ∧
    (∀ u, s.bindTry n c.counter c.desc = .ok u → s.voicePoison c.desc = none → field c.desc 24 1 ≠ 0 →
      s.runBind n c = ((u.dropShadow n).cancelBefore n c.counter).bindDone n c.counter) ∧
    (∀ u, s.bindTry n c.counter c.desc = .ok u → s.voicePoison c.desc = none → field c.desc 24 1 = 0 →
      u.neverFits (u.reservation n) = false → s.runBind n c =
        (s.begin n c.counter .waiting).mapCmd n c.counter (fun k => { k with waited := Nat.max 1 k.waited })) ∧
    (∀ u, s.bindTry n c.counter c.desc = .ok u → s.voicePoison c.desc = none → field c.desc 24 1 = 0 →
      u.neverFits (u.reservation n) = true → s.runBind n c =
        (s.bump Obj.admissionRefusedEnergy).finish n c.counter St.check none Chk.admission 0xFF) := by
  have hnow : ¬((s.rd (Obj.streamResidency n) == 3 || s.runningBefore n c.counter) = true) := by simp [hres, hrun]
  unfold State.runBind
  rw [if_neg hnow]
  refine ⟨fun r hr => by rw [hr], fun u hu hp => ?_, fun u hu hp hcls => ?_, fun u hu hp hcls hfit => ?_, fun u hu hp hcls hfit => ?_⟩ <;>
    rw [hu]
  · exact if_pos (Option.isSome_iff_ne_none.2 hp)
  · exact (if_neg (by simp [hp])).trans (if_neg (by simpa using hcls))
  · exact (if_neg (by simp [hp])).trans ((if_pos (by simpa using hcls)).trans (if_neg (by simp [hfit])))
  · exact (if_neg (by simp [hp])).trans ((if_pos (by simpa using hcls)).trans (if_pos hfit))

/-! ### A completed BIND (R138, R205, R292) -/

/-- The end of a command changes no stream and no object of streams but those that count its entries. -/
theorem finish_stream (s : State) (n counter status : Nat) (position : Option Nat) (detail aux : Nat) (m : Nat) :
    (s.finish n counter status position detail aux).stream m = s.stream m := by
  obtain ⟨d, rs, h, k, heq⟩ := (RingFrame.finish s n counter status position detail aux).shape
  rw [heq]
  rfl

/-- A stream once its BIND has completed. -/
def Stream.boundNow (x : Stream) (now : Nat) (admitted : Bool) : Stream := { x with noise := true, boundAt := now, admitted := admitted }

/-- The machine with a new binding of a stream counted. -/
def State.generationBegun (s : State) (n : Nat) : State :=
  (s.wr (Obj.streamGeneration n) ((s.rd (Obj.streamGeneration n) + 1) % 2 ^ 32)).wr (Obj.streamPosition n) 0

/-- The machine with the record of a stream that lies away from the planes written. -/
def State.recordWritten (s : State) (n : Nat) : State :=
  if s.rd (Obj.streamResidency n) == 2 then s.devWrite (s.rd (Obj.streamStateAddr n)) (s.movedRecord n) else s

theorem bindDone_eq (s : State) (n counter : Nat) : s.bindDone n counter =
    ((((s.generationBegun n).setStream n (((s.generationBegun n).stream n).boundNow s.clk.frames
      ((s.generationBegun n).rd (Obj.streamClass n) == 0))).recordWritten n).bump Obj.tableFills).finish n counter St.done := rfl

theorem recordWritten_keeps (s : State) (n : Nat) : (∀ k, (s.recordWritten n).rd k = s.rd k) ∧ (s.recordWritten n).stream n = s.stream n := by
  unfold State.recordWritten
  generalize s.movedRecord n = bytes
  split
  · exact ⟨fun k => State.rd_devWrite .., State.stream_devWrite ..⟩
  · exact ⟨fun _ => rfl, rfl⟩

theorem bindDone_spec (s : State) (n counter : Nat) :
    (s.bindDone n counter).rd (Obj.streamGeneration n) = (s.rd (Obj.streamGeneration n) + 1) % 2 ^ 32 ∧
    (s.bindDone n counter).rd (Obj.streamPosition n) = 0 ∧ ((s.bindDone n counter).stream n).noise = true ∧
    ((s.bindDone n counter).stream n).boundAt = s.clk.frames ∧ ((s.bindDone n counter).stream n).sections = (s.stream n).sections := by
  have hstream : (s.bindDone n counter).stream n =
      (s.stream n).boundNow s.clk.frames ((s.generationBegun n).rd (Obj.streamClass n) == 0) := by
    rw [bindDone_eq, finish_stream]
    exact (recordWritten_keeps _ n).2.trans (State.stream_setStream_self ..)
  have hrd : ∀ k, k ≠ Obj.streamCplTail n → k ≠ Obj.streamEntriesLost n → k ≠ Obj.noticesSkipped → k ≠ Obj.tableFills →
      (s.bindDone n counter).rd k = (s.generationBegun n).rd k := fun k h1 h2 h3 h4 => by
    rw [bindDone_eq, (RingFrame.finish _ n counter St.done none 0 0).rd k h1 h2 h3, State.rd_bump_ne _ _ h4, (recordWritten_keeps _ n).1]
    rfl
  have hne : ∀ {a b : Nat}, (0x8000 + n) * 256 + a = (0x8000 + n) * 256 + b → a = b := fun h => by omega
  have hlow : ∀ {a k : Nat}, k < 0x800000 → (0x8000 + n) * 256 + a ≠ k := fun h => by omega
  refine ⟨(hrd _ (fun h => absurd (hne h) (by decide)) (fun h => absurd (hne h) (by decide)) (hlow (by decide)) (hlow (by decide))).trans ?_,
    (hrd _ (fun h => absurd (hne h) (by decide)) (fun h => absurd (hne h) (by decide)) (hlow (by decide)) (hlow (by decide))).trans ?_,
    congrArg Stream.noise hstream, congrArg Stream.boundAt hstream, (congrArg Stream.sections hstream).trans rfl⟩
  · exact (State.rd_wr_ne _ _ (fun h => absurd (hne h) (by decide))).trans (State.rd_wr_self ..)
  · exact State.rd_wr_self ..

end

end Sys2Proof.Machine

namespace Sys2Proof
open Machine

theorem exec_bind_begins {s t : State} {n : RingId} {c : Cmd} (h : Begins s n.val 1 c t) : exec (.bind n) s = .next (t.runBind n.val c) := by
  show execBind n s = _
  unfold execBind
  rw [h]

theorem exec_admissionTimeout_waiting {s : State} {n : RingId} {w : Cmd}
    (hw : (s.ring n.val).cmds.find? (fun x => x.op == 1 && x.phase == .waiting && decide (x.waited ≥ 1)) = some w) :
    exec (.admissionTimeout n) s = .next (if w.waited ≥ 1 + s.rd Obj.admitWaitMax then
      (s.bump Obj.admissionRefusedEnergy).reject n.val w.counter Chk.admission 0xFF else s) := by
  show execAdmissionTimeout n s = _
  unfold execAdmissionTimeout
  dsimp only
  rw [hw]

/-- Settles O32: a BIND by what it waits for and by its try, a completed one by what it leaves, its time-out by the boundaries waited. -/
theorem streamBinds : Obligations.StreamBinds := by
  unfold Obligations.StreamBinds
  intro s n c t
  refine ⟨fun h => ⟨fun hwait => ?_, fun hres hrun => ?_⟩, fun u hu => ?_, fun w hw => ⟨fun hmax => ?_, fun hmax => ?_⟩⟩
  · exact (exec_bind_begins h).trans (congrArg Host.Outcome.next (runBind_waits hwait))
  · obtain ⟨hrefused, hpoisoned, hdone, hwaits, hnever⟩ := runBind_tries (c := c) hres hrun
    have hexec := exec_bind_begins h
    exact ⟨fun r hr => hexec.trans (congrArg Host.Outcome.next (hrefused r hr)),
      fun u hu hp => hexec.trans (congrArg Host.Outcome.next (hpoisoned u hu hp)),
      fun u hu hp hcls => hexec.trans (congrArg Host.Outcome.next (hdone u hu hp hcls)),
      fun u hu hp hcls hfit => hexec.trans (congrArg Host.Outcome.next (hwaits u hu hp hcls hfit)),
      fun u hu hp hcls hfit => hexec.trans (congrArg Host.Outcome.next (hnever u hu hp hcls hfit))⟩
  · subst hu
    exact bindDone_spec s n.val c.counter
  · exact (exec_admissionTimeout_waiting hw).trans (congrArg Host.Outcome.next (if_pos hmax))
  · exact (exec_admissionTimeout_waiting hw).trans (congrArg Host.Outcome.next (if_neg (Nat.not_le.2 hmax)))

end Sys2Proof

/-! SUPPORT. The ends of chunks and the starts of tokens (R146, R219, R223, R346, R461). -/

namespace Sys2Proof.Machine

section
variable {s : State} {n : RingId} {c : Cmd} {k : Chunk} {features : HostRead}

/-- The running chunk of a ring that nothing holds back. -/
structure ChunkRuns (s : State) (n : RingId) (c : Cmd) (k : Chunk) : Prop where
  running : s.runningChunk n.val = some (c, k)
  free : c.phase ≠ .halted
  paged : s.waitsPage n.val c.counter = false

theorem chunkDone_runs (work : ChunkWork) (h : ChunkRuns s n c k) : exec (.chunkDone n features work) s =
    .next (if s.stageStopped n.val then s.faultChunk n.val c.counter
      else if s.decodes n.val && decide (k.decoded < k.tokens) then s
      else match featureStop n.val c.desc k features with
        | some x => s.stopAt n.val c.counter k.position 0 x
        | none => s.runChunk n.val c k features work) := by
  have hfree : (c.phase == .halted || s.waitsPage n.val c.counter) = false := by simp [h.free, h.paged]
  show execChunkDone n features work s = _
  unfold execChunkDone
  dsimp only
  rw [h.running]
  exact congrArg Host.Outcome.next (if_neg (Bool.eq_false_iff.1 hfree))

theorem chunkDone_stopped (work : ChunkWork) (h : ChunkRuns s n c k) (hstop : s.stageStopped n.val = true) :
    exec (.chunkDone n features work) s = .next (s.faultChunk n.val c.counter) :=
  (chunkDone_runs work h).trans (congrArg Host.Outcome.next (if_pos hstop))

theorem chunkDone_works (work : ChunkWork) (h : ChunkRuns s n c k) (hstop : s.stageStopped n.val = false)
    (htokens : s.decodes n.val = true → k.tokens ≤ k.decoded) :
    (∀ x, featureStop n.val c.desc k features = some x →
      exec (.chunkDone n features work) s = .next (s.stopAt n.val c.counter k.position 0 x)) ∧
    (featureStop n.val c.desc k features = none →
      exec (.chunkDone n features work) s = .next (s.runChunk n.val c k features work)) := by
  have hdone : ¬((s.decodes n.val && decide (k.decoded < k.tokens)) = true) := by
    rw [Bool.and_eq_true, decide_eq_true_eq, not_and, Nat.not_lt]
    exact htokens
  have hexec := (chunkDone_runs (features := features) work h).trans (congrArg Host.Outcome.next
    ((if_neg (Bool.eq_false_iff.1 hstop)).trans (if_neg hdone)))
  exact ⟨fun x hx => hexec.trans (by rw [hx]), fun hx => hexec.trans (by rw [hx])⟩

/-- Poison in the carried state halts a chunk before it works. -/
theorem runChunk_poisoned {n : Nat} (work : ChunkWork) {p : Nat × Nat} (h : (s.readStop (s.chunkReads n k)).2 = some p) :
    s.runChunk n c k features work = (s.readStop (s.chunkReads n k)).1.poisonHalt n c.counter k.position p.1 p.2 := by
  unfold State.runChunk
  dsimp only
  rw [h]

/-! ### Tokens (R219, R223) -/

/-- A decoder whose next token can start with its batch. -/
structure TokenStarts (s : State) (n : RingId) (c : Cmd) (k : Chunk) : Prop where
  chunk : s.tokenChunk n.val = some (c, k)
  ready : s.tokenReady n.val = true
  batch : n.val ∈ s.batchOf (s.rd (Obj.streamPlan n.val))

theorem tokenStart_idle (h : s.tokenChunk n.val = some (c, k))
    (hidle : s.tokenReady n.val = false ∨ n.val ∉ s.batchOf (s.rd (Obj.streamPlan n.val))) :
    exec (.tokenStart n features) s = .next s := by
  show execTokenStart n features s = _
  unfold execTokenStart
  dsimp only
  rw [h]
  exact congrArg Host.Outcome.next (if_pos (by simpa using hidle))

theorem tokenStart_stops (h : TokenStarts s n c k) {x : Nat × Stop} (hx : featureStop n.val c.desc k features = some x) :
    exec (.tokenStart n features) s = .next (s.stopAt n.val c.counter (k.position + k.decoded * s.stepFrames n.val) 0 x) := by
  show execTokenStart n features s = _
  unfold execTokenStart
  dsimp only
  rw [h.chunk]
  dsimp only
  rw [if_neg (by simp [h.ready, h.batch]), hx]

/-- The machine once a stream has taken its place in the batch of its plan. -/
def State.tokenTaken (s : State) (n : Nat) : State :=
  { s with rows := s.rows.put (s.rd (Obj.streamPlan n)) ((s.batchOf (s.rd (Obj.streamPlan n))).filter (· != n)) }

theorem tokenStart_decodes (h : TokenStarts s n c k) (hx : featureStop n.val c.desc k features = none) {row : Bytes}
    (hrow : ((s.featureRows n.val (s.planImage (s.rd (Obj.streamPlan n.val))) c.desc k features)[k.decoded]?).map (·.2) = some row) :
    exec (.tokenStart n features) s = .next ((s.tokenTaken n.val).decodeToken n.val c k (s.rd (Obj.streamTokenIndex n.val) == 0 || tokenBegins k (s.stepFrames n.val) k.decoded) row) := by
  have hnth : (nth (0, []) (s.featureRows n.val (s.planImage (s.rd (Obj.streamPlan n.val))) c.desc k features) k.decoded).2 = row := by
    obtain ⟨e, he, rfl⟩ := Option.map_eq_some_iff.1 hrow
    exact congrArg Prod.snd ((List.getD_eq_getElem?_getD ..).trans (by rw [he]; rfl))
  show execTokenStart n features s = _
  unfold execTokenStart
  dsimp only
  rw [h.chunk]
  dsimp only
  rw [if_neg (by simp [h.ready, h.batch]), hx]
  dsimp only
  rw [hnth]
  exact rfl

end

/-! ### The final entry of a chunk (R146) -/

theorem chunkFinal_missed (s : State) (n : Nat) (k : Chunk) {m : Nat × Nat} (h : missedIn (s.stream n).missed k.position k.frames = some m) :
    s.chunkFinal n k = ⟨St.missed, some m.1, m.2, 0⟩ := by
  unfold State.chunkFinal
  dsimp only
  rw [h]

theorem chunkFinal_kept (s : State) (n : Nat) (k : Chunk) (h : missedIn (s.stream n).missed k.position k.frames = none) :
    let last := k.position + k.frames - 1
    (0 < k.spilled → s.chunkFinal n k = ⟨St.spilled, some last, k.spilled, 0⟩) ∧
    (k.spilled = 0 → 0 < k.ignores → s.chunkFinal n k = ⟨St.rearm, some last, k.ignores, 0⟩) ∧
    (k.spilled = 0 → k.ignores = 0 → ∀ x, k.clipped = some x →
      s.chunkFinal n k = ⟨St.clipped, some last, x.1 + 2 ^ 16 * x.2.1 + 2 ^ 32 * x.2.2, 0⟩) ∧
    (k.spilled = 0 → k.ignores = 0 → k.clipped = none → 0 < k.short → s.chunkFinal n k = ⟨St.short, some last, k.short, 0⟩) ∧
    (k.spilled = 0 → k.ignores = 0 → k.clipped = none → k.short = 0 → s.chunkFinal n k = ⟨St.done, some last, 0, 0⟩) := by
  unfold State.chunkFinal
  dsimp only
  rw [h]
  refine ⟨fun hs => if_pos hs, fun hs hi => ?_, fun hs hi x hx => ?_, fun hs hi hx hsh => ?_, fun hs hi hx hsh => ?_⟩ <;>
    refine (if_neg (Nat.not_lt.2 (Nat.le_of_eq hs))).trans ?_
  · exact if_pos hi
  · refine (if_neg (Nat.not_lt.2 (Nat.le_of_eq hi))).trans ?_
    rw [hx]
  · refine (if_neg (Nat.not_lt.2 (Nat.le_of_eq hi))).trans ?_
    rw [hx]
    exact if_pos hsh
  · refine (if_neg (Nat.not_lt.2 (Nat.le_of_eq hi))).trans ?_
    rw [hx]
    exact if_neg (Nat.not_lt.2 (Nat.le_of_eq hsh))

end Sys2Proof.Machine

namespace Sys2Proof
open Machine

/-- Settles O38: a chunk by what stops it, a token by its batch and its feature row, a final entry by the status that comes first. -/
theorem chunkEnds : Obligations.ChunkEnds := by
  unfold Obligations.ChunkEnds
  refine ⟨fun s n c k features work hrun hfree hpage => ⟨chunkDone_stopped work ⟨hrun, hfree, hpage⟩, fun hstop htokens => ?_⟩,
    fun s n c k features hchunk => ⟨fun hready hbatch => ?_, tokenStart_idle hchunk⟩,
    fun s n k => ⟨fun m hm => chunkFinal_missed s n k hm, chunkFinal_kept s n k⟩⟩
  · obtain ⟨hstops, hworks⟩ := chunkDone_works (features := features) work ⟨hrun, hfree, hpage⟩ hstop htokens
    exact ⟨hstops, fun hx => ⟨hworks hx, fun p hp => runChunk_poisoned work hp⟩⟩
  · exact ⟨fun x hx => tokenStart_stops ⟨hchunk, hready, hbatch⟩ hx, fun hx row hrow => tokenStart_decodes ⟨hchunk, hready, hbatch⟩ hx hrow⟩

end Sys2Proof

/-! SUPPORT. What most meanings leave of a machine: the memories, and the marks of the frame, the boundary and the next course's plan. -/

namespace Sys2Proof.Machine

/-- Host memory, device memory, the tile buffers and the bricks. -/
abbrev Mems : Type := Memory × Memory × Memory × Map Brick

/-- The frames counted, the frame of the latest course and tick boundary acted on, and the plan of the next course. -/
abbrev Marks : Type := Nat × Option Nat × Option Nat × Option CoursePlan

/-- The memories and the marks of a machine. -/
def State.kept (s : State) : Mems × Marks :=
  ((s.hostMem, s.devMem, s.tbuf, s.bricks), s.clk.frames, s.clk.boundaryAt, s.clk.tickAt, s.sched.next)

/-- The memories are in canonical form. -/
def MemsOk (m : Mems) : Prop :=
  m.1.wf = true ∧ m.2.1.wf = true ∧ m.2.2.1.wf = true ∧ ∀ e ∈ m.2.2.2, e.2.mem.wf = true

theorem State.memOk_iff (s : State) : s.memOk = true ↔ MemsOk s.kept.1 := by
  simp [State.memOk, MemsOk, State.kept, and_assoc]

/-! ### States given by their fields, choices and folds -/

theorem State.kept_mk (x0 x1 x2 x3 x4 ck x6 x7 x8 x9 x10 x11 x12 x13 x14 x15 bs x17 x18 hm x20 x21 dm tb x24 x25 x26 x27 x28 x29 x30 x31 x32 x33
    x34 x35 sc x37 x38 x39 x40 x41 x42 x43 x44) :
    (State.mk x0 x1 x2 x3 x4 ck x6 x7 x8 x9 x10 x11 x12 x13 x14 x15 bs x17 x18 hm x20 x21 dm tb x24 x25 x26 x27 x28 x29 x30 x31 x32 x33 x34 x35 sc x37 x38 x39 x40 x41 x42 x43 x44).kept =
      ((hm, dm, tb, bs), ck.frames, ck.boundaryAt, ck.tickAt, sc.next) := rfl

/-- What is kept, put together from its fields. -/
theorem State.kept_fold (s : State) :
    ((s.hostMem, s.devMem, s.tbuf, s.bricks), s.clk.frames, s.clk.boundaryAt, s.clk.tickAt, s.sched.next) = s.kept := rfl

theorem State.kept_ite {c : Prop} [Decidable c] (a b : State) : (if c then a else b).kept = if c then a.kept else b.kept := by
  split <;> rfl

theorem fst_ite {α β : Type} {c : Prop} [Decidable c] (a b : α × β) : (if c then a else b).1 = if c then a.1 else b.1 :=
  apply_ite Prod.fst c a b

theorem snd_ite {α β : Type} {c : Prop} [Decidable c] (a b : α × β) : (if c then a else b).2 = if c then a.2 else b.2 :=
  apply_ite Prod.snd c a b

theorem ite_kept {c : Prop} [Decidable c] {a b : State} {m : Mems × Marks} (ha : a.kept = m) (hb : b.kept = m) :
    (if c then a else b).kept = m := by split <;> assumption

theorem foldl_kept {α : Type} {f : State → α → State} (h : ∀ s a, (f s a).kept = s.kept) (l : List α) (s : State) :
    (l.foldl f s).kept = s.kept :=
  foldl_keeps State.kept h l s

theorem ite_snd_kept {α : Type} {c : Prop} [Decidable c] {a b : α × State} {m : Mems × Marks} (ha : a.2.kept = m) (hb : b.2.kept = m) :
    (if c then a else b).2.kept = m := by split <;> assumption

theorem ite_fst_kept {α : Type} {c : Prop} [Decidable c] {a b : State × α} {m : Mems × Marks} (ha : a.1.kept = m) (hb : b.1.kept = m) :
    (if c then a else b).1.kept = m := by split <;> assumption

theorem foldl_fst_kept {α β : Type} {f : State × β → α → State × β} (h : ∀ q a, (f q a).1.kept = q.1.kept) (l : List α) (q : State × β) :
    (l.foldl f q).1.kept = q.1.kept :=
  foldl_keeps (fun q : State × β => q.1.kept) h l q

theorem foldl_snd_kept {α β : Type} {f : β × State → α → β × State} (h : ∀ q a, (f q a).2.kept = q.2.kept) (l : List α) (q : β × State) :
    (l.foldl f q).2.kept = q.2.kept :=
  foldl_keeps (fun q : β × State => q.2.kept) h l q

/-- A fold of updates that may fail, each of which leaves the memories and marks when it does not. -/
theorem foldl_option_kept {α : Type} {f : State → α → Option State} (h : ∀ s a t, f s a = some t → t.kept = s.kept) (l : List α)
    (s : State) {t : State} (ht : l.foldl (fun acc a => acc.bind (fun s => f s a)) (some s) = some t) : t.kept = s.kept := by
  induction l generalizing s with
  | nil => cases ht; rfl
  | cons a l ih =>
    rw [List.foldl_cons, Option.bind_some] at ht
    cases hf : f s a with
    | none =>
      have failed : ∀ l : List α, l.foldl (fun acc a => acc.bind (fun s => f s a)) none = none := fun l => by
        induction l with
        | nil => rfl
        | cons a l ih => exact ih
      rw [hf, failed] at ht
      cases ht
    | some u =>
      rw [hf] at ht
      exact (ih u ht).trans (h s a u hf)

end Sys2Proof.Machine

/-! SUPPORT. The meanings and parts of meanings that leave the memories and the marks. -/

namespace Sys2Proof.Machine

@[simp] theorem State.wr_kept (s : State) (key v : Nat) : (s.wr key v).kept = s.kept := (rfl)

@[simp] theorem State.wrInt_kept (s : State) (key n : Nat) (v : Int) : (s.wrInt key n v).kept = s.kept := (rfl)

@[simp] theorem State.bump_kept (s : State) (key : Nat) (n : Nat) : (s.bump key n).kept = s.kept := (rfl)

@[simp] theorem State.lower_kept (s : State) (key : Nat) (n : Nat) : (s.lower key n).kept = s.kept := (rfl)

@[simp] theorem State.freeWord_kept (s : State) : (s.freeWord).2.kept = s.kept := (rfl)

@[simp] theorem State.entropy16_kept (s : State) : (s.entropy16).2.kept = s.kept := (rfl)

@[simp] theorem State.send_kept (s : State) (x : Sent) : (s.send x).kept = s.kept := (rfl)

@[simp] theorem State.tieSend_kept (s : State) (kind tag : Nat) (body : Bytes) : (s.tieSend kind tag body).kept = s.kept := by
  unfold State.tieSend; simp only [↓State.kept_ite, ite_self, ↓State.send_kept]

@[simp] theorem State.setSession_kept (s : State) (i : Nat) (x : Session) : (s.setSession i x).kept = s.kept := (rfl)

@[simp] theorem State.setRing_kept (s : State) (n : Nat) (r : Ring) : (s.setRing n r).kept = s.kept := (rfl)

@[simp] theorem State.setStream_kept (s : State) (n : Nat) (x : Stream) : (s.setStream n x).kept = s.kept := (rfl)

@[simp] theorem State.setFlag_kept (s : State) (k : Nat) (b : Bool) : (s.setFlag k b).kept = s.kept := (rfl)

@[simp] theorem State.progStart_kept (s : State) (index total : Nat) : (s.progStart index total).kept = s.kept := (rfl)

@[simp] theorem State.progHold_kept (s : State) (index : Nat) (held : Bool) : (s.progHold index held).kept = s.kept := (rfl)

@[simp] theorem State.progAdd_kept (s : State) (index n : Nat) : (s.progAdd index n).kept = s.kept := (rfl)

@[simp] theorem State.progDone_kept (s : State) (index : Nat) : (s.progDone index).kept = s.kept := (rfl)

@[simp] theorem State.progFail_kept (s : State) (index code : Nat) : (s.progFail index code).kept = s.kept := (rfl)

@[simp] theorem State.progCancel_kept (s : State) (index : Nat) : (s.progCancel index).kept = s.kept := (rfl)

@[simp] theorem State.setJoint_kept (s : State) (key : Nat) (j : Joint) : (s.setJoint key j).kept = s.kept := (rfl)

theorem State.jointWrite_kept (s : State) (key tag stream chunk : Nat) (ws : List Nat) {t : State} (h :
    s.jointWrite key tag stream chunk ws = some t) : t.kept = s.kept := by
  unfold State.jointWrite at h
  split at h
  · cases h
  · split at h
    · cases h; rfl
    · cases h

@[simp] theorem State.jointWait_kept (s : State) (key stream : Nat) : (s.jointWait key stream).kept = s.kept := by
  unfold State.jointWait; (repeat' split) <;> simp only [↓State.kept_mk, State.kept_fold]

theorem State.addJoint_kept (s : State) (plan : Nat) (r : JointRec) {t : State} (h : s.addJoint plan r = some t) : t.kept = s.kept := by
  unfold State.addJoint at h
  split at h
  · cases h
  · split at h
    · cases h
    · cases h; rfl

theorem State.addJoints_kept (s : State) (plan : Nat) (rs : List JointRec) {t : State} (h : s.addJoints plan rs = some t) : t.kept = s.kept := by
  induction rs generalizing s with
  | nil => cases h; rfl
  | cons r rs ih =>
    rw [State.addJoints] at h
    split at h
    · cases h
    · next u hu => exact (ih u h).trans (State.addJoint_kept s plan r hu)

@[simp] theorem State.addColls_kept (s : State) (plan : Nat) (im : Bytes) : (s.addColls plan im).kept = s.kept := by
  unfold State.addColls; simp only [↓State.kept_mk, State.kept_fold, ↓State.kept_ite, ↓foldl_kept, ite_self, implies_true]

@[simp] theorem State.freeJoints_kept (s : State) (plan : Nat) : (s.freeJoints plan).kept = s.kept := (rfl)

@[simp] theorem State.mapJoints_kept (s : State) (plan : Nat) (f : Joint → Joint) : (s.mapJoints plan f).kept = s.kept := (rfl)

@[simp] theorem State.mapCmd_kept (s : State) (n counter : Nat) (f : Cmd → Cmd) : (s.mapCmd n counter f).kept = s.kept := (rfl)

@[simp] theorem State.watch_kept (s : State) (w : Nat) (c : Counts) : (s.watch w c).kept = s.kept := by
  unfold State.watch; simp only [↓State.kept_ite, ite_self, ↓State.bump_kept, ↓State.wr_kept]

@[simp] theorem State.countNarrow_kept (s : State) (plan stream chunk tensor : Nat) (c : Counts) :
    (s.countNarrow plan stream chunk tensor c).kept = s.kept := by
  unfold State.countNarrow; simp only [↓State.kept_ite, ↓foldl_kept, ite_self, implies_true, ↓State.bump_kept, ↓State.mapCmd_kept, ↓State.watch_kept]

@[simp] theorem State.nanProduced_kept (s : State) (n : Nat) : (s.nanProduced n).kept = s.kept := by
  unfold State.nanProduced; simp only [↓State.kept_ite, ite_self, ↓State.bump_kept]

@[simp] theorem State.noteShort_kept (s : State) : (s.noteShort).kept = s.kept := (rfl)

@[simp] theorem State.chooseFree_kept (s : State) (held : List (Nat × Nat)) (lo n size align : Nat) :
    (s.chooseFree held lo n size align).2.kept = s.kept := (rfl)

@[simp] theorem State.choosePool_kept (s : State) (tier size : Nat) : (s.choosePool tier size).2.kept = s.kept := by
  unfold State.choosePool; simp only [↓State.kept_ite, ite_self, snd_ite, ↓State.chooseFree_kept]

@[simp] theorem State.choosePlane_kept (s : State) (tile size : Nat) : (s.choosePlane tile size).2.kept = s.kept := (rfl)

@[simp] theorem State.setRingState_kept (s : State) (n v : Nat) : (s.setRingState n v).kept = s.kept := (rfl)

@[simp] theorem State.liveFault_kept (s : State) (n counter : Nat) : (s.liveFault n counter).kept = s.kept := by
  unfold State.liveFault; (repeat' split) <;> simp only [↓State.kept_mk, State.kept_fold, ↓State.kept_ite, ite_self, ↓State.setStream_kept,
      ↓State.tieSend_kept]

@[simp] theorem State.emptyPlan_kept (s : State) (slot : Nat) : (s.emptyPlan slot).kept = s.kept := by
  unfold State.emptyPlan; simp only [↓State.kept_mk, State.kept_fold, ↓foldl_kept, implies_true, ↓State.wr_kept]

@[simp] theorem State.emptyTable_kept (s : State) (slot : Nat) : (s.emptyTable slot).kept = s.kept := by
  unfold State.emptyTable; simp only [↓State.kept_mk, State.kept_fold, ↓foldl_kept, implies_true, ↓State.wr_kept]

@[simp] theorem State.begin_kept (s : State) (n counter : Nat) (p : Phase) : (s.begin n counter p).kept = s.kept := (rfl)

@[simp] theorem State.loseEntries_kept (s : State) (n : Nat) : (s.loseEntries n).kept = s.kept := (rfl)

@[simp] theorem State.endAtFeed_kept (s : State) (n e : Nat) : (s.endAtFeed n e).kept = s.kept := by
  unfold State.endAtFeed; dsimp only; (repeat' split) <;> simp only [↓State.kept_mk, State.kept_fold, ↓State.wr_kept, ↓State.setStream_kept]

@[simp] theorem State.acceptFeed_kept (s : State) (n counter : Nat) (d : Bytes) : (s.acceptFeed n counter d).kept = s.kept := by
  unfold State.acceptFeed; simp only [↓State.kept_ite, ite_self, ↓State.mapCmd_kept, ↓State.setStream_kept, ↓State.endAtFeed_kept, ↓State.wr_kept]

@[simp] theorem State.checkTail_kept (s : State) (n counter : Nat) (d : Bytes) : (s.checkTail n counter d).2.kept = s.kept := by
  unfold State.checkTail; (repeat' split) <;> simp only [↓State.acceptFeed_kept]

@[simp] theorem State.fetchRow_kept (s : State) (st slot row : Nat) : (s.fetchRow st slot row).kept = s.kept := by
  unfold State.fetchRow; simp only [↓State.kept_mk, State.kept_fold, ↓State.kept_ite, ite_self, ↓State.bump_kept]

@[simp] theorem State.fetchBatch_kept (s : State) (st : Nat) (pairs : List (Nat × Nat)) : (s.fetchBatch st pairs).kept = s.kept := by
  unfold State.fetchBatch; simp only [↓State.kept_ite, ↓foldl_kept, ite_self, implies_true, ↓State.bump_kept, ↓State.fetchRow_kept]

theorem State.pushPackets_kept (n counter : Nat) (keys : List Nat) (ps : List (Nat × List Nat)) (s : State) {t : State} (h :
    State.pushPackets n counter keys ps s = some t) : t.kept = s.kept := by
  induction ps generalizing s with
  | nil => cases h; rfl
  | cons p ps ih =>
    rw [State.pushPackets] at h
    split at h
    · cases h
    · next u hu =>
      refine (ih u h).trans ?_
      refine foldl_option_kept (fun a key b hb => ?_) keys s hu
      obtain ⟨w, hw, rfl⟩ := Option.map_eq_some_iff.1 hb
      rw [← State.jointWrite_kept _ _ _ _ _ _ hw]
      split <;> rfl

@[simp] theorem State.installRecord_kept (s : State) (n : Nat) (plan : Nat) (bs : Bytes) : (s.installRecord n plan bs).kept = s.kept := by
  unfold State.installRecord; simp only [↓State.setStream_kept, ↓State.wr_kept]

@[simp] theorem State.charge_kept (s : State) (tier bytes : Nat) : (s.charge tier bytes).kept = s.kept := by
  unfold State.charge; simp only [↓State.kept_ite, ite_self, ↓State.wr_kept]

@[simp] theorem State.uncharge_kept (s : State) (tier bytes : Nat) : (s.uncharge tier bytes).kept = s.kept := by
  unfold State.uncharge; simp only [↓State.kept_ite, ite_self, ↓State.lower_kept]

@[simp] theorem State.takeKv_kept (s : State) (n : Nat) (k : KvPlan) : (s.takeKv n k).kept = s.kept := by
  unfold State.takeKv; simp only [↓State.wr_kept]

@[simp] theorem State.chooseBlock_kept (s : State) (n held : Nat) : (s.chooseBlock n held).2.kept = s.kept := by
  unfold State.chooseBlock; simp only [↓State.kept_ite, ite_self, snd_ite, ↓State.choosePool_kept, ↓State.chooseFree_kept]

@[simp] theorem State.placeBlocks_kept (s : State) (n : Nat) : (s.placeBlocks n).kept = s.kept := by
  unfold State.placeBlocks; simp only [↓foldl_kept, implies_true, ↓State.setStream_kept, ↓State.chooseBlock_kept]

@[simp] theorem State.freeKv_kept (s : State) (n : Nat) : (s.freeKv n).kept = s.kept := by
  unfold State.freeKv; simp only [↓foldl_kept, implies_true, ↓State.lower_kept, ↓State.wr_kept]

@[simp] theorem State.dropMember_kept (s : State) (m : Member) : (s.dropMember m).kept = s.kept := (rfl)

@[simp] theorem State.dropRender_kept (s : State) (n : Nat) (r : Render) (ok : Bool) : (s.dropRender n r ok).kept = s.kept := by
  unfold State.dropRender; simp only [↓State.kept_ite, ite_self, ↓State.setStream_kept, ↓State.wr_kept]

@[simp] theorem State.writeCarried_kept (s : State) (n : Nat) : (s.writeCarried n).kept = s.kept := (rfl)

@[simp] theorem State.placeParts_kept (s : State) (n : Nat) (parts : Map Nat) : (s.placeParts n parts).kept = s.kept := by
  unfold State.placeParts; simp only [↓foldl_kept, implies_true, ↓State.choosePlane_kept, ↓State.wr_kept, ↓State.setStream_kept]

@[simp] theorem State.saveCarried_kept (s : State) (n counter : Nat) : (s.saveCarried n counter).kept = s.kept := by
  unfold State.saveCarried; simp only [↓State.kept_ite, ite_self, ↓State.setStream_kept]

@[simp] theorem State.restoreCarried_kept (s : State) (n counter : Nat) : (s.restoreCarried n counter).kept = s.kept := by
  unfold State.restoreCarried; dsimp only; (repeat' split) <;> simp only [↓State.setStream_kept, ↓State.wr_kept]

@[simp] theorem State.voiceRowOf_kept (s : State) (n counter plan voice : Nat) : (s.voiceRowOf n counter plan voice).1.kept = s.kept := by
  unfold State.voiceRowOf; dsimp only; (repeat' split) <;> simp only [↓State.fetchBatch_kept, ↓State.countNarrow_kept]

@[simp] theorem State.placeAway_kept (s : State) (n tier size : Nat) : (s.placeAway n tier size).kept = s.kept := by
  unfold State.placeAway; simp only [↓State.choosePool_kept, ↓State.wr_kept, ↓State.charge_kept, ↓State.setStream_kept]

theorem State.placeInitial_kept (s : State) (n cls : Nat) {t : State} (h : s.placeInitial n cls = .ok t) : t.kept = s.kept := by
  unfold State.placeInitial at h
  dsimp only at h
  split at h
  · cases h
    simp only [↓State.wr_kept, ↓State.setStream_kept, ↓State.placeParts_kept, ↓State.charge_kept]
  · split at h
    · cases h
    · split at h
      · cases h
      · cases h
        exact State.placeAway_kept ..

@[simp] theorem State.dropShadow_kept (s : State) (n : Nat) : (s.dropShadow n).kept = s.kept := by
  unfold State.dropShadow; simp only [↓State.kept_ite, ite_self, ↓State.tieSend_kept]

@[simp] theorem State.swapStart_kept (s : State) (n total : Nat) : (s.swapStart n total).kept = s.kept := (rfl)

@[simp] theorem State.swapDone_kept (s : State) (n : Nat) : (s.swapDone n).kept = s.kept := (rfl)

theorem State.moveOut_kept (s : State) (n want : Nat) {t : State} (h : s.moveOut n want = some t) : t.kept = s.kept := by
  unfold State.moveOut at h
  dsimp only at h
  split at h
  · cases h
  · cases h
    rw [State.swapStart_kept, State.wr_kept, State.setStream_kept, State.charge_kept, State.choosePool_kept]

theorem State.returnKv_kept (s : State) (n : Nat) {t : State} (h : s.returnKv n = some t) : t.kept = s.kept := by
  unfold State.returnKv at h
  split at h
  · cases h; rfl
  · dsimp only at h
    split at h
    · cases h; rfl
    · obtain ⟨k, -, rfl⟩ := Option.map_eq_some_iff.1 h
      rw [State.wr_kept, State.takeKv_kept]

theorem State.moveIn_kept (s : State) (n : Nat) {t : State} (h : s.moveIn n = some t) : t.kept = s.kept := by
  unfold State.moveIn at h
  dsimp only at h
  split at h
  · obtain ⟨u, hu, rfl⟩ := Option.map_eq_some_iff.1 h
    rw [State.swapStart_kept, State.wr_kept, State.setStream_kept, State.charge_kept]
    exact State.returnKv_kept s n hu
  · cases h

@[simp] theorem State.wakeWait_kept (s : State) (n : Nat) : (s.wakeWait n).kept = s.kept := by
  unfold State.wakeWait; simp only [↓State.kept_mk, State.kept_fold, ↓State.kept_ite, ite_self, ↓State.setStream_kept, ↓State.bump_kept,
      ↓State.wr_kept]

@[simp] theorem State.parkWait_kept (s : State) (n counter : Nat) : (s.parkWait n counter).kept = s.kept := by
  unfold State.parkWait; simp only [↓State.kept_ite, ite_self, ↓State.setStream_kept, ↓State.mapCmd_kept, ↓State.wr_kept, ↓State.begin_kept]

@[simp] theorem State.swapBack_kept (s : State) (n : Nat) : (s.swapBack n).kept = s.kept := by
  unfold State.swapBack; dsimp only; (repeat' split) <;> simp only [↓State.wr_kept, ↓State.setStream_kept]

@[simp] theorem State.setLane_kept (s : State) (n : Nat) (l : LaneRun) : (s.setLane n l).kept = s.kept := (rfl)

@[simp] theorem State.setGroup_kept (s : State) (g : Nat) (x : GroupRun) : (s.setGroup g x).kept = s.kept := (rfl)

@[simp] theorem State.latchBlock_kept (s : State) (n p : Nat) : (s.latchBlock n p).kept = s.kept := by
  unfold State.latchBlock; simp only [↓State.kept_ite, ite_self, ↓State.wr_kept, ↓State.setLane_kept]

@[simp] theorem State.driveLane_kept (s : State) (n p : Nat) (w0 w1 : Nat × Bool) : (s.driveLane n p w0 w1).kept = s.kept := by
  unfold State.driveLane; simp only [↓State.kept_ite, ite_self, ↓State.setLane_kept]

@[simp] theorem State.putMember_kept (s : State) (m : Member) : (s.putMember m).kept = s.kept := (rfl)

@[simp] theorem State.missFrame_kept (s : State) (n d : Nat) : (s.missFrame n d).kept = s.kept := (rfl)

@[simp] theorem State.fill_kept (s : State) (m : Member) (d : Nat) (lock : Bool) : (s.fill m d lock).kept = s.kept := by
  unfold State.fill; simp only [↓State.kept_ite, ite_self, ↓State.bump_kept, ↓State.missFrame_kept]

@[simp] theorem State.memberDiscard_kept (s : State) (m : Member) (d : Nat) : (s.memberDiscard m d).kept = s.kept := by
  unfold State.memberDiscard; (repeat' split) <;> simp only [↓State.kept_mk, State.kept_fold, ↓foldl_kept, implies_true, ↓State.putMember_kept,
      ↓State.bump_kept, ↓State.fill_kept]

@[simp] theorem State.memberConsume_kept (s : State) (m : Member) (d : Nat) : (s.memberConsume m d).kept = s.kept := by
  unfold State.memberConsume; (repeat' split) <;> simp only [↓State.kept_mk, State.kept_fold, ↓State.putMember_kept]

@[simp] theorem State.missFrames_kept (s : State) (p : Nat) (lost : Nat → Bool) : (s.missFrames p lost).kept = s.kept := by
  unfold State.missFrames; simp only [↓State.kept_ite, ↓foldl_kept, ite_self, implies_true, ↓State.missFrame_kept]

@[simp] theorem State.missMuted_kept (s : State) (p : Nat) : (s.missMuted p).kept = s.kept := by
  unfold State.missMuted; simp only [↓State.missFrames_kept]

@[simp] theorem State.playLock_kept (s : State) (m : Member) (d : Nat) (wide : Bool) : (s.playLock m d wide).2.kept = s.kept := by
  unfold State.playLock
  dsimp only
  refine ite_snd_kept (s.memberDiscard_kept m d) (ite_snd_kept ?_ ?_)
  · split <;> simp only [↓State.memberConsume_kept, ↓State.fill_kept, ↓State.memberDiscard_kept]
  · generalize memberFrame _ _ _ _ = frame
    cases frame with
    | none => simp only [↓State.memberConsume_kept, ↓State.fill_kept, ↓State.kept_ite, ↓State.bump_kept, ↓State.putMember_kept, ↓State.memberDiscard_kept, ite_self]
    | some ws => refine ite_snd_kept ?_ ?_ <;>
        simp only [↓State.memberConsume_kept, ↓State.fill_kept, ↓State.kept_ite, ↓State.bump_kept, ↓State.putMember_kept, ↓State.memberDiscard_kept,
            ite_self]

@[simp] theorem State.playSlip_kept (s : State) (m : Member) (d : Nat) : (s.playSlip m d).2.kept = s.kept := by
  unfold State.playSlip
  dsimp only
  split
  · rfl
  · split
    · exact State.memberConsume_kept s m d
    · rfl

@[simp] theorem State.decideGroup_kept (s : State) (g p : Nat) : (s.decideGroup g p).kept = s.kept := by
  unfold State.decideGroup
  simp only [↓State.kept_ite, ↓State.setGroup_kept, ↓State.wr_kept, ↓foldl_kept, ↓foldl_snd_kept, ↓State.memberDiscard_kept, ↓State.fill_kept,
      ↓State.playSlip_kept,
    ↓State.playLock_kept, ite_self, implies_true]

@[simp] theorem State.takeBack_kept (s : State) (g : Nat) (u : Decided) : (s.takeBack g u).kept = s.kept := by
  unfold State.takeBack
  dsimp only
  rw [State.setGroup_kept]
  refine (ite_kept (State.wr_kept ..) rfl).trans ?_
  simp only [State.lower_kept]
  refine (foldl_kept (fun s m => State.putMember_kept s _) _ _).trans ((foldl_kept (fun s e => ?_) _ _).trans (foldl_kept (fun s e => ?_) _ _))
  · split
    · rfl
    · split <;> rfl
  · split <;> rfl

@[simp] theorem State.undecide_kept (s : State) : (s.undecide).kept = s.kept := by
  unfold State.undecide; simp only [↓foldl_kept, implies_true, ↓State.takeBack_kept, ↓State.setGroup_kept, ↓State.setStream_kept]

@[simp] theorem State.flushFrames_kept (n f : Nat) (s : State) : (State.flushFrames n f s).kept = s.kept := by
  induction f generalizing s with
  | zero => rfl
  | succ f ih =>
    rw [State.flushFrames]
    split
    · rfl
    · refine ite_kept ((ih _).trans rfl) ?_
      dsimp only
      split
      · exact ite_kept rfl ((ih _).trans rfl)
      · next m hm =>
        refine ite_kept rfl ?_
        generalize s.joints.find m.joint = found
        cases found with
        | none => rfl
        | some j => exact (ih _).trans rfl

@[simp] theorem State.flushProduced_kept (s : State) (n : Nat) : (s.flushProduced n).kept = s.kept := by
  unfold State.flushProduced; simp only [↓State.flushFrames_kept]

@[simp] theorem State.captureDrop_kept (s : State) (g key p : Nat) : (s.captureDrop g key p).kept = s.kept := by
  unfold State.captureDrop; dsimp only; (repeat' split) <;> simp only [↓State.kept_mk, State.kept_fold, ↓State.bump_kept, ↓State.setGroup_kept]

@[simp] theorem State.captureAdmit_kept (s : State) (g key p : Nat) : (s.captureAdmit g key p).kept = s.kept := by
  unfold State.captureAdmit; dsimp only; (repeat' split) <;> simp only [↓State.setGroup_kept, ↓State.bump_kept, ↓State.captureDrop_kept,
      ↓State.setJoint_kept]

@[simp] theorem State.storeBlock_kept (s : State) (n key : Nat) (bs : Option (List Bool)) : (s.storeBlock n key bs).kept = s.kept := by
  unfold State.storeBlock; (repeat' split) <;> simp only [↓State.kept_ite, ite_self, ↓State.bump_kept, ↓State.wr_kept]

@[simp] theorem State.aesStart_kept (s : State) (n : Nat) (phase : Nat) (good : Bool) : (s.aesStart n phase good).kept = s.kept := by
  unfold State.aesStart; simp only [↓State.kept_ite, ite_self, ↓State.bump_kept, ↓State.wr_kept, ↓State.setLane_kept]

@[simp] theorem State.laneStatus_kept (s : State) (n : Nat) : (s.laneStatus n).kept = s.kept := by
  unfold State.laneStatus; simp only [↓State.kept_ite, ite_self, ↓State.setLane_kept, ↓State.wr_kept, ↓State.bump_kept]

@[simp] theorem State.takeBits_kept (s : State) (prev : Nat) (lanes : List (Fin 64 × List Bool)) : (s.takeBits prev lanes).kept = s.kept := by
  unfold State.takeBits; simp only [↓State.kept_ite, ↓foldl_kept, ite_self, implies_true, ↓State.setLane_kept]

@[simp] theorem State.rollLanes_kept (s : State) : (s.rollLanes).kept = s.kept := by
  unfold State.rollLanes; simp only [↓foldl_kept, implies_true, ↓State.setLane_kept]

@[simp] theorem State.playFrame_kept (s : State) (p : Nat) : (s.playFrame p).kept = s.kept := by
  unfold State.playFrame; simp only [↓State.kept_ite, ↓foldl_kept, ite_self, implies_true, ↓State.laneStatus_kept, ↓State.latchBlock_kept,
      ↓State.setLane_kept, ↓State.missMuted_kept, ↓State.driveLane_kept]

@[simp] theorem State.passMuted_kept (s : State) (p : Nat) : (s.passMuted p).kept = s.kept := by
  unfold State.passMuted; simp only [↓State.kept_ite, ↓foldl_kept, ite_self, implies_true, ↓State.latchBlock_kept, ↓State.setLane_kept]

@[simp] theorem State.decideFrame_kept (s : State) (p : Nat) : (s.decideFrame p).kept = s.kept := by
  unfold State.decideFrame; simp only [↓foldl_kept, implies_true, ↓State.decideGroup_kept, ↓State.setGroup_kept]

@[simp] theorem State.admitFrames_kept (s : State) (p : Nat) : (s.admitFrames p).kept = s.kept := by
  unfold State.admitFrames
  exact foldl_kept (fun s g => by split <;> simp only [State.captureAdmit_kept]) _ s

@[simp] theorem State.slipJump_kept (s : State) (from' to' : Nat) : (s.slipJump from' to').kept = s.kept := by
  unfold State.slipJump; simp only [↓State.kept_ite, ↓foldl_kept, ite_self, implies_true, ↓State.wr_kept]

@[simp] theorem State.takeJoint_kept (s : State) (key n : Nat) : (s.takeJoint key n).2.kept = s.kept := by
  unfold State.takeJoint; (repeat' split) <;> simp only [↓State.kept_mk, State.kept_fold]

@[simp] theorem State.countMerges_kept (s : State) (n : Nat) : (s.countMerges n).kept = s.kept := (rfl)

@[simp] theorem State.setXfer_kept (s : State) (n counter : Nat) (x : Transfer) : (s.setXfer n counter x).kept = s.kept := (rfl)

@[simp] theorem State.spreadClash_kept (s : State) (n counter : Nat) (d : Bytes) : (s.spreadClash n counter d).kept = s.kept := (rfl)

@[simp] theorem State.loadReached_kept (s : State) (l : Load) (bytes : Nat) : (s.loadReached l bytes).kept = s.kept := by
  unfold State.loadReached; (repeat' split) <;> simp only [↓State.wr_kept]

@[simp] theorem State.imageRead_kept (s : State) (n counter : Nat) (image : Bytes) : (s.imageRead n counter image).kept = s.kept := by
  unfold State.imageRead; (repeat' split) <;> simp only [↓State.kept_mk, ↓State.kept_fold, ↓State.loadReached_kept]

@[simp] theorem State.placeAreas_kept (s : State) (slot : Nat) (im : Bytes) (program : List TileOp) (tokens : List TokenOp) :
    (s.placeAreas slot im program tokens).kept = s.kept := by
  unfold State.placeAreas; simp only [↓State.kept_mk, State.kept_fold, ↓State.kept_ite, ↓foldl_kept, ite_self, implies_true, snd_ite,
      ↓State.choosePool_kept, ↓State.choosePlane_kept]

@[simp] theorem State.addSteps_kept (s : State) (n key by' : Nat) : (s.addSteps n key by').kept = s.kept := (rfl)

theorem State.takeLink_kept (s : State) (plan stream chunk link n : Nat) {r : List (List Nat) × State} (h :
    s.takeLink plan stream chunk link n = some r) : r.2.kept = s.kept := by
  unfold State.takeLink at h
  revert h
  generalize s.linkJoints plan link = keys
  intro h
  induction keys generalizing r with
  | nil => cases h; rfl
  | cons key keys ih =>
    rw [List.foldr_cons] at h
    obtain ⟨q, hq, h⟩ := Option.bind_eq_some_iff.1 h
    rw [← ih hq]
    split at h
    · cases h; rfl
    · obtain ⟨x, -, rfl⟩ := Option.map_eq_some_iff.1 h
      rfl

@[simp] theorem State.actLink_kept (s : State) (plan link : Nat) (a : JointAct) : (s.actLink plan link a).kept = s.kept := by
  unfold State.actLink
  exact foldl_kept (fun s key => by split <;> rfl) _ s

theorem State.sendRows_kept (s : State) (c : TileCtx) (link : Nat) (x : Stored) {t : State} (h : s.sendRows c link x = some t) : t.kept = s.kept := by
  obtain ⟨u, hu, rfl⟩ := Option.map_eq_some_iff.1 h
  rw [State.addSteps_kept]
  exact State.pushPackets_kept _ _ _ _ _ hu

@[simp] theorem State.retune_kept (s : State) (n : Nat) (im : Bytes) (k : Chunk) : (s.retune n im k).kept = s.kept := by
  unfold State.retune; simp only [↓State.kept_ite, ite_self, ↓State.setStream_kept, ↓State.bump_kept]

@[simp] theorem State.digestSamples_kept (s : State) (n : Nat) (k : Chunk) (channels : Nat) (samples : List Nat) :
    (s.digestSamples n k channels samples).kept = s.kept := by
  unfold State.digestSamples; simp only [↓State.kept_ite, ite_self, ↓State.setStream_kept]

@[simp] theorem State.spend_kept (s : State) (n steps : Nat) : (s.spend n steps).kept = s.kept := by
  unfold State.spend; dsimp only; (repeat' split) <;> simp only [↓State.kept_mk, State.kept_fold]

@[simp] theorem State.mapChunk_kept (s : State) (n counter : Nat) (f : Chunk → Chunk) : (s.mapChunk n counter f).kept = s.kept := (rfl)

@[simp] theorem State.openChunk_kept (s : State) (n counter : Nat) (k : Chunk) : (s.openChunk n counter k).kept = s.kept := by
  unfold State.openChunk; simp only [↓State.saveCarried_kept, ↓State.setStream_kept]

@[simp] theorem State.setDie_kept (s : State) (d : Nat) (x : DieRun) : (s.setDie d x).kept = s.kept := (rfl)

@[simp] theorem State.makeDue_kept (s : State) (d : Nat) : (s.makeDue d).kept = s.kept := by
  unfold State.makeDue; simp only [↓State.kept_mk, State.kept_fold, ↓State.kept_ite, ite_self, ↓State.setDie_kept]

@[simp] theorem State.startWindows_kept (s : State) : (s.startWindows).kept = s.kept := by
  unfold State.startWindows; simp only [↓State.kept_mk, State.kept_fold, ↓State.kept_ite, ↓foldl_kept, ite_self, implies_true, ↓State.setDie_kept,
      ↓State.progStart_kept]

@[simp] theorem State.endRound_kept (s : State) : (s.endRound).kept = s.kept := by
  unfold State.endRound; simp only [↓State.kept_mk, State.kept_fold, ↓State.kept_ite, ite_self, ↓State.progFail_kept, ↓State.progDone_kept]

@[simp] theorem State.lastPoison_kept (s : State) (a space : Nat) : (s.lastPoison a space).kept = s.kept := (rfl)

@[simp] theorem State.poisonLine_kept (s : State) (a space : Nat) : (s.poisonLine a space).kept = s.kept := (rfl)

@[simp] theorem State.planeError_kept (s : State) (a : Nat) (correctable : Bool) : (s.planeError a correctable).kept = s.kept := by
  unfold State.planeError; simp only [↓State.kept_ite, ite_self, ↓State.bump_kept, ↓State.poisonLine_kept]

@[simp] theorem State.gddr7Error_kept (s : State) (a retries : Nat) (correctable : Bool) : (s.gddr7Error a retries correctable).kept = s.kept := by
  unfold State.gddr7Error; (repeat' split) <;> simp only [↓State.bump_kept, ↓State.setDie_kept, ↓State.poisonLine_kept]

@[simp] theorem State.cxlError_kept (s : State) (a : Nat) (correctable : Bool) : (s.cxlError a correctable).kept = s.kept := by
  unfold State.cxlError; (repeat' split) <;> simp only [↓State.bump_kept, ↓State.poisonLine_kept]

@[simp] theorem State.tbufError_kept (s : State) (a : Nat) (correctable : Bool) : (s.tbufError a correctable).kept = s.kept := by
  unfold State.tbufError; simp only [↓State.kept_mk, State.kept_fold, ↓State.kept_ite, ite_self, ↓State.bump_kept, ↓State.lastPoison_kept]

@[simp] theorem State.enableRing_kept (s : State) (n : Nat) : (s.enableRing n).kept = s.kept := (rfl)

@[simp] theorem State.chunkRuns_kept (s : State) (n : Nat) (k : Chunk) : (s.chunkRuns n k).2.kept = s.kept := by
  unfold State.chunkRuns; simp only [↓State.kept_ite, ite_self, snd_ite, ↓State.freeWord_kept]

theorem State.linkUp_kept (s : State) (rate width : Nat) : (s.linkUp rate width).kept = s.kept := by
  unfold State.linkUp; simp only [↓State.kept_mk, State.kept_fold, ↓State.kept_ite, ite_self, ↓State.wr_kept]

@[simp] theorem State.mapPair_kept (s : State) (f : PairRun → PairRun) : (s.mapPair f).kept = s.kept := (rfl)

@[simp] theorem State.tieDrop_kept (s : State) : (s.tieDrop).kept = s.kept := by
  unfold State.tieDrop; simp only [↓State.kept_ite, ite_self, ↓State.wr_kept, ↓State.bump_kept, ↓State.mapPair_kept, ↓State.setFlag_kept]

@[simp] theorem State.replay_kept (s : State) : (s.replay).kept = s.kept := by
  unfold State.replay; simp only [↓State.kept_ite, ite_self, ↓State.tieDrop_kept, ↓State.send_kept, ↓State.bump_kept, ↓State.mapPair_kept]

@[simp] theorem State.takeAck_kept (s : State) (ack : Nat) : (s.takeAck ack).kept = s.kept := by
  unfold State.takeAck; simp only [↓State.kept_ite, ite_self, ↓State.mapPair_kept, ↓State.progAdd_kept]

theorem State.trainTie_kept (s : State) (width : Nat) : (s.trainTie width).kept = s.kept := by
  unfold State.trainTie; simp only [↓State.kept_ite, ite_self, ↓State.freeWord_kept, ↓State.wr_kept, ↓State.mapPair_kept]

@[simp] theorem State.sendCourseSync_kept (s : State) (position : Nat) (jump : Option Nat) : (s.sendCourseSync position jump).kept = s.kept := by
  unfold State.sendCourseSync; simp only [↓State.kept_ite, ite_self, ↓State.tieSend_kept]

@[simp] theorem State.beat_kept (s : State) : (s.beat).kept = s.kept := by
  unfold State.beat; simp only [↓State.kept_ite, ite_self, ↓State.mapPair_kept, ↓State.tieSend_kept, ↓State.send_kept]

@[simp] theorem State.countBeats_kept (s : State) : (s.countBeats).kept = s.kept := by
  unfold State.countBeats; simp only [↓State.kept_ite, ite_self, ↓State.bump_kept, ↓State.mapPair_kept]

@[simp] theorem State.startResync_kept (s : State) (n c : Nat) : (s.startResync n c).kept = s.kept := by
  unfold State.startResync; simp only [↓State.kept_ite, ite_self, ↓State.mapPair_kept]

@[simp] theorem State.compareDigests_kept (s : State) (c : Nat) (own theirs : List DigestEntry) : (s.compareDigests c own theirs).kept = s.kept := by
  unfold State.compareDigests
  dsimp only
  rw [State.bump_kept]
  refine foldl_kept (fun s e => ?_) own s
  split
  · rfl
  · simp only [↓State.kept_ite, ↓State.startResync_kept, ↓State.wr_kept, ↓State.bump_kept, ite_self]

@[simp] theorem State.sendDigest_kept (s : State) : (s.sendDigest).kept = s.kept := by
  unfold State.sendDigest; dsimp only; (repeat' split) <;> simp only [↓State.kept_mk, State.kept_fold, ↓State.mapPair_kept, ↓State.tieSend_kept,
      ↓State.compareDigests_kept]

@[simp] theorem State.pushImage_kept (s : State) (kind purpose n : Nat) (image : Bytes) : (s.pushImage kind purpose n image).kept = s.kept := by
  unfold State.pushImage; simp only [↓foldl_kept, implies_true, ↓State.tieSend_kept]

@[simp] theorem State.countShadows_kept (s : State) : (s.countShadows).kept = s.kept := (rfl)

@[simp] theorem State.dropHeld_kept (s : State) (n : Nat) : (s.dropHeld n).kept = s.kept := (rfl)

@[simp] theorem State.lead_kept (s : State) (at' : Nat) : (s.lead at').kept = s.kept := (rfl)

@[simp] theorem State.joinHello_kept (s : State) : (s.joinHello).kept = s.kept := by
  unfold State.joinHello; simp only [↓State.kept_ite, ite_self, ↓State.entropy16_kept, ↓State.mapPair_kept, ↓State.tieSend_kept]

@[simp] theorem State.heardRole_kept (s : State) (role flags lead : Nat) : (s.heardRole role flags lead).kept = s.kept := by
  unfold State.heardRole; simp only [↓State.kept_ite, ite_self, ↓State.mapPair_kept, ↓State.wr_kept, ↓State.joinHello_kept, ↓State.lead_kept,
      ↓State.bump_kept]

@[simp] theorem State.requestHandover_kept (s : State) : (s.requestHandover).2.kept = s.kept := by
  unfold State.requestHandover; simp only [↓State.kept_ite, ite_self, snd_ite, ↓State.mapPair_kept]

@[simp] theorem State.announceLeave_kept (s : State) : (s.announceLeave).kept = s.kept := by
  unfold State.announceLeave; simp only [↓State.tieSend_kept, ↓State.mapPair_kept, ↓State.wr_kept]

@[simp] theorem State.handoverSwitch_kept (s : State) : (s.handoverSwitch).kept = s.kept := by
  unfold State.handoverSwitch; simp only [↓State.kept_ite, ite_self, ↓State.mapPair_kept, ↓State.bump_kept, ↓State.wr_kept,
      ↓State.announceLeave_kept, ↓State.lead_kept]

@[simp] theorem State.askResyncs_kept (s : State) : (s.askResyncs).kept = s.kept := by
  unfold State.askResyncs; simp only [↓State.kept_ite, ↓foldl_kept, ite_self, implies_true, ↓State.mapPair_kept, ↓State.tieSend_kept]

@[simp] theorem State.cutSamples_kept (s : State) (n x : Nat) : (s.cutSamples n x).kept = s.kept := by
  unfold State.cutSamples
  exact foldl_kept (fun s m => by split <;> rfl) _ s

@[simp] theorem State.takeSegment_kept (s : State) (body : Bytes) : (s.takeSegment body).2.kept = s.kept := by
  unfold State.takeSegment; dsimp only; (repeat' split) <;> simp only [↓State.mapPair_kept]

@[simp] theorem State.startSync_kept (s : State) : (s.startSync).2.kept = s.kept := by
  unfold State.startSync; simp only [↓State.kept_ite, ↓foldl_kept, ite_self, implies_true, snd_ite, ↓State.progDone_kept, ↓State.wr_kept,
      ↓State.progStart_kept, ↓State.freeWord_kept, ↓State.progHold_kept, ↓State.mapPair_kept, ↓State.tieSend_kept]

@[simp] theorem State.pushCheckpoint_kept (s : State) (n : Nat) (image : Bytes) : (s.pushCheckpoint n image).2.kept = s.kept := by
  unfold State.pushCheckpoint; simp only [↓State.kept_ite, ite_self, snd_ite, ↓State.setStream_kept, ↓State.pushImage_kept]

@[simp] theorem State.takeAutoCheckpoints_kept (s : State) : (s.takeAutoCheckpoints).kept = s.kept := by
  unfold State.takeAutoCheckpoints
  refine foldl_kept (fun s e => ?_) _ s
  dsimp only
  split
  · rfl
  · simp only [↓State.kept_ite, ↓State.pushCheckpoint_kept, ↓State.setStream_kept, ite_self]

@[simp] theorem State.autoCheckpoints_kept (s : State) : (s.autoCheckpoints).kept = s.kept := by
  unfold State.autoCheckpoints; simp only [↓State.kept_ite, ↓foldl_kept, ite_self, implies_true, ↓State.takeAutoCheckpoints_kept,
      ↓State.setStream_kept]

@[simp] theorem State.startLeave_kept (s : State) : (s.startLeave).2.kept = s.kept := by
  unfold State.startLeave; simp only [↓State.kept_ite, ite_self, snd_ite, ↓State.wr_kept, ↓State.progHold_kept, ↓State.progStart_kept,
      ↓State.mapPair_kept, ↓State.announceLeave_kept]

@[simp] theorem State.startUpdate_kept (s : State) (image : Bytes) : (s.startUpdate image).kept = s.kept := (rfl)

@[simp] theorem State.burn_kept (s : State) (f : Fuses → Fuses) : (s.burn f).kept = s.kept := (rfl)

@[simp] theorem State.lowerSlot_kept (s : State) (k : Nat) : (s.lowerSlot k).kept = s.kept := by
  unfold State.lowerSlot; simp only [↓State.kept_ite, ite_self, ↓State.wr_kept]

@[simp] theorem State.advanceSvn_kept (s : State) (v : Nat) : (s.advanceSvn v).2.kept = s.kept := by
  unfold State.advanceSvn; simp only [↓State.kept_ite, ite_self, snd_ite, ↓State.lowerSlot_kept, ↓State.wr_kept, ↓State.burn_kept]

theorem State.fuseCustomer_kept (s : State) (hash : Bytes) : (s.fuseCustomer hash).2.kept = s.kept := by
  unfold State.fuseCustomer; simp only [↓State.kept_mk, State.kept_fold, ↓State.kept_ite, ite_self, snd_ite, ↓State.burn_kept, ↓State.wr_kept]

@[simp] theorem State.burnLeaf_kept (s : State) : (s.burnLeaf).kept = s.kept := by
  unfold State.burnLeaf; simp only [↓State.kept_mk, State.kept_fold, ↓State.kept_ite, ite_self, ↓State.wr_kept, ↓State.burn_kept]

theorem State.attest_kept (s : State) (nonce : Bytes) {r : Bytes × State} (h : s.attest nonce = .ok r) : r.2.kept = s.kept := by
  unfold State.attest at h
  dsimp only at h
  split at h
  · cases h
  · split at h
    · cases h
    · cases h
      simp only [↓State.kept_ite, ↓State.burnLeaf_kept, ↓State.bump_kept, ↓State.lower_kept, ite_self]

@[simp] theorem State.sendReport_kept (s : State) (tag : Nat) (nonce : Bytes) : (s.sendReport tag nonce).kept = s.kept := by
  unfold State.sendReport
  split
  · rfl
  · next r t ht =>
    rw [foldl_kept (fun s a => State.tieSend_kept s _ _ _)]
    exact State.attest_kept s _ ht

@[simp] theorem State.pairFail_kept (s : State) (reason : Nat) : (s.pairFail reason).kept = s.kept := by
  unfold State.pairFail; simp only [↓State.kept_ite, ite_self, ↓State.wr_kept]

@[simp] theorem State.pairWith_kept (s : State) (theirs : Nat) : (s.pairWith theirs).kept = s.kept := by
  unfold State.pairWith; simp only [↓State.kept_ite, ↓foldl_kept, ite_self, implies_true, ↓State.wr_kept, ↓State.mapPair_kept, ↓State.lead_kept,
      ↓State.tieSend_kept]

@[simp] theorem State.putSet_kept (s : State) (set : List (Nat × Nat)) : (s.putSet set).kept = s.kept := by
  unfold State.putSet; simp only [↓foldl_kept, implies_true, ↓State.wr_kept]

/-- One expander mapped after those before it, as `placeExpanders` maps them when they are not interleaved. -/
def mapExpander (top : Nat) (q : State × Nat) (x : Nat) : State × Nat :=
  let each := Nat.min (q.1.rd (Obj.expCapacity x) / 0x10000000 * 0x10000000) (top - q.2)
  if each == 0 then q else ((q.1.wr (Obj.expMapped x) each).wr (Obj.expBase x) (cxlBase + q.2), q.2 + each)

theorem mapExpander_kept (top : Nat) (q : State × Nat) (x : Nat) : (mapExpander top q x).1.kept = q.1.kept :=
  ite_fst_kept rfl ((State.wr_kept ..).trans (State.wr_kept ..))

@[simp] theorem State.placeExpanders_kept (s : State) : (s.placeExpanders).kept = s.kept := by
  have cleared : ((List.range 8).foldl (fun s x => (s.wr (Obj.expMapped x) 0).wr (Obj.expBase x) 0) s).kept = s.kept :=
    foldl_kept (fun s x => (State.wr_kept ..).trans (State.wr_kept ..)) _ s
  refine ite_kept ((State.wr_kept ..).trans ((foldl_kept (fun s x => State.wr_kept ..) _ _).trans cleared)) ?_
  exact (State.wr_kept ..).trans ((foldl_fst_kept (mapExpander_kept (2 ^ 44)) _ _).trans cleared)

theorem State.restartLane_kept (s : State) (n : Nat) (fresh : Bool) : (s.restartLane n fresh).kept = s.kept := by
  unfold State.restartLane; simp only [↓State.kept_ite, ite_self, ↓State.setLane_kept, ↓State.wr_kept, ↓State.latchBlock_kept,
      ↓State.laneStatus_kept, ↓State.driveLane_kept]

@[simp] theorem State.startCapture_kept (s : State) (g : Nat) : (s.startCapture g).kept = s.kept := by
  unfold State.startCapture; dsimp only; (repeat' split) <;> simp only [↓State.kept_mk, State.kept_fold, ↓State.setGroup_kept]

@[simp] theorem State.stopCapture_kept (s : State) (g : Nat) : (s.stopCapture g).kept = s.kept := by
  unfold State.stopCapture; (repeat' split) <;> simp only [↓State.kept_mk, State.kept_fold, ↓State.setGroup_kept]

@[simp] theorem State.lanesCommitted_kept (s t : State) : (s.lanesCommitted t).kept = t.kept := by
  unfold State.lanesCommitted
  dsimp only
  rw [foldl_kept (fun u n => ?_), foldl_kept (fun u g => ?_), foldl_kept (fun u g => ?_)]
  · simp only [↓State.kept_ite, ↓State.stopCapture_kept, ↓State.wr_kept, ite_self]
  · simp only [↓State.kept_ite, ↓State.startCapture_kept, ite_self]
  · simp only [↓State.kept_ite, ↓State.restartLane_kept, ↓State.setLane_kept, ↓State.wr_kept, ite_self]

@[simp] theorem State.dueCommits_kept (s : State) : (s.dueCommits).1.kept = s.kept := by
  unfold State.dueCommits
  refine foldl_keeps (fun r : State × List (Nat × Pending) => r.1.kept) (fun r e => ?_) _ _
  dsimp only
  split <;> rfl

@[simp] theorem State.fix_kept (s : State) (key v : Nat) : (s.fix key v).kept = s.kept := (rfl)

@[simp] theorem State.sampleStraps_kept (s : State) (x : Straps) : (s.sampleStraps x).kept = s.kept := by
  unfold State.sampleStraps; simp only [↓State.fix_kept]

@[simp] theorem State.endPhase_kept (s : State) (k refUs : Nat) : (s.endPhase k refUs).kept = s.kept := (rfl)

@[simp] theorem State.fixStep_kept (s : State) (k : Nat) (p : PowerStep) : (s.fixStep k p).kept = s.kept := by
  unfold State.fixStep; simp only [↓State.fix_kept]

@[simp] theorem State.fixSteps_kept (s : State) (k : Nat) (ps : List PowerStep) : (s.fixSteps k ps).kept = s.kept := by
  induction ps generalizing s k with
  | nil => rfl
  | cons p ps ih => rw [State.fixSteps, ih, State.fixStep_kept]

@[simp] theorem State.readFuses_kept (s : State) (f : Fuses) : (s.readFuses f).kept = s.kept := by
  unfold State.readFuses; simp only [↓State.kept_mk, State.kept_fold, ↓State.fix_kept, ↓State.fixSteps_kept]

@[simp] theorem State.loadRecord_kept (s : State) : (s.loadRecord).kept = s.kept := by
  unfold State.loadRecord; dsimp only; (repeat' split) <;> simp only [↓State.kept_mk, State.kept_fold, ↓State.putSet_kept, ↓State.freeWord_kept,
      ↓State.wr_kept]

@[simp] theorem State.runSlot_kept (s : State) (k : Nat) (x : SlotImage) (refUs : Nat) : (s.runSlot k x refUs).kept = s.kept := by
  unfold State.runSlot; simp only [↓State.kept_mk, State.kept_fold, ↓State.wr_kept, ↓State.burnLeaf_kept, ↓State.loadRecord_kept,
      ↓State.endPhase_kept]

@[simp] theorem State.noteSlot_kept (s : State) (k : Nat) (x : SlotImage) : (s.noteSlot k x).kept = s.kept := (rfl)

@[simp] theorem State.verifySlots_kept (s : State) (a b : SlotImage) (late : Bool) (refUs : Nat) : (s.verifySlots a b late refUs).kept = s.kept := by
  unfold State.verifySlots; simp only [↓State.kept_mk, State.kept_fold, ↓State.kept_ite, ite_self, ↓State.noteSlot_kept, ↓State.runSlot_kept,
      ↓State.bump_kept]

@[simp] theorem State.mortarDown_kept (s : State) (link : Nat) : (s.mortarDown link).kept = s.kept := by
  unfold State.mortarDown; simp only [↓State.kept_mk, State.kept_fold, ↓State.kept_ite, ite_self, ↓State.bump_kept]

@[simp] theorem State.trained_kept (s : State) (r : TrainResult) (refUs : Nat) : (s.trained r refUs).kept = s.kept := by
  unfold State.trained; simp only [↓State.kept_ite, ↓foldl_kept, ite_self, implies_true, ↓State.mortarDown_kept, ↓State.wr_kept,
      ↓State.endPhase_kept, ↓State.linkUp_kept, ↓State.trainTie_kept, ↓State.placeExpanders_kept]

@[simp] theorem State.mapUnits_kept (s : State) (bad : Unit' → Bool) : (s.mapUnits bad).kept = s.kept := by
  unfold State.mapUnits; simp only [↓foldl_kept, implies_true, ↓State.wr_kept, ↓State.noteShort_kept]

@[simp] theorem State.logDefects_kept (s : State) (ok : Bool) (ds : List (Unit' × Nat)) : (s.logDefects ok ds).kept = s.kept := by
  induction ds generalizing s with
  | nil => rfl
  | cons d ds ih =>
    rw [State.logDefects, ih]
    simp only [↓State.kept_mk, ↓State.kept_fold, ↓State.kept_ite, ↓State.wr_kept, ↓State.bump_kept, ite_self]

@[simp] theorem State.cured_kept (s : State) (r : CureResult) (refUs : Nat) : (s.cured r refUs).kept = s.kept := by
  unfold State.cured; simp only [↓State.kept_ite, ite_self, ↓State.mapUnits_kept, ↓State.wr_kept, ↓State.logDefects_kept, ↓State.progFail_kept,
      ↓State.endPhase_kept]

@[simp] theorem State.progress_kept (s : State) : (s.progress).kept = s.kept := by
  unfold State.progress
  split
  · rfl
  · refine foldl_kept (fun s e => foldl_kept (fun s c => ?_) _ s) _ s
    split
    · simp only [↓State.kept_ite, ↓State.mapChunk_kept, ↓State.spend_kept, ite_self]
    · rfl

@[simp] theorem State.commandVdd_kept (s : State) (mv : Nat) : (s.commandVdd mv).kept = s.kept := (rfl)

@[simp] theorem State.planAt_kept (s : State) (start : Nat) :
    ∃ p, (s.planAt start).kept = (s.kept.1, s.kept.2.1, s.kept.2.2.1, s.kept.2.2.2.1, some p) := by
  refine ⟨(s.progress.planCourse start (s.progress.framesFrom start) s.progress.windowsAt.length).1, ?_⟩
  unfold State.planAt
  dsimp only
  rw [State.kept_ite, State.commandVdd_kept, ite_self, ← s.progress_kept]
  rfl

@[simp] theorem State.switchClock_kept (s : State) (mhz : Nat) : (s.switchClock mhz).kept = s.kept := by
  unfold State.switchClock; simp only [↓State.kept_ite, ite_self, ↓State.wr_kept, ↓State.commandVdd_kept]

@[simp] theorem State.takeMeasure_kept (s : State) : (s.takeMeasure).kept = s.kept := by
  unfold State.takeMeasure
  dsimp only
  split <;> rfl

@[simp] theorem State.putLedger_kept (s : State) (p : CoursePlan) : (s.putLedger p).kept = s.kept := by
  unfold State.putLedger; simp only [↓State.kept_ite, ite_self, ↓State.wr_kept, ↓State.bump_kept]

@[simp] theorem State.takeArrears_kept (s : State) (p : CoursePlan) (frames : Nat) : (s.takeArrears p frames).kept = s.kept := by
  unfold State.takeArrears; simp only [↓foldl_kept, implies_true, ↓State.bump_kept, ↓State.wr_kept]

@[simp] theorem State.countCourses_kept (s : State) : (s.countCourses).kept = s.kept := (rfl)

@[simp] theorem State.lastTick_kept (s : State) (t : Nat) :
    ∃ p, (s.lastTick t).kept = (s.kept.1, s.kept.2.1, s.kept.2.2.1, s.kept.2.2.2.1, p) := by
  unfold State.lastTick
  dsimp only
  split
  · exact ⟨_, rfl⟩
  · obtain ⟨p, planned⟩ := s.planAt_kept (t + 16)
    exact ⟨_, (State.sendCourseSync_kept ..).trans planned⟩

@[simp] theorem State.tickWork_kept (s : State) (t : Nat) :
    (s.tickWork t).kept = (s.kept.1, s.kept.2.1, s.kept.2.2.1, some s.kept.2.1, s.kept.2.2.2.2) := by
  have counted : (if s.clk.tickAt.isSome then s.countBeats else s).kept = s.kept := ite_kept s.countBeats_kept rfl
  unfold State.tickWork
  dsimp only
  rw [State.beat_kept, State.askResyncs_kept, State.takeAutoCheckpoints_kept, State.kept_ite, State.handoverSwitch_kept, State.sendDigest_kept,
    ite_self, ← counted]
  rfl

@[simp] theorem State.readSensors_kept (s : State) (x : Sensors) : (s.readSensors x).kept = s.kept := by
  have dies := foldl_kept (f := fun (s : State) (e : Nat × Int) => s.wrInt (Obj.dieTemp e.1) 16 e.2) (fun s e => rfl) (x.dies.map (fun e => (e.1.val, e.2))) s
  unfold State.readSensors
  dsimp only
  split <;> split <;> split <;> exact dies

@[simp] theorem State.startAnchor_kept (s : State) : (s.startAnchor).kept = s.kept := by
  unfold State.startAnchor
  split
  · rfl
  · split <;> rfl

@[simp] theorem State.failAnchor_kept (s : State) : (s.failAnchor).kept = s.kept := (rfl)

@[simp] theorem State.missRange_kept (s : State) (a b : Nat) : (s.missRange a b).kept = s.kept := by
  unfold State.missRange; simp only [↓State.kept_ite, ↓foldl_kept, ite_self, implies_true, ↓State.setStream_kept]

@[simp] theorem State.slipAnchored_kept (s : State) : (s.slipAnchored).kept = s.kept := by
  unfold State.slipAnchored; simp only [↓State.kept_ite, ↓foldl_kept, ite_self, implies_true, ↓State.wr_kept, ↓State.setGroup_kept]

@[simp] theorem State.replayFrame_kept (s : State) (p : Nat) : (s.replayFrame p).kept = s.kept := by
  unfold State.replayFrame; simp only [↓foldl_kept, implies_true, ↓State.playFrame_kept, ↓State.decideFrame_kept, ↓State.wr_kept]

@[simp] theorem State.discardSkipped_kept (s : State) (p : Nat) : (s.discardSkipped p).kept = s.kept := by
  unfold State.discardSkipped; simp only [↓State.kept_ite, ↓foldl_kept, ite_self, implies_true, ↓State.memberDiscard_kept, ↓State.flushProduced_kept]

@[simp] theorem State.feedJump_kept (s : State) : (s.feedJump).kept = s.kept := by
  unfold State.feedJump; simp only [↓State.kept_ite, ite_self, ↓State.mapPair_kept]

@[simp] theorem State.owe_kept (s : State) (im : Bytes) (stream stage chunk : Nat) : (s.owe im stream stage chunk).kept = s.kept := by
  unfold State.owe; simp only [↓State.kept_ite, ite_self, ↓State.setStream_kept]

@[simp] theorem State.writeBack_kept (s : State) (k stream stage chunk : Nat) (ws : List Nat) :
    (s.writeBack k stream stage chunk ws).kept = s.kept := by
  unfold State.writeBack; simp only [↓State.kept_ite, ite_self, ↓State.setStream_kept]

@[simp] theorem State.setColl_kept (s : State) (g : Nat) (x : Collector) : (s.setColl g x).kept = s.kept := (rfl)

@[simp] theorem State.acceptCommit_kept (s : State) (i v : Nat) : (s.acceptCommit i v).2.kept = s.kept := by
  unfold State.acceptCommit; simp only [↓State.kept_mk, State.kept_fold, ↓State.kept_ite, ite_self, snd_ite, ↓State.setSession_kept]

@[simp] theorem State.cancelCommit_kept (s : State) (i : Nat) : (s.cancelCommit i).2.kept = s.kept := by
  unfold State.cancelCommit; dsimp only; (repeat' split) <;> simp only [↓State.setSession_kept]

@[simp] theorem State.startStore_kept (s : State) (i : Nat) : (s.startStore i).2.kept = s.kept := by
  unfold State.startStore; simp only [↓State.kept_mk, State.kept_fold, ↓State.kept_ite, ite_self, snd_ite, ↓State.wr_kept]

@[simp] theorem State.closeSession_kept (s : State) (i : Nat) : (s.closeSession i).kept = s.kept := (rfl)

@[simp] theorem State.putKey_kept (s : State) (level v : Nat) : (s.putKey level v).kept = s.kept := by
  unfold State.putKey; simp only [↓State.kept_ite, ↓foldl_kept, ite_self, implies_true, ↓State.wr_kept, ↓State.closeSession_kept]

@[simp] theorem State.clearWatch_kept (s : State) (w : Nat) : (s.clearWatch w).kept = s.kept := by
  unfold State.clearWatch; simp only [↓foldl_kept, implies_true, ↓State.wr_kept]

@[simp] theorem State.clearLog_kept (s : State) (k : Nat) (flashOk : Bool) : (s.clearLog k flashOk).2.kept = s.kept := by
  unfold State.clearLog; simp only [↓State.kept_mk, State.kept_fold, ↓State.kept_ite, ite_self, snd_ite, ↓State.wr_kept]

@[simp] theorem State.writeNonce_kept (s : State) (i : Nat) (nonce : Bytes) : (s.writeNonce i nonce).2.kept = s.kept := by
  unfold State.writeNonce
  split
  · rfl
  · next r t ht => exact State.attest_kept s _ ht

@[simp] theorem State.putRw_kept (s : State) (i key v : Nat) : (s.putRw i key v).kept = s.kept := by
  unfold State.putRw; simp only [↓State.kept_mk, State.kept_fold, ↓State.kept_ite, ite_self, ↓State.setSession_kept, ↓State.wr_kept]

@[simp] theorem State.clearCounter_kept (s : State) (i key : Nat) : (s.clearCounter i key).kept = s.kept := by
  unfold State.clearCounter; dsimp only; (repeat' split) <;> simp only [↓State.kept_mk, State.kept_fold, ↓State.wr_kept]

@[simp] theorem State.segRead_kept (s : State) (i : Nat) (g : Segment) (faults : List (Bool × Nat)) : (s.segRead i g faults).2.2.kept = s.kept := by
  unfold State.segRead; (repeat' split) <;> simp only [↓State.kept_ite, ite_self, snd_ite, ↓State.setSession_kept]

@[simp] theorem State.stageBody_kept (s : State) (i : Nat) (body : Bytes) : (s.stageBody i body).2.2.kept = s.kept := by
  unfold State.stageBody; dsimp only; (repeat' split) <;> simp only [↓State.setSession_kept]

@[simp] theorem State.authBody_kept (s : State) (i : Nat) (m : Mgmt) (body : Bytes) : (s.authBody i m body).2.2.kept = s.kept := by
  unfold State.authBody; simp only [↓State.kept_ite, ite_self, snd_ite, ↓State.closeSession_kept, ↓State.bump_kept, ↓State.setSession_kept]

@[simp] theorem State.reply_kept (s : State) (d : Datagram) (msg : Bytes) : (s.reply d msg).kept = s.kept := (rfl)

@[simp] theorem State.openSession_kept (s : State) (d : Datagram) : (s.openSession d).kept = s.kept := by
  unfold State.openSession; dsimp only; (repeat' split) <;> simp only [↓State.reply_kept, ↓State.entropy16_kept, ↓State.setSession_kept]

@[simp] theorem State.barDone_kept (s : State) (page tag code : Nat) (data : Option Nat) : (s.barDone page tag code data).kept = s.kept := (rfl)

@[simp] theorem State.barTake_kept (s : State) (page cmd : Nat) (data mbox : Option Nat) : (s.barTake page cmd data mbox).kept = s.kept := (rfl)

@[simp] theorem State.barOverrun_kept (s : State) (page : Nat) : (s.barOverrun page).kept = s.kept := (rfl)

theorem State.askPartner_kept (s : State) (page : Nat) (mailbox write : Bool) (buffer length : Nat) (reqs : List Bytes) :
    (s.askPartner page mailbox write buffer length reqs).kept = s.kept := by
  unfold State.askPartner; simp only [↓State.kept_mk, State.kept_fold, ↓foldl_kept, implies_true, ↓State.setSession_kept, ↓State.tieSend_kept]

@[simp] theorem State.answerPartner_kept (s : State) (tag code : Nat) (data : Bytes) : (s.answerPartner tag code data).kept = s.kept := by
  unfold State.answerPartner; simp only [↓State.tieSend_kept]

@[simp] theorem State.takeYield_kept (s : State) (tag : Nat) (body : Bytes) : (s.takeYield tag body).kept = s.kept := by
  unfold State.takeYield; (repeat' split) <;> simp only [↓State.wr_kept]

@[simp] theorem State.readBitClock_kept (s : State) (periodPs edges : Nat) : (s.readBitClock periodPs edges).kept = s.kept := by
  unfold State.readBitClock; simp only [↓State.kept_mk, State.kept_fold, ↓State.kept_ite, ite_self, ↓State.wr_kept]

@[simp] theorem State.sampleCmark_kept (s : State) (level : Bool) : (s.sampleCmark level).kept = s.kept := by
  unfold State.sampleCmark; simp only [↓State.kept_mk, State.kept_fold, ↓State.kept_ite, ite_self]

@[simp] theorem State.acquire_kept (s : State) (periodPs : Nat) : (s.acquire periodPs).kept = s.kept := by
  unfold State.acquire; (repeat' split) <;> simp only [↓State.kept_mk, State.kept_fold, ↓State.kept_ite, ite_self, ↓State.bump_kept]

@[simp] theorem State.judgePeriod_kept (s : State) (periodPs : Nat) : (s.judgePeriod periodPs).kept = s.kept := by
  unfold State.judgePeriod; simp only [↓State.kept_mk, State.kept_fold, ↓State.kept_ite, ite_self, ↓State.wrInt_kept, ↓State.bump_kept]

@[simp] theorem State.remute_kept (s t : State) : (s.remute t).kept = t.kept := by
  unfold State.remute
  rw [State.missMuted_kept, foldl_kept (fun t n => ?_)]
  simp only [↓State.kept_ite, ↓State.bump_kept, ↓State.lower_kept, ↓State.restartLane_kept, ite_self]

@[simp] theorem State.chooseTime_kept (s : State) : (s.chooseTime).kept = s.kept := by
  unfold State.chooseTime; simp only [↓State.kept_mk, ↓State.kept_fold, ↓State.kept_ite, ↓foldl_kept, ite_self, implies_true, ↓State.wr_kept,
      ↓State.bump_kept, ↓State.setFlag_kept, ↓State.mapPair_kept, ↓State.restartLane_kept, ↓State.tieSend_kept]

@[simp] theorem State.skipFrames_kept (s : State) (a b : Nat) : (s.skipFrames a b).kept = s.kept := by
  unfold State.skipFrames; simp only [↓State.kept_ite, ↓foldl_kept, ite_self, implies_true, ↓State.missRange_kept, ↓State.passMuted_kept,
      ↓State.decideFrame_kept, ↓State.admitFrames_kept]

@[simp] theorem State.correctAt_kept (s : State) (ahead position : Nat) : (s.correctAt ahead position).kept = s.kept := (rfl)

@[simp] theorem State.beginBlock_kept (s : State) (n a : Nat) (im : Bytes) : (s.beginBlock n a im).kept = s.kept := by
  unfold State.beginBlock
  dsimp only
  rw [State.wr_kept, State.setStream_kept, foldl_kept (fun (s : State) (r : Nat × Nat × Nat) => (rfl : State.kept { s with poison := s.cleaned r.2.1 r.2.2 } = s.kept))]
  split
  · rfl
  · exact State.chooseBlock_kept s n _

@[simp] theorem State.lookCodebook_kept (s : State) (n plan chunk : Nat) (im : Bytes) (token : Nat) :
    (s.lookCodebook n plan chunk im token).kept = s.kept := by
  unfold State.lookCodebook; (repeat' split) <;> simp only [↓State.fetchBatch_kept, ↓State.countNarrow_kept, ↓State.setStream_kept]

@[simp] theorem State.beginTokens_kept (s : State) (n : Nat) : (s.beginTokens n).kept = s.kept := (rfl)

@[simp] theorem State.wrapTokens_kept (s : State) (n : Nat) (im : Bytes) : (s.wrapTokens n im).kept = s.kept := (rfl)

theorem State.pushBytes_kept (s : State) (n plan chunk link tag : Nat) (bs : Bytes) {t : State} (h :
    s.pushBytes n plan chunk link tag bs = some t) : t.kept = s.kept := by
  unfold State.pushBytes at h
  split at h
  · cases h; rfl
  · exact State.pushPackets_kept _ _ _ _ _ h

@[simp] theorem State.drainLink_kept (s : State) (plan stream chunk link : Nat) : (s.drainLink plan stream chunk link).kept = s.kept := by
  unfold State.drainLink
  split
  · next r hr =>
    split
    · rfl
    · exact State.takeLink_kept s plan stream chunk link 1 hr
  · rfl

theorem State.enterToken_kept (s : State) (n : Nat) (c : Cmd) (k : Chunk) (row : Bytes) (begins : Bool) {r : State × Nat} (h :
    s.enterToken n c k row begins = some r) : r.1.kept = s.kept := by
  unfold State.enterToken at h
  dsimp only at h
  obtain ⟨u, hu, rfl⟩ := Option.map_eq_some_iff.1 h
  have opened := State.pushBytes_kept _ _ _ _ _ _ _ hu
  simp only [↓State.kept_ite, ↓State.beginBlock_kept, ↓State.setStream_kept, ite_self, opened, ↓State.wrapTokens_kept, ↓State.beginTokens_kept,
      ↓State.openChunk_kept]

@[simp] theorem State.leaveToken_kept (s : State) (n : Nat) (c : Cmd) (k : Chunk) (a : Nat) (row frame : Bytes) (token : Nat) :
    (s.leaveToken n c k a row frame token).kept = s.kept := by
  unfold State.leaveToken; simp only [↓State.kept_ite, ite_self, ↓State.drainLink_kept, ↓State.bump_kept, ↓State.lookCodebook_kept,
      ↓State.setStream_kept, ↓State.wr_kept, ↓State.freeWord_kept, ↓State.mapChunk_kept]

@[simp] theorem State.spillChunk_kept (s : State) (keys : List Nat) (n chunk : Nat) : (s.spillChunk keys n chunk).kept = s.kept := by
  unfold State.spillChunk
  exact foldl_kept (fun s k => by split <;> rfl) _ s

end Sys2Proof.Machine

/-! SUPPORT. What a meaning keeps when it writes memory: the canonical form of the memories, and the marks where it leaves them. -/

namespace Sys2Proof.Machine

/-- From `a` to `b` the memories stay in canonical form and, where `marks` asks for it, the marks are left. -/
def Keeps (marks : Bool) (a b : Mems × Marks) : Prop := (marks = true → b.2 = a.2) ∧ (MemsOk a.1 → MemsOk b.1)

variable {μ : Bool} {κ : Mems × Marks}

theorem Keeps.refl (a : Mems × Marks) : Keeps μ a a := ⟨fun _ => rfl, id⟩

theorem Keeps.trans {a b c : Mems × Marks} (hab : Keeps μ a b) (hbc : Keeps μ b c) : Keeps μ a c :=
  ⟨fun h => (hbc.1 h).trans (hab.1 h), hbc.2 ∘ hab.2⟩

/-- A meaning that leaves the memories and the marks keeps both. -/
theorem Keeps.of_kept {s t : State} (h : t.kept = s.kept) (hk : Keeps μ κ s.kept) : Keeps μ κ t.kept := h ▸ hk

/-- A meaning that leaves the memories keeps their form. -/
theorem Keeps.of_mems {a b : Mems × Marks} (h : b.1 = a.1) (hk : Keeps false κ a) : Keeps false κ b :=
  ⟨nofun, fun hm => h ▸ hk.2 hm⟩

theorem Keeps.ite {c : Prop} [Decidable c] {a b : State} (ha : Keeps μ κ a.kept) (hb : Keeps μ κ b.kept) :
    Keeps μ κ (if c then a else b).kept := by split <;> assumption

theorem Keeps.ite_iff {c : Prop} [Decidable c] {a b : State} :
    Keeps μ κ (if c then a else b).kept ↔ (c → Keeps μ κ a.kept) ∧ (¬ c → Keeps μ κ b.kept) := by
  split <;> simp [*]

theorem Keeps.foldl {α : Type} {f : State → α → State} {l : List α} {s : State} (h : ∀ s a, Keeps μ s.kept (f s a).kept)
    (hs : Keeps μ κ s.kept) : Keeps μ κ (l.foldl f s).kept := by
  induction l generalizing s with
  | nil => exact hs
  | cons a l ih => exact ih (hs.trans (h s a))

theorem Keeps.fields {x0 x1 x2 x3 x4 ck x6 x7 x8 x9 x10 x11 x12 x13 x14 x15 bs x17 x18 hm x20 x21 dm tb x24 x25 x26 x27 x28 x29 x30 x31 x32 x33 x34
    x35 sc x37 x38 x39 x40 x41 x42 x43 x44}
    (h : Keeps μ κ ((hm, dm, tb, bs), ck.frames, ck.boundaryAt, ck.tickAt, sc.next)) :
    Keeps μ κ (State.mk x0 x1 x2 x3 x4 ck x6 x7 x8 x9 x10 x11 x12 x13 x14 x15 bs x17 x18 hm x20 x21 dm tb x24 x25 x26 x27 x28 x29 x30 x31 x32 x33 x34 x35 sc x37 x38 x39 x40 x41 x42 x43 x44).kept := h

/-! ### The writes of memory -/

theorem Map.find_mem {α : Type} {m : Map α} {k : Nat} {v : α} (h : m.find k = some v) : (k, v) ∈ m := by
  induction m with
  | nil => cases h
  | cons e m ih =>
    obtain ⟨j, w⟩ := e
    unfold Map.find at h
    split at h
    · next hk => cases h; exact hk ▸ List.mem_cons_self
    · split at h
      · cases h
      · exact List.mem_cons_of_mem _ (ih h)

theorem Map.mem_put {α : Type} {m : Map α} {k : Nat} {v : α} {e : Nat × α} (h : e ∈ m.put k v) : e = (k, v) ∨ e ∈ m := by
  induction m with
  | nil => exact .inl (List.mem_singleton.1 h)
  | cons d m ih =>
    obtain ⟨j, w⟩ := d
    unfold Map.put at h
    split at h
    · next hk =>
      subst hk
      exact (List.mem_cons.1 h).imp id (List.mem_cons_of_mem _)
    · split at h
      · exact List.mem_cons.1 h
      · rcases List.mem_cons.1 h with h | h
        · exact .inr (h ▸ List.mem_cons_self)
        · exact (ih h).imp id (List.mem_cons_of_mem _)

/-- The local memory of every brick of a machine in canonical form is in canonical form. -/
theorem MemsOk.brick {s : State} (h : MemsOk s.kept.1) (k : Nat) : (s.brick k).mem.wf = true := by
  obtain ⟨-, -, -, hb⟩ := h
  unfold State.brick Map.getD
  cases hf : s.bricks.find k with
  | none => rfl
  | some b => exact hb (k, b) (Map.find_mem hf)

theorem State.hostWrite_keeps {s : State} {a : Nat} {bs : Bytes} (hk : Keeps μ κ s.kept) : Keeps μ κ (s.hostWrite a bs).kept := by
  refine hk.trans ⟨fun _ => rfl, fun ⟨hh, hd, ht, hb⟩ => ⟨?_, hd, ht, hb⟩⟩
  show (if s.host then s.hostMem.writeBytes a bs else s.hostMem).wf = true
  split
  · exact Memory.writeBytes_wf _ _ _ hh
  · exact hh

theorem State.devWrite_keeps {s : State} {a : Nat} {bs : Bytes} (hk : Keeps μ κ s.kept) : Keeps μ κ (s.devWrite a bs).kept :=
  hk.trans ⟨fun _ => rfl, fun ⟨hh, hd, ht, hb⟩ => ⟨hh, Memory.writeBytes_wf _ _ _ hd, ht, hb⟩⟩

theorem State.tbufWrite_keeps {s : State} {a : Nat} {bs : Bytes} (hk : Keeps μ κ s.kept) : Keeps μ κ (s.tbufWrite a bs).kept :=
  hk.trans ⟨fun _ => rfl, fun ⟨hh, hd, ht, hb⟩ => ⟨hh, hd, Memory.writeBytes_wf _ _ _ ht, hb⟩⟩

theorem State.apertureWrite_keeps {s : State} {a : Nat} {bs : Bytes} (hk : Keeps μ κ s.kept) : Keeps μ κ (s.apertureWrite a bs).kept := by
  induction bs generalizing s a with
  | nil => exact hk
  | cons b bs ih =>
    refine ih (.ite (hk.trans ⟨fun _ => rfl, fun ⟨hh, hd, ht, hb⟩ => ⟨hh, Memory.write_wf _ _ _ hd, ht, hb⟩⟩) hk)

/-- A brick whose memory is in canonical form where those of the machine are may stand in it. -/
theorem State.setBrick_keeps {s : State} {j : Nat} {b : Brick} (hb : MemsOk s.kept.1 → b.mem.wf = true) (hk : Keeps μ κ s.kept) :
    Keeps μ κ (s.setBrick j b).kept := by
  refine hk.trans ⟨fun _ => rfl, fun hm => ?_⟩
  obtain ⟨hh, hd, ht, hs⟩ := hm
  refine ⟨hh, hd, ht, fun e he => ?_⟩
  rcases Map.mem_put he with rfl | he
  · exact hb ⟨hh, hd, ht, hs⟩
  · exact hs e he

theorem State.restart_keeps {s : State} {cause : Nat} {b : Boot} (hk : Keeps false κ s.kept) : Keeps false κ (s.restart cause b).kept :=
  hk.trans ⟨nofun, fun ⟨hh, _, _, _⟩ => ⟨hh, rfl, rfl, nofun⟩⟩

end Sys2Proof.Machine

/-! SUPPORT. The meanings and parts of meanings that write memory keep its form. -/

namespace Sys2Proof.Machine

variable {μ : Bool} {κ : Mems × Marks}

theorem State.brickFault_keeps (s : State) (k cause : Nat) (hk : Keeps μ κ s.kept) : Keeps μ κ (s.brickFault k cause).kept := by
  unfold State.brickFault
  dsimp only
  refine State.setBrick_keeps (fun h => MemsOk.brick (s := s) ?_ k) ?_
  · simpa only [State.kept_ite, State.bump_kept, State.wr_kept, ite_self] using h
  · simp only [State.kept_ite, State.bump_kept, State.wr_kept, ite_self, hk]

theorem State.repairLine_keeps (s : State) (line : Nat) (hk : Keeps μ κ s.kept) : Keeps μ κ (s.repairLine line).kept := by
  unfold State.repairLine
  repeat' split
  all_goals simp only [↓State.bump_kept, State.devWrite_keeps, hk]

theorem State.repair_keeps (s : State) (a n : Nat) (hk : Keeps μ κ s.kept) : Keeps μ κ (s.repair a n).kept := by
  unfold State.repair
  simp only [Keeps.ite_iff, Keeps.foldl, State.repairLine_keeps, Keeps.refl, hk, implies_true, and_self]

theorem State.readStop_keeps (s : State) (rs : List (Nat × Nat × Nat)) (hk : Keeps μ κ s.kept) : Keeps μ κ (s.readStop rs).1.kept := by
  induction rs generalizing s with
  | nil => exact hk
  | cons r rs ih =>
    unfold State.readStop
    dsimp only
    have hkt : Keeps μ κ (if r.1 == 1 then s.repair r.2.1 r.2.2 else s).kept := .ite (State.repair_keeps _ _ _ hk) hk
    split
    · exact hkt
    · exact ih _ hkt

theorem State.putEntry_keeps (s : State) (n : Nat) (e : Entry) (hk : Keeps μ κ s.kept) : Keeps μ κ (s.putEntry n e).kept := by
  unfold State.putEntry
  simp only [State.hostWrite_keeps, ↓State.wr_kept, hk]

theorem State.putFinal_keeps (s : State) (n : Nat) (c : Cmd) (f : Final) (hk : Keeps μ κ s.kept) : Keeps μ κ (s.putFinal n c f).kept := by
  unfold State.putFinal
  simp only [Keeps.ite_iff, ↓State.bump_kept, State.putEntry_keeps, hk, implies_true, and_self, ↓State.kept_mk, State.kept_fold]

theorem drainList_keeps (n : Nat) (s : State) (cs : List Cmd) (hk : Keeps μ κ s.kept) : Keeps μ κ (drainList n s cs).kept := by
  induction cs generalizing s with
  | nil => exact .of_kept (State.setRing_kept ..) hk
  | cons c cs ih =>
    unfold drainList
    split
    · exact .of_kept (State.setRing_kept ..) hk
    · exact ih _ (State.putFinal_keeps _ _ _ _ hk)

theorem State.putIndexError_keeps (s : State) (n : Nat) (hk : Keeps μ κ s.kept) : Keeps μ κ (s.putIndexError n).kept := by
  unfold State.putIndexError
  simp only [Keeps.ite_iff, ↓State.bump_kept, State.putEntry_keeps, ↓State.setRing_kept, hk, implies_true, and_self]

theorem State.drain_keeps (s : State) (n : Nat) (hk : Keeps μ κ s.kept) : Keeps μ κ (s.drain n).kept := by
  unfold State.drain
  simp only [State.putIndexError_keeps, drainList_keeps, hk]

theorem State.finish_keeps (s : State) (n counter status : Nat) (position : Option Nat) (detail : Nat) (aux : Nat) (hk : Keeps μ κ s.kept) :
    Keeps μ κ (s.finish n counter status position detail aux).kept := by
  unfold State.finish
  simp only [State.drain_keeps, ↓State.mapCmd_kept, hk]

theorem State.finishDone_keeps (s : State) (n counter : Nat) (hk : Keeps μ κ s.kept) : Keeps μ κ (s.finishDone n counter).kept := by
  unfold State.finishDone
  simp only [State.finish_keeps, hk]

theorem State.endIgnored_keeps (s : State) (n counter : Nat) (f : Final) (hk : Keeps μ κ s.kept) : Keeps μ κ (s.endIgnored n counter f).kept := by
  unfold State.endIgnored
  simp only [Keeps.foldl, State.finish_keeps, Keeps.refl, hk, implies_true]

theorem State.reject_keeps (s : State) (n counter code aux : Nat) (hk : Keeps μ κ s.kept) : Keeps μ κ (s.reject n counter code aux).kept := by
  unfold State.reject
  simp only [State.finish_keeps, hk]

theorem State.deviceFault_keeps (s : State) (n counter key : Nat) (hk : Keeps μ κ s.kept) : Keeps μ κ (s.deviceFault n counter key).kept := by
  unfold State.deviceFault
  simp only [State.finish_keeps, ↓State.liveFault_kept, hk]

theorem State.emptyBrick_keeps (s : State) (k : Nat) (hk : Keeps μ κ s.kept) : Keeps μ κ (s.emptyBrick k).kept := by
  exact State.setBrick_keeps (fun h => h.brick k) hk

theorem State.emptySlot_keeps (s : State) (kind slot first count : Nat) (hk : Keeps μ κ s.kept) :
    Keeps μ κ (s.emptySlot kind slot first count).kept := by
  unfold State.emptySlot
  simp only [Keeps.ite_iff, Keeps.foldl, State.emptyBrick_keeps, ↓State.emptyPlan_kept, ↓State.emptyTable_kept, ↓State.wr_kept, Keeps.refl, hk,
      implies_true, and_self, ↓State.kept_mk, State.kept_fold]

theorem State.endLoad_keeps (s : State) (n : Nat) (c : Cmd) (failed : Option Nat) (hk : Keeps μ κ s.kept) :
    Keeps μ κ (s.endLoad n c failed).kept := by
  unfold State.endLoad
  dsimp only
  repeat' split
  all_goals simp only [State.emptySlot_keeps, ↓State.progCancel_kept, ↓State.progFail_kept, hk, ↓State.kept_mk, State.kept_fold]

theorem State.announce_keeps (s : State) (n : Nat) (hk : Keeps μ κ s.kept) : Keeps μ κ (s.announce n).kept := by
  unfold State.announce
  repeat' split
  all_goals simp only [↓State.bump_kept, State.putEntry_keeps, ↓State.setRing_kept, ↓State.setRingState_kept, ↓State.wr_kept, hk]

theorem State.clearHalt_keeps (s : State) (n counter : Nat) (hk : Keeps μ κ s.kept) : Keeps μ κ (s.clearHalt n counter).kept := by
  unfold State.clearHalt
  simp only [Keeps.ite_iff, State.announce_keeps, ↓State.mapCmd_kept, ↓State.setRing_kept, ↓State.setRingState_kept, ↓State.wr_kept, hk,
      implies_true, and_self]

theorem State.abandonCmd_keeps (s : State) (n counter : Nat) (hk : Keeps μ κ s.kept) : Keeps μ κ (s.abandonCmd n counter).kept := by
  unfold State.abandonCmd
  split
  · exact hk
  · dsimp only
    refine State.endIgnored_keeps _ _ _ _ (State.finish_keeps _ _ _ _ _ _ _ ?_)
    split <;> simp only [Keeps.ite_iff, State.clearHalt_keeps, State.endLoad_keeps, ↓State.mapCmd_kept, ↓State.mapJoints_kept, hk, implies_true, and_self, ↓State.kept_mk, State.kept_fold]

theorem State.haltCmd_keeps (s : State) (n counter : Nat) (h : Halt) (hk : Keeps μ κ s.kept) : Keeps μ κ (s.haltCmd n counter h).kept := by
  unfold State.haltCmd
  repeat' split
  all_goals simp only [Keeps.ite_iff, State.abandonCmd_keeps, State.announce_keeps, ↓State.mapCmd_kept, hk, implies_true, and_self]

theorem State.protectHalt_keeps (s : State) (n counter position addr space : Nat) (write : Bool) (hk : Keeps μ κ s.kept) :
    Keeps μ κ (s.protectHalt n counter position addr space write).kept := by
  unfold State.protectHalt
  simp only [↓State.bump_kept, State.haltCmd_keeps, ↓State.wr_kept, hk]

theorem State.poisonHalt_keeps (s : State) (n counter position addr space : Nat) (hk : Keeps μ κ s.kept) :
    Keeps μ κ (s.poisonHalt n counter position addr space).kept := by
  unfold State.poisonHalt
  simp only [State.haltCmd_keeps, hk]

theorem State.pageFault_keeps (s : State) (n counter position addr : Nat) (hk : Keeps μ κ s.kept) :
    Keeps μ κ (s.pageFault n counter position addr).kept := by
  unfold State.pageFault
  simp only [Keeps.ite_iff, ↓State.bump_kept, State.haltCmd_keeps, ↓State.send_kept, hk, implies_true, and_self, ↓State.kept_mk, State.kept_fold]

theorem State.failRequests_keeps (s : State) (p : PageRequest → Bool) (aux : Nat) (hk : Keeps μ κ s.kept) :
    Keeps μ κ (s.failRequests p aux).kept := by
  unfold State.failRequests
  refine Keeps.foldl (fun t q => ?_) hk
  split
  · exact .refl _
  · exact State.haltCmd_keeps _ _ _ _ (.refl _)

theorem State.ringFault_keeps (s : State) (n : Nat) (hk : Keeps μ κ s.kept) : Keeps μ κ (s.ringFault n).kept := by
  unfold State.ringFault
  simp only [Keeps.foldl, State.abandonCmd_keeps, ↓State.bump_kept, ↓State.loseEntries_kept, ↓State.setRing_kept, ↓State.setRingState_kept,
      Keeps.refl, hk, implies_true]

theorem State.abandonHalted_keeps (s : State) (n : Nat) (hk : Keeps μ κ s.kept) : Keeps μ κ (s.abandonHalted n).kept := by
  unfold State.abandonHalted
  simp only [Keeps.foldl, State.abandonCmd_keeps, Keeps.refl, hk, implies_true]

theorem State.refuse_keeps (s : State) (n counter : Nat) (r : Refused) (hk : Keeps μ κ s.kept) : Keeps μ κ (s.refuse n counter r).kept := by
  unfold State.refuse
  simp only [State.finish_keeps, hk]

theorem State.startCmd_keeps (s : State) (n op : Nat) (hk : Keeps μ κ s.kept) : Keeps μ κ (s.startCmd n op).2.kept := by
  unfold State.startCmd
  split
  · exact hk
  · next c hc =>
    split
    · have kept := s.checkTail_kept n c.counter c.desc
      split
      · next r t ht =>
        rw [ht] at kept
        exact State.refuse_keeps _ _ _ _ (.of_kept kept hk)
      · next t ht =>
        rw [ht] at kept
        exact .of_kept (State.begin_kept ..) (.of_kept kept hk)
    · exact .of_kept (State.begin_kept ..) hk

theorem State.deliverBatches_keeps (n : Nat) (es : List (Nat × Batch)) (s : State) (hk : Keeps μ κ s.kept) :
    Keeps μ κ (State.deliverBatches n es s).kept := by
  induction es generalizing s with
  | nil => exact hk
  | cons e es ih =>
    unfold State.deliverBatches
    dsimp only
    split
    · exact ih _ hk
    · split
      · exact hk
      · split
        · exact State.poisonHalt_keeps _ _ _ _ _ _ hk
        · split
          · next t ht =>
            have pushed := Keeps.of_kept (State.pushPackets_kept _ _ _ _ _ ht) hk
            exact ih _ pushed
          · split
            · exact .of_kept (State.jointWait_kept ..) hk
            · exact hk

theorem State.indexError_keeps (s : State) (n : Nat) (hk : Keeps μ κ s.kept) : Keeps μ κ (s.indexError n).kept := by
  unfold State.indexError
  simp only [State.abandonHalted_keeps, ↓State.bump_kept, State.drain_keeps, ↓State.setRing_kept, ↓State.setRingState_kept, hk]

theorem State.resumeRing_keeps (s : State) (n : Nat) (hk : Keeps μ κ s.kept) : Keeps μ κ (s.resumeRing n).kept := by
  unfold State.resumeRing
  repeat' split
  all_goals simp only [Keeps.ite_iff, State.clearHalt_keeps, State.haltCmd_keeps, ↓State.mapCmd_kept, hk, implies_true, and_self]

theorem State.doorbell_keeps (s : State) (n : Nat) (aligned : Bool) (w : Nat) (hk : Keeps μ κ s.kept) : Keeps μ κ (s.doorbell n aligned w).kept := by
  unfold State.doorbell
  dsimp only
  repeat' split
  all_goals simp only [State.abandonCmd_keeps, ↓State.bump_kept, State.indexError_keeps, State.resumeRing_keeps, ↓State.setRing_kept, hk]

theorem State.bellRow_keeps (s : State) (offset : BitVec 18) (wide : Bool) (w k : Nat) (hk : Keeps μ κ s.kept) :
    Keeps μ κ (s.bellRow offset wide w k).kept := by
  unfold State.bellRow
  simp only [Keeps.ite_iff, State.doorbell_keeps, hk, implies_true, and_self]

theorem State.fetch_keeps (s : State) (n : Nat) (d : Bytes) (hk : Keeps μ κ s.kept) : Keeps μ κ (s.fetch n d).kept := by
  unfold State.fetch
  dsimp only
  generalize ht : (s.wr (Obj.streamCmdHead n) _).setRing n _ = t
  have hkt : Keeps μ κ t.kept := ht ▸ hk
  split
  · exact State.refuse_keeps _ _ _ _ hkt
  · split
    · exact .of_kept (State.mapCmd_kept ..) hkt
    · have kept := t.checkTail_kept n (s.rd (Obj.streamCmdHead n)) d
      split
      · next r u hu =>
        rw [hu] at kept
        exact State.refuse_keeps _ _ _ _ (.of_kept kept hkt)
      · next u hu =>
        rw [hu] at kept
        exact .of_kept kept hkt

theorem State.cancelChunks_keeps (s : State) (n : Nat) (p : Cmd → Bool) (hk : Keeps μ κ s.kept) : Keeps μ κ (s.cancelChunks n p).kept := by
  unfold State.cancelChunks
  simp only [Keeps.foldl, State.finish_keeps, Keeps.refl, hk, implies_true]

theorem State.endMember_keeps (s : State) (m : Member) (hk : Keeps μ κ s.kept) : Keeps μ κ (s.endMember m).kept := by
  unfold State.endMember
  simp only [↓State.dropMember_kept, State.finish_keeps, hk]

theorem State.endRender_keeps (s : State) (n : Nat) (r : Render) (ok : Bool) (hk : Keeps μ κ s.kept) : Keeps μ κ (s.endRender n r ok).kept := by
  unfold State.endRender
  simp only [↓State.dropRender_kept, State.finish_keeps, hk]

theorem State.endRenders_keeps (s : State) (n : Nat) (hk : Keeps μ κ s.kept) : Keeps μ κ (s.endRenders n).kept := by
  exact .foldl (fun t r => State.endRender_keeps _ _ _ _ (.refl _)) (.foldl (fun t m => State.endMember_keeps _ _ (.refl _)) hk)

theorem State.refuseRate_keeps (s : State) (n : Nat) (hk : Keeps μ κ s.kept) : Keeps μ κ (s.refuseRate n).kept := by
  unfold State.refuseRate
  split
  · exact hk
  · refine Keeps.foldl (fun t c => ?_) (.foldl (fun t r => ?_) (.foldl (fun t e => ?_) hk))
    · simp only [State.clearHalt_keeps, ↓State.mapJoints_kept, State.reject_keeps, Keeps.refl, ↓State.kept_mk, State.kept_fold]
    · simp only [↓State.dropRender_kept, State.reject_keeps, Keeps.refl]
    · simp only [↓State.dropMember_kept, State.reject_keeps, Keeps.refl]

theorem State.freeStream_keeps (s : State) (n : Nat) (hk : Keeps μ κ s.kept) : Keeps μ κ (s.freeStream n).kept := by
  unfold State.freeStream
  dsimp only
  repeat' split
  all_goals simp only [State.endRenders_keeps, ↓State.freeJoints_kept, ↓State.freeKv_kept, ↓State.lower_kept, ↓State.mapJoints_kept,
      ↓State.setStream_kept, ↓State.uncharge_kept, ↓State.wr_kept, hk, ↓State.kept_mk, State.kept_fold]

theorem State.bindTry_keeps (s : State) (n counter : Nat) (d : Bytes) {t : State} (h : s.bindTry n counter d = .ok t) (hk : Keeps μ κ s.kept) :
    Keeps μ κ t.kept := by
  unfold State.bindTry at h
  split at h
  · cases h
  · extract_lets plan im cls window tierWant samePlan s1 s2 s3 at h
    have hs : Keeps μ κ s3.kept := by
      simp only [s1, s2, s3]
      simp only [Keeps.ite_iff, State.freeStream_keeps, ↓State.wr_kept, hk, implies_true, and_self]
    clear_value s3
    split at h
    · cases h
    · next u hu =>
      have hu : Keeps μ κ u.kept := by
        split at hu
        · cases hu
          exact hs
        · obtain ⟨v, hv, rfl⟩ := Option.map_eq_some_iff.1 hu
          exact .of_kept (State.addColls_kept ..) (.of_kept (State.addJoints_kept _ _ _ hv) hs)
      split at h
      · cases h
      · refine .of_kept (State.placeInitial_kept _ _ _ h) ?_
        simp only [↓State.setStream_kept, ↓State.takeKv_kept, ↓State.voiceRowOf_kept, ↓State.wr_kept, hu]

theorem State.bindDone_keeps (s : State) (n counter : Nat) (hk : Keeps μ κ s.kept) : Keeps μ κ (s.bindDone n counter).kept := by
  unfold State.bindDone
  simp only [Keeps.ite_iff, ↓State.bump_kept, State.devWrite_keeps, State.finishDone_keeps, ↓State.setStream_kept, ↓State.wr_kept, hk, implies_true,
      and_self]

theorem State.bindRefuse_keeps (s : State) (n counter : Nat) (r : BindRefused) (hk : Keeps μ κ s.kept) :
    Keeps μ κ (s.bindRefuse n counter r).kept := by
  unfold State.bindRefuse
  repeat' split
  all_goals simp only [↓State.bump_kept, State.refuse_keeps, hk]

theorem State.cancelBefore_keeps (s : State) (n counter : Nat) (hk : Keeps μ κ s.kept) : Keeps μ κ (s.cancelBefore n counter).kept := by
  unfold State.cancelBefore
  simp only [State.cancelChunks_keeps, hk]

theorem State.bindPoisoned_keeps (s : State) (n : Nat) (c : Cmd) (hk : Keeps μ κ s.kept) : Keeps μ κ (s.bindPoisoned n c).kept := by
  unfold State.bindPoisoned
  dsimp only
  repeat' split
  all_goals simp only [↓State.begin_kept, ↓State.fetchBatch_kept, State.poisonHalt_keeps, hk]

theorem State.runBind_keeps (s : State) (n : Nat) (c : Cmd) (hk : Keeps μ κ s.kept) : Keeps μ κ (s.runBind n c).kept := by
  unfold State.runBind
  split
  · exact .of_kept (State.begin_kept ..) hk
  · split
    · exact State.bindRefuse_keeps _ _ _ _ hk
    · next t ht =>
      have ht := State.bindTry_keeps _ _ _ _ ht hk
      simp only [Keeps.ite_iff, ↓State.begin_kept, State.bindDone_keeps, State.bindPoisoned_keeps, ↓State.bump_kept, State.cancelBefore_keeps,
          ↓State.dropShadow_kept, ↓State.mapCmd_kept, State.reject_keeps, hk, implies_true, and_self, ht]

theorem State.admitBind_keeps (s : State) (n : Nat) (c : Cmd) (hk : Keeps μ κ s.kept) : Keeps μ κ (s.admitBind n c).kept := by
  unfold State.admitBind
  split
  · exact State.bindRefuse_keeps _ _ _ _ hk
  · next t ht =>
    have ht := State.bindTry_keeps _ _ _ _ ht hk
    simp only [Keeps.ite_iff, State.bindDone_keeps, State.bindPoisoned_keeps, State.cancelBefore_keeps, ↓State.dropShadow_kept, ↓State.mapCmd_kept,
        hk, implies_true, and_self, ht]

theorem State.endWaiting_keeps (s : State) (n op : Nat) (hk : Keeps μ κ s.kept) : Keeps μ κ (s.endWaiting n op).kept := by
  unfold State.endWaiting
  simp only [Keeps.foldl, State.finishDone_keeps, Keeps.refl, hk, implies_true]

theorem State.tryPark_keeps (s : State) (n : Nat) (c : Cmd) (hk : Keeps μ κ s.kept) : Keeps μ κ (s.tryPark n c).kept := by
  unfold State.tryPark
  split
  · exact .of_kept (State.parkWait_kept ..) hk
  · split
    · exact State.poisonHalt_keeps _ _ _ _ _ _ hk
    · split
      · next t ht => exact .of_kept (State.begin_kept ..) (.of_kept (State.moveOut_kept _ _ _ ht) hk)
      · exact .of_kept (State.swapBack_kept ..) (State.reject_keeps _ _ _ _ _ hk)

theorem State.runPark_keeps (s : State) (n : Nat) (c : Cmd) (hk : Keeps μ κ s.kept) : Keeps μ κ (s.runPark n c).kept := by
  unfold State.runPark
  dsimp only
  repeat' split
  all_goals simp only [↓State.begin_kept, State.finishDone_keeps, ↓State.setStream_kept, State.tryPark_keeps, hk]

theorem State.runWake_keeps (s : State) (n : Nat) (c : Cmd) (hk : Keeps μ κ s.kept) : Keeps μ κ (s.runWake n c).kept := by
  unfold State.runWake
  dsimp only
  split
  · refine State.finishDone_keeps _ _ _ (.of_kept (State.swapBack_kept ..) (.foldl (fun t p => ?_) hk))
    exact State.finish_keeps _ _ _ _ _ _ _ (.refl _)
  · split
    · split
      · exact State.poisonHalt_keeps _ _ _ _ _ _ hk
      · split
        · next t ht => exact .of_kept (State.begin_kept ..) (.of_kept (State.moveIn_kept _ _ ht) hk)
        · simp only [↓State.begin_kept, ↓State.wakeWait_kept, hk]
    · split
      · simp only [Keeps.ite_iff, ↓State.begin_kept, ↓State.setStream_kept, hk, implies_true, and_self]
      · exact hk

theorem State.movedOut_keeps (s : State) (n : Nat) (m : Move) (hk : Keeps μ κ s.kept) : Keeps μ κ (s.movedOut n m).kept := by
  unfold State.movedOut
  dsimp only
  generalize ht : State.endWaiting _ n 6 = t
  have hkt : Keeps μ κ t.kept := by
    subst ht
    simp only [State.devWrite_keeps, State.endWaiting_keeps, ↓State.lower_kept, ↓State.setStream_kept, ↓State.swapDone_kept, ↓State.uncharge_kept,
        ↓State.wr_kept, hk]
  split
  · split
    · next u hu => exact .of_kept (State.moveIn_kept _ _ hu) hkt
    · exact .of_kept (State.wakeWait_kept ..) hkt
  · exact hkt

theorem State.movedIn_keeps (s : State) (n : Nat) (m : Move) (hk : Keeps μ κ s.kept) : Keeps μ κ (s.movedIn n m).kept := by
  unfold State.movedIn
  dsimp only
  generalize ht : State.endWaiting _ n 7 = t
  have hkt : Keeps μ κ t.kept := by
    subst ht
    simp only [Keeps.ite_iff, ↓State.bump_kept, State.endWaiting_keeps, ↓State.placeBlocks_kept, ↓State.placeParts_kept, ↓State.setStream_kept,
        ↓State.swapDone_kept, ↓State.uncharge_kept, ↓State.wr_kept, hk, implies_true, and_self]
  split
  · split
    · next u hu => exact .of_kept (State.moveOut_kept _ _ _ hu) hkt
    · exact .foldl (fun t c => State.reject_keeps _ _ _ _ _ (.refl _)) hkt
  · exact hkt

theorem State.retryWaiting_keeps (s : State) (n : Nat) (boundary : Bool) (hk : Keeps μ κ s.kept) : Keeps μ κ (s.retryWaiting n boundary).kept := by
  unfold State.retryWaiting
  dsimp only
  repeat' split
  all_goals simp only [State.runBind_keeps, State.tryPark_keeps, hk]

theorem State.unbindStream_keeps (s : State) (n : Nat) (hk : Keeps μ κ s.kept) : Keeps μ κ (s.unbindStream n).kept := by
  unfold State.unbindStream
  simp only [↓State.dropShadow_kept, State.freeStream_keeps, ↓State.wr_kept, hk]

theorem State.startAgain_keeps (s : State) (n op : Nat) (hk : Keeps μ κ s.kept) : Keeps μ κ (s.startAgain n op).2.kept := by
  unfold State.startAgain
  repeat' split
  all_goals simp only [State.startCmd_keeps, hk]

theorem State.renderTo_keeps (s : State) (n upto : Nat) (hk : Keeps μ κ s.kept) : Keeps μ κ (s.renderTo n upto).kept := by
  unfold State.renderTo
  simp only [Keeps.ite_iff, Keeps.foldl, State.endRender_keeps, ↓State.setStream_kept, ↓State.wr_kept, Keeps.refl, hk, implies_true, and_self]

theorem State.renderLane_keeps (s : State) (n counter : Nat) (d : Bytes) (hk : Keeps μ κ s.kept) : Keeps μ κ (s.renderLane n counter d).kept := by
  unfold State.renderLane
  dsimp only
  repeat' split
  all_goals simp only [State.reject_keeps, ↓State.wr_kept, hk, ↓State.kept_mk, State.kept_fold]

theorem State.renderHost_keeps (s : State) (n counter : Nat) (d : Bytes) (hk : Keeps μ κ s.kept) : Keeps μ κ (s.renderHost n counter d).kept := by
  unfold State.renderHost
  simp only [State.renderTo_keeps, ↓State.setStream_kept, ↓State.wr_kept, hk]

theorem State.endReached_keeps (s : State) (hk : Keeps μ κ s.kept) : Keeps μ κ (s.endReached).kept := by
  unfold State.endReached
  simp only [Keeps.foldl, State.endMember_keeps, Keeps.refl, hk, implies_true]

theorem State.lanesFrame_keeps (s : State) (prev : Nat) (lanes : List (Fin 64 × List Bool)) (hk : Keeps μ κ s.kept) :
    Keeps μ κ (s.lanesFrame prev lanes).kept := by
  unfold State.lanesFrame
  simp only [Keeps.ite_iff, Keeps.foldl, ↓State.admitFrames_kept, ↓State.decideFrame_kept, State.endReached_keeps, ↓State.flushProduced_kept,
      ↓State.playFrame_kept, ↓State.rollLanes_kept, ↓State.takeBits_kept, Keeps.refl, hk, implies_true, and_self]

theorem State.stopAt_keeps (s : State) (n counter position space : Nat) (x : Nat × Stop) (hk : Keeps μ κ s.kept) :
    Keeps μ κ (s.stopAt n counter position space x).kept := by
  unfold State.stopAt
  repeat' split
  all_goals simp only [State.pageFault_keeps, State.poisonHalt_keeps, State.protectHalt_keeps, hk]

theorem State.writeRuns_keeps (s : State) (space : Nat) (clash rs : List (Nat × Nat)) (bs : Bytes) (hk : Keeps μ κ s.kept) :
    Keeps μ κ (s.writeRuns space clash rs bs).kept := by
  induction rs generalizing s bs with
  | nil => exact hk
  | cons r rs ih =>
    unfold State.writeRuns
    dsimp only
    refine ih _ _ ?_
    have hkt : Keeps μ κ (if clash.isEmpty then s else { s with free := s.free + r.2 }).kept := .ite hk hk
    exact .ite (State.hostWrite_keeps hkt) (State.devWrite_keeps hkt)

theorem State.copy_keeps (s : State) (d : Bytes) (clash : List (Nat × Nat)) (data : HostRead) (lo hi : Nat) (plan stream chunk : Nat) (hk :
    Keeps μ κ s.kept) : Keeps μ κ (s.copy d clash data lo hi plan stream chunk).kept := by
  unfold State.copy
  extract_lets src dst link got
  have hgot : Keeps μ κ got.2.kept := by
    simp only [got]
    split
    · exact hk
    · split
      · split
        · exact hk
        · exact .of_kept (State.takeJoint_kept ..) hk
      · exact hk
  clear_value got
  split
  · refine .foldl (fun t j => ?_) hgot
    split
    · exact .refl _
    · exact .of_kept (State.setJoint_kept ..) (.refl _)
  · exact State.writeRuns_keeps _ _ _ _ _ hgot

theorem State.endMove_keeps (s : State) (n counter : Nat) (ignores : Nat) (hk : Keeps μ κ s.kept) : Keeps μ κ (s.endMove n counter ignores).kept := by
  unfold State.endMove
  simp only [State.endIgnored_keeps, State.finish_keeps, hk]

theorem State.startDesc_keeps (s : State) (n : Nat) (c : Cmd) (read : HostRead) (hk : Keeps μ κ s.kept) : Keeps μ κ (s.startDesc n c read).kept := by
  unfold State.startDesc
  dsimp only
  repeat' split
  all_goals simp only [↓State.bump_kept, State.endIgnored_keeps, State.reject_keeps, ↓State.setXfer_kept, State.stopAt_keeps, hk, ↓State.kept_mk,
      State.kept_fold]

theorem State.runMove_keeps (s : State) (n : Nat) (c : Cmd) (read : HostRead) (hk : Keeps μ κ s.kept) : Keeps μ κ (s.runMove n c read).kept := by
  unfold State.runMove
  dsimp only
  repeat' split
  all_goals simp only [↓State.bump_kept, ↓State.mapCmd_kept, ↓State.setXfer_kept, State.startDesc_keeps, hk]

theorem State.repairSource_keeps (s : State) (d : Bytes) (hk : Keeps μ κ s.kept) : Keeps μ κ (s.repairSource d).kept := by
  unfold State.repairSource
  simp only [Keeps.ite_iff, Keeps.foldl, State.repair_keeps, Keeps.refl, hk, implies_true, and_self]

theorem State.moveDone_keeps (s : State) (n : Nat) (c : Cmd) (x : Transfer) (data : HostRead) (hk : Keeps μ κ s.kept) :
    Keeps μ κ (s.moveDone n c x data).kept := by
  unfold State.moveDone
  dsimp only
  have repaired := State.repairSource_keeps s x.desc hk
  split
  · exact State.stopAt_keeps _ _ _ _ _ _ (.of_kept (State.setXfer_kept ..) (State.copy_keeps _ _ _ _ _ _ _ _ _ repaired))
  · refine State.endMove_keeps _ _ _ _ ?_
    simp only [State.setXfer_kept, State.spreadClash_kept, State.countMerges_kept]
    exact State.copy_keeps _ _ _ _ _ _ _ _ _ repaired

theorem State.checkpointDone_keeps (s : State) (n : Nat) (c : Cmd) (x : Transfer) (data : HostRead) (hk : Keeps μ κ s.kept) :
    Keeps μ κ (s.checkpointDone n c x data).kept := by
  unfold State.checkpointDone
  dsimp only
  repeat' split
  all_goals simp only [State.finishDone_keeps, State.hostWrite_keeps, State.reject_keeps, ↓State.setXfer_kept, State.stopAt_keeps, hk]

theorem State.planMoves_keeps (s : State) (n : Nat) (c : Cmd) (im : Bytes) (plan : Nat) (map : List Nat) (i next : Nat) (ms : List PlanMove)
    (hk : Keeps μ κ s.kept) : Keeps μ κ (s.planMoves n c im plan map i next ms).1.kept := by
  induction ms generalizing s i next with
  | nil => exact hk
  | cons m ms ih =>
    unfold State.planMoves
    split
    · exact ih _ _ _ hk
    · next e he =>
      dsimp only
      have moved := fun lo hi => State.copy_keeps (s.repairSource e.2) e.2 [] m.data lo hi plan n c.counter (State.repairSource_keeps s e.2 hk)
      split
      · exact moved ..
      · exact moved ..
      · exact ih _ _ _ (moved ..)

theorem State.fenceBrick_keeps (s : State) (k : Nat) (hk : Keeps μ κ s.kept) : Keeps μ κ (s.fenceBrick k).kept := by
  have fenced := State.setBrick_keeps (j := k) (b := { code := 255, fenced := true }) (fun _ => rfl) hk
  unfold State.fenceBrick
  dsimp only
  split
  · exact .of_kept (by simp only [State.noteShort_kept, State.lower_kept, State.wr_kept]) fenced
  · exact fenced

theorem State.startRun_keeps (s : State) (n : Nat) (c : Cmd) (head image : Bytes) (hk : Keeps μ κ s.kept) :
    Keeps μ κ (s.startRun n c head image).kept := by
  unfold State.startRun
  extract_lets kind slot first count s1 s2 s3 head' place l u s4 s5 s6
  have emptied : Keeps μ κ s2.kept := by
    simp only [s1, s2]
    simp only [Keeps.ite_iff, Keeps.foldl, State.emptyBrick_keeps, State.emptySlot_keeps, Keeps.refl, hk, implies_true, and_self]
  have placed : Keeps μ κ place.2.kept := .of_kept (by simp only [place, s3, snd_ite, State.kept_ite, State.choosePool_kept, State.kept_mk, State.kept_fold, ite_self]) emptied
  clear_value place
  have begun : Keeps μ κ s5.kept := by
    have kept : Keeps μ κ s4.kept := placed
    simp only [s5]
    split
    · exact kept
    · exact .of_kept (State.progStart_kept ..) kept
  clear_value s5
  simp only [s6]
  simp only [Keeps.ite_iff, ↓State.loadReached_kept, ↓State.wr_kept, implies_true, and_self, begun]

theorem State.loadTurn_keeps (s : State) (n kind : Nat) (hk : Keeps μ κ s.kept) : Keeps μ κ (s.loadTurn n kind).2.kept := by
  unfold State.loadTurn
  split
  · split <;> exact hk
  · split
    · next c hc =>
      split
      · have started := State.startCmd_keeps s n 10 hk
        split
        · next c t ht =>
          rw [ht] at started
          exact .of_kept (State.setXfer_kept ..) started
        · exact started
      · exact hk
    · exact hk

theorem State.stopImage_keeps (s : State) (n : Nat) (c : Cmd) (x : Nat × Nat × Stop) (hk : Keeps μ κ s.kept) :
    Keeps μ κ (s.stopImage n c x).kept := by
  unfold State.stopImage
  repeat' split
  all_goals simp only [↓State.loadReached_kept, ↓State.mapCmd_kept, State.stopAt_keeps, hk]

/-- A brick image leaves a local memory in canonical form. -/
theorem freshBrick_wf (slot : Nat) (im : Bytes) : (freshBrick slot im).mem.wf = true :=
  Memory.writeBytes_wf _ _ _ (Memory.writeBytes_wf _ _ _ rfl)

theorem State.deliverBricks_keeps (s : State) (targets : List (Nat × Nat × Bytes)) (resent : Nat) (failed : List Nat) (hk : Keeps μ κ s.kept) :
    Keeps μ κ (s.deliverBricks targets resent failed).kept := by
  refine Keeps.foldl (fun t e => ?_) (.of_kept (State.bump_kept ..) hk)
  split
  · exact .of_kept (State.bump_kept ..) (State.fenceBrick_keeps _ _ (.refl _))
  · exact State.setBrick_keeps (fun _ => freshBrick_wf ..) (.refl _)

theorem State.placeWeights_keeps (s : State) (slot : Nat) (im : Bytes) (hk : Keeps μ κ s.kept) : Keeps μ κ (s.placeWeights slot im).kept := by
  exact Keeps.foldl (fun t o => State.devWrite_keeps (State.devWrite_keeps (.refl _))) hk

theorem State.placePlan_keeps (s : State) (slot : Nat) (im : Bytes) (hk : Keeps μ κ s.kept) : Keeps μ κ (s.placePlan slot im).kept := by
  unfold State.placePlan
  refine Keeps.foldl (fun t e => .of_kept (State.wr_kept ..) (.refl _)) (.foldl (fun t e => .of_kept rfl (.refl _)) ?_)
  exact State.placeWeights_keeps _ _ _ (.of_kept (State.placeAreas_kept ..) hk)

theorem State.placeTable_keeps (s : State) (slot base : Nat) (im : Bytes) (hk : Keeps μ κ s.kept) : Keeps μ κ (s.placeTable slot base im).kept := by
  unfold State.placeTable
  dsimp only
  refine .of_kept (State.wr_kept ..) (.foldl (fun t e => .of_kept (State.wr_kept ..) (.refl _)) ?_)
  have placed : Keeps μ κ (if tableInPlace (im.take 64) then s else s.devWrite base (slice im 64 (tableBytes (im.take 64)))).kept :=
    .ite hk (State.devWrite_keeps hk)
  exact placed

theorem State.loadFault_keeps (s : State) (n : Nat) (l : Load) (hk : Keeps μ κ s.kept) : Keeps μ κ (s.loadFault n l).kept := by
  unfold State.loadFault
  repeat' split
  all_goals simp only [State.deviceFault_keeps, ↓State.progFail_kept, hk]

theorem State.endRun_keeps (s : State) (n : Nat) (l : Load) (rounds resent : Nat) (failed : List Nat) (hk : Keeps μ κ s.kept) :
    Keeps μ κ (s.endRun n l rounds resent failed).kept := by
  unfold State.endRun
  extract_lets s1 targets failed' s2 s3 w s4 s5
  have delivered : Keeps μ κ s3.kept := by
    have dropped : Keeps μ κ s1.kept := hk
    simp only [s2, s3]
    simp only [Keeps.ite_iff, State.deliverBricks_keeps, ↓State.wr_kept, implies_true, and_self, dropped]
  clear_value s3
  split
  · exact State.loadFault_keeps _ _ _ delivered
  · have placed : Keeps μ κ s4.kept := by
      exact .ite (State.placePlan_keeps _ _ _ delivered) (.ite (State.placeTable_keeps _ _ _ _ delivered) (.ite (.of_kept rfl delivered) delivered))
    refine State.finishDone_keeps _ _ _ ?_
    simp only [s5]
    split
    · exact placed
    · exact .of_kept (State.progDone_kept ..) placed

theorem State.placeWrite_keeps (s : State) (c : TileCtx) (p : Place) (off : Nat) (bs : Bytes) (hk : Keeps μ κ s.kept) :
    Keeps μ κ (s.placeWrite c p off bs).kept := by
  unfold State.placeWrite
  simp only [Keeps.ite_iff, State.devWrite_keeps, State.tbufWrite_keeps, hk, implies_true, and_self]

theorem State.storeTensor_keeps (s : State) (c : TileCtx) (x : Stored) (p : Place) (hk : Keeps μ κ s.kept) :
    Keeps μ κ (s.storeTensor c x p).kept := by
  unfold State.storeTensor
  simp only [Keeps.ite_iff, State.placeWrite_keeps, hk, implies_true, and_self]

theorem State.putExpanded_keeps (s : State) (tile : Nat) (bufs : List (Nat × Bytes)) (hk : Keeps μ κ s.kept) :
    Keeps μ κ (s.putExpanded tile bufs).kept := by
  unfold State.putExpanded
  simp only [Keeps.foldl, State.tbufWrite_keeps, Keeps.refl, hk, implies_true]

theorem State.writeMap_keeps (s : State) (x : Stored) (pack addr : Nat) (hk : Keeps μ κ s.kept) : Keeps μ κ (s.writeMap x pack addr).kept := by
  unfold State.writeMap
  simp only [Keeps.ite_iff, ↓State.bump_kept, State.devWrite_keeps, hk, implies_true, and_self]

theorem State.hodChain_keeps (s : State) (c : TileCtx) (tiles : List Nat) (p : Place) (base : Nat) (words : List (Nat × Nat)) (hk :
    Keeps μ κ s.kept) : Keeps μ κ (s.hodChain c tiles p base words).kept := by
  refine Keeps.foldl (fun t w => Keeps.foldl (fun t e => ?_) (.refl _)) hk
  exact .ite (State.tbufWrite_keeps (.refl _)) (.refl _)

theorem State.endChunk_keeps (s : State) (n counter : Nat) (k : Chunk) (hk : Keeps μ κ s.kept) : Keeps μ κ (s.endChunk n counter k).kept := by
  unfold State.endChunk
  simp only [State.finish_keeps, ↓State.setStream_kept, hk]

theorem State.settleChunks_keeps (s : State) (n : Nat) (hk : Keeps μ κ s.kept) : Keeps μ κ (s.settleChunks n).kept := by
  refine Keeps.foldl (fun t c => ?_) hk
  split
  · exact .ite (State.endChunk_keeps _ _ _ _ (.refl _)) (.refl _)
  · exact .refl _

theorem State.deliver_keeps (s : State) (n counter : Nat) (k : Chunk) (channels : Nat) (samples : List Nat) (hk : Keeps μ κ s.kept) :
    Keeps μ κ (s.deliver n counter k channels samples).kept := by
  unfold State.deliver
  simp only [Keeps.ite_iff, ↓State.flushProduced_kept, State.hostWrite_keeps, State.renderTo_keeps, ↓State.setStream_kept, hk, implies_true,
      and_self, ↓State.kept_mk, State.kept_fold]

/-! Programs of tile operations keep what the machine under them keeps. -/

theorem TileRun.nans_kept (t : TileRun) (n : Nat) : (t.nans n).st.kept = t.st.kept := State.nanProduced_kept ..

theorem TileRun.narrow_kept (t : TileRun) (c : TileCtx) (dst src tensor : Nat) (flat : Bool) :
    (t.narrow c dst src tensor flat).st.kept = t.st.kept := by
  unfold TileRun.narrow
  extract_lets x r seed rows u n8 ns t1 st
  have counted : st.kept = t.st.kept := (State.countNarrow_kept ..).trans rfl
  exact ite_kept ((State.addSteps_kept ..).trans counted) counted

theorem TileRun.segment_keeps (t : TileRun) (c : TileCtx) (ls : List StackLayer) (src : Stored) (hop : Nat) (d : Delay) (new : List TRow) (ends :
    Bool)
    (hk : Keeps μ κ t.st.kept) : Keeps μ κ (t.segment c ls src hop d new ends).1.st.kept := by
  unfold TileRun.segment
  extract_lets layers last start i upto env stripes q whole empty s1 s2 s3 s4 first
  have stepped : s2.kept = t.st.kept := by
    refine (foldl_kept (fun s e => ?_) _ _).trans (foldl_kept (fun s e => State.countNarrow_kept ..) _ _)
    exact ite_kept (State.addSteps_kept ..) rfl
  have expanded : Keeps μ κ s3.kept := .foldl (fun s e => State.putExpanded_keeps _ _ _ (.refl _)) (.of_kept stepped hk)
  exact .of_kept ((State.nanProduced_kept ..).trans ((State.bump_kept ..).trans ((State.bump_kept ..).trans (State.bump_kept ..)))) expanded

theorem TileRun.stack_keeps (t : TileRun) (c : TileCtx) (dst src : Nat) (ls : List StackLayer) (hop : Nat) (hk : Keeps μ κ t.st.kept) :
    Keeps μ κ (t.stack c dst src ls hop).st.kept := by
  unfold TileRun.stack
  extract_lets x input layers whole last key old anew cuts pre run y delays rule
  have begun : Keeps μ κ pre.1.st.kept := by
    simp only [pre]
    generalize old = o
    cases o with
    | none => exact hk
    | some d =>
      dsimp only
      split
      · exact TileRun.segment_keeps _ _ _ _ _ _ _ _ hk
      · exact hk
  clear_value pre
  refine .of_kept (s := run.1.st) (State.setStream_kept ..) ?_
  refine List.foldlRecOn (motive := fun r : TileRun × List TRow × Option Delay => Keeps μ κ r.1.st.kept) _ _ begun (fun r hr e he => ?_)
  exact TileRun.segment_keeps _ _ _ _ _ _ _ _ hr

theorem TileRun.carryScan_kept (t : TileRun) (c : TileCtx) (dst sect : Nat) (r : List VRow × Option Scan × Nat) :
    (t.carryScan c dst sect r).st.kept = t.st.kept := by
  unfold TileRun.carryScan
  extract_lets x st
  refine (TileRun.nans_kept ..).trans ?_
  show st.kept = t.st.kept
  simp only [st]
  split
  · exact State.setStream_kept ..
  · rfl

theorem TileRun.op_keeps (t : TileRun) (c : TileCtx) (o : TileOp) (hk : Keeps μ κ t.st.kept) : Keeps μ κ (t.op c o).st.kept := by
  cases o with
  | curve tile slot dst a =>
    rw [TileRun.op]
    split
    · exact .of_kept (TileRun.nans_kept ..) hk
    · exact hk
  | map2 | fma | map1 | sum | max | min | square | shallow => exact .of_kept (TileRun.nans_kept ..) hk
  | dropout => exact .of_kept ((TileRun.nans_kept ..).trans (State.addSteps_kept ..)) hk
  | uniform => exact .of_kept (State.addSteps_kept ..) hk
  | grad => exact .of_kept ((TileRun.nans_kept ..).trans (State.setStream_kept ..)) hk
  | gradEnd => exact .of_kept ((TileRun.nans_kept ..).trans (State.setStream_kept ..)) hk
  | narrow => exact .of_kept (TileRun.narrow_kept ..) hk
  | stack => exact TileRun.stack_keeps _ _ _ _ _ _ hk
  | scan => exact .of_kept (TileRun.carryScan_kept ..) hk
  | biquad => exact .of_kept (TileRun.carryScan_kept ..) hk
  | store => exact State.storeTensor_keeps _ _ _ _ hk
  | writeMap => exact State.writeMap_keeps _ _ _ _ hk
  | hod => exact State.hodChain_keeps _ _ _ _ _ _ hk
  | joint => exact .of_kept (State.actLink_kept ..) hk
  | _ => exact hk

theorem TileRun.step_keeps (t : TileRun) (c : TileCtx) (o : TileOp) {u : TileRun} (h : t.step c o = .ok u) (hk : Keeps μ κ t.st.kept) :
    Keeps μ κ u.st.kept := by
  unfold TileRun.step at h
  split at h
  · split at h
    · cases h
    · next r hr =>
      cases h
      exact .of_kept (State.takeLink_kept _ _ _ _ _ _ hr) hk
  · split at h
    · cases h
    · next s hs =>
      cases h
      exact .of_kept (State.sendRows_kept _ _ _ _ hs) hk
  · dsimp only at h
    split at h
    · cases h
    · cases h
      exact TileRun.op_keeps _ _ _ (State.readStop_keeps _ _ hk)

theorem TileRun.steps_keeps (c : TileCtx) (os : List TileOp) (t : TileRun) (hk : Keeps μ κ t.st.kept) :
    Keeps μ κ (TileRun.steps c os t).1.st.kept := by
  induction os generalizing t with
  | nil => exact hk
  | cons o os ih =>
    unfold TileRun.steps
    split
    · next u hu =>
      have stepped := TileRun.step_keeps _ _ _ hu hk
      exact ih _ stepped
    · split
      · split
        · exact .of_kept (State.jointWait_kept ..) hk
        · exact hk
      · exact hk

theorem State.runProgram_keeps (s : State) (c : TileCtx) (ops : List TileOp) (bench : Bench) (hk : Keeps μ κ s.kept) :
    Keeps μ κ (s.runProgram c ops bench).1.st.kept :=
  TileRun.steps_keeps _ _ _ hk

theorem State.finishChunk_keeps (s : State) (n : Nat) (c : Cmd) (k : Chunk) (channels : Nat) (samples : List Nat) (hk : Keeps μ κ s.kept) :
    Keeps μ κ (s.finishChunk n c k channels samples).kept := by
  unfold State.finishChunk
  extract_lets plan im s1 k1 s2 x s3 clipped s4 k2 s5 s6 s7 s8 s9 s10
  have delivered : Keeps μ κ s9.kept := by
    refine State.deliver_keeps _ _ _ _ _ _ (.of_kept ?_ hk)
    simp only [s1, s2, s3, s4, s5, s6, s7, s8, State.digestSamples_kept, State.mapJoints_kept, State.wr_kept, State.mapChunk_kept, State.kept_ite,
      State.bump_kept, State.setStream_kept, State.writeCarried_kept, State.retune_kept, State.spend_kept, ite_self]
  clear_value s9
  exact State.retryWaiting_keeps _ _ _ (.ite (State.settleChunks_keeps _ _ delivered) (State.endChunk_keeps _ _ _ _ delivered))

theorem State.workChunk_keeps (s : State) (n : Nat) (c : Cmd) (k : Chunk) (features : HostRead) (w : ChunkWork) (hk : Keeps μ κ s.kept) :
    Keeps μ κ (s.workChunk n c k features w).kept := by
  unfold State.workChunk
  extract_lets plan im channels ctx r t samples
  have ran : Keeps μ κ r.1.st.kept := State.runProgram_keeps _ _ _ _ (.of_kept (State.openChunk_kept ..) hk)
  have kept : Keeps μ κ t.kept := .of_kept (State.mapChunk_kept ..) ran
  clear_value t
  split
  · exact State.poisonHalt_keeps _ _ _ _ _ _ kept
  · exact kept
  · split
    · exact kept
    · split
      · exact State.stopAt_keeps _ _ _ _ _ _ (State.hostWrite_keeps kept)
      · exact State.finishChunk_keeps _ _ _ _ _ _ kept

theorem State.faultChunk_keeps (s : State) (n counter : Nat) (hk : Keeps μ κ s.kept) : Keeps μ κ (s.faultChunk n counter).kept := by
  unfold State.faultChunk
  simp only [State.deviceFault_keeps, ↓State.mapJoints_kept, ↓State.restoreCarried_kept, State.retryWaiting_keeps, hk]

theorem State.runChunk_keeps (s : State) (n : Nat) (c : Cmd) (k : Chunk) (features : HostRead) (w : ChunkWork) (hk : Keeps μ κ s.kept) :
    Keeps μ κ (s.runChunk n c k features w).kept := by
  unfold State.runChunk
  extract_lets plan q t r reached u v
  have moved : Keeps μ κ r.1.kept := State.planMoves_keeps _ _ _ _ _ _ _ _ _ (State.readStop_keeps _ _ hk)
  split
  · exact State.poisonHalt_keeps _ _ _ _ _ _ (State.readStop_keeps _ _ hk)
  · split
    · exact State.stopAt_keeps _ _ _ _ _ _ (.of_kept (State.mapChunk_kept ..) moved)
    · exact .of_kept (State.jointWait_kept ..) (.of_kept (State.mapChunk_kept ..) moved)
    · refine State.workChunk_keeps _ _ _ _ _ _ (.of_kept ?_ moved)
      simp only [v, u, reached, State.mapChunk_kept, State.bump_kept]

theorem State.brickError_keeps (s : State) (a : Nat) (correctable : Bool) (hk : Keeps μ κ s.kept) : Keeps μ κ (s.brickError a correctable).kept := by
  unfold State.brickError
  dsimp only
  split
  · exact hk
  · split
    · exact .of_kept (State.bump_kept ..) hk
    · split
      · exact hk
      · exact State.setBrick_keeps (fun h => h.brick _) hk

theorem State.disableRing_keeps (s : State) (n : Nat) (hk : Keeps μ κ s.kept) : Keeps μ κ (s.disableRing n).kept := by
  unfold State.disableRing
  simp only [Keeps.ite_iff, State.abandonHalted_keeps, ↓State.setRing_kept, ↓State.setRingState_kept, ↓State.wr_kept, hk, implies_true, and_self]

theorem endChunks_keeps (n : Nat) (cs : List Cmd) (ended : Bool) (s : State) (hk : Keeps μ κ s.kept) : Keeps μ κ (endChunks n cs ended s).kept := by
  induction cs generalizing s ended with
  | nil => exact hk
  | cons c cs ih =>
    unfold endChunks
    split
    · exact ih _ _ hk
    · next k hc =>
      split
      · exact ih _ _ hk
      · extract_lets r
        have hr : Keeps μ κ r.2.kept := .of_kept ((congrArg State.kept (snd_ite ..)).trans (ite_kept rfl (State.chunkRuns_kept ..))) hk
        clear_value r
        split
        · exact ih _ _ hr
        · refine ih _ _ (State.finish_keeps _ _ _ _ _ _ _ (.of_kept ?_ hr))
          exact ite_kept (State.mapJoints_kept ..) ((State.wr_kept ..).trans ((State.setStream_kept ..).trans
            ((State.restoreCarried_kept ..).trans (State.mapJoints_kept ..))))

theorem State.endAway_keeps (s : State) (n : Nat) (c : Cmd) (hk : Keeps μ κ s.kept) : Keeps μ κ (s.endAway n c).kept := by
  unfold State.endAway
  simp only [Keeps.ite_iff, State.endIgnored_keeps, State.endLoad_keeps, State.finish_keeps, ↓State.freeWord_kept, ↓State.mapCmd_kept, hk,
      implies_true, and_self]

theorem State.detachRing_keeps (s : State) (n : Nat) (hk : Keeps μ κ s.kept) : Keeps μ κ (s.detachRing n).kept := by
  unfold State.detachRing
  extract_lets stays s1 s2 s3 r s4 stuck s5 upto s6 s7 s8
  have cut : Keeps μ κ s4.kept := by
    simp only [s1, s2, s3, s4]
    simp only [Keeps.ite_iff, ↓State.loseEntries_kept, ↓State.setRing_kept, ↓State.setRingState_kept, ↓State.wr_kept, hk, implies_true, and_self]
  clear_value s4
  have ended : Keeps μ κ s7.kept :=
    .foldl (fun t c => State.endAway_keeps _ _ _ (.refl _)) (endChunks_keeps _ _ _ _ (.foldl (fun t c => State.abandonCmd_keeps _ _ _ (.refl _)) cut))
  clear_value s7
  have kept : Keeps μ κ s8.kept := ended
  exact .foldl (fun t r => State.endRender_keeps _ _ _ _ (.refl _)) kept

theorem State.detach_keeps (s : State) (linkDown : Bool) (hk : Keeps μ κ s.kept) : Keeps μ κ (s.detach linkDown).kept := by
  unfold State.detach
  simp only [Keeps.ite_iff, Keeps.foldl, ↓State.bump_kept, State.detachRing_keeps, ↓State.wr_kept, Keeps.refl, hk, implies_true, and_self,
      ↓State.kept_mk, State.kept_fold]

theorem State.apertureRead_keeps (s : State) (offset width : Nat) (hk : Keeps μ κ s.kept) : Keeps μ κ (s.apertureRead offset width).2.kept := by
  unfold State.apertureRead
  simp only [Keeps.ite_iff, ↓State.freeWord_kept, State.repair_keeps, hk, implies_true, and_self, snd_ite]

theorem State.adoptStream_keeps (s : State) (n : Nat) (image : Bytes) (hk : Keeps μ κ s.kept) : Keeps μ κ (s.adoptStream n image).kept := by
  unfold State.adoptStream
  extract_lets plan im record retune s1 s2 s3 x s4 s5
  have joined : Keeps μ κ s3.kept := by
    have hs2 : Keeps μ κ s2.kept := by
      simp only [s1, s2]
      simp only [↓State.wr_kept, hk]
    refine .ite hs2 ?_
    cases hj : s2.addJoints plan (planJoints im) with
    | none => exact hs2
    | some v => exact .of_kept (State.addColls_kept ..) (.of_kept (State.addJoints_kept _ _ _ hj) hs2)
  clear_value s3
  have placed : Keeps μ κ s5.kept := State.devWrite_keeps (by
    simp only [s4]
    simp only [↓State.installRecord_kept, ↓State.placeAway_kept, ↓State.setStream_kept, joined])
  clear_value s5
  exact .ite placed (.of_kept rfl placed)

theorem State.adoptImage_keeps (s : State) (n : Nat) (image : Bytes) (hk : Keeps μ κ s.kept) : Keeps μ κ (s.adoptImage n image).kept := by
  unfold State.adoptImage
  simp only [Keeps.ite_iff, State.adoptStream_keeps, ↓State.bump_kept, hk, implies_true, and_self]

theorem State.adoptShadows_keeps (s : State) (hk : Keeps μ κ s.kept) : Keeps μ κ (s.adoptShadows).kept := by
  unfold State.adoptShadows
  simp only [Keeps.foldl, State.adoptImage_keeps, ↓State.bump_kept, ↓State.countShadows_kept, ↓State.mapPair_kept, Keeps.refl, hk, implies_true]

theorem State.installResync_keeps (s : State) (n : Nat) (image : Bytes) (hk : Keeps μ κ s.kept) : Keeps μ κ (s.installResync n image).kept := by
  unfold State.installResync
  repeat' split
  all_goals simp only [Keeps.ite_iff, Keeps.foldl, ↓State.bump_kept, ↓State.cutSamples_kept, State.finish_keeps, ↓State.installRecord_kept,
      ↓State.mapPair_kept, ↓State.setStream_kept, ↓State.wr_kept, Keeps.refl, hk, implies_true, and_self]

theorem State.installJoin_keeps (s : State) (n : Nat) (image : Bytes) (hk : Keeps μ κ s.kept) : Keeps μ κ (s.installJoin n image).kept := by
  unfold State.installJoin
  simp only [Keeps.ite_iff, State.adoptStream_keeps, ↓State.bump_kept, ↓State.mapPair_kept, ↓State.progDone_kept, ↓State.progHold_kept,
      ↓State.setStream_kept, hk, implies_true, and_self]

theorem State.runCheckpoint_keeps (s : State) (n : Nat) (c : Cmd) (hk : Keeps μ κ s.kept) : Keeps μ κ (s.runCheckpoint n c).kept := by
  unfold State.runCheckpoint
  simp only [Keeps.ite_iff, ↓State.begin_kept, State.finishDone_keeps, ↓State.pushCheckpoint_kept, State.reject_keeps, ↓State.setXfer_kept, hk,
      implies_true, and_self, fst_ite, snd_ite]

theorem State.leaveBoundary_keeps (s : State) (hk : Keeps μ κ s.kept) : Keeps μ κ (s.leaveBoundary).kept := by
  unfold State.leaveBoundary
  split
  · exact .of_kept (State.mapPair_kept ..) hk
  · split
    · exact hk
    · dsimp only
      simp only [State.wr_kept, State.progHold_kept, State.mapPair_kept]
      exact .foldl (fun t n => State.cancelChunks_keeps _ _ _ (.refl _)) hk

theorem State.setCommitted_keeps (s t : State) (set : List (Nat × Nat)) (hk : Keeps μ κ t.kept) : Keeps μ κ (s.setCommitted t set).kept := by
  unfold State.setCommitted
  simp only [Keeps.ite_iff, Keeps.foldl, State.disableRing_keeps, ↓State.enableRing_kept, ↓State.lanesCommitted_kept, ↓State.placeExpanders_kept,
      ↓State.wr_kept, Keeps.refl, hk, implies_true, and_self, ↓State.kept_mk, State.kept_fold]

theorem State.retryProtected_keeps (s : State) (hk : Keeps μ κ s.kept) : Keeps μ κ (s.retryProtected).kept := by
  refine Keeps.foldl (fun t e => Keeps.foldl (fun t c => ?_) (.refl _)) hk
  split
  · exact .refl _
  · simp only [Keeps.ite_iff, ↓State.bump_kept, State.clearHalt_keeps, ↓State.mapCmd_kept, Keeps.refl, implies_true, and_self]

theorem State.newEpoch_keeps (s : State) (n : Nat) (hk : Keeps μ κ s.kept) : Keeps μ κ (s.newEpoch n).kept := by
  unfold State.newEpoch
  simp only [↓State.bump_kept, State.retryProtected_keeps, ↓State.wr_kept, hk]

theorem State.conclude_keeps (s : State) (i : Nat) (p : Pending) (hk : Keeps μ κ s.kept) : Keeps μ κ (s.conclude i p).1.kept := by
  unfold State.conclude
  dsimp only
  repeat' split
  all_goals simp only [↓State.freeWord_kept, ↓State.putSet_kept, State.setCommitted_keeps, ↓State.setSession_kept, hk, ↓State.kept_mk,
      State.kept_fold]

theorem State.concludeAll_keeps (f : Nat) (s : State) (e : Nat) (hk : Keeps μ κ s.kept) : Keeps μ κ (State.concludeAll f s e).1.kept := by
  induction f generalizing s e with
  | zero => exact hk
  | succ f ih =>
    unfold State.concludeAll
    dsimp only
    have due := Keeps.of_kept s.dueCommits_kept hk
    split
    · exact due
    · exact ih _ _ (State.conclude_keeps _ _ _ due)

theorem State.commitBoundary_keeps (s : State) (hk : Keeps μ κ s.kept) : Keeps μ κ (s.commitBoundary).kept := by
  unfold State.commitBoundary
  simp only [Keeps.ite_iff, State.concludeAll_keeps, State.newEpoch_keeps, hk, implies_true, and_self]

theorem State.broadcast_keeps (s : State) (rounds resent : Nat) (failed : List Nat) (refUs : Nat) (hk : Keeps μ κ s.kept) :
    Keeps μ κ (s.broadcast rounds resent failed refUs).kept := by
  unfold State.broadcast
  simp only [Keeps.foldl, ↓State.bump_kept, ↓State.endPhase_kept, State.fenceBrick_keeps, ↓State.wr_kept, Keeps.refl, hk, implies_true]

theorem State.startChunk_keeps (s : State) (n : Nat) (c : Cmd) (k : Chunk) (hk : Keeps μ κ s.kept) : Keeps μ κ (s.startChunk n c k).kept := by
  unfold State.startChunk
  dsimp only
  repeat' split
  all_goals simp only [↓State.begin_kept, ↓State.bump_kept, ↓State.mapChunk_kept, State.protectHalt_keeps, hk]

theorem State.releaseChunk_keeps (s : State) (n counter : Nat) (hk : Keeps μ κ s.kept) : Keeps μ κ (s.releaseChunk n counter).kept := by
  unfold State.releaseChunk
  repeat' split
  all_goals simp only [Keeps.ite_iff, ↓State.bump_kept, ↓State.mapChunk_kept, State.startChunk_keeps, hk, implies_true, and_self]

theorem State.releaseChunks_keeps (s : State) (hk : Keeps μ κ s.kept) : Keeps μ κ (s.releaseChunks).kept := by
  exact (Keeps.foldl (fun t e => Keeps.foldl (fun t c => State.releaseChunk_keeps _ _ _ (.refl _)) (.refl _)) hk :)

theorem State.admitWaiting_keeps (s : State) (hk : Keeps μ κ s.kept) : Keeps μ κ (s.admitWaiting).kept := by
  unfold State.admitWaiting
  refine .foldl (fun t e => State.retryWaiting_keeps _ _ _ (.refl _)) (.foldl (fun t e => ?_) hk)
  split
  · exact .ite (State.admitBind_keeps _ _ _ (.refl _)) (.refl _)
  · exact .refl _

theorem State.putStatus_keeps (s : State) (noStatus : Bool) (hk : Keeps μ κ s.kept) : Keeps μ κ (s.putStatus noStatus).kept := by
  unfold State.putStatus
  simp only [Keeps.ite_iff, State.hostWrite_keeps, ↓State.wr_kept, hk, implies_true, and_self, ↓State.kept_mk, State.kept_fold]

theorem State.progressNotice_keeps (s : State) (n : Nat) (hk : Keeps μ κ s.kept) : Keeps μ κ (s.progressNotice n).kept := by
  unfold State.progressNotice
  repeat' split
  all_goals simp only [Keeps.ite_iff, ↓State.bump_kept, State.putEntry_keeps, ↓State.setRing_kept, hk, implies_true, and_self]

theorem State.planAt_keeps {s : State} {start : Nat} (hk : Keeps false κ s.kept) : Keeps false κ (s.planAt start).kept := by
  obtain ⟨p, hp⟩ := s.planAt_kept start
  exact .of_mems (a := s.kept) (by rw [hp]) hk

theorem State.lastTick_keeps {s : State} {t : Nat} (hk : Keeps false κ s.kept) : Keeps false κ (s.lastTick t).kept := by
  obtain ⟨p, hp⟩ := s.lastTick_kept t
  exact .of_mems (a := s.kept) (by rw [hp]) hk

theorem State.tickWork_keeps {s : State} {t : Nat} (hk : Keeps false κ s.kept) : Keeps false κ (s.tickWork t).kept :=
  .of_mems (a := s.kept) (by rw [s.tickWork_kept t]) hk

/-- The machine with its next course planned. -/
def State.planned (s : State) : State := if (s.sched.next.map (·.start)) == some s.pos then s else s.planAt s.pos

/-- The machine with its course boundary marked as acted on. -/
def State.boundaryMarked (s : State) : State := { s with clk := { s.clk with boundaryAt := some s.clk.frames } }

/-- The machine with the plan of the course that begins taken. -/
def State.planTaken (s : State) : State := { s with sched := { s.sched with next := none } }

theorem State.boundaryWork_none (s : State) (noStatus : Bool) (h : s.planned.sched.next = none) : s.boundaryWork noStatus = s.planned := by
  unfold State.boundaryWork
  extract_lets s1
  rw [show s1.sched.next = none from h]
  rfl

/-- Between its mark and its end the work of a course boundary takes the plan; everything else of it leaves the marks. -/
theorem State.boundaryWork_some (s : State) (noStatus : Bool) {plan : CoursePlan} (h : s.planned.sched.next = some plan) :
    ∃ t : State, (∀ μ, Keeps μ s.planned.boundaryMarked.kept t.kept) ∧ ∀ μ, Keeps μ t.planTaken.kept (s.boundaryWork noStatus).kept := by
  unfold State.boundaryWork
  extract_lets s1 frames c1 s2 s3
  rw [show s1.sched.next = some plan from h]
  dsimp -zeta only
  extract_lets s4 s5 s6 c2 s7 s8 s9 r s10 s11 p s12 s13
  refine ⟨s11, fun μ => ?_, fun μ => ?_⟩
  · have committed : Keeps μ s2.kept s5.kept := by
      refine State.commitBoundary_keeps _ (.of_kept ?_ (.refl _))
      exact (State.switchClock_kept ..).trans ((State.takeMeasure_kept ..).trans (ite_kept (State.bump_kept ..) rfl))
    have anchored : Keeps μ s2.kept s7.kept := by
      have counted : s6.kept = s5.kept := (State.countCourses_kept ..).trans ((State.takeArrears_kept ..).trans (State.putLedger_kept ..))
      refine .of_kept (ite_kept ?_ counted) committed
      exact (State.startAnchor_kept ..).trans counted
    have left : Keeps μ s2.kept s8.kept := State.leaveBoundary_keeps _ (.of_kept (State.handoverSwitch_kept ..) anchored)
    have windowed : Keeps μ s2.kept s10.kept := .of_kept (State.startWindows_kept ..) left
    exact State.releaseChunks_keeps _ (State.admitWaiting_keeps _ windowed)
  · exact .foldl (fun t e => State.progressNotice_keeps _ _ (.refl _)) (.of_kept (State.autoCheckpoints_kept ..) (State.putStatus_keeps _ _ (.refl _)))

theorem State.boundaryWork_keeps (s : State) (noStatus : Bool) (hk : Keeps false κ s.kept) : Keeps false κ (s.boundaryWork noStatus).kept := by
  have planned : Keeps false κ s.planned.kept := .ite hk (State.planAt_keeps hk)
  cases hp : s.planned.sched.next with
  | none => exact State.boundaryWork_none s noStatus hp ▸ planned
  | some plan =>
    obtain ⟨t, turn, report⟩ := State.boundaryWork_some s noStatus hp
    have marked : Keeps false κ s.planned.boundaryMarked.kept := .of_mems (a := s.planned.kept) rfl planned
    exact Keeps.trans (b := t.planTaken.kept) (.of_mems (a := t.kept) rfl (marked.trans (turn false))) (report false)

theorem State.missChunks_keeps (s : State) (a b : Nat) (hk : Keeps μ κ s.kept) : Keeps μ κ (s.missChunks a b).kept := by
  refine Keeps.foldl (fun t e => .ite (.refl _) (Keeps.foldl (fun t c => ?_) (.refl _))) hk
  split
  · exact .ite (State.finish_keeps _ _ _ _ _ _ _ (.refl _)) (.refl _)
  · exact .refl _

theorem State.jump_keeps (s : State) (new : Nat) (hk : Keeps false κ s.kept) : Keeps false κ (s.jump new).kept := by
  unfold State.jump
  extract_lets from' s1 s2 s3 s4
  split
  · exact hk
  · have missed : Keeps false κ s2.kept := by
      simp only [s1, s2]
      simp only [Keeps.ite_iff, ↓State.bump_kept, ↓State.feedJump_kept, State.missChunks_keeps, ↓State.missRange_kept, ↓State.slipJump_kept,
          ↓State.undecide_kept, ↓State.wr_kept, hk, implies_true, and_self]
    clear_value s2
    have worked : Keeps false κ s4.kept := by
      refine State.boundaryWork_keeps _ _ (State.planAt_keeps ?_)
      exact .of_kept (by simp only [s3, State.sendCourseSync_kept, State.decideFrame_kept, State.replayFrame_kept, State.discardSkipped_kept, State.slipAnchored_kept]) missed
    exact .ite (State.planAt_keeps worked) worked

theorem State.action_keeps (s : State) (i key v : Nat) (data : Bytes) (flashOk : Bool) (hk : Keeps μ κ s.kept) :
    Keeps μ κ (s.action i key v data flashOk).2.kept := by
  unfold State.action
  simp only [Keeps.ite_iff, ↓State.acceptCommit_kept, ↓State.advanceSvn_kept, ↓State.cancelCommit_kept, ↓State.clearLog_kept,
      ↓State.clearWatch_kept, ↓State.closeSession_kept, ↓State.emptyPlan_kept, ↓State.emptyTable_kept, ↓State.makeDue_kept, ↓State.putKey_kept,
      ↓State.requestHandover_kept, ↓State.setGroup_kept, ↓State.setSession_kept, ↓State.startLeave_kept, ↓State.startStore_kept,
      ↓State.startSync_kept, ↓State.startUpdate_kept, State.unbindStream_keeps, ↓State.writeNonce_kept, hk, implies_true, and_self, ↓State.kept_mk,
      State.kept_fold, snd_ite, ↓State.fuseCustomer_kept]

theorem State.put_keeps (s : State) (i key : Nat) (r : ObjRow) (v : Nat) (data : Bytes) (flashOk : Bool) (hk : Keeps μ κ s.kept) :
    Keeps μ κ (s.put i key r v data flashOk).2.kept := by
  unfold State.put
  repeat' split
  all_goals simp only [State.action_keeps, ↓State.clearCounter_kept, ↓State.putRw_kept, ↓State.setSession_kept, hk]

theorem State.expedited_keeps (s : State) (i op key v : Nat) (faults : List (Bool × Nat)) (flashOk : Bool) (hk : Keeps μ κ s.kept) :
    Keeps μ κ (s.expedited i op key v faults flashOk).2.2.kept := by
  unfold State.expedited
  repeat' split
  all_goals simp only [Keeps.ite_iff, State.put_keeps, hk, implies_true, and_self, snd_ite]

theorem State.segWrite_keeps (s : State) (i : Nat) (g : Segment) (faults : List (Bool × Nat)) (flashOk : Bool) (hk : Keeps μ κ s.kept) :
    Keeps μ κ (s.segWrite i g faults flashOk).2.kept := by
  unfold State.segWrite
  split
  · exact hk
  · next r hr =>
    extract_lets x old at' total data' sequence tooLong whole v x' put checks code discarded
    have kept : Keeps μ κ x'.kept := .of_kept (State.setSession_kept ..) hk
    have hput : Keeps μ κ put.2.kept := by
      simp only [put]
      split
      · exact State.put_keeps _ _ _ _ _ _ _ kept
      · exact hk
    clear_value put
    split
    · exact .ite kept hk
    · split
      · exact hput
      · exact .of_kept (State.setSession_kept ..) hk

theorem State.mgmtExpedited_keeps (s : State) (i op key v : Nat) (faults : List (Bool × Nat)) (body : Bytes) (flashOk : Bool) (hk :
    Keeps μ κ s.kept) : Keeps μ κ (s.mgmtExpedited i op key v faults body flashOk).2.2.kept := by
  unfold State.mgmtExpedited
  simp only [State.expedited_keeps, hk]

theorem State.mgmtRequest_keeps (s : State) (i type : Nat) (body : Bytes) (flashOk : Bool) (hk : Keeps μ κ s.kept) :
    Keeps μ κ (s.mgmtRequest i type body flashOk).2.2.kept := by
  unfold State.mgmtRequest
  simp only [Keeps.ite_iff, State.mgmtExpedited_keeps, ↓State.segRead_kept, State.segWrite_keeps, State.segWrite_keeps, ↓State.stageBody_kept, hk,
      implies_true, and_self, snd_ite]

theorem State.mgmtAct_keeps (s : State) (i type : Nat) (m : Mgmt) (dg body : Bytes) (flashOk : Bool) (hk : Keeps μ κ s.kept) :
    Keeps μ κ (s.mgmtAct i type m dg body flashOk).2.2.kept := by
  unfold State.mgmtAct
  simp only [Keeps.ite_iff, ↓State.authBody_kept, ↓State.closeSession_kept, State.mgmtRequest_keeps, hk, implies_true, and_self, snd_ite]

theorem State.mgmtInOrder_keeps (s : State) (i : Nat) (m : Mgmt) (d : Datagram) (flashOk : Bool) (hk : Keeps μ κ s.kept) :
    Keeps μ κ (s.mgmtInOrder i m d flashOk).kept := by
  unfold State.mgmtInOrder
  dsimp only
  repeat' split
  all_goals simp only [↓State.bump_kept, State.mgmtAct_keeps, ↓State.reply_kept, ↓State.setSession_kept, hk]

theorem State.datagram_keeps (s : State) (d : Datagram) (flashOk : Bool) (hk : Keeps μ κ s.kept) : Keeps μ κ (s.datagram d flashOk).kept := by
  unfold State.datagram
  dsimp only
  repeat' split
  all_goals simp only [↓State.bump_kept, State.mgmtInOrder_keeps, ↓State.openSession_kept, ↓State.reply_kept, hk]

theorem State.arrive_keeps (s : State) (d : Datagram) (held flashOk : Bool) (hk : Keeps μ κ s.kept) : Keeps μ κ (s.arrive d held flashOk).kept := by
  unfold State.arrive
  simp only [Keeps.ite_iff, ↓State.bump_kept, State.datagram_keeps, hk, implies_true, and_self, ↓State.kept_mk, State.kept_fold]

theorem State.takeNext_keeps (s : State) (flashOk : Bool) (hk : Keeps μ κ s.kept) : Keeps μ κ (s.takeNext flashOk).kept := by
  unfold State.takeNext
  split
  · exact hk
  · exact State.datagram_keeps _ _ _ hk

theorem State.barRun_keeps (s : State) (page cmd data : Nat) (flashOk : Bool) (hk : Keeps μ κ s.kept) :
    Keeps μ κ (s.barRun page cmd data flashOk).kept := by
  unfold State.barRun
  extract_lets op tag faults code r
  split
  · simp only [State.kept_ite, State.barDone_kept, State.askPartner_kept, ite_self, hk]
  · exact .of_kept (State.barDone_kept ..) (State.expedited_keeps _ _ _ _ _ _ _ hk)

theorem State.barAccess_keeps (s : State) (page : Nat) (aligned : Bool) (cmd data : Nat) (flashOk : Bool) (hk : Keeps μ κ s.kept) :
    Keeps μ κ (s.barAccess page aligned cmd data flashOk).kept := by
  unfold State.barAccess
  simp only [Keeps.ite_iff, ↓State.barOverrun_kept, State.barRun_keeps, ↓State.barTake_kept, hk, implies_true, and_self]

theorem State.bar0Write_keeps (s : State) (offset v : Nat) (flashOk : Bool) (hk : Keeps μ κ s.kept) :
    Keeps μ κ (s.bar0Write offset v flashOk).kept := by
  unfold State.bar0Write
  repeat' split
  all_goals simp only [State.barAccess_keeps, ↓State.setSession_kept, hk]

theorem State.registerAccess_keeps (s : State) (offset : Nat) (aligned : Bool) (value : Option Nat) (flashOk : Bool) (hk : Keeps μ κ s.kept) :
    Keeps μ κ (s.registerAccess offset aligned value flashOk).kept := by
  unfold State.registerAccess
  repeat' split
  all_goals simp only [Keeps.ite_iff, State.bar0Write_keeps, ↓State.send_kept, hk, implies_true, and_self]

theorem State.mboxRun_keeps (s : State) (page cmd : Nat) (d : Bytes) (buffer : Option Bytes) (faults : List (Bool × Nat)) (flashOk : Bool) (hk :
    Keeps μ κ s.kept) : Keeps μ κ (s.mboxRun page cmd d buffer faults flashOk).kept := by
  unfold State.mboxRun
  extract_lets tag g faults' code r q
  split
  · simp only [State.kept_ite, State.barDone_kept, State.askPartner_kept, ite_self, hk]
  · split
    · exact .of_kept (State.barDone_kept ..) (State.segWrite_keeps _ _ _ _ _ hk)
    · have read : Keeps μ κ q.2.2.kept := .of_kept (State.segRead_kept ..) hk
      exact .ite (.of_kept (State.barDone_kept ..) read) (.of_kept (State.barDone_kept ..) (State.hostWrite_keeps read))

theorem State.mboxAccess_keeps (s : State) (page cmd mbox : Nat) (desc buffer : Option Bytes) (flashOk : Bool) (hk : Keeps μ κ s.kept) :
    Keeps μ κ (s.mboxAccess page cmd mbox desc buffer flashOk).kept := by
  unfold State.mboxAccess
  repeat' split
  all_goals simp only [Keeps.ite_iff, ↓State.barDone_kept, ↓State.barOverrun_kept, ↓State.barTake_kept, State.mboxRun_keeps, hk, implies_true,
      and_self]

theorem State.partnerAccess_keeps (s : State) (tag : Nat) (body : Bytes) (flashOk : Bool) (hk : Keeps μ κ s.kept) :
    Keeps μ κ (s.partnerAccess tag body flashOk).kept := by
  unfold State.partnerAccess
  extract_lets level op flags key n i faults write g faults' r q e
  split
  · exact hk
  · split
    · split
      · exact .of_kept (State.answerPartner_kept ..) (State.segWrite_keeps _ _ _ _ _ hk)
      · exact .of_kept ((State.answerPartner_kept ..).trans (State.segRead_kept ..)) hk
    · exact .of_kept (State.answerPartner_kept ..) (State.expedited_keeps _ _ _ _ _ _ _ hk)

theorem State.access_keeps (s : State) (p : Path) (flashOk : Bool) (hk : Keeps μ κ s.kept) : Keeps μ κ (s.access p flashOk).kept := by
  unfold State.access
  repeat' split
  all_goals simp only [State.arrive_keeps, State.barAccess_keeps, State.mboxAccess_keeps, State.partnerAccess_keeps, State.registerAccess_keeps,
      ↓State.send_kept, State.takeNext_keeps, hk]

theorem State.accessAs_keeps (s : State) (row : Row) (p : Path) (flashOk : Bool) (hk : Keeps μ κ s.kept) :
    Keeps μ κ (s.accessAs row p flashOk).kept := by
  unfold State.accessAs
  simp only [Keeps.ite_iff, State.access_keeps, hk, implies_true, and_self]

theorem State.takeAnswer_keeps (s : State) (page : Nat) (w : PartnerWait) (body : Bytes) (hk : Keeps μ κ s.kept) :
    Keeps μ κ (s.takeAnswer page w body).kept := by
  unfold State.takeAnswer
  simp only [Keeps.ite_iff, ↓State.barDone_kept, State.hostWrite_keeps, ↓State.setSession_kept, hk, implies_true, and_self]

theorem State.takeCorrection_keeps (s : State) (hk : Keeps false κ s.kept) : Keeps false κ (s.takeCorrection).kept := by
  unfold State.takeCorrection
  split
  · exact hk
  · extract_lets first c s1 t
    have jumped : Keeps false κ t.kept := State.jump_keeps _ _ (.of_kept (s := s) rfl hk)
    split
    · exact hk
    · exact .ite (.of_kept (State.wr_kept ..) jumped) jumped

theorem State.beginFrame_keeps (s : State) (prev new : Nat) (lanes : List (Fin 64 × List Bool)) (hk : Keeps false κ s.kept) :
    Keeps false κ (s.beginFrame prev new lanes).kept := by
  have begun : Keeps false κ (({ s with clk := { s.clk with frames := s.clk.frames + 1 } } : State).wr Obj.position new).kept := .of_mems (a := s.kept) rfl hk
  unfold State.beginFrame
  dsimp only
  refine State.takeCorrection_keeps _ ?_
  have moved := State.lanesFrame_keeps _ prev lanes begun
  generalize State.lanesFrame _ prev lanes = t at moved ⊢
  have settled := Keeps.foldl (f := fun (t : State) (e : Nat × Ring) => t.settleChunks e.1) (fun t e => State.settleChunks_keeps _ _ (.refl _)) moved (l := t.rings)
  exact .ite (.of_kept (State.mapPair_kept ..) settled) settled

theorem State.firstFrame_keeps (s : State) (lanes : List (Fin 64 × List Bool)) (hk : Keeps false κ s.kept) :
    Keeps false κ (s.firstFrame lanes).kept := by
  unfold State.firstFrame
  simp only [Keeps.ite_iff, Keeps.foldl, State.beginFrame_keeps, ↓State.setLane_kept, ↓State.startAnchor_kept, Keeps.refl, hk, implies_true,
      and_self, ↓State.kept_mk, State.kept_fold]

theorem State.coastFrame_keeps (s : State) (prev new bitEdges : Nat) (lanes : List (Fin 64 × List Bool)) (hk : Keeps false κ s.kept) :
    Keeps false κ (s.coastFrame prev new bitEdges lanes).kept := by
  unfold State.coastFrame
  simp only [Keeps.foldl, State.beginFrame_keeps, ↓State.missFrames_kept, ↓State.setLane_kept, Keeps.refl, hk, implies_true]

theorem State.lockNow_keeps (s : State) (hk : Keeps μ κ s.kept) : Keeps μ κ (s.lockNow).kept := by
  unfold State.lockNow
  simp only [Keeps.ite_iff, Keeps.foldl, State.refuseRate_keeps, ↓State.wr_kept, Keeps.refl, hk, implies_true, and_self, ↓State.kept_mk,
      State.kept_fold]

theorem State.passedTick_keeps (s : State) (t : Nat) (hk : Keeps false κ s.kept) : Keeps false κ (s.passedTick t).kept := by
  unfold State.passedTick
  extract_lets s1 p s2 s3
  have ticked : Keeps false κ s1.kept := State.tickWork_keeps hk
  have worked : Keeps false κ s3.kept := .ite ticked (State.boundaryWork_keeps _ _ (.of_mems (a := s1.kept) rfl ticked))
  exact State.lastTick_keeps worked

theorem State.anchorAt_keeps (s : State) (p : Int) (ago : Nat) (hk : Keeps false κ s.kept) : Keeps false κ (s.anchorAt p ago).kept := by
  unfold State.anchorAt
  exact .ite (.of_kept rfl hk) (.ite (.of_kept (State.failAnchor_kept ..) hk)
    (.of_kept (State.setFlag_kept ..) (State.jump_keeps _ _ (.of_kept (s := s) rfl hk))))

/-! Programs of tokens keep what the machine under them keeps. -/

theorem TileRun.writeKv_kept (t : TileRun) (c : TileCtx) (a layer head keyTensor valueTensor : Nat) (key value : List F32) :
    (t.writeKv c a layer head keyTensor valueTensor key value).st.kept = t.st.kept := by
  unfold TileRun.writeKv
  simp only [State.countNarrow_kept, State.setStream_kept]

theorem TileRun.attend_kept (t : TileRun) (c : TileCtx) (dst layer head keyTensor valueTensor queryTensor weightTensor q : Nat) (scale : F32)
    (tile slot : Nat) : (t.attend c dst layer head keyTensor valueTensor queryTensor weightTensor q scale tile slot).st.kept = t.st.kept := by
  unfold TileRun.attend
  simp only [TileRun.nans_kept, TileRun.set, State.countNarrow_kept, State.setStream_kept]

theorem TokenRun.takeFrame_kept (t : TokenRun) (c : TileCtx) (src tensor : Nat) : (t.takeFrame c src tensor).run.st.kept = t.run.st.kept := by
  unfold TokenRun.takeFrame
  simp only [State.countNarrow_kept]

theorem TokenRun.op_keeps (t : TokenRun) (c : TileCtx) (a : Nat) (row : Bytes) (o : TokenOp) {u : TokenRun} (h : t.op c a row o = .ok u)
    (hk : Keeps μ κ t.run.st.kept) : Keeps μ κ u.run.st.kept := by
  cases o with
  | tile op =>
    rw [TokenRun.op] at h
    split at h
    · next r hr =>
      obtain rfl := Except.ok.inj h
      exact TileRun.step_keeps _ _ _ hr hk
    · cases h
  | kv =>
    rw [TokenRun.op] at h
    obtain rfl := Except.ok.inj h
    exact .of_kept (TileRun.writeKv_kept ..) hk
  | attend =>
    rw [TokenRun.op] at h
    obtain rfl := Except.ok.inj h
    exact .of_kept (TileRun.attend_kept ..) hk
  | sample =>
    rw [TokenRun.op] at h
    obtain rfl := Except.ok.inj h
    unfold TokenRun.sample
    split
    · exact hk
    · exact .ite (.of_kept (State.bump_kept ..) hk) hk
  | frame =>
    rw [TokenRun.op] at h
    obtain rfl := Except.ok.inj h
    exact .of_kept (TokenRun.takeFrame_kept ..) hk

theorem TokenRun.ops_keeps (c : TileCtx) (a : Nat) (row : Bytes) (os : List TokenOp) (t : TokenRun) {u : TokenRun}
    (h : TokenRun.ops c a row os t = .ok u) (hk : Keeps μ κ t.run.st.kept) : Keeps μ κ u.run.st.kept := by
  induction os generalizing t with
  | nil =>
    cases h
    exact hk
  | cons o os ih =>
    unfold TokenRun.ops at h
    split at h
    · next v hv => exact ih _ h (TokenRun.op_keeps _ _ _ _ _ hv hk)
    · cases h

theorem State.decodeToken_keeps (s : State) (n : Nat) (c : Cmd) (k : Chunk) (begins : Bool) (row : Bytes) (hk : Keeps μ κ s.kept) :
    Keeps μ κ (s.decodeToken n c k begins row).kept := by
  unfold State.decodeToken
  extract_lets q s1 plan im u waitAt
  have read : Keeps μ κ q.1.kept := State.readStop_keeps _ _ hk
  have waiting : ∀ link, Keeps μ κ (waitAt link).kept := fun link => by
    simp only [waitAt]
    split
    · exact .of_kept (State.jointWait_kept ..) read
    · exact read
  split
  · exact State.poisonHalt_keeps _ _ _ _ _ _ read
  · split
    · exact waiting 0
    · next e he =>
      have entered := Keeps.of_kept (State.enterToken_kept _ _ _ _ _ _ he) read
      extract_lets ctx
      split
      · exact read
      · exact State.poisonHalt_keeps _ _ _ _ _ _ read
      · next r hr =>
        have ran : Keeps μ κ r.run.st.kept := TokenRun.ops_keeps _ _ _ _ _ hr entered
        extract_lets w choice
        have chosen : Keeps μ κ choice.2.kept := by
          simp only [choice]
          split
          · exact ran
          · exact .of_kept (State.freeWord_kept ..) ran
        split
        · exact waiting 1
        · next t ht =>
          split
          · exact State.poisonHalt_keeps _ _ _ _ _ _ read
          · exact .of_kept ((State.leaveToken_kept ..).trans (State.pushBytes_kept _ _ _ _ _ _ _ ht)) chosen

theorem State.spillStream_keeps (s : State) (keys : List Nat) (n : Nat) (hk : Keeps μ κ s.kept) : Keeps μ κ (s.spillStream keys n).kept := by
  unfold State.spillStream
  extract_lets cs bytes s1 s2
  split
  · refine .foldl (fun t c => .of_kept ?_ (.refl _)) (.of_kept ?_ hk)
    · exact (State.mapChunk_kept ..).trans (State.spillChunk_kept ..)
    · exact (State.bump_kept ..).trans (State.bump_kept ..)
  · refine .foldl (fun t c => State.deviceFault_keeps _ _ _ _ (.of_kept (State.restoreCarried_kept ..) (.refl _))) (.foldl (fun t j => ?_) ?_)
    · split <;> exact .refl _
    · exact .of_kept (State.bump_kept ..) hk

end Sys2Proof.Machine

/-! LEMMAS. O42: tick boundaries and course boundaries act once, at their positions. -/

namespace Sys2Proof.Machine

/-! ### What the work of a tick leaves of the position and of the watchdog -/

/-- The position, whether the watchdog has failed, and the tick it was last fed. -/
def State.tickView (s : State) : Nat × Bool × Option Nat := (s.rd Obj.position, s.pair.failed, s.pair.fedTick)

theorem State.tickView_wr (s : State) {key : Nat} (v : Nat) (h : Obj.position ≠ key) : (s.wr key v).tickView = s.tickView :=
  congrArg (fun x => (x, s.pair.failed, s.pair.fedTick)) (s.rd_wr_ne v h)

theorem State.tickView_bump (s : State) {key : Nat} (n : Nat) (h : Obj.position ≠ key) : (s.bump key n).tickView = s.tickView :=
  s.tickView_wr _ h

theorem ite_tickView {c : Prop} [Decidable c] {a b : State} {v : Nat × Bool × Option Nat} (ha : a.tickView = v) (hb : b.tickView = v) :
    (if c then a else b).tickView = v := by split <;> assumption

theorem foldl_tickView {α : Type} {f : State → α → State} (h : ∀ s a, (f s a).tickView = s.tickView) (l : List α) (s : State) :
    (l.foldl f s).tickView = s.tickView :=
  foldl_keeps State.tickView h l s

theorem State.tieSend_tickView (s : State) (kind tag : Nat) (body : Bytes) : (s.tieSend kind tag body).tickView = s.tickView :=
  ite_tickView rfl rfl

theorem State.countBeats_tickView (s : State) : s.countBeats.tickView = s.tickView := by
  unfold State.countBeats
  extract_lets p got t
  have counted : t.tickView = s.tickView :=
    ite_tickView rfl (ite_tickView (s.tickView_bump _ (by decide)) (ite_tickView (s.tickView_bump _ (by decide)) rfl))
  exact counted

theorem State.startResync_tickView (s : State) (n c : Nat) : (s.startResync n c).tickView = s.tickView := by
  unfold State.startResync
  split <;> rfl

theorem State.compareDigests_tickView (s : State) (c : Nat) (own theirs : List DigestEntry) :
    (s.compareDigests c own theirs).tickView = s.tickView := by
  unfold State.compareDigests
  extract_lets t
  have compared : t.tickView = s.tickView := by
    refine foldl_tickView (fun s e => ?_) own s
    split
    · exact s.tickView_bump _ (by decide)
    · refine ite_tickView ((State.startResync_tickView ..).trans ?_) rfl
      exact (State.tickView_wr _ _ (by decide)).trans ((State.tickView_wr _ _ (by decide)).trans (s.tickView_bump _ (by decide)))
  exact (t.tickView_bump _ (by decide)).trans compared

theorem State.sendDigest_tickView (s : State) : s.sendDigest.tickView = s.tickView := by
  unfold State.sendDigest
  extract_lets c es s1 theirs s2 s3
  have sent : s3.tickView = s.tickView := ite_tickView (State.tieSend_tickView s2 ..) rfl
  clear_value s3
  refine ite_tickView rfl ?_
  cases theirs with
  | some t => exact (State.compareDigests_tickView ..).trans sent
  | none => exact sent

theorem State.announceLeave_tickView (s : State) : s.announceLeave.tickView = s.tickView :=
  (State.tieSend_tickView ..).trans (s.tickView_wr (key := Obj.role) 3 (by decide))

theorem State.lead_tickView (s : State) (at' : Nat) : (s.lead at').tickView = s.tickView := s.tickView_wr (key := Obj.role) 1 (by decide)

theorem State.handoverSwitch_tickView (s : State) : s.handoverSwitch.tickView = s.tickView := by
  unfold State.handoverSwitch
  extract_lets p t
  have handed : t.tickView = s.tickView :=
    (State.tickView_bump (s.wr Obj.role 2) (key := Obj.handovers) 1 (by decide)).trans (s.tickView_wr 2 (by decide))
  refine ite_tickView rfl (ite_tickView (ite_tickView ?_ rfl) (ite_tickView (ite_tickView ?_ rfl) rfl))
  · exact ite_tickView (t.announceLeave_tickView.trans handed) handed
  · exact (State.tickView_bump _ _ (by decide)).trans (s.lead_tickView _)

theorem State.pushImage_tickView (s : State) (kind purpose n : Nat) (image : Bytes) : (s.pushImage kind purpose n image).tickView = s.tickView :=
  foldl_tickView (fun s _ => s.tieSend_tickView ..) _ s

theorem State.pushCheckpoint_tickView (s : State) (n : Nat) (image : Bytes) : (s.pushCheckpoint n image).2.tickView = s.tickView := by
  unfold State.pushCheckpoint
  split
  · exact s.pushImage_tickView ..
  · rfl

theorem State.takeAutoCheckpoints_tickView (s : State) : s.takeAutoCheckpoints.tickView = s.tickView := by
  refine foldl_tickView (fun s e => ?_) _ s
  dsimp only
  split
  · rfl
  · exact ite_tickView rfl (State.pushCheckpoint_tickView ..)

theorem State.askResyncs_tickView (s : State) : s.askResyncs.tickView = s.tickView := by
  refine foldl_tickView (fun s r => ite_tickView rfl ?_) _ s
  exact State.tieSend_tickView (s.mapPair _) ..

theorem State.beat_position (s : State) : s.beat.rd Obj.position = s.rd Obj.position := by
  unfold State.beat
  split
  · rfl
  · extract_lets t up
    split
    · rfl
    · exact congrArg Prod.fst (State.tieSend_tickView ((t.mapPair _).send _) ..)

/-- A leaf whose watchdog has not failed feeds it in every tick (R484, R485). -/
theorem State.beat_fedTick (s : State) (h : s.pair.failed = false) : s.beat.pair.fedTick = some (s.rd Obj.position / 16) := by
  unfold State.beat
  rw [if_neg (by simp [h])]
  extract_lets t up
  split
  · rfl
  · exact congrArg (fun v => v.2.2) (State.tieSend_tickView ((t.mapPair _).send _) ..)

/-- The work of a tick before its heartbeat leaves the position and the watchdog. -/
theorem State.tickWork_beat (s : State) (n : Nat) : ∃ u : State, s.tickWork n = u.beat ∧ u.tickView = s.tickView := by
  unfold State.tickWork
  extract_lets s1 c s2 s3
  refine ⟨_, rfl, ?_⟩
  have counted : s2.tickView = s.tickView := (ite_tickView s.countBeats_tickView rfl : s1.tickView = s.tickView)
  have sent : s3.tickView = s.tickView := ite_tickView ((State.handoverSwitch_tickView _).trans (s2.sendDigest_tickView.trans counted)) counted
  exact (State.askResyncs_tickView _).trans ((State.takeAutoCheckpoints_tickView _).trans sent)

theorem State.progress_tickView (s : State) : s.progress.tickView = s.tickView := by
  unfold State.progress
  refine ite_tickView rfl (foldl_tickView (fun s e => foldl_tickView (fun s c => ?_) _ s) _ s)
  split
  · exact ite_tickView rfl rfl
  · rfl

theorem State.planAt_tickView (s : State) (start : Nat) : (s.planAt start).tickView = s.tickView := by
  unfold State.planAt
  extract_lets s1 p s2 c s3
  have planned : s3.tickView = s.tickView := s.progress_tickView
  exact ite_tickView ((s3.tickView_wr (key := Obj.vddSetMv) _ (by decide)).trans planned) planned

theorem State.lastTick_tickView (s : State) (n : Nat) : (s.lastTick n).tickView = s.tickView := by
  unfold State.lastTick
  extract_lets next
  exact ite_tickView rfl ((ite_tickView (State.tieSend_tickView ..) rfl).trans (s.planAt_tickView next))

/-! ### The marks of a machine -/

theorem State.tickAt_eq {s t : State} (h : t.kept.2 = s.kept.2) : t.clk.tickAt = s.clk.tickAt := congrArg (fun m => m.2.2.1) h

theorem State.lastTick_tickAt (s : State) (n : Nat) : (s.lastTick n).clk.tickAt = s.clk.tickAt := by
  obtain ⟨p, hp⟩ := s.lastTick_kept n
  exact congrArg (fun m => m.2.2.2.1) hp

theorem State.lastTick_boundaryAt (s : State) (n : Nat) : (s.lastTick n).clk.boundaryAt = s.clk.boundaryAt := by
  obtain ⟨p, hp⟩ := s.lastTick_kept n
  exact congrArg (fun m => m.2.2.1) hp

theorem State.tickWork_tickAt (s : State) (n : Nat) :
    (s.tickWork n).clk.tickAt = some s.clk.frames := congrArg (fun m => m.2.2.2.1) (s.tickWork_kept n)

/-- A machine with its next course planned has a plan, and the other marks as before. -/
theorem State.planned_marks (s : State) : ∃ p, s.planned.kept.2 = (s.clk.frames, s.clk.boundaryAt, s.clk.tickAt, some p) := by
  unfold State.planned
  split
  · next h =>
    cases hn : s.sched.next with
    | none => simp [hn] at h
    | some p => exact ⟨p, by rw [← hn]; rfl⟩
  · obtain ⟨p, hp⟩ := s.planAt_kept s.pos
    exact ⟨p, congrArg Prod.snd hp⟩

/-- The work of a course boundary marks it, takes the plan, and leaves the tick's mark and the frame count (R45). -/
theorem State.boundaryWork_marks (s : State) (noStatus : Bool) :
    (s.boundaryWork noStatus).kept.2 = (s.clk.frames, some s.clk.frames, s.clk.tickAt, none) := by
  obtain ⟨p, hp⟩ := s.planned_marks
  obtain ⟨t, turn, report⟩ := State.boundaryWork_some s noStatus (plan := p) (congrArg (fun m => m.2.2.2) hp)
  have frames : s.planned.clk.frames = s.clk.frames := congrArg (fun m => m.1) hp
  have tick : s.planned.clk.tickAt = s.clk.tickAt := congrArg (fun m => m.2.2.1) hp
  have turned : t.kept.2 = (s.clk.frames, some s.clk.frames, s.clk.tickAt, some p) :=
    ((turn true).1 rfl).trans (by
      show (s.planned.clk.frames, some s.planned.clk.frames, s.planned.clk.tickAt, s.planned.sched.next) = _
      rw [frames, tick, show s.planned.sched.next = some p from congrArg (fun m => m.2.2.2) hp])
  refine ((report true).1 rfl).trans ?_
  show (t.clk.frames, t.clk.boundaryAt, t.clk.tickAt, none) = _
  exact congrArg (fun m : Marks => (m.1, m.2.1, m.2.2.1, (none : Option CoursePlan))) turned

/-! ### The boundaries -/

theorem tickBoundary_idle (s : State) (h : s.rd Obj.clockState < 2 ∨ s.rd Obj.position % 16 ≠ 0) : exec .tickBoundary s = .next s :=
  congrArg Host.Outcome.next (if_pos (by
    rcases h with h | h
    · simp [State.counting, h]
    · simp [State.pos, h]))

theorem courseBoundary_idle (s : State) (x : Sensors) (h : s.rd Obj.clockState < 2 ∨ s.rd Obj.position % 2 ^ s.rd Obj.courseLog2 ≠ 0) :
    exec (.courseBoundary x) s = .next s :=
  congrArg Host.Outcome.next (if_pos (by
    rcases h with h | h
    · simp [State.counting, h]
    · simp [State.pos, State.courseLen, h]))

section
variable {s : State} (hc : 2 ≤ s.rd Obj.clockState)
include hc

theorem tickBoundary_due (hp : s.rd Obj.position % 16 = 0) (ht : s.clk.tickAt ≠ some s.clk.frames) :
    exec .tickBoundary s =
      .next (if (s.tickWork (s.rd Obj.position)).pos % (s.tickWork (s.rd Obj.position)).courseLen = 0 ∧
          (s.tickWork (s.rd Obj.position)).clk.boundaryAt ≠ some (s.tickWork (s.rd Obj.position)).clk.frames then s.tickWork (s.rd Obj.position)
        else (s.tickWork (s.rd Obj.position)).lastTick (s.tickWork (s.rd Obj.position)).pos) := by
  refine congrArg Host.Outcome.next ((if_neg (by simp [State.counting, State.pos, hc, hp, ht])).trans ?_)
  exact ite_congr (by simp [State.pos]) (fun _ => rfl) (fun _ => rfl)

theorem courseBoundary_due (x : Sensors) (hp : s.rd Obj.position % 2 ^ s.rd Obj.courseLog2 = 0) (hb : s.clk.boundaryAt ≠ some s.clk.frames) :
    exec (.courseBoundary x) s =
      .next (if ((s.readSensors x).boundaryWork x.noStatus).clk.tickAt = some ((s.readSensors x).boundaryWork x.noStatus).clk.frames
        then ((s.readSensors x).boundaryWork x.noStatus).lastTick ((s.readSensors x).boundaryWork x.noStatus).pos
        else (s.readSensors x).boundaryWork x.noStatus) := by
  refine congrArg Host.Outcome.next ((if_neg (by simp [State.counting, State.pos, State.courseLen, hc, hp, hb])).trans ?_)
  exact ite_congr (by simp) (fun _ => rfl) (fun _ => rfl)

end

/-- What a tick boundary leaves (R28, R484). -/
theorem tickBoundary_leaves (s : State) (n : Nat) (t : State) (h : t = s.tickWork n ∨ ∃ m, t = (s.tickWork n).lastTick m) :
    t.clk.tickAt = some s.clk.frames ∧ t.rd Obj.position = s.rd Obj.position ∧
      (s.pair.failed = false → t.pair.fedTick = some (s.rd Obj.position / 16)) := by
  obtain ⟨u, hu, same⟩ := s.tickWork_beat n
  have position : u.rd Obj.position = s.rd Obj.position := congrArg Prod.fst same
  have failed : u.pair.failed = s.pair.failed := congrArg (fun v => v.2.1) same
  have worked : (s.tickWork n).rd Obj.position = s.rd Obj.position ∧
      (s.pair.failed = false → (s.tickWork n).pair.fedTick = some (s.rd Obj.position / 16)) := by
    rw [hu, u.beat_position, position]
    exact ⟨rfl, fun h => position ▸ u.beat_fedTick (failed.trans h)⟩
  obtain ⟨worked, fed⟩ := worked
  rcases h with rfl | ⟨m, rfl⟩
  · exact ⟨s.tickWork_tickAt n, worked, fed⟩
  · have kept := (s.tickWork n).lastTick_tickView m
    exact ⟨((s.tickWork n).lastTick_tickAt m).trans (s.tickWork_tickAt n), (congrArg Prod.fst kept).trans worked,
      fun h => (congrArg (fun v => v.2.2) kept).trans (fed h)⟩

/-- What a course boundary leaves (R45). -/
theorem courseBoundary_leaves (s : State) (x : Sensors) :
    ((s.readSensors x).boundaryWork x.noStatus).clk.boundaryAt = some s.clk.frames ∧
      ((s.readSensors x).boundaryWork x.noStatus).clk.tickAt = s.clk.tickAt ∧
      ((s.readSensors x).boundaryWork x.noStatus).clk.frames = s.clk.frames ∧
      ((s.readSensors x).boundaryWork x.noStatus).sched.next = none := by
  have marks := (s.readSensors x).boundaryWork_marks x.noStatus
  have read : (s.readSensors x).kept.2 = s.kept.2 := congrArg Prod.snd (s.readSensors_kept x)
  have frames : (s.readSensors x).clk.frames = s.clk.frames := congrArg (fun m => m.1) read
  rw [frames, State.tickAt_eq read] at marks
  exact ⟨congrArg (fun m => m.2.1) marks, congrArg (fun m => m.2.2.1) marks, congrArg (fun m => m.1) marks, congrArg (fun m => m.2.2.2) marks⟩

end Sys2Proof.Machine

namespace Sys2Proof
open Machine

/-- Settles O42: a boundary that is due runs its work once, which marks it; the marks of a course boundary's work are those of its parts. -/
theorem boundaries : Obligations.Boundaries := by
  unfold Obligations.Boundaries
  refine ⟨fun s hc hp ht => ?_, fun s x hc hp hb => ?_, fun s x h => ⟨tickBoundary_idle s (.inl h), courseBoundary_idle s x (.inl h)⟩,
    fun s h => tickBoundary_idle s (.inr h), fun s x h => courseBoundary_idle s x (.inr h)⟩
  · intro u
    have due := tickBoundary_due hc hp ht
    refine ⟨due, _, due, tickBoundary_leaves s (s.rd Obj.position) _ ?_⟩
    split
    · exact .inl rfl
    · exact .inr ⟨_, rfl⟩
  · intro u
    have due := courseBoundary_due hc x hp hb
    obtain ⟨boundary, tick, frames, taken⟩ := courseBoundary_leaves s x
    refine ⟨due, _, due, ?_, fun h => ?_⟩
    · split
      · exact (State.lastTick_boundaryAt ..).trans boundary
      · exact boundary
    · rw [if_neg (by rw [tick, frames]; exact h)]
      exact taken

end Sys2Proof

/-! SUPPORT. The instructions of bricks keep the memories in canonical form (R320, R334): what the operation of each shape, and each
instruction of no such shape, makes of the brick's local memory and of the machine. -/

namespace Sys2Proof.Machine

variable {s : State} {b : Brick}

/-- An outcome of a command that keeps the memories in canonical form where it goes on with a machine. -/
def OutKeeps (κ : Mems × Marks) : Out → Prop
  | .next t => Keeps false κ t.kept
  | _ => True

@[simp] theorem OutKeeps.next {κ : Mems × Marks} {t : State} : OutKeeps κ (.next t) ↔ Keeps false κ t.kept := .rfl

theorem OutKeeps.ite_iff {κ : Mems × Marks} {c : Prop} [Decidable c] {o q : Out} :
    OutKeeps κ (if c then o else q) ↔ (c → OutKeeps κ o) ∧ (¬ c → OutKeeps κ q) := by
  split <;> simp [*]

/-- A result that leaves the machine's memories and marks, with a brick whose memory is in canonical form. -/
def BRes.Sound (s : State) : BRes → Prop
  | .next t q | .goto t q _ => t.kept = s.kept ∧ q.mem.wf = true
  | .fault _ => True
  | .wait t => t.kept = s.kept

@[simp] theorem BRes.sound_next (t : State) (q : Brick) : (BRes.next t q).Sound s ↔ t.kept = s.kept ∧ q.mem.wf = true := .rfl
@[simp] theorem BRes.sound_fault (c : Nat) : (BRes.fault c).Sound s ↔ True := .rfl
@[simp] theorem BRes.sound_wait (t : State) : (BRes.wait t).Sound s ↔ t.kept = s.kept := .rfl

theorem BRes.sound_ite {c : Prop} [Decidable c] {r q : BRes} : (if c then r else q).Sound s ↔ (c → r.Sound s) ∧ (¬ c → q.Sound s) := by
  split <;> simp [*]

/-- An operation whose results are sound on every brick whose memory is in canonical form. -/
def BOp.Sound (f : BOp) : Prop := ∀ s b, b.mem.wf = true → (f s b).Sound s

theorem finishBrick_keeps {k : Nat} {r : BRes} (h : MemsOk s.kept.1 → r.Sound s) : Keeps false s.kept (finishBrick k s r).kept := by
  refine ⟨nofun, fun hm => ?_⟩
  cases r with
  | next t q =>
    obtain ⟨ht, hq⟩ := h hm
    exact (State.setBrick_keeps (μ := false) (s := t) (b := { q with pc := (loopNext q.pc q.loops).1, loops := (loopNext q.pc q.loops).2 })
      (fun _ => hq) (.refl _)).2 (ht ▸ hm)
  | goto t q n =>
    obtain ⟨ht, hq⟩ := h hm
    exact (State.setBrick_keeps (μ := false) (s := t) (b := { q with pc := n, loops := loopBranch n q.loops }) (fun _ => hq) (.refl _)).2
      (ht ▸ hm)
  | fault c => exact (State.brickFault_keeps (μ := false) s k c (.refl _)).2 hm
  | wait t => exact (h hm : t.kept = s.kept) ▸ hm

/-- The issue of an instruction whose operation is sound. -/
theorem issue_keeps {k : BrickId} {i : Instr} {f : BOp} (hf : BOp.Sound f) : OutKeeps s.kept (issue k i f s) := by
  rcases issue_cases k i f s with h | ⟨c, h⟩ | h
  all_goals rw [h, OutKeeps.next]
  · exact .refl _
  · exact State.brickFault_keeps _ _ _ (.refl _)
  · exact finishBrick_keeps fun hm => hf _ _ (MemsOk.brick hm _)

/-! ### The shapes of operations -/

theorem Brick.setS_wf {f : Field5} {v : BitVec 32} (h : b.mem.wf = true) : (b.setS f v).mem.wf = true := (b.setS_mem ..).symm ▸ h

theorem Brick.setPair_mem (b : Brick) (f : Field5) (v : Nat) : (b.setPair f v).mem = b.mem := by simp only [Brick.setPair, Brick.setS_mem]

theorem legal_sound {ok : Bool} {f : BOp} (hf : BOp.Sound f) : BOp.Sound (legal ok f) := fun s b h => by
  cases ok
  · trivial
  · exact hf s b h

theorem alu2_sound {d a b c : Field5} {f : BitVec 32 → BitVec 32 → BitVec 32} : BOp.Sound (alu2 d a b c f) :=
  legal_sound fun _ _ h => ⟨rfl, Brick.setS_wf h⟩

theorem fp2_sound {d a b c : Field5} {f : F32 → F32 → F32} : BOp.Sound (fp2 d a b c f) :=
  legal_sound fun s _ h => ⟨s.nanProduced_kept _, Brick.setS_wf h⟩

theorem alu1_sound {d a b c : Field5} {f : BitVec 32 → BitVec 32} : BOp.Sound (alu1 d a b c f) :=
  legal_sound fun _ _ h => ⟨rfl, Brick.setS_wf h⟩

theorem aluImm_sound {d a : Field5} {imm : BitVec 16} {ok : Bool} {f : BitVec 32 → BitVec 16 → BitVec 32} : BOp.Sound (aluImm d a imm ok f) :=
  legal_sound fun _ _ h => ⟨rfl, Brick.setS_wf h⟩

theorem branch_sound {a b : Field5} {off : BitVec 16} {f : BitVec 32 → BitVec 32 → Bool} : BOp.Sound (branch a b off f) :=
  fun _ _ h => BRes.sound_ite.2 ⟨fun _ => ⟨rfl, h⟩, fun _ => ⟨rfl, h⟩⟩

theorem vec2_sound {fp : Bool} {d a b c : Field5} {f : BitVec 32 → BitVec 32 → BitVec 32} : BOp.Sound (vec2 fp d a b c f) :=
  legal_sound fun s _ h => ⟨s.nanProduced_kept _, h⟩

theorem vecS_sound {fp : Bool} {d a b c : Field5} {f : BitVec 32 → BitVec 32 → BitVec 32} : BOp.Sound (vecS fp d a b c f) :=
  legal_sound fun s _ h => ⟨s.nanProduced_kept _, h⟩

theorem vec1_sound {d a b c : Field5} {f : BitVec 32 → BitVec 32} : BOp.Sound (vec1 d a b c f) :=
  legal_sound fun s _ h => ⟨s.nanProduced_kept _, h⟩

theorem vecFma_sound {d a : Field5} {ok : Bool} {y : Brick → List F32} : BOp.Sound (vecFma d a ok y) :=
  legal_sound fun s _ h => ⟨s.nanProduced_kept _, h⟩

theorem vecMask_sound {d a b c : Field5} {f : F32 → F32 → Bool} : BOp.Sound (vecMask d a b c f) :=
  legal_sound fun _ _ h => ⟨rfl, Brick.setS_wf h⟩

theorem load_sound (addr n : Nat) {f : Nat → Brick → Brick} (hf : ∀ v q, (f v q).mem = q.mem) : BOp.Sound (load addr n f) := fun s b h => by
  unfold load
  split
  · trivial
  · exact ⟨rfl, (hf ..).symm ▸ h⟩

theorem store_sound (addr n v : Nat) : BOp.Sound (Sys2Proof.Machine.store addr n v) := fun s b h => by
  unfold Sys2Proof.Machine.store
  split
  · trivial
  · exact ⟨rfl, Memory.writeBytes_wf _ _ _ h⟩

/-! ### Ports -/

theorem onPort_sound (ok : Bool) (c : Field5) (bound : State → Option PortBind) {f : PortBind → BOp} (hf : ∀ p, BOp.Sound (f p)) :
    BOp.Sound (onPort ok c bound f) := legal_sound fun s b h => by
  split
  · trivial
  · exact hf _ s b h

theorem readPort_sound (n : Nat) (p : PortBind) {put : Brick → List Nat → Brick} (hp : ∀ q ws, (put q ws).mem = q.mem) :
    BOp.Sound (readPort n p put) := fun s b h => by
  unfold readPort
  repeat' split
  all_goals simp only [BRes.sound_next, BRes.sound_fault, BRes.sound_wait, hp, h, and_true, State.kept]

theorem writePort_sound (k port : Nat) (p : PortBind) (ws : Brick → List Nat) : BOp.Sound (writePort k port p ws) := fun s b h => by
  unfold writePort
  dsimp only
  split
  · split
    · next hw => exact ⟨State.jointWrite_kept _ _ _ _ _ _ hw, h⟩
    · exact State.jointWait_kept ..
  · split
    · trivial
    · exact BRes.sound_ite.2 ⟨fun _ => rfl, fun _ => ⟨State.setColl_kept .., h⟩⟩
  · exact BRes.sound_ite.2 ⟨fun _ => trivial, fun _ => ⟨rfl, h⟩⟩

theorem stepPort_sound (k port : Nat) (p : PortBind) : BOp.Sound (stepPort k port p) := fun s b h => by
  unfold stepPort
  dsimp only
  repeat' split
  all_goals simp only [BRes.sound_next, BRes.sound_fault, BRes.sound_wait, h, and_true, ↓State.owe_kept, State.kept]

theorem actPort_sound (p : PortBind) (f : Joint → Nat → Joint) {g : Brick → Brick} (hg : ∀ q, (g q).mem = q.mem) :
    BOp.Sound (actPort p f g) := fun s b h => by
  unfold actPort
  repeat' split
  all_goals simp only [BRes.sound_next, BRes.sound_fault, hg, h, and_true, State.kept]

/-! ### Instructions of a shape of their own -/

theorem narrowInto_sound (k f p : Nat) (d a : Field5) (mode : Nat → Mode) : BOp.Sound (narrowInto k f p d a mode) :=
  fun s _ h => ⟨s.countNarrow_kept .., h⟩

variable (k : BrickId)

theorem execFma_keeps (d a b c : Field5) (s : State) : OutKeeps s.kept (execFma k d a b c s) := by
  refine issue_keeps ?_
  exact fun s _ h => ⟨s.nanProduced_kept _, Brick.setS_wf h⟩

theorem execJmp_keeps (target : BitVec 26) (s : State) : OutKeeps s.kept (execJmp k target s) := by
  refine issue_keeps ?_
  exact fun _ _ h => ⟨rfl, h⟩

theorem execCall_keeps (target : BitVec 26) (s : State) : OutKeeps s.kept (execCall k target s) := by
  refine issue_keeps ?_
  exact fun _ _ h => ⟨rfl, Brick.setS_wf h⟩

theorem execLw_keeps (d a : Field5) (imm : BitVec 16) (s : State) : OutKeeps s.kept (execLw k d a imm s) := by
  refine issue_keeps ?_
  exact fun s q h => load_sound _ _ (fun _ _ => Brick.setS_mem ..) s q h

theorem execSw_keeps (d a : Field5) (imm : BitVec 16) (s : State) : OutKeeps s.kept (execSw k d a imm s) := by
  refine issue_keeps ?_
  exact fun s q h => store_sound _ _ _ s q h

theorem execVld_keeps (d a : Field5) (imm : BitVec 16) (s : State) : OutKeeps s.kept (execVld k d a imm s) := by
  refine issue_keeps (legal_sound ?_)
  exact fun s q h => load_sound _ _ (fun _ _ => Brick.setV_mem ..) s q h

theorem execMv_keeps (d a b c : Field5) (fn : BitVec 6) (s : State) : OutKeeps s.kept (execMv k d a b c fn s) := by
  refine issue_keeps (legal_sound fun s q hq => ?_)
  have ha (x : BitVec 32) : (if fn.toNat ≥ 32 then q.setS a x else q).mem.wf = true := by
    split
    · exact Brick.setS_wf hq
    · exact hq
  dsimp only
  refine BRes.sound_ite.2 ⟨fun _ => trivial, fun _ => BRes.sound_ite.2 ⟨fun _ => trivial, fun _ => BRes.sound_ite.2 ⟨fun _ => trivial, fun _ =>
    BRes.sound_ite.2 ⟨fun _ => ?_, fun _ => ⟨s.nanProduced_kept _, ha _⟩⟩⟩⟩⟩
  split
  · trivial
  · exact ⟨rfl, ha _⟩

theorem execJend_keeps (d a b c : Field5) (s : State) : OutKeeps s.kept (execJend k d a b c s) := by
  refine issue_keeps (onPort_sound _ _ _ fun p s q hq => ?_)
  dsimp only
  repeat' split
  all_goals simp only [BRes.sound_next, BRes.sound_fault, hq, and_true, ↓State.setColl_kept, ↓State.writeBack_kept, State.kept]

theorem execJrew_keeps (d a b c : Field5) (s : State) : OutKeeps s.kept (execJrew k d a b c s) := by
  refine issue_keeps (onPort_sound _ _ _ fun p => actPort_sound p _ fun q => ?_)
  split <;> rfl

theorem execAadd_keeps (d a b c : Field5) (s : State) : OutKeeps s.kept (execAadd k d a b c s) :=
  issue_keeps (legal_sound fun s _ h => BRes.sound_ite.2 ⟨fun _ => trivial, fun _ => ⟨s.nanProduced_kept _, h⟩⟩)

theorem execAsumv_keeps (d a b c : Field5) (s : State) : OutKeeps s.kept (execAsumv k d a b c s) :=
  issue_keeps (legal_sound fun s _ h => BRes.sound_ite.2 ⟨fun _ => trivial, fun _ => ⟨s.nanProduced_kept _, h⟩⟩)

theorem execAcmp_keeps (d a b c : Field5) (s : State) : OutKeeps s.kept (execAcmp k d a b c s) :=
  issue_keeps (legal_sound fun _ _ h => BRes.sound_ite.2 ⟨fun _ => trivial, fun _ => ⟨rfl, Brick.setS_wf h⟩⟩)

theorem execDraw_keeps (d a b c : Field5) (s : State) : OutKeeps s.kept (execDraw k d a b c s) :=
  issue_keeps (legal_sound fun _ q h => BRes.sound_ite.2 ⟨fun _ => trivial, fun _ => ⟨rfl, (q.setPair_mem ..).symm ▸ h⟩⟩)

theorem execLoop_keeps (d a : Field5) (imm : BitVec 16) (s : State) : OutKeeps s.kept (execLoop k d a imm s) :=
  issue_keeps (legal_sound fun _ _ h => BRes.sound_ite.2 ⟨fun _ => trivial, fun _ =>
    BRes.sound_ite.2 ⟨fun _ => ⟨rfl, h⟩, fun _ => ⟨rfl, h⟩⟩⟩)

theorem execCsrr_keeps (d a : Field5) (imm : BitVec 16) (s : State) : OutKeeps s.kept (execCsrr k d a imm s) := by
  refine issue_keeps (legal_sound fun _ _ h => ?_)
  split
  · exact ⟨rfl, Brick.setS_wf h⟩
  · trivial

theorem execVcvtns_keeps (d a b c : Field5) (fn : BitVec 6) (s : State) : OutKeeps s.kept (execVcvtns k d a b c fn s) :=
  issue_keeps (legal_sound fun _ _ h => BRes.sound_ite.2 ⟨fun _ => trivial, fun _ => narrowInto_sound _ _ _ _ _ _ _ _ h⟩)

end Sys2Proof.Machine

/-! SUPPORT. The commands other than brick instructions keep the memories in canonical form. -/

namespace Sys2Proof.Machine

/-- An image is read on, or stopped, without a change of what is kept. -/
theorem cutImage_keeps {κ : Mems × Marks} {s : State} {n : Nat} {c : Cmd} {stop : Option (Nat × Nat × Stop)} {im : Bytes} {μ : Bool} (h :
    Keeps μ κ s.kept) :
    Keeps μ κ (match stop with
      | some x => s.stopImage n c x
      | none => s.imageRead n c.counter im).kept := by
  split
  · exact State.stopImage_keeps _ _ _ _ h
  · exact .of_kept (State.imageRead_kept ..) h

theorem execGatherLookup_keeps (ring : RingId) (stage : Fin 8) (lookups : List Lookup) (s : State) :
    OutKeeps s.kept (execGatherLookup ring stage lookups s) := by
  unfold execGatherLookup
  dsimp only
  repeat' split
  all_goals simp only [OutKeeps.next, Keeps.foldl, ↓State.countNarrow_kept, ↓State.fetchBatch_kept, Keeps.refl, implies_true, ↓State.kept_mk,
      State.kept_fold]

theorem execRowFetchDone_keeps (batch : Nat) (s : State) : OutKeeps s.kept (execRowFetchDone batch s) := by
  unfold execRowFetchDone
  rw [OutKeeps.next]
  split
  · exact .refl _
  · exact State.deliverBatches_keeps _ _ _ (.refl _)

theorem execCommandFetch_keeps (ring : RingId) (descriptor : Option Bytes) (s : State) : OutKeeps s.kept (execCommandFetch ring descriptor s) := by
  unfold execCommandFetch
  repeat' split
  all_goals simp only [OutKeeps.next, State.fetch_keeps, State.ringFault_keeps, Keeps.refl]

theorem execFence_keeps (ring : RingId) (s : State) : OutKeeps s.kept (execFence ring s) := by
  have h := s.startCmd_keeps ring.val 11 (Keeps.refl (μ := false) _)
  unfold execFence
  rw [OutKeeps.next]
  split
  · next c t e =>
    rw [e] at h
    exact State.finishDone_keeps _ _ _ h
  · next t e =>
    rw [e] at h
    exact h

theorem execNote_keeps (ring : RingId) (s : State) : OutKeeps s.kept (execNote ring s) := by
  have h := s.startCmd_keeps ring.val 12 (Keeps.refl (μ := false) _)
  unfold execNote
  rw [OutKeeps.next]
  split
  · next c t e =>
    rw [e] at h
    exact State.finishDone_keeps _ _ _ h
  · next t e =>
    rw [e] at h
    exact h

theorem execCancel_keeps (ring : RingId) (s : State) : OutKeeps s.kept (execCancel ring s) := by
  have h := s.startCmd_keeps ring.val 5 (Keeps.refl (μ := false) _)
  unfold execCancel
  rw [OutKeeps.next]
  dsimp only
  split
  · next c t e =>
    rw [e] at h
    exact State.finish_keeps _ _ _ _ _ _ _ (State.cancelChunks_keeps _ _ _ h)
  · next t e =>
    rw [e] at h
    exact h

theorem execPriResponse_keeps (request : Nat) (code : BitVec 4) (s : State) : OutKeeps s.kept (execPriResponse request code s) := by
  unfold execPriResponse
  simp only [OutKeeps.next, Keeps.ite_iff, ↓State.bump_kept, State.failRequests_keeps, Keeps.refl, implies_true, and_self, ↓State.kept_mk,
      State.kept_fold]

theorem execPriEnable_keeps (s : State) : OutKeeps s.kept (execPriEnable s) := by
  unfold execPriEnable
  simp only [OutKeeps.next, Keeps.refl, ↓State.kept_mk, State.kept_fold]

theorem execBind_keeps (ring : RingId) (s : State) : OutKeeps s.kept (execBind ring s) := by
  have h := s.startAgain_keeps ring.val 1 (Keeps.refl (μ := false) _)
  unfold execBind
  rw [OutKeeps.next]
  split
  · next c t e =>
    rw [e] at h
    exact State.runBind_keeps _ _ _ h
  · next t e =>
    rw [e] at h
    exact h

theorem execAdmissionTimeout_keeps (ring : RingId) (s : State) : OutKeeps s.kept (execAdmissionTimeout ring s) := by
  unfold execAdmissionTimeout
  dsimp only
  repeat' split
  all_goals simp only [OutKeeps.next, ↓State.bump_kept, State.reject_keeps, Keeps.refl]

theorem execFeed_keeps (ring : RingId) (s : State) : OutKeeps s.kept (execFeed ring s) := by
  have h := s.startCmd_keeps ring.val 2 (Keeps.refl (μ := false) _)
  unfold execFeed
  rw [OutKeeps.next]
  split
  · next c t e =>
    rw [e] at h
    exact .of_kept (State.begin_kept ..) h
  · next t e =>
    rw [e] at h
    exact h

theorem execRender_keeps (ring : RingId) (s : State) : OutKeeps s.kept (execRender ring s) := by
  have h := s.startCmd_keeps ring.val 3 (Keeps.refl (μ := false) _)
  unfold execRender
  rw [OutKeeps.next]
  dsimp only
  split
  · next c t e =>
    rw [e] at h
    split
    · exact State.refuse_keeps _ _ _ _ h
    · exact .ite (State.renderHost_keeps _ _ _ _ (.of_kept (State.wr_kept ..) h)) (State.renderLane_keeps _ _ _ _ (.of_kept (State.wr_kept ..) h))
  · next t e =>
    rw [e] at h
    exact h

theorem execFlush_keeps (ring : RingId) (s : State) : OutKeeps s.kept (execFlush ring s) := by
  have h := s.startCmd_keeps ring.val 4 (Keeps.refl (μ := false) _)
  unfold execFlush
  rw [OutKeeps.next]
  dsimp only
  split
  · next c t e =>
    rw [e] at h
    exact .ite (State.finishDone_keeps _ _ _ h) (.of_kept (State.mapCmd_kept ..) h)
  · next t e =>
    rw [e] at h
    exact h

theorem execFlushDone_keeps (ring : RingId) (s : State) : OutKeeps s.kept (execFlushDone ring s) := by
  unfold execFlushDone
  dsimp only
  repeat' split
  all_goals simp only [OutKeeps.next, State.finishDone_keeps, Keeps.refl]

theorem execPark_keeps (ring : RingId) (s : State) : OutKeeps s.kept (execPark ring s) := by
  have h := s.startAgain_keeps ring.val 6 (Keeps.refl (μ := false) _)
  unfold execPark
  rw [OutKeeps.next]
  split
  · next c t e =>
    rw [e] at h
    exact State.runPark_keeps _ _ _ h
  · next t e =>
    rw [e] at h
    exact h

theorem execWake_keeps (ring : RingId) (s : State) : OutKeeps s.kept (execWake ring s) := by
  have h := s.startAgain_keeps ring.val 7 (Keeps.refl (μ := false) _)
  unfold execWake
  rw [OutKeeps.next]
  split
  · next c t e =>
    rw [e] at h
    exact State.runWake_keeps _ _ _ h
  · next t e =>
    rw [e] at h
    exact h

theorem execWakeSlotTaken_keeps (ring : RingId) (s : State) : OutKeeps s.kept (execWakeSlotTaken ring s) := by
  unfold execWakeSlotTaken
  rw [OutKeeps.next]
  dsimp only
  split
  · exact .refl _
  · refine .ite (.refl _) ?_
    split
    · exact State.poisonHalt_keeps _ _ _ _ _ _ (.refl _)
    · cases h : s.moveIn ring.val with
      | none => exact .refl _
      | some t => exact .of_kept (State.moveIn_kept _ _ h) (.refl _)

theorem execMoveOutDone_keeps (ring : RingId) (s : State) : OutKeeps s.kept (execMoveOutDone ring s) := by
  unfold execMoveOutDone
  dsimp only
  repeat' split
  all_goals simp only [OutKeeps.next, State.movedOut_keeps, State.retryWaiting_keeps, Keeps.refl]

theorem execMoveInDone_keeps (ring : RingId) (s : State) : OutKeeps s.kept (execMoveInDone ring s) := by
  unfold execMoveInDone
  dsimp only
  repeat' split
  all_goals simp only [OutKeeps.next, State.movedIn_keeps, State.retryWaiting_keeps, Keeps.refl]

theorem execCaptureWrite_keeps (group : Fin 64) (translated : Bool) (s : State) : OutKeeps s.kept (execCaptureWrite group translated s) := by
  unfold execCaptureWrite
  dsimp only
  repeat' split
  all_goals simp only [OutKeeps.next, State.devWrite_keeps, State.hostWrite_keeps, State.pageFault_keeps, ↓State.setGroup_kept, ↓State.wr_kept,
      Keeps.refl, ↓State.kept_mk, State.kept_fold]

theorem execAes3Subframe_keeps (lane : Fin 64) (sub : Subframe) (s : State) : OutKeeps s.kept (execAes3Subframe lane sub s) := by
  unfold execAes3Subframe
  simp only [OutKeeps.next, Keeps.ite_iff, ↓State.aesStart_kept, ↓State.bump_kept, ↓State.setLane_kept, ↓State.storeBlock_kept, ↓State.wr_kept,
      Keeps.refl, implies_true, and_self]

theorem execMove_keeps (ring : RingId) (descriptor : HostRead) (s : State) : OutKeeps s.kept (execMove ring descriptor s) := by
  have h := s.startCmd_keeps ring.val 9 (Keeps.refl (μ := false) _)
  unfold execMove
  rw [OutKeeps.next]
  split
  · exact .ite (.refl _) (State.runMove_keeps _ _ _ _ (.refl _))
  · split
    · next c t e =>
      rw [e] at h
      exact State.runMove_keeps _ _ _ _ h
    · next t e =>
      rw [e] at h
      exact h

theorem execMoverStart_keeps (ring : RingId) (descriptor : HostRead) (s : State) : OutKeeps s.kept (execMoverStart ring descriptor s) := by
  unfold execMoverStart
  dsimp only
  repeat' split
  all_goals simp only [OutKeeps.next, State.startDesc_keeps, Keeps.refl]

theorem execRearmRun_keeps (ring : RingId) (descriptor : HostRead) (s : State) : OutKeeps s.kept (execRearmRun ring descriptor s) := by
  unfold execRearmRun
  dsimp only
  repeat' split
  all_goals simp only [OutKeeps.next, State.startDesc_keeps, Keeps.refl]

theorem execTransferDone_keeps (ring : RingId) (data : HostRead) (s : State) : OutKeeps s.kept (execTransferDone ring data s) := by
  unfold execTransferDone
  dsimp only
  repeat' split
  all_goals simp only [OutKeeps.next, State.checkpointDone_keeps, State.moveDone_keeps, Keeps.refl]

theorem execLoadPlan_keeps (ring : RingId) (image : HostRead) (s : State) : OutKeeps s.kept (execLoadPlan ring image s) := by
  have h := s.loadTurn_keeps ring.val 0 (Keeps.refl (μ := false) _)
  unfold execLoadPlan
  rw [OutKeeps.next]
  dsimp only
  split
  · next t e =>
    rw [e] at h
    exact h
  · next c t e =>
    rw [e] at h
    refine .ite (State.reject_keeps _ _ _ _ _ h) ?_
    split
    · exact State.stopImage_keeps _ _ _ _ h
    · split
      · refine State.reject_keeps _ _ _ _ _ ?_
        split
        · next o _ => exact .of_kept (t.wr_kept Obj.planErrorOffset o) h
        · exact h
      · exact State.startRun_keeps _ _ _ _ _ h

theorem execLoadTable_keeps (ring : RingId) (image : HostRead) (s : State) : OutKeeps s.kept (execLoadTable ring image s) := by
  have h := s.loadTurn_keeps ring.val 1 (Keeps.refl (μ := false) _)
  unfold execLoadTable
  rw [OutKeeps.next]
  dsimp only
  split
  · next t e =>
    rw [e] at h
    exact h
  · next c t e =>
    rw [e] at h
    refine .ite (cutImage_keeps h) (.ite (State.reject_keeps _ _ _ _ _ h) (.ite (State.reject_keeps _ _ _ _ _ h) ?_))
    split
    · exact State.stopImage_keeps _ _ _ _ h
    · exact .ite (State.reject_keeps _ _ _ _ _ h) (.ite (State.reject_keeps _ _ _ _ _ h) (cutImage_keeps (State.startRun_keeps _ _ _ _ _ h)))

theorem execLoadCurve_keeps (ring : RingId) (image : HostRead) (s : State) : OutKeeps s.kept (execLoadCurve ring image s) := by
  have h := s.loadTurn_keeps ring.val 2 (Keeps.refl (μ := false) _)
  unfold execLoadCurve
  rw [OutKeeps.next]
  dsimp only
  split
  · next t e =>
    rw [e] at h
    exact h
  · next c t e =>
    rw [e] at h
    refine .ite (State.reject_keeps _ _ _ _ _ h) ?_
    split
    · exact State.stopImage_keeps _ _ _ _ h
    · exact .ite (State.reject_keeps _ _ _ _ _ h) (State.startRun_keeps _ _ _ _ _ h)

theorem execLoadBrickCode_keeps (ring : RingId) (image : HostRead) (s : State) : OutKeeps s.kept (execLoadBrickCode ring image s) := by
  have h := s.loadTurn_keeps ring.val 3 (Keeps.refl (μ := false) _)
  unfold execLoadBrickCode
  rw [OutKeeps.next]
  dsimp only
  split
  · next t e =>
    rw [e] at h
    exact h
  · next c t e =>
    rw [e] at h
    refine .ite (cutImage_keeps h) (.ite (State.reject_keeps _ _ _ _ _ h) (.ite (State.reject_keeps _ _ _ _ _ h) ?_))
    split
    · exact State.stopImage_keeps _ _ _ _ h
    · refine .ite (State.reject_keeps _ _ _ _ _ h) ?_
      split
      · exact State.reject_keeps _ _ _ _ _ (.of_kept (State.wr_kept ..) h)
      · exact .ite (State.reject_keeps _ _ _ _ _ h) (cutImage_keeps (State.startRun_keeps _ _ _ _ _ h))

theorem execLoadDone_keeps (ring : RingId) (rounds resent : Nat) (failed : List BrickId) (s : State) :
    OutKeeps s.kept (execLoadDone ring rounds resent failed s) := by
  unfold execLoadDone
  dsimp only
  repeat' split
  all_goals simp only [OutKeeps.next, State.endRun_keeps, Keeps.refl]

theorem execChunkDone_keeps (ring : RingId) (features : HostRead) (work : ChunkWork) (s : State) :
    OutKeeps s.kept (execChunkDone ring features work s) := by
  unfold execChunkDone
  dsimp only
  repeat' split
  all_goals simp only [OutKeeps.next, State.faultChunk_keeps, State.runChunk_keeps, State.stopAt_keeps, Keeps.refl]

theorem execRetrainWindowEnd_keeps (die : Fin 84) (ok : Bool) (s : State) : OutKeeps s.kept (execRetrainWindowEnd die ok s) := by
  unfold execRetrainWindowEnd
  dsimp only
  repeat' split
  all_goals simp only [OutKeeps.next, ↓State.bump_kept, ↓State.endRound_kept, ↓State.makeDue_kept, ↓State.setDie_kept, ↓State.wr_kept, Keeps.refl,
      ↓State.kept_mk, State.kept_fold]

theorem execMemoryError_keeps (tier : MemTier) (addr retries : Nat) (correctable : Bool) (s : State) :
    OutKeeps s.kept (execMemoryError tier addr retries correctable s) := by
  unfold execMemoryError
  repeat' split
  all_goals simp only [OutKeeps.next, State.brickError_keeps, ↓State.cxlError_kept, ↓State.gddr7Error_kept, ↓State.planeError_kept,
      ↓State.tbufError_kept, Keeps.refl]

theorem execPatrolScrub_keeps (tier : MemTier) (addr : Nat) (corrected : Bool) (s : State) :
    OutKeeps s.kept (execPatrolScrub tier addr corrected s) := by
  unfold execPatrolScrub
  repeat' split
  all_goals simp only [OutKeeps.next, ↓State.gddr7Error_kept, ↓State.planeError_kept, Keeps.refl]

theorem execCxlLinkDown_keeps (expander : Fin 8) (s : State) : OutKeeps s.kept (execCxlLinkDown expander s) := by
  unfold execCxlLinkDown
  dsimp only
  repeat' split
  all_goals simp only [OutKeeps.next, ↓State.bump_kept, ↓State.lastPoison_kept, ↓State.wr_kept, Keeps.refl, ↓State.kept_mk, State.kept_fold]

theorem execApertureAccess_keeps (offset width : Nat) (write : Option Nat) (s : State) :
    OutKeeps s.kept (execApertureAccess offset width write s) := by
  unfold execApertureAccess
  repeat' split
  all_goals simp only [OutKeeps.next, State.apertureRead_keeps, State.apertureWrite_keeps, ↓State.bump_kept, ↓State.send_kept, Keeps.refl,
      ↓State.kept_mk, State.kept_fold]

theorem execTieFlit_keeps (flit : Bytes) (fecCorrected : Bool) (s : State) : OutKeeps s.kept (execTieFlit flit fecCorrected s) := by
  unfold execTieFlit
  simp only [OutKeeps.next, Keeps.ite_iff, ↓State.bump_kept, ↓State.mapPair_kept, ↓State.replay_kept, ↓State.send_kept, ↓State.takeAck_kept,
      Keeps.refl, implies_true, and_self]

theorem execTieRetrain_keeps (ok : Bool) (s : State) : OutKeeps s.kept (execTieRetrain ok s) := by
  unfold execTieRetrain
  simp only [OutKeeps.next, Keeps.ite_iff, ↓State.bump_kept, ↓State.tieDrop_kept, ↓State.wr_kept, Keeps.refl, implies_true, and_self]

theorem execDigest_keeps (body : Bytes) (s : State) : OutKeeps s.kept (execDigest body s) := by
  unfold execDigest
  dsimp only
  repeat' split
  all_goals simp only [OutKeeps.next, ↓State.compareDigests_kept, ↓State.mapPair_kept, Keeps.refl]

theorem execLeaveMessage_keeps (body : Bytes) (s : State) : OutKeeps s.kept (execLeaveMessage body s) := by
  unfold execLeaveMessage
  simp only [OutKeeps.next, Keeps.ite_iff, ↓State.mapPair_kept, ↓State.wr_kept, Keeps.refl, implies_true, and_self]

theorem execResyncStateTake_keeps (ring : RingId) (s : State) : OutKeeps s.kept (execResyncStateTake ring s) := by
  unfold execResyncStateTake
  dsimp only
  repeat' split
  all_goals simp only [OutKeeps.next, ↓State.mapPair_kept, ↓State.pushImage_kept, Keeps.refl]

theorem execStatePush_keeps (body : Bytes) (s : State) : OutKeeps s.kept (execStatePush body s) := by
  unfold execStatePush
  rw [OutKeeps.next]
  dsimp only
  refine .ite (.refl _) (.ite (.ite (.of_kept (State.mapPair_kept ..) (.refl _)) (.refl _)) ?_)
  generalize ht : (if (field body 2 1 == 2 && s.pair.resyncs.any fun q => q.purpose == 2) = true then
    (s.progHold 0x1310 false).progAdd 0x1310 (body.length - 16) else s) = t
  have hk : t.kept = s.kept := by simp only [← ht, ↓State.kept_ite, ↓State.progAdd_kept, ↓State.progHold_kept, ite_self]
  have h := t.takeSegment_kept body
  split
  · next u e => exact .of_kept (by rw [e] at h; exact h.trans hk) (.refl _)
  · next image u e =>
    have hu : Keeps false s.kept u.kept := .of_kept (by rw [e] at h; exact h.trans hk) (.refl _)
    exact .ite (State.installResync_keeps _ _ _ hu) (.ite (State.adoptImage_keeps _ _ _ hu) (State.installJoin_keeps _ _ _ hu))

theorem execCheckpointMessage_keeps (body : Bytes) (s : State) : OutKeeps s.kept (execCheckpointMessage body s) := by
  have h := s.takeSegment_kept body
  unfold execCheckpointMessage
  rw [OutKeeps.next]
  dsimp only
  refine .ite (.refl _) (.ite (.of_kept (State.dropHeld_kept ..) (.refl _)) ?_)
  split
  · next t e =>
    rw [e] at h
    exact .of_kept h (.refl _)
  · next image t e =>
    rw [e] at h
    refine .of_kept ?_ (.of_kept h (.refl _))
    simp only [↓State.kept_ite, ↓State.bump_kept, ↓State.countShadows_kept, ↓State.mapPair_kept, ite_self]

theorem execCheckpoint_keeps (ring : RingId) (s : State) : OutKeeps s.kept (execCheckpoint ring s) := by
  have h := s.startCmd_keeps ring.val 8 (Keeps.refl (μ := false) _)
  unfold execCheckpoint
  rw [OutKeeps.next]
  split
  · exact State.runCheckpoint_keeps _ _ _ (.refl _)
  · split
    · next c t e =>
      rw [e] at h
      exact State.runCheckpoint_keeps _ _ _ h
    · next t e =>
      rw [e] at h
      exact h

theorem execLeft_keeps (s : State) : OutKeeps s.kept (execLeft s) := by
  unfold execLeft
  simp only [OutKeeps.next, Keeps.ite_iff, Keeps.foldl, State.disableRing_keeps, ↓State.mapPair_kept, ↓State.progDone_kept, ↓State.wr_kept,
      Keeps.refl, implies_true, and_self]

theorem execFwUpdateDone_keeps (flashOk : Bool) (s : State) : OutKeeps s.kept (execFwUpdateDone flashOk s) := by
  unfold execFwUpdateDone
  repeat' split
  all_goals simp only [OutKeeps.next, Keeps.ite_iff, ↓State.bump_kept, ↓State.progDone_kept, ↓State.progFail_kept, ↓State.wr_kept, Keeps.refl,
      implies_true, and_self, ↓State.kept_mk, State.kept_fold]

theorem execJoin_keeps (tag : BitVec 32) (body : Bytes) (s : State) : OutKeeps s.kept (execJoin tag body s) := by
  unfold execJoin
  simp only [OutKeeps.next, Keeps.ite_iff, ↓State.joinHello_kept, ↓State.mapPair_kept, ↓State.pairFail_kept, ↓State.pairWith_kept,
      ↓State.sendReport_kept, ↓State.wr_kept, Keeps.refl, implies_true, and_self]

theorem execBootSrc_keeps (high : Bool) (slotA slotB : SlotImage) (s : State) : OutKeeps s.kept (execBootSrc high slotA slotB s) := by
  unfold execBootSrc
  simp only [OutKeeps.next, Keeps.ite_iff, ↓State.freeWord_kept, ↓State.verifySlots_kept, Keeps.refl, implies_true, and_self, ↓State.kept_mk,
      State.kept_fold]

theorem execPhaseLimit_keeps (r : CureResult) (slotA slotB : SlotImage) (t : TrainResult) (s : State) :
    OutKeeps s.kept (execPhaseLimit r slotA slotB t s) := by
  unfold execPhaseLimit
  simp only [OutKeeps.next, Keeps.ite_iff, State.broadcast_keeps, ↓State.cured_kept, ↓State.freeWord_kept, ↓State.trained_kept,
      ↓State.verifySlots_kept, Keeps.refl, implies_true, and_self]

theorem execMortarRetrain_keeps (r : LinkRetrain) (s : State) : OutKeeps s.kept (execMortarRetrain r s) := by
  unfold execMortarRetrain
  simp only [OutKeeps.next, Keeps.ite_iff, ↓State.bump_kept, ↓State.mortarDown_kept, Keeps.refl, implies_true, and_self]

theorem execBoundaryScan_keeps (i : TapInstr) (resetLow : Bool) (s : State) : OutKeeps s.kept (execBoundaryScan i resetLow s) := by
  unfold execBoundaryScan
  simp only [OutKeeps.next, Keeps.refl, ↓State.kept_mk, State.kept_fold]

theorem execGroutAged_keeps (ring : RingId) (s : State) : OutKeeps s.kept (execGroutAged ring s) := by
  refine .ite (.refl _) (Keeps.foldl (fun s c => ?_) (.refl _))
  split
  · exact .ite (.of_kept (State.mapChunk_kept ..) (.refl _)) (.refl _)
  · exact .refl _

theorem execIsnsSample_keeps (rails : List RailSample) (s : State) : OutKeeps s.kept (execIsnsSample rails s) := by
  unfold execIsnsSample
  simp only [OutKeeps.next, Keeps.refl, ↓State.kept_mk, State.kept_fold]

theorem execCourseBoundary_keeps (sensors : Sensors) (s : State) : OutKeeps s.kept (execCourseBoundary sensors s) := by
  have h := State.boundaryWork_keeps (κ := s.kept) (s.readSensors sensors) sensors.noStatus (.of_kept (State.readSensors_kept ..) (.refl _))
  exact .ite (.refl _) (.ite (State.lastTick_keeps h) h)

theorem execIdleTimeout_keeps (session : Fin 8) (refNs : Nat) (s : State) : OutKeeps s.kept (execIdleTimeout session refNs s) := by
  unfold execIdleTimeout
  dsimp only
  repeat' split
  all_goals simp only [OutKeeps.next, ↓State.closeSession_kept, Keeps.refl]

theorem execDictResp_keeps (tag : BitVec 32) (body : Bytes) (s : State) : OutKeeps s.kept (execDictResp tag body s) := by
  unfold execDictResp
  dsimp only
  repeat' split
  all_goals simp only [OutKeeps.next, State.takeAnswer_keeps, ↓State.takeYield_kept, Keeps.refl]

theorem execPartnerTimeout_keeps (session : Fin 66) (refUs : Nat) (s : State) : OutKeeps s.kept (execPartnerTimeout session refUs s) := by
  unfold execPartnerTimeout
  dsimp only
  repeat' split
  all_goals simp only [OutKeeps.next, ↓State.barDone_kept, Keeps.refl]

theorem execStoreDone_keeps (ok : Bool) (s : State) : OutKeeps s.kept (execStoreDone ok s) := by
  unfold execStoreDone
  repeat' split
  all_goals simp only [OutKeeps.next, ↓State.setSession_kept, ↓State.wr_kept, Keeps.refl, ↓State.kept_mk, State.kept_fold]

theorem execFrame_keeps (e : Edge) (s : State) : OutKeeps s.kept (execFrame e s) := by
  unfold execFrame
  simp only [OutKeeps.next, Keeps.ite_iff, ↓State.acquire_kept, State.beginFrame_keeps, State.firstFrame_keeps, ↓State.judgePeriod_kept,
      ↓State.readBitClock_kept, ↓State.sampleCmark_kept, ↓State.setFlag_kept, ↓State.wr_kept, Keeps.refl, implies_true, and_self]

theorem execLockAcquired_keeps (s : State) : OutKeeps s.kept (execLockAcquired s) := by
  unfold execLockAcquired
  simp only [OutKeeps.next, Keeps.ite_iff, State.lockNow_keeps, ↓State.wr_kept, Keeps.refl, implies_true, and_self]

theorem execRelock_keeps (s : State) : OutKeeps s.kept (execRelock s) := by
  unfold execRelock
  simp only [OutKeeps.next, Keeps.ite_iff, State.lockNow_keeps, ↓State.mapPair_kept, ↓State.startAnchor_kept, ↓State.wr_kept, Keeps.refl,
      implies_true, and_self, ↓State.kept_mk, State.kept_fold]

theorem execLaneResume_keeps (s : State) : OutKeeps s.kept (execLaneResume s) := by
  refine .ite (.of_kept ?_ (.refl _)) (.refl _)
  exact (State.remute_kept ..).trans (foldl_kept (fun _ _ => State.setLane_kept ..) _ _)

theorem execClockLoss_keeps (s : State) (lost : LostFrame) : OutKeeps s.kept (execClockLoss s lost) := by
  unfold execClockLoss
  rw [OutKeeps.next]
  dsimp only
  refine .ite (.refl _) (.ite (.of_kept (State.chooseTime_kept ..) (.refl _)) ?_)
  generalize ht : (s.takeBits s.pos lost.lanes).skipFrames (s.pos + 1) (s.pos + 4) = t
  have hk : t.kept = s.kept := by rw [← ht, State.skipFrames_kept, State.takeBits_kept]
  have h : Keeps false s.kept (((({ t with clk := { t.clk with frames := t.clk.frames + 3 } }).wr Obj.position (s.pos + 4)).chooseTime).coastFrame
      s.pos (s.pos + 4) lost.bitEdges []).kept :=
    State.coastFrame_keeps _ _ _ _ _ (.of_kept ((State.chooseTime_kept ..).trans (State.wr_kept ..)) (.of_mems (a := t.kept) rfl (.of_kept hk (.refl _))))
  exact .ite (State.passedTick_keeps _ _ h) h

theorem execCoastExpired_keeps (s : State) : OutKeeps s.kept (execCoastExpired s) := by
  unfold execCoastExpired
  rw [OutKeeps.next]
  dsimp only
  refine .ite (.refl _) (.of_kept (State.remute_kept ..) ?_)
  refine Keeps.foldl (fun s n => Keeps.foldl (fun s c => ?_) (.of_kept (State.wr_kept ..) (.refl _))) (.ite (.of_kept (State.wr_kept ..) (.refl _)) (.refl _))
  split
  · exact State.finish_keeps _ _ _ _ _ _ _ (.refl _)
  · exact .refl _

theorem execLtcFrame_keeps (label : BitVec 32) (syncIntact contiguous : Bool) (startAgo : Nat) (s : State) :
    OutKeeps s.kept (execLtcFrame label syncIntact contiguous startAgo s) := by
  unfold execLtcFrame
  dsimp only
  repeat' split
  all_goals simp only [OutKeeps.next, State.anchorAt_keeps, ↓State.setFlag_kept, ↓State.wr_kept, ↓State.wrInt_kept, Keeps.refl, ↓State.kept_mk,
      State.kept_fold]

theorem execAnchorFailed_keeps (s : State) : OutKeeps s.kept (execAnchorFailed s) := by
  unfold execAnchorFailed
  repeat' split
  all_goals simp only [OutKeeps.next, ↓State.failAnchor_kept, Keeps.refl]

theorem execCourseSync_keeps (body : Bytes) (s : State) : OutKeeps s.kept (execCourseSync body s) := by
  unfold execCourseSync
  rw [OutKeeps.next]
  extract_lets position jumps ck t ck' u ck'' v
  have ht : t.kept = s.kept := rfl
  have hu : Keeps false s.kept u.kept := .ite (.of_kept (State.remute_kept ..) (.of_kept ht (.refl _))) (.of_kept ht (.refl _))
  have hv : Keeps false s.kept v.kept := .ite (State.jump_keeps _ _ hu) hu
  exact .ite (.refl _) (.ite hu (.ite (.ite hu (.of_kept (State.correctAt_kept ..) hu)) (.ite hv (.of_kept (State.correctAt_kept ..) hv))))

theorem execWatchdogFail_keeps (s : State) : OutKeeps s.kept (execWatchdogFail s) := by
  unfold execWatchdogFail
  rw [OutKeeps.next]
  exact .ite (.refl _) (.of_kept ((foldl_kept (fun _ _ => State.restartLane_kept ..) _ _).trans (State.mapPair_kept ..)) (.refl _))

theorem execTokenStart_keeps (ring : RingId) (features : HostRead) (s : State) : OutKeeps s.kept (execTokenStart ring features s) := by
  unfold execTokenStart
  rw [OutKeeps.next]
  dsimp only
  split
  · exact .refl _
  · refine .ite (.refl _) ?_
    split
    · exact State.stopAt_keeps _ _ _ _ _ _ (.refl _)
    · exact State.decodeToken_keeps _ _ _ _ _ _ (.refl _)

theorem execPacketStart_keeps (tile : TileId) (joint : Fin 64) (s : State) : OutKeeps s.kept (execPacketStart tile joint s) := by
  unfold execPacketStart
  dsimp only
  repeat' split
  all_goals simp only [OutKeeps.next, Keeps.refl, ↓State.kept_mk, State.kept_fold]

theorem execJointIdleTimeout_keeps (tile : TileId) (joint : Fin 64) (s : State) : OutKeeps s.kept (execJointIdleTimeout tile joint s) := by
  unfold execJointIdleTimeout
  dsimp only
  repeat' split
  all_goals simp only [OutKeeps.next, ↓State.bump_kept, ↓State.mapChunk_kept, ↓State.setJoint_kept, Keeps.refl]

theorem execJointEccError_keeps (tile : TileId) (joint : Fin 64) (correctable : Bool) (s : State) :
    OutKeeps s.kept (execJointEccError tile joint correctable s) := by
  unfold execJointEccError
  dsimp only
  repeat' split
  all_goals simp only [OutKeeps.next, ↓State.bump_kept, State.deviceFault_keeps, ↓State.restoreCarried_kept, Keeps.refl, ↓State.kept_mk,
      State.kept_fold]

theorem execSpill_keeps (cycle : List (TileId × Fin 64)) (s : State) : OutKeeps s.kept (execSpill cycle s) := by
  unfold execSpill
  dsimp only
  repeat' split
  all_goals simp only [OutKeeps.next, ↓State.bump_kept, State.spillStream_keeps, Keeps.refl]

theorem execCollectorEmit_keeps (group : Nat) (s : State) : OutKeeps s.kept (execCollectorEmit group s) := by
  unfold execCollectorEmit
  rw [OutKeeps.next]
  split
  · exact .refl _
  · split
    · exact .refl _
    · split
      · exact .refl _
      · refine .ite (.refl _) ?_
        split
        · exact .of_kept (State.jointWait_kept ..) (.refl _)
        · next t ht =>
          refine .of_kept ?_ (.of_kept (State.jointWrite_kept _ _ _ _ _ _ ht) (.refl _))
          split <;> rfl

end Sys2Proof.Machine

/-! Every step keeps the memories in canonical form (O3): host memory, device memory and the local memory of every brick. -/

namespace Sys2Proof.Machine

/-- Every command keeps the memories in canonical form, by what is shown of each. -/
theorem exec_keeps (i : Instr) (s : State) : OutKeeps s.kept (exec i s) :=
  match i with
  | .frame e => execFrame_keeps e s
  | .tickBoundary => .ite (.refl _) (.ite (State.tickWork_keeps (.refl _)) (State.lastTick_keeps (State.tickWork_keeps (.refl _))))
  | .courseBoundary sensors => execCourseBoundary_keeps sensors s
  | .lockAcquired => execLockAcquired_keeps s
  | .bitClockFault => .ite (.of_kept (State.remute_kept ..) (.refl _)) (.refl _)
  | .laneResume => execLaneResume_keeps s
  | .periodFaultLoss => .ite (.of_kept (State.chooseTime_kept ..) (.refl _)) (.refl _)
  | .clockLoss lost => execClockLoss_keeps s lost
  | .coastExpired => execCoastExpired_keeps s
  | .relock => execRelock_keeps s
  | .ltcFrame label syncIntact contiguous startAgo => execLtcFrame_keeps label syncIntact contiguous startAgo s
  | .ltcValidLapse => .ite (.of_kept (State.setFlag_kept ..) (.refl _)) (.refl _)
  | .anchorFailed => execAnchorFailed_keeps s
  | .reanchor _ => State.accessAs_keeps (hk := .refl _) ..
  | .cmarkPulse => .ite (.refl _) (State.jump_keeps (hk := .refl _) ..)
  | .courseSync body => execCourseSync_keeps body s
  | .read _ => State.accessAs_keeps (hk := .refl _) ..
  | .write _ => State.accessAs_keeps (hk := .refl _) ..
  | .readStaged _ => State.accessAs_keeps (hk := .refl _) ..
  | .describe _ => State.accessAs_keeps (hk := .refl _) ..
  | .readDefault _ => State.accessAs_keeps (hk := .refl _) ..
  | .segRead _ => State.accessAs_keeps (hk := .refl _) ..
  | .segWrite _ => State.accessAs_keeps (hk := .refl _) ..
  | .dictResp tag body => execDictResp_keeps tag body s
  | .partnerTimeout session refUs => execPartnerTimeout_keeps session refUs s
  | .commitAt _ => State.accessAs_keeps (hk := .refl _) ..
  | .discard _ => State.accessAs_keeps (hk := .refl _) ..
  | .cancelPending _ => State.accessAs_keeps (hk := .refl _) ..
  | .store _ => State.accessAs_keeps (hk := .refl _) ..
  | .storeDone ok => execStoreDone_keeps ok s
  | .stage _ => State.accessAs_keeps (hk := .refl _) ..
  | .mgmtOpen _ => State.accessAs_keeps (hk := .refl _) ..
  | .auth _ => State.accessAs_keeps (hk := .refl _) ..
  | .close _ => State.accessAs_keeps (hk := .refl _) ..
  | .arpRequest _ _ _ => .ite (.of_kept (State.send_kept ..) (.refl _)) (.refl _)
  | .echoRequest _ _ _ _ => .ite (.of_kept (State.send_kept ..) (.refl _)) (.refl _)
  | .plcaBeacon => .ite (.of_kept (State.send_kept ..) (.refl _)) (.refl _)
  | .idleTimeout session refNs => execIdleTimeout_keeps session refNs s
  | .forceClose _ => State.accessAs_keeps (hk := .refl _) ..
  | .keyL0 _ => State.accessAs_keeps (hk := .refl _) ..
  | .keyL1 _ => State.accessAs_keeps (hk := .refl _) ..
  | .hostDetach _ => .ite (State.detach_keeps (hk := .refl _) ..) (.refl _)
  | .hostLinkUp _ _ => .ite (.refl _) (.of_kept (s.linkUp_kept ..) (.refl _))
  | .cmdTail _ _ _ => State.bellRow_keeps (hk := .refl _) ..
  | .cplHead _ _ _ => State.bellRow_keeps (hk := .refl _) ..
  | .resume _ _ _ => State.bellRow_keeps (hk := .refl _) ..
  | .abandon _ _ _ => State.bellRow_keeps (hk := .refl _) ..
  | .commandFetch ring descriptor => execCommandFetch_keeps ring descriptor s
  | .ringDrained _ => .ite (.of_kept (State.setRingState_kept ..) (.refl _)) (.refl _)
  | .bind ring => execBind_keeps ring s
  | .admissionTimeout ring => execAdmissionTimeout_keeps ring s
  | .feed ring => execFeed_keeps ring s
  | .render ring => execRender_keeps ring s
  | .flush ring => execFlush_keeps ring s
  | .flushDone ring => execFlushDone_keeps ring s
  | .cancel ring => execCancel_keeps ring s
  | .park ring => execPark_keeps ring s
  | .wake ring => execWake_keeps ring s
  | .wakeSlotTaken ring => execWakeSlotTaken_keeps ring s
  | .moveOutDone ring => execMoveOutDone_keeps ring s
  | .moveInDone ring => execMoveInDone_keeps ring s
  | .checkpoint ring => execCheckpoint_keeps ring s
  | .move ring descriptor => execMove_keeps ring descriptor s
  | .moverStart ring descriptor => execMoverStart_keeps ring descriptor s
  | .rearmRun ring descriptor => execRearmRun_keeps ring descriptor s
  | .transferDone ring data => execTransferDone_keeps ring data s
  | .loadPlan ring image => execLoadPlan_keeps ring image s
  | .loadTable ring image => execLoadTable_keeps ring image s
  | .loadCurve ring image => execLoadCurve_keeps ring image s
  | .loadBrickCode ring image => execLoadBrickCode_keeps ring image s
  | .loadDone ring rounds resent failed => execLoadDone_keeps ring rounds resent failed s
  | .fence ring => execFence_keeps ring s
  | .note ring => execNote_keeps ring s
  | .priResponse request code => execPriResponse_keeps request code s
  | .priTimeout _ => .ite (State.failRequests_keeps (hk := .refl _) ..) (.refl _)
  | .chunkDone ring features work => execChunkDone_keeps ring features work s
  | .unbind _ => State.accessAs_keeps (hk := .refl _) ..
  | .clear _ => State.accessAs_keeps (hk := .refl _) ..
  | .tokenStart ring features => execTokenStart_keeps ring features s
  | .gatherLookup ring stage lookups => execGatherLookup_keeps ring stage lookups s
  | .rowFetchDone batch => execRowFetchDone_keeps batch s
  | .unload _ => State.accessAs_keeps (hk := .refl _) ..
  | .planUnload _ => State.accessAs_keeps (hk := .refl _) ..
  | .packetStart tile joint => execPacketStart_keeps tile joint s
  | .jointIdleTimeout tile joint => execJointIdleTimeout_keeps tile joint s
  | .jointEccError tile joint correctable => execJointEccError_keeps tile joint correctable s
  | .spill cycle => execSpill_keeps cycle s
  | .add _ _ _ _ _ => issue_keeps alu2_sound
  | .sub _ _ _ _ _ => issue_keeps alu2_sound
  | .and _ _ _ _ _ => issue_keeps alu2_sound
  | .or _ _ _ _ _ => issue_keeps alu2_sound
  | .xor _ _ _ _ _ => issue_keeps alu2_sound
  | .shl _ _ _ _ _ => issue_keeps alu2_sound
  | .shr _ _ _ _ _ => issue_keeps alu2_sound
  | .sra _ _ _ _ _ => issue_keeps alu2_sound
  | .mul _ _ _ _ _ => issue_keeps alu2_sound
  | .mulh _ _ _ _ _ => issue_keeps alu2_sound
  | .mulhu _ _ _ _ _ => issue_keeps alu2_sound
  | .min _ _ _ _ _ => issue_keeps alu2_sound
  | .max _ _ _ _ _ => issue_keeps alu2_sound
  | .minu _ _ _ _ _ => issue_keeps alu2_sound
  | .maxu _ _ _ _ _ => issue_keeps alu2_sound
  | .slt _ _ _ _ _ => issue_keeps alu2_sound
  | .sltu _ _ _ _ _ => issue_keeps alu2_sound
  | .rotl _ _ _ _ _ => issue_keeps alu2_sound
  | .fadd _ _ _ _ _ => issue_keeps fp2_sound
  | .fsub _ _ _ _ _ => issue_keeps fp2_sound
  | .fmul _ _ _ _ _ => issue_keeps fp2_sound
  | .fma k d a b c => execFma_keeps k d a b c s
  | .fmin _ _ _ _ _ => issue_keeps fp2_sound
  | .fmax _ _ _ _ _ => issue_keeps fp2_sound
  | .flt _ _ _ _ _ => issue_keeps alu2_sound
  | .feq _ _ _ _ _ => issue_keeps alu2_sound
  | .fdiv _ _ _ _ _ => issue_keeps fp2_sound
  | .fsqrt _ _ _ _ _ => issue_keeps (legal_sound fun s _ h => ⟨s.nanProduced_kept _, Brick.setS_wf h⟩)
  | .fcvtsi _ _ _ _ _ => issue_keeps alu1_sound
  | .fcvtis _ _ _ _ _ => issue_keeps alu1_sound
  | .ffloor _ _ _ _ _ => issue_keeps alu1_sound
  | .fcurve _ _ _ _ _ => issue_keeps (legal_sound fun s _ h => ⟨s.nanProduced_kept _, Brick.setS_wf h⟩)
  | .addi _ _ _ _ => issue_keeps aluImm_sound
  | .andi _ _ _ _ => issue_keeps aluImm_sound
  | .ori _ _ _ _ => issue_keeps aluImm_sound
  | .xori _ _ _ _ => issue_keeps aluImm_sound
  | .slti _ _ _ _ => issue_keeps aluImm_sound
  | .lui _ _ _ _ => issue_keeps aluImm_sound
  | .shli _ _ _ _ => issue_keeps aluImm_sound
  | .shri _ _ _ _ => issue_keeps aluImm_sound
  | .srai _ _ _ _ => issue_keeps aluImm_sound
  | .beq _ _ _ _ => issue_keeps branch_sound
  | .bne _ _ _ _ => issue_keeps branch_sound
  | .blt _ _ _ _ => issue_keeps branch_sound
  | .bge _ _ _ _ => issue_keeps branch_sound
  | .bltu _ _ _ _ => issue_keeps branch_sound
  | .bgeu _ _ _ _ => issue_keeps branch_sound
  | .jmp k target => execJmp_keeps k target s
  | .call k target => execCall_keeps k target s
  | .jr _ _ _ _ _ => issue_keeps (legal_sound fun _ _ h => ⟨rfl, h⟩)
  | .loop k d a imm => execLoop_keeps k d a imm s
  | .halt _ _ => issue_keeps (legal_sound fun _ _ _ => trivial)
  | .csrr k d a imm => execCsrr_keeps k d a imm s
  | .csrw _ _ _ _ => issue_keeps (legal_sound fun _ _ h => ⟨rfl, h⟩)
  | .lw k d a imm => execLw_keeps k d a imm s
  | .sw k d a imm => execSw_keeps k d a imm s
  | .vld k d a imm => execVld_keeps k d a imm s
  | .vst _ _ _ _ => issue_keeps (legal_sound fun _ _ => store_sound _ _ _ _ _)
  | .vfadd _ _ _ _ _ => issue_keeps vec2_sound
  | .vfsub _ _ _ _ _ => issue_keeps vec2_sound
  | .vfmul _ _ _ _ _ => issue_keeps vec2_sound
  | .vfma _ _ _ _ _ => issue_keeps vecFma_sound
  | .vfmas _ _ _ _ _ => issue_keeps vecFma_sound
  | .vfmuls _ _ _ _ _ => issue_keeps vecS_sound
  | .vfmin _ _ _ _ _ => issue_keeps vec2_sound
  | .vfmax _ _ _ _ _ => issue_keeps vec2_sound
  | .vfdiv _ _ _ _ _ => issue_keeps vec2_sound
  | .vfsqrt _ _ _ _ _ => issue_keeps vec1_sound
  | .vcurve _ _ _ _ _ => issue_keeps (legal_sound fun s _ h => ⟨s.nanProduced_kept _, h⟩)
  | .vffloor _ _ _ _ _ => issue_keeps vec1_sound
  | .vflt _ _ _ _ _ => issue_keeps vecMask_sound
  | .vfeq _ _ _ _ _ => issue_keeps vecMask_sound
  | .vsel _ _ _ _ _ => issue_keeps (legal_sound fun _ _ h => ⟨rfl, h⟩)
  | .vadd _ _ _ _ _ => issue_keeps vec2_sound
  | .vsub _ _ _ _ _ => issue_keeps vec2_sound
  | .vand _ _ _ _ _ => issue_keeps vec2_sound
  | .vor _ _ _ _ _ => issue_keeps vec2_sound
  | .vxor _ _ _ _ _ => issue_keeps vec2_sound
  | .vshl _ _ _ _ _ => issue_keeps vecS_sound
  | .vshr _ _ _ _ _ => issue_keeps vecS_sound
  | .vsra _ _ _ _ _ => issue_keeps vecS_sound
  | .vmul _ _ _ _ _ => issue_keeps vec2_sound
  | .vbc _ _ _ _ _ => issue_keeps (legal_sound fun _ _ h => ⟨rfl, h⟩)
  | .vget _ _ _ _ _ => issue_keeps (legal_sound fun _ _ h => ⟨rfl, Brick.setS_wf h⟩)
  | .vput _ _ _ _ _ => issue_keeps (legal_sound fun _ _ h => ⟨rfl, h⟩)
  | .vperm _ _ _ _ _ => issue_keeps (legal_sound fun _ _ h => ⟨rfl, h⟩)
  | .vsum _ _ _ _ _ => issue_keeps (legal_sound fun s _ h => ⟨s.nanProduced_kept _, Brick.setS_wf h⟩)
  | .vhmax _ _ _ _ _ => issue_keeps (legal_sound fun _ _ h => ⟨rfl, Brick.setS_wf h⟩)
  | .vmov _ _ _ _ _ => issue_keeps (legal_sound fun _ _ h => ⟨rfl, h⟩)
  | .vcvtw _ _ _ _ _ _ => issue_keeps (legal_sound fun _ _ h => ⟨rfl, h⟩)
  | .vcvtn _ _ _ _ _ _ => issue_keeps (legal_sound (narrowInto_sound _ _ _ _ _ _))
  | .vcvtns k d a b c fn => execVcvtns_keeps k d a b c fn s
  | .mv k d a b c fn => execMv_keeps k d a b c fn s
  | .azero _ _ _ _ _ => issue_keeps (legal_sound fun _ _ h => ⟨rfl, h⟩)
  | .afin _ _ _ _ _ => issue_keeps (legal_sound fun s _ h => ⟨s.nanProduced_kept _, h⟩)
  | .aadd k d a b c => execAadd_keeps k d a b c s
  | .asumv k d a b c => execAsumv_keeps k d a b c s
  | .acmp k d a b c => execAcmp_keeps k d a b c s
  | .azeroi _ _ _ _ _ => issue_keeps (legal_sound fun _ _ h => ⟨rfl, h⟩)
  | .jrdv _ _ _ _ _ => issue_keeps (onPort_sound _ _ _ fun p => readPort_sound _ p fun _ _ => rfl)
  | .jrds _ _ _ _ _ => issue_keeps (onPort_sound _ _ _ fun p => readPort_sound _ p fun _ _ => Brick.setPair_mem ..)
  | .jwrv _ _ _ _ _ => issue_keeps (onPort_sound _ _ _ fun p => writePort_sound _ _ p _)
  | .jwrs _ _ _ _ _ => issue_keeps (onPort_sound _ _ _ fun p => writePort_sound _ _ p _)
  | .jend k d a b c => execJend_keeps k d a b c s
  | .jtag _ _ _ _ _ => issue_keeps (onPort_sound _ _ _ fun _ _ _ h => ⟨rfl, h⟩)
  | .jnext _ _ _ _ _ => issue_keeps (onPort_sound _ _ _ fun p => stepPort_sound _ _ p)
  | .jdisc _ _ _ _ _ => issue_keeps (onPort_sound _ _ _ fun p => actPort_sound p _ fun _ => rfl)
  | .jmark _ _ _ _ _ => issue_keeps (onPort_sound _ _ _ fun p => actPort_sound p _ fun _ => rfl)
  | .jrew k d a b c => execJrew_keeps k d a b c s
  | .jrel _ _ _ _ _ => issue_keeps (onPort_sound _ _ _ fun p => actPort_sound p _ fun _ => rfl)
  | .draw k d a b c => execDraw_keeps k d a b c s
  | .collectorEmit group => execCollectorEmit_keeps group s
  | .slipReanchor _ => State.accessAs_keeps (hk := .refl _) ..
  | .aes3Subframe lane sub => execAes3Subframe_keeps lane sub s
  | .aes3Lock _ => .ite (.of_kept (State.wr_kept ..) (.refl _)) (.refl _)
  | .foreignRelock _ => .ite (.of_kept (State.wr_kept ..) (.refl _)) (.refl _)
  | .captureWrite group translated => execCaptureWrite_keeps group translated s
  | .courseGoverned => .ite (.refl _) (.of_kept (State.bump_kept ..) (.refl _))
  | .groutAged ring => execGroutAged_keeps ring s
  | .isnsSample rails => execIsnsSample_keeps rails s
  | .retrainNow _ => State.accessAs_keeps (hk := .refl _) ..
  | .retrainDue _ _ => .ite (.of_kept (State.makeDue_kept ..) (.refl _)) (.refl _)
  | .retrainWindowEnd die ok => execRetrainWindowEnd_keeps die ok s
  | .memoryError tier addr retries correctable => execMemoryError_keeps tier addr retries correctable s
  | .patrolScrub tier addr corrected => execPatrolScrub_keeps tier addr corrected s
  | .cxlLinkDown expander => execCxlLinkDown_keeps expander s
  | .cxlLinkUp _ => .ite (.of_kept (State.wr_kept ..) (.refl _)) (.refl _)
  | .tieFlit flit fecCorrected => execTieFlit_keeps flit fecCorrected s
  | .tieReplayTimeout => .ite (.of_kept (State.replay_kept ..) (.refl _)) (.refl _)
  | .tieTraining _ => .ite (.refl _) (.of_kept (s.trainTie_kept ..) (.refl _))
  | .tieRetrain ok => execTieRetrain_keeps ok s
  | .heartbeat _ => .ite (.refl _) (.of_kept (State.heardRole_kept ..) (.refl _))
  | .pairHbEdge => .of_kept (State.mapPair_kept ..) (.refl _)
  | .watchdogFail => execWatchdogFail_keeps s
  | .takeover => .ite (State.adoptShadows_keeps (hk := .refl _) ..) (.refl _)
  | .partnerLoss => .ite (State.adoptShadows_keeps (hk := .refl _) ..) (.refl _)
  | .handover _ => State.accessAs_keeps (hk := .refl _) ..
  | .digest body => execDigest_keeps body s
  | .resyncStateTake ring => execResyncStateTake_keeps ring s
  | .statePush body => execStatePush_keeps body s
  | .checkpointMessage body => execCheckpointMessage_keeps body s
  | .leave _ => State.accessAs_keeps (hk := .refl _) ..
  | .leaveMessage body => execLeaveMessage_keeps body s
  | .leavePush _ => .ite (.refl _) (.of_kept (State.mapPair_kept ..) (.of_kept (State.pushImage_kept ..) (.refl _)))
  | .left => execLeft_keeps s
  | .electricalIdle => .ite (State.detach_keeps (hk := .refl _) ..) (.refl _)
  | .join tag body => execJoin_keeps tag body s
  | .pairingTimeout _ => .ite (.of_kept (State.lead_kept ..) (.refl _)) (.refl _)
  | .syncStart _ => State.accessAs_keeps (hk := .refl _) ..
  | .fwWrite _ => State.accessAs_keeps (hk := .refl _) ..
  | .fwUpdateDone flashOk => execFwUpdateDone_keeps flashOk s
  | .bootSlot _ => State.accessAs_keeps (hk := .refl _) ..
  | .svnAdvance _ => State.accessAs_keeps (hk := .refl _) ..
  | .customerKeyFuse _ => State.accessAs_keeps (hk := .refl _) ..
  | .attestNonce _ => State.accessAs_keeps (hk := .refl _) ..
  | .bottomTreeReady => .ite (.of_kept (State.wr_kept ..) (.refl _)) (.refl _)
  | .logClear _ _ => State.accessAs_keeps (hk := .refl _) ..
  | .reset _ _ _ _ => .of_kept (State.sampleStraps_kept ..) (State.restart_keeps (hk := .refl _) ..)
  | .fuseRead _ _ _ => .ite (.refl _) (.of_kept (State.endPhase_kept ..) (.of_kept (State.readFuses_kept ..) (.refl _)))
  | .firmwareVerification _ _ _ => .ite (.refl _) (.of_kept (State.verifySlots_kept ..) (.refl _))
  | .training _ _ => .ite (.of_kept (State.trained_kept ..) (.refl _)) (.refl _)
  | .curing _ _ => .ite (.of_kept (State.cured_kept ..) (.refl _)) (.refl _)
  | .brickCodeBroadcast _ _ _ _ => .ite (State.broadcast_keeps (hk := .refl _) ..) (.refl _)
  | .ready _ => .ite (.of_kept (State.progDone_kept ..) (.refl _)) (.refl _)
  | .phaseLimit r slotA slotB t => execPhaseLimit_keeps r slotA slotB t s
  | .mortarRetrain r => execMortarRetrain_keeps r s
  | .supplyFault => State.restart_keeps (hk := .refl _) ..
  | .thermalTrip _ => .ite (.refl _) (State.restart_keeps (hk := .refl _) ..)
  | .coastedFrame _ _ => .ite (.refl _) (State.coastFrame_keeps (hk := .refl _) ..)
  | .apertureAccess offset width write => execApertureAccess_keeps offset width write s
  | .priEnable => execPriEnable_keeps s
  | .bootSrc high slotA slotB => execBootSrc_keeps high slotA slotB s
  | .boundaryScan instr resetLow => execBoundaryScan_keeps instr resetLow s

/-- Settles O3: a step runs a command, and every command keeps the memories in canonical form. -/
theorem stepKeepsMemory : Obligations.StepKeepsMemory := by
  intro s t hs ht
  rw [State.memOk_iff] at hs ⊢
  unfold step at ht
  split at ht
  · exact Host.Outcome.next.inj ht ▸ hs
  · next c rest _ =>
    have h := exec_keeps c { s with pending := rest }
    rw [ht, OutKeeps.next] at h
    exact h.2 hs

end Sys2Proof.Machine
